-- ==== Sys2Proof/Word.lean ====
section
/-! DEFINITION. The words of the model: a byte of a frame, a time stamp of the millisecond time base, and the two
divisions of 00_scope.md (Arithmetic): `/` rounds down, `ceilDiv` rounds up. -/

namespace Sys2Proof

/-- One byte of a frame (R191). -/
abbrev Byte := BitVec 8

/-- A value of the millisecond time base, which wraps after 2^32 ms (00_scope.md, Time). -/
abbrev Time := BitVec 32

/-- Division that rounds up, exact on natural numbers (00_scope.md, Arithmetic). -/
def ceilDiv (n d : Nat) : Nat := (n + (d - 1)) / d

end Sys2Proof
end

