-- ==== Sys2Proof/Config.lean ====
section
/-! DEFINITION. The fixed figures of the part (00_scope.md, Capacities and fixed figures) and the free values: what the
spec leaves open has no body here, so no proof can see it. -/

namespace Sys2Proof.Config

/-- The order in which SHIP_ESD, SHIP_STOP and a terms withdrawal carried by ONE panel reply act, when two or more of
them are present. R139 and R162 give the outcome of each order and no rule for the choice: a free value, applied to the
counter State.freeCtr (notes/assumptions/10.md). Read modulo 6, one value for each order. -/
opaque panelOrder : Nat → Nat

/-- The value carried by four bytes for a count or total that does not fit them; the spec states none: a free value
(notes/assumptions/11.md). -/
opaque wideCount : Nat → BitVec 32

/-- The value carried by four bytes for a signed figure outside the range of two's complement; the spec states none: a free
value (notes/assumptions/11.md). -/
opaque wideSigned : Int → BitVec 32

/-- Reply timeout of a PANEL or READ poll, ms from the start of its slot (R134). -/
def readTimeoutMs : Nat := 30
/-- Reply timeout of a DECLARE poll, ms from the start of its first slot (R134). -/
def declareTimeoutMs : Nat := 70
/-- Consecutive panel misses that take the link down (R138, R140). -/
def panelMissLimit : Nat := 5
/-- The silence interval (R141). -/
def silenceMs : Nat := 3000
/-- Miss count and interval that make a LIVE tank STALE (R146, R147). -/
def staleMisses : Nat := 3
def staleMs : Nat := 3000
/-- Miss count and interval that make a STALE tank LOST; the miss count's ceiling (R146, R147). -/
def lostMisses : Nat := 15
def lostMs : Nat := 15000
/-- The level jump limit (R144). -/
def levelJumpMm : Nat := 200
/-- The highest level of the gauge range (R144). -/
def maxLevelMm : Nat := 30000
/-- The link allowance in the close lead (R68). -/
def linkAllowanceMs : Nat := 500
/-- The ceiling of the time to final (R67). -/
def timeToFinalCeiling : Nat := 3600000
/-- The projection ceiling above the latest level (R60). -/
def projectionCeilingMm : Nat := 200
/-- The surge headroom floor (R79). -/
def headroomFloorKPa : Nat := 50
/-- The saturation of the gate rate (R93). -/
def maxRateLpm : Nat := 30000
/-- Cap persistence: consecutive exceeding gates (R99). -/
def capGates : Nat := 3
/-- Overpressure persistence: consecutive samples (R97). -/
def overpressureSamples : Nat := 2
/-- The meter gate and the quiet interval (R93, R104). -/
def gateMs : Nat := 2000
def quietMs : Nat := 30000
/-- The ESD loop debounce (R168). -/
def debounceMs : Nat := 50
/-- Clamps of a captured stroke rate (R111). -/
def minRate : Nat := 5
def maxRate : Nat := 500
/-- Terms matches (R159, R160). -/
def termsMatches : Nat := 3
/-- The limits of a good 4 to 20 mA input, in microamps (00_scope.md, Field connections). -/
def minCurrent : Nat := 3600
def maxCurrent : Nat := 21000

end Sys2Proof.Config
end

