-- ==== Sys2Proof/Syntax.lean ====
section
/-! DEFINITION. The commands the part takes, one constructor for each row of spec/opcode_table.json, and the types of
their operands. Every command but POWER_ON carries `t`, the time-base value at which its event is taken
(notes/assumptions/1.md). Operands of requests and ship frames are raw numbers as the frame carries them: the owning
rule judges their ranges. -/

namespace Sys2Proof

/-- The four delivery lines, A to D, numbered 1 to 4 in records (00_scope.md, Identifiers). -/
inductive LineId where
  | a | b | c | d
  deriving DecidableEq, Repr

/-- The two fuel grades. -/
inductive GradeId where
  | g1 | g2
  deriving DecidableEq, Repr

/-- The two cargo pumps. -/
inductive PumpId where
  | p1 | p2
  deriving DecidableEq, Repr

/-- The eight receiving tanks; the tank number equals the ship link address. -/
inductive TankId where
  | k1 | k2 | k3 | k4 | k5 | k6 | k7 | k8
  deriving DecidableEq, Repr

/-- One value for each line. -/
structure Quad (α : Type) where
  a : α
  b : α
  c : α
  d : α
  deriving DecidableEq, Repr

/-- The same value for each line. -/
def Quad.all {α : Type} (x : α) : Quad α := { a := x, b := x, c := x, d := x }

/-- The thirty fields of a LINE_PROFILE request in the order of their indices (table of section 1.1), as the request
carries them; a yes or no field is 1 or 0 (R191). -/
structure LineProfile where
  grade : Nat
  pump : Nat
  boreMm : Nat
  lengthM : Nat
  waveSpeed : Nat
  ratingKPa : Nat
  surgeMarginKPa : Nat
  meterK : Nat
  startPos : Nat
  toppingPos : Nat
  bulkPos : Nat
  throttleStep : Nat
  closeStages : Nat
  closeMinMs : Nat
  closeMaxMs : Nat
  runDownMs : Nat
  runDownKPa : Nat
  settleMs : Nat
  guardMs : Nat
  proveMm : Nat
  proveWindowMs : Nat
  changeoverWindowMs : Nat
  stopConfirmMs : Nat
  blindWeight : Nat
  blindMinMs : Nat
  balanceTolL : Nat
  nominalRate : Nat
  feedbackPresent : Nat
  simulatedArrival : Nat
  arrivalBand : Nat
  deriving DecidableEq, Repr

/-- The four barge terms of a GRADE_PROFILE request as carried (R153). -/
structure GradeOperands where
  density : Nat
  maxRate : Nat
  maxPressure : Nat
  changeoverOk : Nat
  deriving DecidableEq, Repr

/-- The three terms of a MANUAL_TERMS request as carried (R164). -/
structure ManualOperands where
  maxRate : Nat
  maxPressure : Nat
  changeoverOk : Nat
  deriving DecidableEq, Repr

/-- The eight settings of the HPU profile in index order (R130). -/
structure HpuProfile where
  releaseKPa : Nat
  needKPa : Nat
  mustKPa : Nat
  setupMs : Nat
  holdMs : Nat
  turnaroundMs : Nat
  blankingMs : Nat
  extensionMaxMs : Nat
  deriving DecidableEq, Repr

/-- The operands of FILL_ORDER after the line: the count and four tank positions, those after the count not read
(R39, R192). -/
structure OrderOperands where
  count : Nat
  pos1 : Nat
  pos2 : Nat
  pos3 : Nat
  pos4 : Nat
  deriving DecidableEq, Repr

/-- A terms word of the ship link as its seven bytes give it (R195). -/
structure WireWord where
  grade : Nat
  marking : Nat
  flags : Byte
  maxRate : Nat
  maxPressure : Nat
  deriving DecidableEq, Repr

/-- The payload of a DECLARATION (section 11.3). The two optional fields are read only when their presence bit is set. -/
structure WireDeclaration where
  tankNumber : Nat
  grade : Nat
  presence : Byte
  litresPerMm : Nat
  topoffMm : Nat
  finalMm : Nat
  highMm : Nat
  changeoverMm : Nat
  maxFillLpm : Nat
  deriving DecidableEq, Repr

/-- The levels of the inputs that are judged at power-on: the ESD loop (R175) and the limit switches. -/
structure PowerInputs where
  loopOpen : Bool
  closedSwitch : Quad Bool
  openSwitch : Quad Bool
  deriving DecidableEq, Repr

/-- A console request: its kind and operands (section 10.4). The line, grade or tank number is carried raw. -/
inductive Request where
  | lineProfile (line : Nat) (p : LineProfile)
  | gradeProfile (grade : Nat) (g : GradeOperands)
  | hpuProfile (h : HpuProfile)
  | fillOrder (line : Nat) (o : OrderOperands)
  | start (line : Nat)
  | hold (line : Nat)
  | resume (line : Nat)
  | stop (line : Nat)
  | clearTrip (line : Nat)
  | esdStop
  | esdReset
  | renegotiate
  | manualTerms (grade : Nat) (m : ManualOperands)
  | restart
  | readLine (line : Nat)
  | readTank (tank : Nat)
  | readLink
  | readHpu
  | readEsd
  | readTrip (line : Nat)
  deriving DecidableEq, Repr

/-- The commands of the part: one constructor for each row of spec/opcode_table.json, in the table's order. A request's
row is the taking of that request with its frame's tag (R180). -/
inductive Instr where
  | powerOn (inputs : PowerInputs)
  | consoleFrameReceived (t : Time) (kind tag : Byte) (payload : List Byte)
  | consoleGapTimeout (t : Time)
  | consoleFramingError (t : Time)
  | transmitFrameEnd (t : Time)
  | lineProfile (t : Time) (tag : Byte) (line : Nat) (p : LineProfile)
  | gradeProfile (t : Time) (tag : Byte) (grade : Nat) (g : GradeOperands)
  | hpuProfile (t : Time) (tag : Byte) (h : HpuProfile)
  | fillOrder (t : Time) (tag : Byte) (line : Nat) (o : OrderOperands)
  | start (t : Time) (tag : Byte) (line : Nat)
  | hold (t : Time) (tag : Byte) (line : Nat)
  | resume (t : Time) (tag : Byte) (line : Nat)
  | stop (t : Time) (tag : Byte) (line : Nat)
  | clearTrip (t : Time) (tag : Byte) (line : Nat)
  | esdStop (t : Time) (tag : Byte)
  | esdReset (t : Time) (tag : Byte)
  | renegotiate (t : Time) (tag : Byte)
  | manualTerms (t : Time) (tag : Byte) (grade : Nat) (m : ManualOperands)
  | restart (t : Time) (tag : Byte)
  | restartEffect (t : Time)
  | readLine (t : Time) (tag : Byte) (line : Nat)
  | readTrip (t : Time) (tag : Byte) (line : Nat)
  | readTank (t : Time) (tag : Byte) (tank : Nat)
  | readLink (t : Time) (tag : Byte)
  | readHpu (t : Time) (tag : Byte)
  | readEsd (t : Time) (tag : Byte)
  | marker (t : Time)
  | panelSlotStart (t : Time)
  | tankSlotStart (t : Time) (slot : Nat)
  | panelReply (t : Time) (flags : Byte) (w1 w2 : WireWord)
  | panelReplyTimeout (t : Time)
  | reading (t : Time) (tank : TankId) (toggle : Nat) (flags : Byte) (level : Nat)
  | declaration (t : Time) (tank : TankId) (dec : WireDeclaration)
  | declarationOnRead (t : Time) (tank : TankId) (dec : WireDeclaration)
  | wait (t : Time) (tank : TankId)
  | refuse (t : Time) (tank : TankId)
  | shipBadCheck (t : Time)
  | shipReplyUnlisted (t : Time)
  | shipFrameError (t : Time)
  | tankReplyTimeout (t : Time)
  | silenceExpiry (t : Time)
  | provingTimeout (t : Time) (line : LineId)
  | changeoverTimeout (t : Time) (line : LineId)
  | settleDeadline (t : Time) (line : LineId)
  | runDownExpiry (t : Time) (line : LineId)
  | dwellEnd (t : Time) (line : LineId)
  | gateEnd (t : Time)
  | meterPulse (t : Time) (line : LineId)
  | pressureSample (t : Time) (line : LineId) (microamps : Nat)
  | positionSample (t : Time) (line : LineId) (microamps : Nat)
  | turnaroundEnd (t : Time) (line : LineId)
  | setupEnd (t : Time) (line : LineId)
  | blankingEnd (t : Time) (line : LineId)
  | simulatedArrival (t : Time) (line : LineId)
  | travelTimeout (t : Time) (line : LineId)
  | extensionExhausted (t : Time) (line : LineId)
  | holdEnd (t : Time) (line : LineId)
  | closedLimitSwitch (t : Time) (line : LineId) (active : Bool)
  | openLimitSwitch (t : Time) (line : LineId) (active : Bool)
  | accumulatorSample (t : Time) (microamps : Nat)
  | esdLoopOpen (t : Time)
  | esdLoopClosed (t : Time)
  | loopDebounceExpiry (t : Time)
  | consoleLengthMismatch (t : Time)
  | consoleBadCheck (t : Time)
  | shipFrameOtherAddress (t : Time)
  deriving DecidableEq, Repr

end Sys2Proof
end

