-- ==== Sys2Proof/Decode.lean ====
section
/-! DEFINITION. The byte layouts of chapter 11 that the part receives: console request frames and ship link frames, their
field decoding, and the encoders of the same frames. The opcode table gives no row any bits, so decodeTableWord reads no
command from a word. -/

namespace Sys2Proof

/-- The command that a word spells by the opcode table's bits. Every row of the table has an empty list of bits, so no word
spells a command. -/
def decodeTableWord (_nbits _w : Nat) : Option Instr := none

/-! ### Numbers of lines, tanks, grades and pumps (00_scope.md, Identifiers) -/

/-- The number of a line in records: A to D are 1 to 4. -/
def lineNum : LineId → Nat
  | .a => 1 | .b => 2 | .c => 3 | .d => 4

/-- The line a number names; none outside 1 to 4. -/
def lineOf : Nat → Option LineId
  | 1 => some .a | 2 => some .b | 3 => some .c | 4 => some .d | _ => none

/-- The number of a tank, equal to its ship link address. -/
def tankNum : TankId → Nat
  | .k1 => 1 | .k2 => 2 | .k3 => 3 | .k4 => 4 | .k5 => 5 | .k6 => 6 | .k7 => 7 | .k8 => 8

/-- The tank a number names; none outside 1 to 8. -/
def tankOf : Nat → Option TankId
  | 1 => some .k1 | 2 => some .k2 | 3 => some .k3 | 4 => some .k4 | 5 => some .k5 | 6 => some .k6 | 7 => some .k7
  | 8 => some .k8 | _ => none

/-- The number of a grade. -/
def gradeNum : GradeId → Nat
  | .g1 => 1 | .g2 => 2

/-- The grade a number names; none outside 1 to 2. -/
def gradeOf : Nat → Option GradeId
  | 1 => some .g1 | 2 => some .g2 | _ => none

/-- The pump a number names; none outside 1 to 2. -/
def pumpOf : Nat → Option PumpId
  | 1 => some .p1 | 2 => some .p2 | _ => none

/-! ### CRC-16 and numeric fields (R191) -/

/-- Feed `n` message bits, already aligned at the top of the register, through the generator x^16 + x^12 + x^5 + 1. -/
def crcShift : Nat → BitVec 16 → BitVec 16
  | 0, r => r
  | n + 1, r => crcShift n (if r.msb then (r <<< 1) ^^^ 0x1021#16 else r <<< 1)

/-- One byte, most significant bit first. -/
def crcByte (r : BitVec 16) (b : Byte) : BitVec 16 :=
  crcShift 8 (r ^^^ (b.zeroExtend 16 <<< 8))

/-- The CRC-16 of both links: the register starts at all ones and is sent without final inversion (R191). -/
def crc16 (bs : List Byte) : BitVec 16 := bs.foldl crcByte 0xFFFF#16

/-- The two CRC bytes, high byte first. -/
def crcBytes (bs : List Byte) : List Byte :=
  [(crc16 bs).extractLsb' 8 8, (crc16 bs).extractLsb' 0 8]

/-- The low `w` bytes of a number, most significant byte first (R191). -/
def beBytes : Nat → Nat → List Byte
  | 0, _ => []
  | w + 1, v => BitVec.ofNat 8 (v / 256 ^ w) :: beBytes w v

/-- The number that bytes spell, most significant byte first (R191). -/
def beVal (bs : List Byte) : Nat := bs.foldl (fun n b => n * 256 + b.toNat) 0

/-- Split bytes into fields of the given widths and read each; none unless the widths use the bytes exactly. -/
def splitFields : List Nat → List Byte → Option (List Nat)
  | [], [] => some []
  | [], _ :: _ => none
  | w :: ws, bs =>
    if bs.length < w then none
    else (splitFields ws (bs.drop w)).map (fun fs => beVal (bs.take w) :: fs)

/-- Write fields of the given widths one after another. -/
def joinFields : List Nat → List Nat → List Byte
  | w :: ws, v :: vs => beBytes w v ++ joinFields ws vs
  | _, _ => []

/-! ### Console requests (section 11.2) -/

/-- The widths of the thirty profile fields in index order (R192). -/
def profileWidths : List Nat :=
  [1, 1, 2, 2, 2, 2, 2, 2, 2, 2] ++ [2, 1, 1, 4, 4, 2, 2, 2, 2, 1] ++ [4, 4, 4, 1, 4, 2, 2, 1, 1, 1]

/-- The thirty profile fields in index order. -/
def profileFields (p : LineProfile) : List Nat :=
  [p.grade, p.pump, p.boreMm, p.lengthM, p.waveSpeed, p.ratingKPa, p.surgeMarginKPa, p.meterK, p.startPos,
   p.toppingPos] ++
  [p.bulkPos, p.throttleStep, p.closeStages, p.closeMinMs, p.closeMaxMs, p.runDownMs, p.runDownKPa, p.settleMs,
   p.guardMs, p.proveMm] ++
  [p.proveWindowMs, p.changeoverWindowMs, p.stopConfirmMs, p.blindWeight, p.blindMinMs, p.balanceTolL,
   p.nominalRate, p.feedbackPresent, p.simulatedArrival, p.arrivalBand]

/-- The profile with the given thirty fields. -/
def profileOf : List Nat → Option LineProfile
  | [f1, f2, f3, f4, f5, f6, f7, f8, f9, f10, f11, f12, f13, f14, f15, f16, f17, f18, f19, f20, f21, f22, f23, f24,
     f25, f26, f27, f28, f29, f30] =>
    some { grade := f1, pump := f2, boreMm := f3, lengthM := f4, waveSpeed := f5, ratingKPa := f6,
           surgeMarginKPa := f7, meterK := f8, startPos := f9, toppingPos := f10, bulkPos := f11, throttleStep := f12,
           closeStages := f13, closeMinMs := f14, closeMaxMs := f15, runDownMs := f16, runDownKPa := f17,
           settleMs := f18, guardMs := f19, proveMm := f20, proveWindowMs := f21, changeoverWindowMs := f22,
           stopConfirmMs := f23, blindWeight := f24, blindMinMs := f25, balanceTolL := f26, nominalRate := f27,
           feedbackPresent := f28, simulatedArrival := f29, arrivalBand := f30 }
  | _ => none

/-- The operand widths of a request kind code; none when the code is no request kind (R192). -/
def requestWidths (kind : Byte) : Option (List Nat) :=
  match kind.toNat with
  | 0x01 => some (1 :: profileWidths)
  | 0x02 => some [1, 2, 2, 2, 1]
  | 0x03 => some [2, 2, 2, 2, 2, 2, 2, 4]
  | 0x04 => some [1, 1, 1, 1, 1, 1]
  | 0x10 => some [1]
  | 0x11 => some [1]
  | 0x12 => some [1]
  | 0x13 => some [1]
  | 0x14 => some [1]
  | 0x20 => some []
  | 0x21 => some []
  | 0x28 => some []
  | 0x29 => some [1, 2, 2, 1]
  | 0x30 => some []
  | 0x40 => some [1]
  | 0x41 => some [1]
  | 0x42 => some []
  | 0x43 => some []
  | 0x44 => some []
  | 0x45 => some [1]
  | _ => none

/-- The request of a kind code with the given operands, in the order of their field indices (R192). -/
def buildRequest (kind : Byte) (fs : List Nat) : Option Request :=
  match kind.toNat, fs with
  | 0x01, line :: rest => (profileOf rest).map (Request.lineProfile line)
  | 0x02, [g, d, r, p, c] =>
    some (.gradeProfile g { density := d, maxRate := r, maxPressure := p, changeoverOk := c })
  | 0x03, [f1, f2, f3, f4, f5, f6, f7, f8] =>
    some (.hpuProfile { releaseKPa := f1, needKPa := f2, mustKPa := f3, setupMs := f4, holdMs := f5, turnaroundMs := f6,
                        blankingMs := f7, extensionMaxMs := f8 })
  | 0x04, [l, c, p1, p2, p3, p4] => some (.fillOrder l { count := c, pos1 := p1, pos2 := p2, pos3 := p3, pos4 := p4 })
  | 0x10, [l] => some (.start l)
  | 0x11, [l] => some (.hold l)
  | 0x12, [l] => some (.resume l)
  | 0x13, [l] => some (.stop l)
  | 0x14, [l] => some (.clearTrip l)
  | 0x20, [] => some .esdStop
  | 0x21, [] => some .esdReset
  | 0x28, [] => some .renegotiate
  | 0x29, [g, r, p, c] => some (.manualTerms g { maxRate := r, maxPressure := p, changeoverOk := c })
  | 0x30, [] => some .restart
  | 0x40, [l] => some (.readLine l)
  | 0x41, [k] => some (.readTank k)
  | 0x42, [] => some .readLink
  | 0x43, [] => some .readHpu
  | 0x44, [] => some .readEsd
  | 0x45, [l] => some (.readTrip l)
  | _, _ => none

/-- The request that a frame of the given kind and payload carries. `none` is a kind that is no request kind; `some none` a
payload whose length is not the kind's (R179). -/
def decodeRequest (kind : Byte) (payload : List Byte) : Option (Option Request) :=
  match requestWidths kind with
  | none => none
  | some ws => some ((splitFields ws payload).bind (buildRequest kind))

/-! ### Ship link frames (section 11.3) -/

/-- What a good frame from the polled address carries (R194). -/
inductive ShipReply where
  | panel (flags : Byte) (w1 w2 : WireWord)
  | reading (toggle : Nat) (flags : Byte) (level : Nat)
  | declaration (d : WireDeclaration)
  | wait
  | refuse
  | unlisted
  deriving DecidableEq, Repr

/-- A terms word from its seven bytes (R195). -/
def wireWordOf (g m f r p : Nat) : WireWord :=
  { grade := g, marking := m, flags := BitVec.ofNat 8 f, maxRate := r, maxPressure := p }

/-- The reply that a frame kind and payload carry (R194). -/
def decodeShip (kind : Byte) (payload : List Byte) : ShipReply :=
  match kind.toNat with
  | 0x12 =>
    match splitFields [1, 1, 1, 1, 2, 2, 1, 1, 1, 2, 2] payload with
    | some [f, g1, m1, c1, r1, p1, g2, m2, c2, r2, p2] =>
      .panel (BitVec.ofNat 8 f) (wireWordOf g1 m1 c1 r1 p1) (wireWordOf g2 m2 c2 r2 p2)
    | _ => .unlisted
  | 0x13 =>
    match splitFields [1, 1, 2] payload with
    | some [tg, f, lv] => if tg ≤ 1 then .reading tg (BitVec.ofNat 8 f) lv else .unlisted
    | _ => .unlisted
  | 0x14 =>
    match splitFields [1, 1, 1, 2, 2, 2, 2, 2, 2] payload with
    | some [n, g, pr, lpm, top, fin, hi, co, mf] =>
      .declaration { tankNumber := n, grade := g, presence := BitVec.ofNat 8 pr, litresPerMm := lpm, topoffMm := top,
                     finalMm := fin, highMm := hi, changeoverMm := co, maxFillLpm := mf }
    | _ => .unlisted
  | 0x15 => if payload = [] then .wait else .unlisted
  | 0x16 => if payload = [] then .refuse else .unlisted
  | _ => .unlisted

/-- The ship receiver (R194): waiting for a start byte, for the address, for the kind, for the length byte, or collecting the
payload and the two CRC bytes. -/
inductive ShipRx where
  | hunt
  | address
  | kind (address : Byte)
  | length (address kind : Byte)
  | body (address kind : Byte) (len : Nat) (bytes : List Byte)
  deriving DecidableEq, Repr

/-- What a byte does on the ship link: nothing yet, the end of a frame as incomplete, or a complete frame with a bad or a good
check. -/
inductive ShipHeard where
  | nothing
  | ended
  | badCheck
  | frame (address kind : Byte) (payload : List Byte)
  deriving DecidableEq, Repr

/-- Judge the check of a complete frame; `bs` are the bytes after its length byte (R194). -/
def shipComplete (address kind : Byte) (len : Nat) (bs : List Byte) : ShipHeard :=
  if crcBytes (address :: kind :: BitVec.ofNat 8 len :: bs.take len) = bs.drop len then
    .frame address kind (bs.take len)
  else .badCheck

/-- One good byte reaches the ship receiver; a length above 17 ends the frame (R194). -/
def shipRxByte : ShipRx → Byte → ShipRx × ShipHeard
  | .hunt, b => (if b = 0x5A#8 then .address else .hunt, .nothing)
  | .address, b => (.kind b, .nothing)
  | .kind a, b => (.length a b, .nothing)
  | .length a k, b => if 17 < b.toNat then (.hunt, .ended) else (.body a k b.toNat [], .nothing)
  | .body a k len bs, b =>
    if bs.length + 1 < len + 2 then (.body a k len (bs ++ [b]), .nothing)
    else (.hunt, shipComplete a k len (bs ++ [b]))

/-- The ship receiver after some bytes, with what each did. -/
def shipRxBytes : ShipRx → List Byte → ShipRx × List ShipHeard
  | r, [] => (r, [])
  | r, b :: bs =>
    ((shipRxBytes (shipRxByte r b).1 bs).1, (shipRxByte r b).2 :: (shipRxBytes (shipRxByte r b).1 bs).2)

/-- The row of the table that what the receiver heard is, with the poll of address `polled` awaiting its outcome: a frame ended
by its length is SHIP_FRAME_ERROR; a complete frame goes through the three tests of R194 in their order. A panel's kind from a
tank, or a tank's from the panel, is a reply of a kind not listed. -/
def ShipHeard.row (t : Time) (polled : Byte) : ShipHeard → Option Instr
  | .nothing => none
  | .ended => some (.shipFrameError t)
  | .badCheck => some (.shipBadCheck t)
  | .frame address kind payload =>
    if address ≠ polled then some (.shipFrameOtherAddress t)
    else
      match decodeShip kind payload, tankOf polled.toNat with
      | .panel f w1 w2, none => some (.panelReply t f w1 w2)
      | .reading tg f lv, some k => some (.reading t k tg f lv)
      | .declaration d, some k => some (.declaration t k d)
      | .wait, some k => some (.wait t k)
      | .refuse, some k => some (.refuse t k)
      | _, _ => some (.shipReplyUnlisted t)

/-! ### Encoders of the same frames -/

/-- The kind code of a request (R192). -/
def kindCode : Request → Byte
  | .lineProfile .. => 0x01 | .gradeProfile .. => 0x02 | .hpuProfile .. => 0x03 | .fillOrder .. => 0x04
  | .start .. => 0x10 | .hold .. => 0x11 | .resume .. => 0x12 | .stop .. => 0x13 | .clearTrip .. => 0x14
  | .esdStop => 0x20 | .esdReset => 0x21 | .renegotiate => 0x28 | .manualTerms .. => 0x29 | .restart => 0x30
  | .readLine .. => 0x40 | .readTank .. => 0x41 | .readLink => 0x42 | .readHpu => 0x43 | .readEsd => 0x44
  | .readTrip .. => 0x45

/-- The operands of a request in the order of their field indices (R192). -/
def requestFields : Request → List Nat
  | .lineProfile l p => l :: profileFields p
  | .gradeProfile g o => [g, o.density, o.maxRate, o.maxPressure, o.changeoverOk]
  | .hpuProfile h =>
    [h.releaseKPa, h.needKPa, h.mustKPa, h.setupMs, h.holdMs, h.turnaroundMs, h.blankingMs, h.extensionMaxMs]
  | .fillOrder l o => [l, o.count, o.pos1, o.pos2, o.pos3, o.pos4]
  | .start l => [l] | .hold l => [l] | .resume l => [l] | .stop l => [l] | .clearTrip l => [l]
  | .esdStop => [] | .esdReset => [] | .renegotiate => []
  | .manualTerms g m => [g, m.maxRate, m.maxPressure, m.changeoverOk]
  | .restart => []
  | .readLine l => [l] | .readTank k => [k] | .readLink => [] | .readHpu => [] | .readEsd => [] | .readTrip l => [l]

/-- The payload of a request (R192). -/
def requestPayload (r : Request) : List Byte :=
  joinFields ((requestWidths (kindCode r)).getD []) (requestFields r)

/-- A console frame: start A5, length of kind, tag and payload, kind, tag, payload, CRC-16 over bytes 1 to length + 1
(section 11.2). -/
def consoleFrame (kind tag : Byte) (payload : List Byte) : List Byte :=
  let body := BitVec.ofNat 8 (payload.length + 2) :: kind :: tag :: payload
  0xA5#8 :: (body ++ crcBytes body)

/-- The seven bytes of a terms word (R195). -/
def wireWordBytes (w : WireWord) : List Byte :=
  joinFields [1, 1, 1, 2, 2] [w.grade, w.marking, w.flags.toNat, w.maxRate, w.maxPressure]

/-- The kind code and payload of a ship unit's reply (section 11.3). An unlisted reply has no fixed bytes; kind 00 with no
payload stands for it. -/
def shipReplyBytes : ShipReply → Byte × List Byte
  | .panel f w1 w2 => (0x12, f :: (wireWordBytes w1 ++ wireWordBytes w2))
  | .reading tg f lv => (0x13, joinFields [1, 1, 2] [tg, f.toNat, lv])
  | .declaration d =>
    (0x14, joinFields [1, 1, 1, 2, 2, 2, 2, 2, 2]
      [d.tankNumber, d.grade, d.presence.toNat, d.litresPerMm, d.topoffMm, d.finalMm, d.highMm, d.changeoverMm,
       d.maxFillLpm])
  | .wait => (0x15, [])
  | .refuse => (0x16, [])
  | .unlisted => (0x00, [])

/-- A ship link frame in either direction: start 5A, address, kind, length, payload, CRC-16 over bytes 1 to the end of the
payload (section 11.3). -/
def shipFrame (address kind : Byte) (payload : List Byte) : List Byte :=
  let body := address :: kind :: BitVec.ofNat 8 payload.length :: payload
  0x5A#8 :: (body ++ crcBytes body)

end Sys2Proof
end

