-- ==== Sys2Proof/Machine/State.lean ====
section
/-! DEFINITION. Everything the part holds, block by block (00_scope.md, Blocks), as plain data, and its power-on values.
`Ev` is a state together with the work list of the event being taken; it never outlives one command. -/

namespace Sys2Proof.Machine

/-! ### The Line Sequencer (chapter 1) -/

/-- The eleven line states, in the order of the table of section 1.2. -/
inductive LineState where
  | undeclared | idle | starting | proving | bulk | topping | changeover | closing | held | tripped | complete
  deriving DecidableEq, Repr

/-- Why a close runs (section 1, R17). -/
inductive CloseReason where
  | ending | tankEnd | hold | trip | esd
  deriving DecidableEq, Repr

/-- Why a line is held (section 1, R17). -/
inductive HoldReason where
  | console | shipStop | termsChanged | tankEnd
  deriving DecidableEq, Repr

/-- The trip causes in the order of the table of R18, ESD last (R191). -/
inductive TripCause where
  | noRise | foundOpen | blindFlow | balance | rateUncontrolled | overpressure | highAlarm | tankLost | linkLost
  | tankChanged | changeoverTimeout | changeoverOverrun | strokeFailed | closeFailed | esd
  deriving DecidableEq, Repr

/-- The six ESD causes in the order of the table of section 9.1. -/
inductive EsdCause where
  | loop | ship | overfill | console | valve | powerOn
  deriving DecidableEq, Repr

/-- The trip record (R19). `activeTank` carries the tank and its latest accepted level, absent when it has none. -/
structure TripRecord where
  cause : TripCause
  time : Time
  stateAtTrip : LineState
  pressure : Nat
  rate : Nat
  delivered : Nat
  activeTank : Option (TankId × Option Nat)
  esdCauses : Option (List EsdCause)
  deriving DecidableEq, Repr

/-- The proving baseline (R9). -/
structure Baseline where
  level : Option Nat
  litres : Nat
  deriving DecidableEq, Repr

/-- The line record of the Line Sequencer (chapter 1), with the start of a running proving or changeover window. -/
structure LineRec where
  profile : Option LineProfile
  state : LineState
  closeReason : Option CloseReason
  holdReason : Option HoldReason
  tankEnd : Option Bool
  delivered : Nat
  pendingVol : Nat
  fedSet : List TankId
  baseline : Option Baseline
  provingStart : Option Time
  changeoverStart : Option Time
  throttle : Nat
  surgeLimited : Bool
  late : Bool
  quietPending : Bool
  trip : Option TripRecord
  deriving DecidableEq, Repr

/-! ### The Tank Table (chapter 2) -/

/-- Link health, in the order of section 2.1. -/
inductive Health where
  | absent | live | stale | lost | refused
  deriving DecidableEq, Repr

/-- Refusal reasons (R36). -/
inductive RefusalReason where
  | badDeclaration | refusedByUnit
  deriving DecidableEq, Repr

/-- Use states, in the order of section 2.1. -/
inductive TankUse where
  | free | queued | active | incoming | done
  deriving DecidableEq, Repr

/-- The highest mark the high water has reached, or none, in the order of section 2.1. -/
inductive Mark where
  | changeover | topoff | final | high | none
  deriving DecidableEq, Repr

/-- A valid declaration (R31). -/
structure Declaration where
  grade : GradeId
  litresPerMm : Nat
  topoffMm : Nat
  finalMm : Nat
  highMm : Nat
  changeoverMm : Option Nat
  maxFillLpm : Option Nat
  deriving DecidableEq, Repr

/-- A level with its time stamp: the latest level, or one half of a rise pair. -/
structure Half where
  level : Nat
  time : Time
  deriving DecidableEq, Repr

/-- A complete rise pair (R56). -/
structure Pair where
  prev : Half
  latest : Half
  deriving DecidableEq, Repr

/-- The tank record (section 2.1). -/
structure Tank where
  decl : Option Declaration
  health : Health
  refusal : Option RefusalReason
  use : TankUse
  toggle : Option Bool
  latest : Option Half
  highWater : Option Nat
  pairPrev : Option Half
  pairLatest : Option Half
  missCount : Nat
  lastNew : Time
  highAlarm : Bool
  overfill : Bool
  marks : Mark
  changeoverBase : Option Nat
  attributed : Nat
  deriving DecidableEq, Repr

/-- One record for each tank. -/
structure Tanks where
  k1 : Tank
  k2 : Tank
  k3 : Tank
  k4 : Tank
  k5 : Tank
  k6 : Tank
  k7 : Tank
  k8 : Tank
  deriving DecidableEq, Repr

/-! ### The Close Predictor (chapter 3) -/

/-- Settle states (section 3.2). -/
inductive Settle where
  | clear | travel | settling | carry
  deriving DecidableEq, Repr

/-- The latest evaluation of the close-start test, with every prediction field of R73 as it stood then: the pair source (held
or the tank's), the two halves of the pair in use and its ms-per-mm figure, the settle state with its start and deadline, the
projected level, the time to final and the close lead (R69, R73). -/
structure Evaluation where
  time : Time
  sourceHeld : Bool
  prevHalf : Option Half
  latestHalf : Option Half
  msPerMm : Option Nat
  settle : Settle
  settleStart : Option Time
  deadline : Option Time
  projected : Option Nat
  timeToFinal : Option Nat
  lead : Nat
  deriving DecidableEq, Repr

/-- The predictor's record of a line (section 3.2). The pair source is a function of it (R59). -/
structure Predictor where
  settle : Settle
  held : Option Pair
  settleStart : Option Time
  deadline : Option Time
  lastFigure : Option Nat
  evaluation : Option Evaluation
  deriving DecidableEq, Repr

/-! ### The Close Planner (chapter 4) -/

/-- Phases of a close (section 4.1). -/
inductive ClosePhase where
  | runDown | stage | dwell | retryWait | seating
  deriving DecidableEq, Repr

/-- How a run-down ended (R77). -/
inductive RunDownEnd where
  | time | pressure
  deriving DecidableEq, Repr

/-- The close plan: inputs, figures and stage targets (R82, R92). -/
structure Plan where
  rate : Nat
  pressure : Nat
  sensorFault : Bool
  position : Nat
  learnedRate : Nat
  velocity : Nat
  headroom : Nat
  tSurge : Nat
  tClose : Nat
  tTravel : Nat
  pipePeriod : Nat
  dwell : Nat
  planned : Nat
  targets : List Nat
  deriving DecidableEq, Repr

/-- The close record (section 4.1). `dwellOver` says that the current dwell has run out (R85). -/
structure CloseRec where
  entry : Time
  phase : ClosePhase
  runDownStart : Option Time
  runDownEnd : Option RunDownEnd
  plan : Option Plan
  stage : Option Nat
  dwellEnd : Option Time
  dwellOver : Bool
  strokeEnded : Bool
  retryUsed : Bool
  deriving DecidableEq, Repr

/-! ### The Flow Monitor (chapter 5) -/

/-- The watch record of a fed tank (R101); base and peak are absent together. -/
structure Watch where
  base : Option Nat
  peak : Option Nat
  peakTime : Time
  deriving DecidableEq, Repr

/-- The Flow Monitor's figures of a line (R93 to R107). -/
structure Flow where
  gatePulses : Nat
  lastPulses : Nat
  rate : Nat
  prevRate : Nat
  pulseTotal : Nat
  meterFactor : Option Nat
  pressure : Nat
  pressureFault : Bool
  sampleSum : Nat
  sampleCount : Nat
  overCount : Nat
  rateCount : Nat
  pressCount : Nat
  quiet : Nat
  watchActive : Option Watch
  watchIncoming : Option Watch
  blindWindow : Option Nat
  excess : Option Int
  deriving DecidableEq, Repr

/-! ### The Stroke Arbiter and the Hydraulic Supply Monitor (chapter 6) -/

/-- Stroke classes in the order of the table of section 6.1. -/
inductive StrokeClass where
  | close | throttle | opening
  deriving DecidableEq, Repr

/-- Directions of a stroke or a channel (R119). -/
inductive Direction where
  | openward | closeward
  deriving DecidableEq, Repr

/-- Where the known position came from (R109). -/
inductive PositionSource where
  | transmitter | arrival | simulated
  deriving DecidableEq, Repr

/-- Near marks (R109). -/
inductive NearMark where
  | nearClosed | nearOpen | none
  deriving DecidableEq, Repr

/-- Outcomes of a stroke (section 6.1). -/
inductive StrokeOutcome where
  | arrived | arrivedAtOnce | ended | failedTimeout | failedExtension | failedSeated | failedOpenLimit
  deriving DecidableEq, Repr

/-- Phases of a stroke in progress (section 6.4). -/
inductive StrokePhase where
  | turnaround | setup | travel | hold
  deriving DecidableEq, Repr

/-- A stroke request (section 6.1); `retry` marks the Close Planner's retry (R126). -/
structure StrokeReq where
  cls : StrokeClass
  target : Nat
  time : Time
  retry : Bool
  deriving DecidableEq, Repr

/-- A stroke in progress. `since` is the start of the present phase. While the stroke is in TRAVEL, `used` and `pauseUsed`
are the travel and pause time used up to `mark`, and `paused` says which of the two runs on from there (R122).
`blanking` says that the blanking of R121 still runs. -/
structure Stroke where
  req : StrokeReq
  phase : StrokePhase
  since : Time
  travelStart : Time
  startPos : Nat
  expected : Nat
  used : Nat
  pauseUsed : Nat
  paused : Bool
  mark : Time
  blanking : Bool
  deriving DecidableEq, Repr

/-- The valve record of a line (section 6.1) with its two limit switch inputs and the latest good transmitter sample. The
channel of a stroke in progress is the one whose holder is the line. -/
structure Valve where
  position : Nat
  source : PositionSource
  sample : Option Nat
  learnedRate : Option Nat
  feedbackFault : Bool
  commanded : Nat
  pending : Option StrokeReq
  stroke : Option Stroke
  followOn : Option StrokeReq
  lastOutcome : Option (StrokeOutcome × Time)
  closedSwitch : Bool
  openSwitch : Bool
  deriving DecidableEq, Repr

/-- A stroke channel: the line whose stroke holds it and its last direction (R119, R131). -/
structure Channel where
  holder : Option LineId
  lastDir : Option Direction
  deriving DecidableEq, Repr

/-- Bands of the accumulator pressure, in the order of the table of section 6.5. -/
inductive Band where
  | release | may | need | must
  deriving DecidableEq, Repr

/-- The Hydraulic Supply Monitor (section 6.5). -/
structure Supply where
  profile : HpuProfile
  pressure : Nat
  fault : Bool
  band : Band
  pump : Bool
  deriving DecidableEq, Repr

/-! ### The Terms Unit (chapter 8) -/

/-- Agreement states (section 8.1). -/
inductive Agreement where
  | undeclared | waiting | offering | acking | agreed | manual
  deriving DecidableEq, Repr

/-- The three figures two terms words are compared in (R156). -/
structure TermsFields where
  maxRate : Nat
  maxPressure : Nat
  changeoverOk : Bool
  deriving DecidableEq, Repr

/-- Barge terms (R153). -/
structure BargeTerms where
  density : Nat
  fields : TermsFields
  deriving DecidableEq, Repr

/-- The last ship word of a grade (R156): none since the record was last cleared, withheld, or usable. -/
inductive ShipWord where
  | absent
  | withheld
  | usable (fields : TermsFields) (ack : Bool)
  deriving DecidableEq, Repr

/-- The grade record (section 8.1). -/
structure Grade where
  barge : Option BargeTerms
  agreement : Agreement
  lastWord : ShipWord
  matchCount : Nat
  accepted : Option TermsFields
  console : Option TermsFields
  agreed : Option TermsFields
  deriving DecidableEq, Repr

/-- One record for each grade. -/
structure Grades where
  g1 : Grade
  g2 : Grade
  deriving DecidableEq, Repr

/-! ### The Ship Link Controller (chapter 7) -/

/-- Link states (section 7.4). -/
inductive LinkState where
  | down | silent | up
  deriving DecidableEq, Repr

/-- The latest panel reply: four flags and two words (R138). -/
structure PanelReply where
  ready : Bool
  shipStop : Bool
  shipEsd : Bool
  termsCapable : Bool
  word1 : WireWord
  word2 : WireWord
  deriving DecidableEq, Repr

/-- What the schedule gives a tank slot (R136, R137). `declareTail` is the second slot of a DECLARE. -/
inductive SlotUse where
  | idle
  | read (tank : TankId)
  | declare (tank : TankId)
  | declareTail (tank : TankId)
  deriving DecidableEq, Repr

/-- Kinds of a gauge unit's reply (section 7.5). -/
inductive ReplyKind where
  | reading | declaration | wait | refuse | unlisted
  deriving DecidableEq, Repr

/-- The outcome of a slot so far (R150). -/
inductive SlotOutcome where
  | pending
  | reply (kind : ReplyKind)
  | repeated
  | refusedReading
  | noReply
  | badCheck
  deriving DecidableEq, Repr

/-- A tank slot of the current cycle. -/
structure Slot where
  plan : SlotUse
  begun : Bool
  outcome : SlotOutcome
  deriving DecidableEq, Repr

/-- Kinds of poll (section 7.1). -/
inductive PollKind where
  | panel
  | read (tank : TankId)
  | declare (tank : TankId)
  deriving DecidableEq, Repr

/-- A poll awaiting its outcome (R134): its kind, its tank slot (0 for the panel slot) and the start of its slot. -/
structure Poll where
  kind : PollKind
  slot : Nat
  start : Time
  deriving DecidableEq, Repr

/-- How the marker shows a line (R135). -/
inductive LineSummary where
  | closed | flowing | closing
  deriving DecidableEq, Repr

/-- A frame the part sends on the ship link (section 11.3). -/
inductive ShipOut where
  | marker (cycle : BitVec 8) (esd : Bool) (lines : Quad LineSummary) (word1 word2 : WireWord)
  | panelPoll
  | readPoll (tank : TankId) (toggle : Bool)
  | declarePoll (tank : TankId)
  deriving DecidableEq, Repr

/-- The Ship Link Controller; `rx` is the ship receiver (R194). -/
structure Link where
  state : LinkState
  silenceStart : Option Time
  cycle : Option (BitVec 8)
  missCount : Nat
  panel : Option PanelReply
  pollPtr : TankId
  prioPtr : TankId
  slots : List Slot
  deferred : List TankId
  poll : Option Poll
  rx : ShipRx
  sent : Option ShipOut
  deriving DecidableEq, Repr

/-! ### The Shutdown Unit (chapter 9) -/

/-- The ESD cause set: for each cause, the time stamp at which it was raised, if it is in the set (R167). -/
structure CauseSet where
  loop : Option Time
  ship : Option Time
  overfill : Option Time
  console : Option Time
  valve : Option Time
  powerOn : Option Time
  deriving DecidableEq, Repr

/-- The loop as judged (R168); DEBOUNCE carries the start of its timer. -/
inductive LoopState where
  | closed
  | debounce (start : Time)
  | opened
  deriving DecidableEq, Repr

/-- The Shutdown Unit. The ESD latch, the status relay and the permit relays are functions of it. -/
structure Shutdown where
  causes : CauseSet
  valveList : List LineId
  loop : LoopState
  shipRun : Nat
  permit1 : Bool
  permit2 : Bool
  deriving DecidableEq, Repr

/-! ### The Console Port (chapter 10) -/

/-- Refusal reasons, in the order of the table of section 10.2. -/
inductive Reason where
  | noFillOrder | esdActive | termsNotAgreed | shipNotReady | shipStop | tankNotLive | gradeMismatch | tankInUse
  | duplicateTank | quietPending | valveNotClosed | causePresent | linesActive | linkNotUp | panelCapable
  | undeclaredGrade
  deriving DecidableEq, Repr

/-- Result codes (R181, R193). -/
inductive Result where
  | ok
  | okAdjusted
  | wrongState
  | refused (reason : Reason)
  | fieldRange (index : Nat)
  | unknownRequest
  | length
  | overrun
  deriving DecidableEq, Repr

/-- A formed reply: tag, result and, for a read answered OK, the bytes of its record (R181, R193). `restart` marks the
reply of an accepted RESTART, whose sending ends the wait of R189. -/
structure Reply where
  tag : Byte
  result : Result
  record : List Byte
  restart : Bool
  deriving DecidableEq, Repr

/-- A received frame after the tests of R179. -/
inductive Received where
  | unknown
  | badLength
  | request (r : Request)
  deriving DecidableEq, Repr

/-- The two request buffers. -/
inductive BufId where
  | b1 | b2
  deriving DecidableEq, Repr

/-- A request buffer (R180). -/
inductive Buffer where
  | empty
  | waiting (tag : Byte) (frame : Received)
  | answered (reply : Reply)
  deriving DecidableEq, Repr

/-- Where a waiting reply stands (R182). -/
inductive ReplySource where
  | buffer (b : BufId)
  | overrun
  deriving DecidableEq, Repr

/-- Kind and subject of a notice (section 10.5). -/
inductive NoticeKey where
  | line (l : LineId)
  | trip (l : LineId)
  | tank (k : TankId)
  | link
  | terms (g : GradeId)
  | esd
  | hpu
  deriving DecidableEq, Repr

/-- Content of a LINE notice (section 10.5). -/
structure LineContent where
  state : LineState
  closeReason : Option CloseReason
  holdReason : Option HoldReason
  cause : Option TripCause
  surgeLimited : Bool
  late : Bool
  quietPending : Bool
  pressureFault : Bool
  feedbackFault : Bool
  deriving DecidableEq, Repr

/-- Content of a TANK notice (R30). -/
structure TankContent where
  health : Health
  refusal : Option RefusalReason
  use : TankUse
  line : Option LineId
  level : Option Nat
  highWater : Option Nat
  marks : Mark
  deriving DecidableEq, Repr

/-- Content of a LINK notice (R150). -/
structure LinkContent where
  state : LinkState
  cycle : Option (BitVec 8)
  missCount : Nat
  panel : Option PanelReply
  deriving DecidableEq, Repr

/-- Content of a TERMS notice (R166). -/
structure TermsContent where
  agreement : Agreement
  barge : Option BargeTerms
  accepted : Option TermsFields
  agreed : Option TermsFields
  deriving DecidableEq, Repr

/-- Content of an ESD notice (R167). -/
structure EsdContent where
  latch : Bool
  causes : CauseSet
  valveList : List LineId
  permit1 : Bool
  permit2 : Bool
  deriving DecidableEq, Repr

/-- Content of an HPU notice (R127). -/
structure HpuContent where
  band : Band
  pressure : Nat
  fault : Bool
  pump : Bool
  deriving DecidableEq, Repr

/-- The content of a notice. A TRIP notice of a line that never tripped cannot be queued; `trip none` stands for it. -/
inductive Content where
  | line (c : LineContent)
  | trip (c : Option TripRecord)
  | tank (c : TankContent)
  | link (c : LinkContent)
  | terms (c : TermsContent)
  | esd (c : EsdContent)
  | hpu (c : HpuContent)
  deriving DecidableEq, Repr

/-- A notice of the queue (R187). -/
structure Notice where
  key : NoticeKey
  content : Content
  stamp : Time
  deriving DecidableEq, Repr

/-- The frame in transmission, with the content it had when it began (R182). -/
inductive TxFrame where
  | reply (source : ReplySource) (reply : Reply)
  | notice (n : Notice)
  deriving DecidableEq, Repr

/-- The console receiver (R178): in BODY, the length byte and the bytes collected so far. -/
inductive Rx where
  | hunt
  | length
  | body (len : Nat) (bytes : List Byte)
  deriving DecidableEq, Repr

/-- The wait of a RESTART (R189): none, its reply not yet completely sent, or sent and the effect due. -/
inductive RestartWait where
  | idle | replying | due
  deriving DecidableEq, Repr

/-! ### The whole part -/

/-- The state of the part. `pending` is the queue of commands; `now` the time-base value of the latest event; `freeCtr` the
model's own counter, which feeds the free values of Config. -/
structure State where
  pending : List Instr
  now : Time
  freeCtr : Nat
  rx : Rx
  buf1 : Buffer
  buf2 : Buffer
  waitOrder : List BufId
  overrun : Option Byte
  replyOrder : List ReplySource
  tx : Option TxFrame
  notices : List Notice
  restart : RestartWait
  restartEsd : Bool
  lines : Quad LineRec
  lists : Quad (List TankId)
  tanks : Tanks
  preds : Quad Predictor
  closes : Quad (Option CloseRec)
  flows : Quad Flow
  valves : Quad Valve
  chan1 : Channel
  chan2 : Channel
  supply : Supply
  link : Link
  grades : Grades
  shut : Shutdown
  deriving DecidableEq, Repr

/-- A report of the Stroke Arbiter to the block that made a request (R116): an arrival with the class and the target
actually used, a failure with its outcome, or the end of the hold; `seated` tells the Close Planner that the closed limit
switch went active (R86). -/
inductive Report where
  | arrived (l : LineId) (cls : StrokeClass) (target : Nat)
  | failed (l : LineId) (cls : StrokeClass) (outcome : StrokeOutcome)
  | ended (l : LineId) (cls : StrokeClass)
  | seated (l : LineId)
  deriving DecidableEq, Repr

/-- A state while one event is being taken: `dirty` holds the notices the event queues, `reports` the arbiter's reports not
yet handed on, `undecided` the closes whose run-down R76 decides once the event has been taken. -/
structure Ev extends State where
  dirty : List NoticeKey
  reports : List Report
  undecided : List LineId
  deriving DecidableEq, Repr

/-- No command of this part stops it with a fault: what the spec calls a fault is a trip, an ESD cause, a sensor flag or a
failed stroke, each of which is state. The type has no constructor. -/
inductive Fault where
  deriving DecidableEq, Repr

/-- Refusals of the model. -/
inductive Refusal where
  /-- A row with no meaning yet; raised by an arm of exec only, and by none of this model. Safe: the run stops. -/
  | notModelled (mnemonic : String)
  deriving DecidableEq, Repr

/-! ### Power-on values -/

/-- The line record at power-on (R28). -/
def LineRec.init : LineRec :=
  { profile := none, state := .undeclared, closeReason := none, holdReason := none, tankEnd := none,
    delivered := 0, pendingVol := 0, fedSet := [], baseline := none, provingStart := none, changeoverStart := none,
    throttle := 0, surgeLimited := false, late := false, quietPending := false, trip := none }

/-- The tank record at power-on and after RESTART (R53, R54). -/
def Tank.init : Tank :=
  { decl := none, health := .absent, refusal := none, use := .free, toggle := none, latest := none, highWater := none,
    pairPrev := none, pairLatest := none, missCount := 0, lastNew := 0, highAlarm := false, overfill := false,
    marks := .none, changeoverBase := none, attributed := 0 }

/-- All eight tanks at power-on. -/
def Tanks.init : Tanks :=
  { k1 := .init, k2 := .init, k3 := .init, k4 := .init, k5 := .init, k6 := .init, k7 := .init, k8 := .init }

/-- A cleared predictor record (R57). -/
def Predictor.init : Predictor :=
  { settle := .clear, held := none, settleStart := none, deadline := none, lastFigure := none, evaluation := none }

/-- The Flow Monitor's figures at power-on (R108). -/
def Flow.init : Flow :=
  { gatePulses := 0, lastPulses := 0, rate := 0, prevRate := 0, pulseTotal := 0, meterFactor := none, pressure := 0,
    pressureFault := false, sampleSum := 0, sampleCount := 0, overCount := 0, rateCount := 0, pressCount := 0,
    quiet := 0, watchActive := none, watchIncoming := none, blindWindow := none, excess := none }

/-- The valve record at power-on (R132) with the given levels of its switches. -/
def Valve.init (closedSwitch openSwitch : Bool) : Valve :=
  { position := 0, source := .arrival, sample := none, learnedRate := none, feedbackFault := false, commanded := 0,
    pending := none, stroke := none, followOn := none, lastOutcome := none, closedSwitch := closedSwitch,
    openSwitch := openSwitch }

/-- The default HPU profile (R130). -/
def defaultHpuProfile : HpuProfile :=
  { releaseKPa := 18000, needKPa := 14000, mustKPa := 10000, setupMs := 400, holdMs := 500, turnaroundMs := 300,
    blankingMs := 300, extensionMaxMs := 20000 }

/-- The hydraulic supply at power-on (R132). -/
def Supply.init : Supply :=
  { profile := defaultHpuProfile, pressure := 0, fault := false, band := .must, pump := true }

/-- The grade record at power-on (R154). -/
def Grade.init : Grade :=
  { barge := none, agreement := .undeclared, lastWord := .absent, matchCount := 0, accepted := none, console := none,
    agreed := none }

/-- An idle tank slot. -/
def Slot.idle : Slot := { plan := .idle, begun := false, outcome := .pending }

/-- The ship link at power-on (R151). -/
def Link.init : Link :=
  { state := .down, silenceStart := none, cycle := none, missCount := 0, panel := none, pollPtr := .k1, prioPtr := .k1,
    slots := [.idle, .idle, .idle, .idle, .idle], deferred := [], poll := none, rx := .hunt, sent := none }

/-- The Shutdown Unit at power-on (R175): POWER_ON alone in the set, stamped 0; the loop judged from its first reading. -/
def Shutdown.init (loopOpen : Bool) : Shutdown :=
  { causes := { loop := none, ship := none, overfill := none, console := none, valve := none, powerOn := some 0 },
    valveList := [], loop := if loopOpen then .debounce 0 else .closed, shipRun := 0, permit1 := false,
    permit2 := false }

/-- The part at power-on, every block at the values its chapter gives (R28, R53, R57, R74, R108, R132, R151, R154, R175,
R188), with the given levels of the inputs. -/
def State.powerOn (i : PowerInputs) : State :=
  { pending := [], now := 0, freeCtr := 0,
    rx := .hunt, buf1 := .empty, buf2 := .empty, waitOrder := [], overrun := none, replyOrder := [], tx := none,
    notices := [], restart := .idle, restartEsd := false,
    lines := .all .init, lists := .all [], tanks := .init, preds := .all .init, closes := .all none,
    flows := .all .init,
    valves := { a := .init i.closedSwitch.a i.openSwitch.a, b := .init i.closedSwitch.b i.openSwitch.b,
                c := .init i.closedSwitch.c i.openSwitch.c, d := .init i.closedSwitch.d i.openSwitch.d },
    chan1 := { holder := none, lastDir := none }, chan2 := { holder := none, lastDir := none },
    supply := .init, link := .init, grades := { g1 := .init, g2 := .init }, shut := .init i.loopOpen }

/-- The input levels of State.reset: loop intact, every valve on its closed limit switch. DESIGN CHOICE, unsafe
(notes/assumptions/6.md): the spec gives no level; the known position 0 with source ARRIVAL (R132) points to it. -/
def resetInputs : PowerInputs :=
  { loopOpen := false, closedSwitch := .all true, openSwitch := .all false }

/-- The machine right after power-on. -/
def State.reset : State := .powerOn resetInputs

end Sys2Proof.Machine
end

