-- ==== Sys2Proof/Machine/Ops.lean ====
section
/-! DEFINITION. The named operations over State: reading and writing one line's, tank's, valve's record, elapsed times, the
marking of notices, changes of a tank's use and health, the delivery account. Every later operation is written over
these, so what a step can touch is read off the operations it calls. -/

namespace Sys2Proof

/-- The value of one line. -/
def Quad.get {α : Type} (q : Quad α) : LineId → α
  | .a => q.a | .b => q.b | .c => q.c | .d => q.d

/-- Replace the value of one line. -/
def Quad.set {α : Type} (q : Quad α) (l : LineId) (x : α) : Quad α :=
  match l with
  | .a => { q with a := x } | .b => { q with b := x } | .c => { q with c := x } | .d => { q with d := x }

end Sys2Proof

namespace Sys2Proof.Machine

/-! ### Lists of identifiers, times -/

/-- The four lines in ascending number. -/
def allLines : List LineId := [.a, .b, .c, .d]

/-- The eight tanks in ascending number. -/
def allTanks : List TankId := [.k1, .k2, .k3, .k4, .k5, .k6, .k7, .k8]

/-- An elapsed time: the difference of two stamps modulo 2^32 (00_scope.md, Time). -/
def elapsed (now start : Time) : Nat := (now - start).toNat

/-- A deadline stamp has been reached, judged within half the range of the time base (DEDUCED,
notes/assumptions/18.md). -/
def reached (now deadline : Time) : Bool := decide ((now - deadline).toNat < 2 ^ 31)

/-- Stamp `t` is later than stamp `start`, within half the range of the time base (DEDUCED, notes/assumptions/18.md). -/
def later (t start : Time) : Bool := decide (t ≠ start) && reached t start

/-- An interval added to a stamp. -/
def after (t : Time) (ms : Nat) : Time := t + BitVec.ofNat 32 ms

/-! ### Records by line, tank, grade, channel -/

/-- The record of one tank. -/
def Tanks.get (q : Tanks) : TankId → Tank
  | .k1 => q.k1 | .k2 => q.k2 | .k3 => q.k3 | .k4 => q.k4 | .k5 => q.k5 | .k6 => q.k6 | .k7 => q.k7 | .k8 => q.k8

/-- Replace the record of one tank. -/
def Tanks.set (q : Tanks) (k : TankId) (x : Tank) : Tanks :=
  match k with
  | .k1 => { q with k1 := x } | .k2 => { q with k2 := x } | .k3 => { q with k3 := x } | .k4 => { q with k4 := x }
  | .k5 => { q with k5 := x } | .k6 => { q with k6 := x } | .k7 => { q with k7 := x } | .k8 => { q with k8 := x }

/-- The record of one grade. -/
def Grades.get (q : Grades) : GradeId → Grade
  | .g1 => q.g1 | .g2 => q.g2

/-- Replace the record of one grade. -/
def Grades.set (q : Grades) (g : GradeId) (x : Grade) : Grades :=
  match g with
  | .g1 => { q with g1 := x } | .g2 => { q with g2 := x }

/-- The line record, fill order list, predictor, close record, flow figures and valve of a line; the record of a tank and
of a grade. -/
def State.line (s : State) (l : LineId) : LineRec := s.lines.get l
def State.list (s : State) (l : LineId) : List TankId := s.lists.get l
def State.pred (s : State) (l : LineId) : Predictor := s.preds.get l
def State.close (s : State) (l : LineId) : Option CloseRec := s.closes.get l
def State.flow (s : State) (l : LineId) : Flow := s.flows.get l
def State.valve (s : State) (l : LineId) : Valve := s.valves.get l
def State.tank (s : State) (k : TankId) : Tank := s.tanks.get k
def State.grade (s : State) (g : GradeId) : Grade := s.grades.get g

/-- Change one record, everything else kept. -/
def Ev.modLine (e : Ev) (l : LineId) (f : LineRec → LineRec) : Ev := { e with lines := e.lines.set l (f (e.lines.get l)) }
def Ev.setList (e : Ev) (l : LineId) (ks : List TankId) : Ev := { e with lists := e.lists.set l ks }
def Ev.modPred (e : Ev) (l : LineId) (f : Predictor → Predictor) : Ev :=
  { e with preds := e.preds.set l (f (e.preds.get l)) }
def Ev.setClose (e : Ev) (l : LineId) (c : Option CloseRec) : Ev := { e with closes := e.closes.set l c }
def Ev.modClose (e : Ev) (l : LineId) (f : CloseRec → CloseRec) : Ev :=
  { e with closes := e.closes.set l ((e.closes.get l).map f) }
def Ev.modFlow (e : Ev) (l : LineId) (f : Flow → Flow) : Ev := { e with flows := e.flows.set l (f (e.flows.get l)) }
def Ev.modValve (e : Ev) (l : LineId) (f : Valve → Valve) : Ev := { e with valves := e.valves.set l (f (e.valves.get l)) }
def Ev.modTank (e : Ev) (k : TankId) (f : Tank → Tank) : Ev := { e with tanks := e.tanks.set k (f (e.tanks.get k)) }
def Ev.modGrade (e : Ev) (g : GradeId) (f : Grade → Grade) : Ev := { e with grades := e.grades.set g (f (e.grades.get g)) }
def Ev.modLink (e : Ev) (f : Link → Link) : Ev := { e with link := f e.link }
def Ev.modShut (e : Ev) (f : Shutdown → Shutdown) : Ev := { e with shut := f e.shut }
def Ev.modSupply (e : Ev) (f : Supply → Supply) : Ev := { e with supply := f e.supply }

/-- Do the same for each line in ascending number (notes/assumptions/8.md). -/
def Ev.eachLine (e : Ev) (f : LineId → Ev → Ev) : Ev := allLines.foldl (fun x l => f l x) e

/-- Do the same for each tank of a list in its order. -/
def Ev.eachTank (e : Ev) (ks : List TankId) (f : TankId → Ev → Ev) : Ev := ks.foldl (fun x k => f k x) e

/-! ### Events and notices -/

/-- Begin an event taken at time `t`. -/
def begin (t : Time) (s : State) : Ev :=
  { s with now := t, dirty := [], reports := [], undecided := [] }

/-- Note that the event queues a notice of this kind and subject (R187); its content is written when the event ends, so it
is the content in which the event leaves the subject (R4). -/
def Ev.mark (e : Ev) (key : NoticeKey) : Ev :=
  if key ∈ e.dirty then e else { e with dirty := e.dirty ++ [key] }

/-- Note a notice only when something changed. -/
def Ev.markIf (e : Ev) (c : Bool) (key : NoticeKey) : Ev := if c then e.mark key else e

/-- Hand a report of the arbiter on to the block that made the request (R116), after the present work of the event
(notes/assumptions/9.md). -/
def Ev.report (e : Ev) (r : Report) : Ev := { e with reports := e.reports ++ [r] }

/-! ### Line states -/

/-- A line is flowing in STARTING, PROVING, BULK, TOPPING and CHANGEOVER (00_scope.md, Flowing and closing). -/
def LineState.flowing : LineState → Bool
  | .starting => true | .proving => true | .bulk => true | .topping => true | .changeover => true
  | .undeclared => false | .idle => false | .closing => false | .held => false | .tripped => false | .complete => false

/-- The line is flowing. -/
def State.flowing (s : State) (l : LineId) : Bool := (s.line l).state.flowing

/-- The line is closing. -/
def State.closing (s : State) (l : LineId) : Bool := (s.line l).state == .closing

/-- Some line is flowing or closing. -/
def State.anyActive (s : State) : Bool := allLines.any (fun l => s.flowing l || s.closing l)

/-- A profile of zeros, read where a line has none. -/
def noProfile : LineProfile :=
  { grade := 0, pump := 0, boreMm := 0, lengthM := 0, waveSpeed := 0, ratingKPa := 0, surgeMarginKPa := 0, meterK := 0,
    startPos := 0, toppingPos := 0, bulkPos := 0, throttleStep := 0, closeStages := 0, closeMinMs := 0, closeMaxMs := 0,
    runDownMs := 0, runDownKPa := 0, settleMs := 0, guardMs := 0, proveMm := 0, proveWindowMs := 0,
    changeoverWindowMs := 0, stopConfirmMs := 0, blindWeight := 0, blindMinMs := 0, balanceTolL := 0, nominalRate := 0,
    feedbackPresent := 0, simulatedArrival := 0, arrivalBand := 0 }

/-- The line's profile; zeros in UNDECLARED, where no rule reads it. -/
def State.profile (s : State) (l : LineId) : LineProfile := (s.line l).profile.getD noProfile

/-- The grade and the pump a line's profile names; none in UNDECLARED. -/
def State.gradeOfLine (s : State) (l : LineId) : Option GradeId := (s.line l).profile.bind (fun p => gradeOf p.grade)
def State.pumpOfLine (s : State) (l : LineId) : Option PumpId := (s.line l).profile.bind (fun p => pumpOf p.pump)

/-! ### Tanks and lists -/

/-- The line whose list holds the tank. -/
def State.listLine (s : State) (k : TankId) : Option LineId := allLines.find? (fun l => (s.list l).contains k)

/-- The line whose fed set holds the tank. -/
def State.fedLine (s : State) (k : TankId) : Option LineId := allLines.find? (fun l => (s.line l).fedSet.contains k)

/-- The ACTIVE tank of the line's list. -/
def State.activeTank (s : State) (l : LineId) : Option TankId := (s.list l).find? (fun k => (s.tank k).use == .active)

/-- The INCOMING tank of the line's list. -/
def State.incomingTank (s : State) (l : LineId) : Option TankId :=
  (s.list l).find? (fun k => (s.tank k).use == .incoming)

/-- Change a tank's use, with the TANK notice of R30 when it changed. -/
def Ev.setUse (e : Ev) (k : TankId) (u : TankUse) : Ev :=
  (e.modTank k (fun x => { x with use := u })).markIf ((e.tank k).use != u) (.tank k)

/-- Change a tank's health and refusal reason, with the TANK notice of R30 when either changed. -/
def Ev.setHealth (e : Ev) (k : TankId) (h : Health) (r : Option RefusalReason) : Ev :=
  (e.modTank k (fun x => { x with health := h, refusal := r })).markIf
    ((e.tank k).health != h || (e.tank k).refusal != r) (.tank k)

/-- Initialise a tank's readings at the time of a reply (R32). -/
def Tank.initReadings (x : Tank) (t : Time) : Tank :=
  { x with latest := none, highWater := none, pairPrev := none, pairLatest := none, changeoverBase := none,
           missCount := 0, lastNew := t, highAlarm := false, overfill := false, marks := .none, toggle := none }

/-- Credit litres to a tank (R52). -/
def Ev.credit (e : Ev) (k : TankId) (litres : Nat) : Ev :=
  e.modTank k (fun x => { x with attributed := x.attributed + litres })

/-- Zero the delivery account of a line (R26): delivered litres, pulse total and its meter factor (R94), pending volume,
fed set and the attributions of the tanks in it. -/
def Ev.zeroAccount (e : Ev) (l : LineId) : Ev :=
  let e1 := e.eachTank (e.line l).fedSet (fun k x => x.modTank k (fun y => { y with attributed := 0 }))
  let e2 := e1.modLine l (fun x => { x with delivered := 0, pendingVol := 0, fedSet := [] })
  e2.modFlow l (fun x => { x with pulseTotal := 0, meterFactor := none })

/-- Settle the list of a line that reaches COMPLETE (R23): fed tanks become DONE, the others FREE; the list is emptied. -/
def Ev.settleComplete (e : Ev) (l : LineId) : Ev :=
  let fed := (e.line l).fedSet
  (e.eachTank (e.list l) (fun k x => x.setUse k (if fed.contains k then .done else .free))).setList l []

/-- Settle the list of a line whose trip is cleared (R25): the ACTIVE tank becomes DONE, an INCOMING tank FREE, the others
DONE when in the fed set and FREE otherwise; the list is emptied. -/
def Ev.settleCleared (e : Ev) (l : LineId) : Ev :=
  let fed := (e.line l).fedSet
  let useOf (x : Ev) (k : TankId) : TankUse :=
    match (x.tank k).use with
    | .active => .done
    | .incoming => .free
    | .free => if fed.contains k then .done else .free
    | .queued => if fed.contains k then .done else .free
    | .done => if fed.contains k then .done else .free
  (e.eachTank (e.list l) (fun k x => x.setUse k (useOf x k))).setList l []

end Sys2Proof.Machine
end

