-- ==== Sys2Proof/Machine/Flags.lean ====
section
/-! DEFINITION. Every flag and output that is a function of the state: the ESD latch and status relay, cause sets, reset
conditions, pump permits and their evaluation, the changes of line flags and of the line state with the notices they
queue, near marks, solenoids, the line summary of the marker. -/

namespace Sys2Proof.Machine

/-! ### ESD causes and the latch -/

/-- The stamp of a cause, if it is in the set (R167). -/
def CauseSet.get (c : CauseSet) : EsdCause → Option Time
  | .loop => c.loop | .ship => c.ship | .overfill => c.overfill | .console => c.console | .valve => c.valve
  | .powerOn => c.powerOn

/-- Add a cause with its stamp. -/
def CauseSet.add (c : CauseSet) (x : EsdCause) (t : Time) : CauseSet :=
  match x with
  | .loop => { c with loop := some t } | .ship => { c with ship := some t } | .overfill => { c with overfill := some t }
  | .console => { c with console := some t } | .valve => { c with valve := some t }
  | .powerOn => { c with powerOn := some t }

/-- The six causes in table order. -/
def allCauses : List EsdCause := [.loop, .ship, .overfill, .console, .valve, .powerOn]

/-- The empty cause set. -/
def noCauses : CauseSet := { loop := none, ship := none, overfill := none, console := none, valve := none, powerOn := none }

/-- The causes in the set, in table order. -/
def CauseSet.list (c : CauseSet) : List EsdCause := allCauses.filter (fun x => (c.get x).isSome)

/-- The ESD latch is set while the cause set holds a cause (R167). -/
def State.latch (s : State) : Bool := allCauses.any (fun x => (s.shut.causes.get x).isSome)

/-- The status relay is energised while the latch is clear (R167). -/
def State.statusRelay (s : State) : Bool := !s.latch

/-- The reset condition of a cause as the state stands now (table of section 9.1). -/
def State.conditionHolds (s : State) : EsdCause → Bool
  | .loop => s.shut.loop != .closed
  | .ship => decide (s.shut.shipRun < 3) || s.link.state != .up
  | .overfill => allTanks.any (fun k => (s.tank k).overfill)
  | .console => false
  | .valve => s.shut.valveList.any (fun l => !(s.valve l).closedSwitch)
  | .powerOn => false

/-! ### Pump permits (R174) -/

/-- The permit of a pump; its relay is energised while it is asserted. -/
def Shutdown.permit (x : Shutdown) : PumpId → Bool
  | .p1 => x.permit1 | .p2 => x.permit2

/-- Some line whose profile names the pump is flowing. -/
def State.pumpFlowing (s : State) (p : PumpId) : Bool :=
  allLines.any (fun l => s.flowing l && s.pumpOfLine l == some p)

/-- What an evaluation makes of a permit (R174). -/
def State.permitDue (s : State) (p : PumpId) : Bool := !s.latch && s.pumpFlowing p

/-- Set a permit. -/
def Shutdown.setPermit (x : Shutdown) (p : PumpId) (b : Bool) : Shutdown :=
  match p with
  | .p1 => { x with permit1 := b } | .p2 => { x with permit2 := b }

/-- Evaluate a permit; a change queues an ESD notice (R174). -/
def Ev.evalPermit (e : Ev) (p : PumpId) : Ev :=
  (e.modShut (fun x => x.setPermit p (e.permitDue p))).markIf (e.shut.permit p != e.permitDue p) .esd

/-- Evaluate the permit of the line's pump, as every change of line state requires (R4). -/
def Ev.evalPermitOf (e : Ev) (l : LineId) : Ev :=
  match e.pumpOfLine l with
  | some p => e.evalPermit p
  | none => e

/-- The permit of the line's pump stands asserted. -/
def State.permitOf (s : State) (l : LineId) : Bool :=
  match s.pumpOfLine l with
  | some p => s.shut.permit p
  | none => false

/-! ### Line state and line flags -/

/-- Change a line's state: a LINE notice (R4), then the permit of its pump evaluated (R4, R174). -/
def Ev.setState (e : Ev) (l : LineId) (st : LineState) : Ev :=
  ((e.modLine l (fun x => { x with state := st })).mark (.line l)).evalPermitOf l

/-- SURGE_LIMITED, LATE and QUIET_PENDING, each with a LINE notice when it changes (R27). -/
def Ev.setSurge (e : Ev) (l : LineId) (b : Bool) : Ev :=
  (e.modLine l (fun x => { x with surgeLimited := b })).markIf ((e.line l).surgeLimited != b) (.line l)
def Ev.setLate (e : Ev) (l : LineId) (b : Bool) : Ev :=
  (e.modLine l (fun x => { x with late := b })).markIf ((e.line l).late != b) (.line l)
def Ev.setQuiet (e : Ev) (l : LineId) (b : Bool) : Ev :=
  (e.modLine l (fun x => { x with quietPending := b })).markIf ((e.line l).quietPending != b) (.line l)

/-- The pressure fault flag and the feedback fault flag, each with a LINE notice when it changes (R96, R110). -/
def Ev.setPressureFault (e : Ev) (l : LineId) (b : Bool) : Ev :=
  (e.modFlow l (fun x => { x with pressureFault := b })).markIf ((e.flow l).pressureFault != b) (.line l)
def Ev.setFeedbackFault (e : Ev) (l : LineId) (b : Bool) : Ev :=
  (e.modValve l (fun x => { x with feedbackFault := b })).markIf ((e.valve l).feedbackFault != b) (.line l)

/-! ### Valves -/

/-- The transmitter is usable: the profile holds feedback_present yes and the feedback fault flag is clear (R109). -/
def State.usable (s : State) (l : LineId) : Bool :=
  (s.line l).profile.isSome && (s.profile l).feedbackPresent == 1 && !(s.valve l).feedbackFault

/-- Distance of two positions. -/
def dist (a b : Nat) : Nat := (a - b) + (b - a)

/-- The near mark (R109): what a usable transmitter's latest good sample is near. -/
def State.nearMark (s : State) (l : LineId) : NearMark :=
  if s.usable l then
    match (s.valve l).sample with
    | some v =>
      if v ≤ (s.profile l).arrivalBand then .nearClosed
      else if 1000 ≤ v + (s.profile l).arrivalBand then .nearOpen else .none
    | none => .none
  else .none

/-- The direction of a stroke class (table of section 6.1). -/
def StrokeClass.dir : StrokeClass → Direction
  | .close => .closeward | .throttle => .closeward | .opening => .openward

/-- The solenoid the part energises on a valve: the pilot of the stroke's direction in SETUP, the solenoid of its
direction in TRAVEL while not paused and in HOLD outside MUST (R120 to R125). That the pilot of SETUP is the same output as the
solenoid of the direction is read from 00_scope.md, which lists no other (DEDUCED, notes/assumptions/47.md). -/
def State.solenoid (s : State) (l : LineId) : Option Direction :=
  match (s.valve l).stroke with
  | none => none
  | some k =>
    match k.phase with
    | .turnaround => none
    | .setup => some k.req.cls.dir
    | .travel => if k.paused then none else some k.req.cls.dir
    | .hold => if s.supply.band == .must then none else some k.req.cls.dir

/-- The charge pump output (R128). -/
def State.chargePump (s : State) : Bool := s.supply.pump

/-- The permit relay of a pump (R174). -/
def State.permitRelay (s : State) (p : PumpId) : Bool := s.shut.permit p

/-! ### The marker's line summary (R135) -/

/-- FLOWING, CLOSING or CLOSED. -/
def LineState.summary (st : LineState) : LineSummary :=
  if st.flowing then .flowing else if st == .closing then .closing else .closed

/-- The summary of each line. -/
def State.summaries (s : State) : Quad LineSummary :=
  { a := (s.line .a).state.summary, b := (s.line .b).state.summary, c := (s.line .c).state.summary,
    d := (s.line .d).state.summary }

end Sys2Proof.Machine
end

