-- ==== Sys2Proof/Machine/Operands.lean ====
section
/-! DEFINITION. Operand forms: the ranges of every request's fields with their field indices, the clamps of a line profile,
the conversion of a 4 to 20 mA current, the tests of a declaration and of a ship terms word. -/

namespace Sys2Proof.Machine

/-! ### Field ranges -/

/-- A field lies in its range. -/
def inRange (v : Nat) (r : Nat × Nat) : Bool := decide (r.1 ≤ v) && decide (v ≤ r.2)

/-- The index of the lowest-numbered field outside its range, the first field having index `i`. -/
def firstOutOfRange : Nat → List (Nat × Nat) → List Nat → Option Nat
  | i, r :: rs, v :: vs => if inRange v r then firstOutOfRange (i + 1) rs vs else some i
  | _, _, _ => none

/-- The ranges of the thirty profile fields (table of section 1.1). -/
def profileRanges : List (Nat × Nat) :=
  [(1, 2), (1, 2), (50, 300), (5, 500), (200, 1400), (500, 4000), (0, 1000), (10, 10000), (50, 500), (50, 1000)] ++
  [(100, 1000), (10, 200), (2, 8), (1000, 120000), (1000, 300000), (0, 30000), (0, 4000), (1000, 60000), (0, 60000),
   (1, 50)] ++
  [(10000, 600000), (10000, 600000), (2000, 120000), (8, 255), (5000, 300000), (100, 20000), (5, 500), (0, 1), (0, 1),
   (5, 50)]

/-- The lowest-numbered profile field out of range (R1). -/
def profileError (p : LineProfile) : Option Nat := firstOutOfRange 1 profileRanges (profileFields p)

/-- The ranges of the eight HPU settings (R130). -/
def hpuRanges : List (Nat × Nat) :=
  [(1000, 25000), (1000, 25000), (1000, 25000), (100, 2000), (0, 5000), (0, 5000), (0, 2000), (1000, 120000)]

/-- The field index of R130 for a bad HPU profile: a setting out of range, then need_kPa not below release_kPa (2), then
must_kPa not below need_kPa (3). -/
def hpuError (h : HpuProfile) : Option Nat :=
  match firstOutOfRange 1 hpuRanges (requestFields (.hpuProfile h)) with
  | some i => some i
  | none => if h.releaseKPa ≤ h.needKPa then some 2 else if h.needKPa ≤ h.mustKPa then some 3 else none

/-- The lowest-numbered GRADE_PROFILE field out of range after the grade (R153). -/
def gradeError (g : GradeOperands) : Option Nat :=
  firstOutOfRange 1 [(700, 1100), (1, 30000), (1, 4000), (0, 1)] [g.density, g.maxRate, g.maxPressure, g.changeoverOk]

/-- The lowest-numbered MANUAL_TERMS field out of range after the grade (R164). -/
def manualError (m : ManualOperands) : Option Nat :=
  firstOutOfRange 1 [(1, 30000), (1, 4000), (0, 1)] [m.maxRate, m.maxPressure, m.changeoverOk]

/-- The tank numbers of a fill order that are read: the first `count` of four (R192). -/
def orderNumbers (o : OrderOperands) : List Nat := [o.pos1, o.pos2, o.pos3, o.pos4].take o.count

/-- The three clamps of R2, in their order. -/
def clampProfile (p : LineProfile) : LineProfile :=
  let p1 := { p with bulkPos := max p.bulkPos p.startPos }
  let p2 := { p1 with toppingPos := min (max p1.toppingPos p1.startPos) p1.bulkPos }
  { p2 with closeMaxMs := max p2.closeMaxMs p2.closeMinMs }

/-! ### Inputs -/

/-- A 4 to 20 mA sample lies within 3.6 to 21 mA (00_scope.md, Field connections). -/
def goodCurrent (microamps : Nat) : Bool :=
  decide (Config.minCurrent ≤ microamps) && decide (microamps ≤ Config.maxCurrent)

/-- floor((I − 4000) × span / 16000) clamped into 0 to span, for a current of I microamps (R96, R109, R127). A current below
4 mA gives 0. -/
def scaled (span microamps : Nat) : Nat := min ((microamps - 4000) * span / 16000) span

/-! ### Declarations (R31) -/

/-- The optional fields of a declaration, read only when their presence bit is set (section 11.3). -/
def changeoverField (d : WireDeclaration) : Option Nat := if d.presence.getLsbD 0 then some d.changeoverMm else none
def maxFillField (d : WireDeclaration) : Option Nat := if d.presence.getLsbD 1 then some d.maxFillLpm else none

/-- The seven tests of R31, for a declaration received from tank `k`. -/
def declarationValid (k : TankId) (d : WireDeclaration) : Bool :=
  decide (d.tankNumber = tankNum k) &&
  (gradeOf d.grade).isSome &&
  inRange d.litresPerMm (1, 2000) &&
  (inRange d.topoffMm (0, Config.maxLevelMm) && inRange d.finalMm (0, Config.maxLevelMm) &&
    inRange d.highMm (0, Config.maxLevelMm)) &&
  (decide (d.topoffMm < d.finalMm) && decide (d.finalMm < d.highMm)) &&
  (match changeoverField d with
    | some c => decide (d.topoffMm ≤ c + 1000) && decide (c ≤ d.topoffMm)
    | none => true) &&
  (match maxFillField d with
    | some f => inRange f (1, 30000)
    | none => true)

/-- The declaration a valid record carries; none when a test of R31 fails. -/
def declarationOf (k : TankId) (d : WireDeclaration) : Option Declaration :=
  if declarationValid k d then
    (gradeOf d.grade).map (fun g =>
      { grade := g, litresPerMm := d.litresPerMm, topoffMm := d.topoffMm, finalMm := d.finalMm, highMm := d.highMm,
        changeoverMm := changeoverField d, maxFillLpm := maxFillField d })
  else none

/-! ### Ship terms words (R156, R195) -/

/-- A ship word as the Terms Unit judges it for the grade of its place: usable, or taken as withheld. -/
def judgeWord (g : GradeId) (w : WireWord) : ShipWord :=
  if w.marking = 0 ∧ w.grade = gradeNum g ∧ inRange w.maxRate (1, 30000) = true ∧
      inRange w.maxPressure (1, 4000) = true then
    .usable { maxRate := w.maxRate, maxPressure := w.maxPressure, changeoverOk := w.flags.getLsbD 0 }
      (w.flags.getLsbD 1)
  else .withheld

/-- The panel reply of the given flags byte and words (section 11.3). -/
def panelReplyOf (flags : Byte) (w1 w2 : WireWord) : PanelReply :=
  { ready := flags.getLsbD 0, shipStop := flags.getLsbD 1, shipEsd := flags.getLsbD 2, termsCapable := flags.getLsbD 3,
    word1 := w1, word2 := w2 }

end Sys2Proof.Machine
end

