-- ==== Sys2Proof/Machine/Arbiter.lean ====
section
/-! DEFINITION. The Stroke Arbiter (chapter 6): the stroke queue, grants, aborts and cancellations, the phases of a stroke,
arrivals and failures, the limit switches, and the pausing of travel by the supply band. -/

namespace Sys2Proof.Machine

/-! ### Channels and the charge pump -/

/-- The two stroke channels. -/
inductive ChanId where
  | c1 | c2
  deriving DecidableEq, Repr

/-- Both channels are free. -/
def State.bothFree (s : State) : Bool := s.chan1.holder.isNone && s.chan2.holder.isNone

/-- Some channel is free. -/
def State.someFree (s : State) : Bool := s.chan1.holder.isNone || s.chan2.holder.isNone

/-- A stroke is in progress on some valve. -/
def State.strokeInProgress (s : State) : Bool := allLines.any (fun l => (s.valve l).stroke.isSome)

/-- Drive the charge pump as R128 lays down, at a band change or at the freeing of a channel. -/
def Ev.updatePump (e : Ev) : Ev :=
  e.modSupply (fun x => { x with pump :=
    match x.band with
    | .release => false
    | .may => x.pump || e.bothFree
    | .need => true
    | .must => true })

/-- Free the channel that the line's stroke holds; its last direction stays (R114, R119). The charge pump is driven at the
freeing itself (R128), before any grant of the same event (DESIGN CHOICE, notes/assumptions/45.md). -/
def Ev.freeChannel (e : Ev) (l : LineId) : Ev :=
  let free (c : Channel) : Channel := if c.holder = some l then { c with holder := none } else c
  Ev.updatePump { e with chan1 := free e.chan1, chan2 := free e.chan2 }

/-! ### Grants (R117 to R119, R129) -/

/-- A class is admitted in a band (table of section 6.5, R129). -/
def admitted : Band → StrokeClass → Bool
  | .release, _ => true
  | .may, _ => true
  | .need, .opening => false
  | .need, _ => true
  | .must, .close => true
  | .must, _ => false

/-- The rank of a class (table of section 6.1). -/
def StrokeClass.rank : StrokeClass → Nat
  | .close => 2 | .throttle => 1 | .opening => 0

/-- A request goes before another, the line number apart: a higher class, or the same class and an earlier request time
(R117). -/
def StrokeReq.before (now : Time) (x y : StrokeReq) : Bool :=
  decide (y.cls.rank < x.cls.rank) ||
    (x.cls.rank == y.cls.rank && decide (elapsed now y.time < elapsed now x.time))

/-- The best pending request among some lines in ascending number, of those `ok` admits (R117). -/
def State.bestOf (s : State) (ok : StrokeReq → Bool) (ls : List LineId) : Option (LineId × StrokeReq) :=
  ls.foldl (fun acc l =>
    match (s.valve l).pending with
    | none => acc
    | some r =>
      if ok r then
        match acc with
        | none => some (l, r)
        | some (l0, r0) => if r.before s.now r0 then some (l, r) else some (l0, r0)
      else acc) none

/-- The request R117 grants next: the best of the pending requests admitted in the current band. -/
def State.nextGrant (s : State) : Option (LineId × StrokeReq) :=
  s.bestOf (fun r => admitted s.supply.band r.cls) allLines

/-- A channel needs no turnaround for a direction: its last direction is none or that direction (R117). -/
def Channel.suits (c : Channel) (d : Direction) : Bool := c.lastDir == none || c.lastDir == some d

/-- The free channel a stroke takes (R117). -/
def State.pickChannel (s : State) (d : Direction) : Option ChanId :=
  match s.chan1.holder.isNone, s.chan2.holder.isNone with
  | true, true => if s.chan2.suits d && !s.chan1.suits d then some .c2 else some .c1
  | true, false => some .c1
  | false, true => some .c2
  | false, false => none

/-- A channel. -/
def State.chan (s : State) : ChanId → Channel
  | .c1 => s.chan1 | .c2 => s.chan2

/-- Change a channel. -/
def Ev.modChan (e : Ev) (c : ChanId) (f : Channel → Channel) : Ev :=
  match c with
  | .c1 => { e with chan1 := f e.chan1 }
  | .c2 => { e with chan2 := f e.chan2 }

/-- The valve is already at the target of a request (table of R118). -/
def State.atTarget (s : State) (l : LineId) (r : StrokeReq) : Bool :=
  let v := s.valve l
  let band := (s.profile l).arrivalBand
  if r.target = 0 then v.closedSwitch
  else if r.target = 1000 then v.openSwitch
  else match r.cls with
    | .opening => decide (dist v.position r.target ≤ band) || decide (r.target ≤ v.position)
    | .close => decide (dist v.position r.target ≤ band) || decide (v.position ≤ r.target)
    | .throttle => decide (dist v.position r.target ≤ band) || decide (v.position ≤ r.target)

/-- A stroke that has just been granted, in TURNAROUND or SETUP (R119). Its travel start is the grant time and its expected
travel 0 until TRAVEL begins; a read record shows them so (DESIGN CHOICE, notes/assumptions/46.md). -/
def newStroke (r : StrokeReq) (phase : StrokePhase) (now : Time) : Stroke :=
  { req := r, phase := phase, since := now, travelStart := now, startPos := 0, expected := 0, used := 0, pauseUsed := 0,
    paused := false, mark := now, blanking := false }

/-- Grant channel `c` to the request `r` of line `l` (R117): arrived at once when the valve is already at its target
(R118), else in TURNAROUND or SETUP (R119). -/
def Ev.grant (e : Ev) (l : LineId) (r : StrokeReq) (c : ChanId) : Ev :=
  let e1 := e.modValve l (fun v => { v with pending := none, commanded := r.target })
  if e.atTarget l r then
    let e2 := e1.modValve l (fun v => { v with lastOutcome := some (.arrivedAtOnce, e.now) })
    ((e2.report (.arrived l r.cls r.target)).report (.ended l r.cls)).updatePump
  else
    let phase : StrokePhase := if (e.chan c).suits r.cls.dir then .setup else .turnaround
    (e1.modValve l (fun v => { v with stroke := some (newStroke r phase e.now) })).modChan c
      (fun x => { x with holder := some l })

/-- Grant free channels to admitted requests, at most `n` grants (R117). -/
def Ev.grantUpTo : Nat → Ev → Ev
  | 0, e => e
  | n + 1, e =>
    match e.nextGrant with
    | none => e
    | some (l, r) =>
      match e.pickChannel r.cls.dir with
      | none => e
      | some c => Ev.grantUpTo n (e.grant l r c)

/-- Consider grants (R117). At most four requests can be pending, and each grant takes one from the queue. -/
def Ev.considerGrants (e : Ev) : Ev := e.grantUpTo 4

/-! ### Ends of strokes (R114, R126) -/

/-- End the stroke in progress: solenoids dropped, follow-on discarded, outcome recorded, channel freed. -/
def Ev.endStroke (e : Ev) (l : LineId) (o : StrokeOutcome) : Ev :=
  (e.modValve l (fun v => { v with stroke := none, followOn := none, lastOutcome := some (o, e.now) })).freeChannel l

/-- Cancel the OPEN and THROTTLE work of a valve without considering grants (R114): a pending request is removed, a stroke
in progress ends, its follow-on is discarded. CLOSE work is left. -/
def Ev.dropWork (e : Ev) (l : LineId) : Ev :=
  let e1 := match (e.valve l).pending with
    | some r => if r.cls = .close then e else e.modValve l (fun v => { v with pending := none })
    | none => e
  match (e.valve l).stroke with
  | some k => if k.req.cls = .close then e1 else e1.endStroke l .ended
  | none => e1

/-- Cancel the OPEN and THROTTLE work of one valve, as the Close Planner asks at close entry (R75, R114). -/
def Ev.cancelWork (e : Ev) (l : LineId) : Ev := (e.dropWork l).considerGrants

/-- Cancel the OPEN and THROTTLE work of all four valves, as the ESD latch asks (R170). -/
def Ev.cancelAllWork (e : Ev) : Ev := (e.eachLine (fun l x => x.dropWork l)).considerGrants

/-- A stroke fails (R126): it ends, its channel is freed, the failure is reported, grants are considered. -/
def Ev.failStroke (e : Ev) (l : LineId) (o : StrokeOutcome) : Ev :=
  match (e.valve l).stroke with
  | some k => ((e.endStroke l o).report (.failed l k.req.cls o)).considerGrants
  | none => e

/-! ### Requests (R112, R113, R115) -/

/-- Put a request into the queue, replacing a pending one, and consider grants (R113, R117). -/
def Ev.enqueue (e : Ev) (l : LineId) (r : StrokeReq) : Ev :=
  (e.modValve l (fun v => { v with pending := some r })).considerGrants

/-- A stroke request reaches the arbiter (table of R113). Its target is limited to the line's bulk_pos (R112). A refusal
changes nothing. -/
def Ev.requestStroke (e : Ev) (l : LineId) (cls : StrokeClass) (target : Nat) (retry : Bool) : Ev :=
  let r : StrokeReq := { cls := cls, target := min target (e.profile l).bulkPos, time := e.now, retry := retry }
  match (e.valve l).stroke, (e.valve l).pending with
  | some k, _ =>
    if k.req.cls = .close then e
    else if cls = .close then (e.endStroke l .ended).enqueue l r
    else e.modValve l (fun v => { v with followOn := some r })
  | none, some p => if p.cls = .close ∧ cls ≠ .close then e else e.enqueue l r
  | none, none => e.enqueue l r

/-! ### Travel (R121 to R123) -/

/-- Travel time used and pause time used of a stroke in TRAVEL at time `now` (R122). -/
def Stroke.usedAt (k : Stroke) (now : Time) : Nat := if k.paused then k.used else k.used + elapsed now k.mark
def Stroke.pauseAt (k : Stroke) (now : Time) : Nat := if k.paused then k.pauseUsed + elapsed now k.mark else k.pauseUsed

/-- The travel timeout: 2 × expected travel + 2000 ms (R121). -/
def Stroke.timeout (k : Stroke) : Nat := 2 * k.expected + 2000

/-- The stroke is in the given phase. -/
def State.strokeIn (s : State) (l : LineId) (p : StrokePhase) : Option Stroke :=
  match (s.valve l).stroke with
  | some k => if k.phase = p then some k else none
  | none => none

/-- Pause or resume a stroke in TRAVEL as the band is MUST or not (R122). -/
def Stroke.pauseTo (k : Stroke) (paused : Bool) (now : Time) : Stroke :=
  if k.phase = .travel ∧ k.paused ≠ paused then
    { k with used := k.usedAt now, pauseUsed := k.pauseAt now, mark := now, paused := paused }
  else k

/-- Pause or resume every stroke in TRAVEL. -/
def Ev.pauseAll (e : Ev) (paused : Bool) : Ev :=
  e.eachLine (fun l x => x.modValve l (fun v => { v with stroke := v.stroke.map (fun k => k.pauseTo paused e.now) }))

/-- Begin TRAVEL (R121): the channel takes the stroke's direction; blanking starts; paused at once in MUST. -/
def Ev.beginTravel (e : Ev) (l : LineId) (k : Stroke) : Ev :=
  let pos := (e.valve l).position
  let k' : Stroke :=
    { k with phase := .travel, since := e.now, travelStart := e.now, startPos := pos,
             expected := ceilDiv (dist k.req.target pos * 1000) ((e.valve l).learnedRate.getD 0), used := 0,
             pauseUsed := 0, paused := e.supply.band == .must, mark := e.now, blanking := true }
  let turn (c : Channel) : Channel := if c.holder = some l then { c with lastDir := some k.req.cls.dir } else c
  let e1 := e.modValve l (fun v => { v with stroke := some k' })
  { e1 with chan1 := turn e1.chan1, chan2 := turn e1.chan2 }

/-- A stroke arrives, reported at `target`, and enters HOLD (R123, R124, R125). -/
def Ev.arrive (e : Ev) (l : LineId) (k : Stroke) (target : Nat) : Ev :=
  (e.modValve l (fun v =>
    { v with stroke := some { k with phase := .hold, since := e.now, used := k.usedAt e.now,
                                     pauseUsed := k.pauseAt e.now, mark := e.now, paused := false },
             lastOutcome := some (.arrived, e.now) })).report (.arrived l k.req.cls target)

/-- Capture the learned rate at an arrival decided by the transmitter (R111). -/
def capturedRate (moved used : Nat) : Nat :=
  if used = 0 then Config.maxRate else min (max (moved * 1000 / used) Config.minRate) Config.maxRate

/-- A target that is neither end of travel. -/
def intermediate (target : Nat) : Bool := target != 0 && target != 1000

/-- A good sample of a usable transmitter: known position (R109), and the arrival of a stroke in TRAVEL to an intermediate
target within arrival_band (R123), with the capture of the learned rate (R111). -/
def Ev.takeSample (e : Ev) (l : LineId) (pos : Nat) : Ev :=
  let e1 := e.modValve l (fun v => { v with position := pos, source := .transmitter })
  match e.strokeIn l .travel with
  | none => e1
  | some k =>
    if intermediate k.req.target && decide (dist pos k.req.target ≤ (e.profile l).arrivalBand) then
      (e1.modValve l (fun v => { v with learnedRate := some (capturedRate (dist pos k.startPos) (k.usedAt e.now)) })).arrive
        l k k.req.target
    else e1

/-! ### Limit switches (R109, R124) -/

/-- The closed limit switch is taken as going active outside blanking: known position 0, the outcome of the table of R124
for a stroke in TRAVEL, and the report to the Close Planner (R86). -/
def Ev.closedActive (e : Ev) (l : LineId) : Ev :=
  let e1 := e.modValve l (fun v => { v with position := 0, source := .arrival })
  let e2 := match e.strokeIn l .travel with
    | none => e1
    | some k =>
      if k.req.target = 0 then e1.arrive l k 0
      else match k.req.cls with
        | .close => e1.arrive l k 0
        | .throttle => e1.failStroke l .failedSeated
        | .opening => e1
  e2.report (.seated l)

/-- The open limit switch is taken as going active outside blanking (R109, R124). -/
def Ev.openActive (e : Ev) (l : LineId) : Ev :=
  let e1 := e.modValve l (fun v => { v with position := 1000, source := .arrival })
  match e.strokeIn l .travel with
  | none => e1
  | some k =>
    match k.req.cls with
    | .opening => if k.req.target = 1000 then e1.arrive l k 1000 else e1.failStroke l .failedOpenLimit
    | .close => e1
    | .throttle => e1

/-- Blanking runs for the valve's stroke (R121). A stroke that ends drops the blanking with it, so its end is never read
(DESIGN CHOICE, notes/assumptions/43.md). -/
def State.blanked (s : State) (l : LineId) : Bool :=
  match (s.valve l).stroke with
  | some k => k.blanking
  | none => false

/-! ### The supply band (R127, R128) -/

/-- The band of an accumulator pressure (table of section 6.5). -/
def bandOf (h : HpuProfile) (pressure : Nat) : Band :=
  if h.releaseKPa ≤ pressure then .release
  else if h.needKPa ≤ pressure then .may
  else if h.mustKPa ≤ pressure then .need
  else .must

/-- The band the present pressure and sensor give; NEED while the sensor is faulted (R127). -/
def Supply.bandDue (x : Supply) : Band := if x.fault then .need else bandOf x.profile x.pressure

/-- Take the band now due. A change queues an HPU notice, pauses or resumes travel and drives the charge pump (R122, R127,
R128). Grants and the Close Planner's retries follow in the caller. -/
def Ev.setBand (e : Ev) : Ev :=
  if e.supply.bandDue = e.supply.band then e
  else
    (((e.modSupply (fun x => { x with band := x.bandDue })).mark .hpu).pauseAll (e.supply.bandDue == .must)).updatePump

end Sys2Proof.Machine
end

