-- ==== Sys2Proof/Machine/CloseMath.lean ====
section
/-! DEFINITION. The close time arithmetic (section 4.3) and the figures of a close plan (R82): numbers only. The Close
Planner and the Close Predictor use the same definitions (R68). -/

namespace Sys2Proof.Machine

/-- The figures of R79 and R80: flow velocity (mm/s), surge headroom (kPa), surge close time and close time (ms), and
whether the headroom floor or the upper clamp was used. -/
structure CloseFigures where
  velocity : Nat
  headroom : Nat
  tSurge : Nat
  tClose : Nat
  limited : Bool
  deriving DecidableEq, Repr

/-- Flow velocity (R79). -/
def flowVelocity (rate boreMm : Nat) : Nat := rate * 21221 / (boreMm * boreMm)

/-- The headroom floor is used: the sensor is faulted, or rating − pressure − margin is 50 or less (R79). -/
def floorUsed (p : LineProfile) (pressure : Nat) (fault : Bool) : Bool :=
  fault || decide (p.ratingKPa ≤ pressure + p.surgeMarginKPa + Config.headroomFloorKPa)

/-- Surge headroom (R79). -/
def surgeHeadroom (p : LineProfile) (pressure : Nat) (fault : Bool) : Nat :=
  if floorUsed p pressure fault then Config.headroomFloorKPa else p.ratingKPa - pressure - p.surgeMarginKPa

/-- Surge close time (R80). -/
def surgeTime (density lengthM velocity headroom : Nat) : Nat :=
  ceilDiv (2 * density * lengthM * velocity) (1000 * headroom)

/-- T_surge clamped into close_min_ms to close_max_ms (R80). -/
def clampClose (p : LineProfile) (t : Nat) : Nat :=
  if t < p.closeMinMs then p.closeMinMs else if p.closeMaxMs < t then p.closeMaxMs else t

/-- The arithmetic of R79 and R80 whole. -/
def closeFigures (p : LineProfile) (density rate pressure : Nat) (fault : Bool) : CloseFigures :=
  let v := flowVelocity rate p.boreMm
  let h := surgeHeadroom p pressure fault
  let t := surgeTime density p.lengthM v h
  { velocity := v, headroom := h, tSurge := t, tClose := clampClose p t,
    limited := floorUsed p pressure fault || decide (p.closeMaxMs < t) }

/-- The pipe period (R81). -/
def pipePeriod (p : LineProfile) : Nat := ceilDiv (2 * p.lengthM * 1000) p.waveSpeed

/-- The density of a line's grade (R79). -/
def State.density (s : State) (l : LineId) : Nat :=
  match s.gradeOfLine l with
  | some g => ((s.grade g).barge.map (fun b => b.density)).getD 0
  | none => 0

/-- The figures of a line as they stand now: latest gate rate, latest pressure sample, sensor fault, density, profile. -/
def State.closeFigures (s : State) (l : LineId) : CloseFigures :=
  Machine.closeFigures (s.profile l) (s.density l) (s.flow l).rate (s.flow l).pressure (s.flow l).pressureFault

/-- The close lead (R68). -/
def State.closeLead (s : State) (l : LineId) : Nat :=
  (s.closeFigures l).tClose + Config.linkAllowanceMs + (s.profile l).guardMs

/-- The stage targets floor(P × (N − k) / N) for k = 1 to N (R82). -/
def stageTargets (position stages : Nat) : List Nat :=
  (List.range stages).map (fun i => position * (stages - (i + 1)) / stages)

/-- The plan of a close made now (R82). When the position is 0 or the closed limit switch is active the stage list is
empty, T_travel is 0 and no dwell is planned (R83; the planned duration of such a plan is DEDUCED,
notes/assumptions/15.md). -/
def State.makePlan (s : State) (l : LineId) : Plan :=
  let p := s.profile l
  let f := s.closeFigures l
  let v := s.valve l
  let r := v.learnedRate.getD 0
  let seated := v.closedSwitch || v.position == 0
  let travel := if seated then 0 else ceilDiv (v.position * 1000) r
  let dwell := if seated then 0 else max (ceilDiv (f.tClose - travel) (p.closeStages - 1)) (pipePeriod p)
  { rate := (s.flow l).rate, pressure := (s.flow l).pressure, sensorFault := (s.flow l).pressureFault,
    position := v.position, learnedRate := r, velocity := f.velocity, headroom := f.headroom, tSurge := f.tSurge,
    tClose := f.tClose, tTravel := travel, pipePeriod := pipePeriod p, dwell := dwell,
    planned := travel + (p.closeStages - 1) * dwell,
    targets := if seated then [] else stageTargets v.position p.closeStages }

end Sys2Proof.Machine
end

