-- ==== Sys2Proof/Machine/Predictor.lean ====
section
/-! DEFINITION. The Close Predictor's figures and settle state (chapter 3): the rise pair, the pair in use, the projected
level, the time to final, and what each event does to the settle state. The close start itself is the Line Sequencer's
(Machine/Sequencer.lean). -/

namespace Sys2Proof.Machine

/-! ### Rise pairs (R55, R56) -/

/-- Δmm, Δt and the ms-per-mm figure of a complete pair (R56). -/
def Pair.dmm (p : Pair) : Nat := p.latest.level - p.prev.level
def Pair.dt (p : Pair) : Nat := elapsed p.latest.time p.prev.time
def Pair.msPerMm (p : Pair) : Nat := p.dt / p.dmm

/-- The tank's rise pair when both halves are present. -/
def Tank.pair (x : Tank) : Option Pair :=
  match x.pairPrev, x.pairLatest with
  | some p, some q => some { prev := p, latest := q }
  | _, _ => none

/-- The rise pair of the line's ACTIVE tank when complete. -/
def State.activePair (s : State) (l : LineId) : Option Pair := (s.activeTank l).bind (fun k => (s.tank k).pair)

/-- A reading above the high water, or any when there is none, advances high water and pair (R55). -/
def Tank.advances (x : Tank) (level : Nat) : Bool :=
  match x.highWater with
  | none => true
  | some h => decide (h < level)

/-! ### Pair in use and projection (R59, R60, R67) -/

/-- The pair in use (table of R59). -/
def State.pairInUse (s : State) (l : LineId) : Option Pair :=
  match (s.pred l).settle with
  | .clear => s.activePair l
  | .travel => match (s.pred l).held with
    | some p => some p
    | none => s.activePair l
  | .settling => match (s.pred l).held with
    | some p => some p
    | none => s.activePair l
  | .carry => (s.pred l).held

/-- The pair source shown to the console is HELD (table of R59). -/
def Predictor.sourceHeld (x : Predictor) : Bool :=
  match x.settle with
  | .clear => false
  | .travel => x.held.isSome
  | .settling => x.held.isSome
  | .carry => true

/-- The extra of a projection (R60). -/
def extraMm (p : Pair) (ms : Nat) : Nat := min Config.projectionCeilingMm (ms * p.dmm / p.dt)

/-- The projected level of the ACTIVE tank at the time of the event (R60). -/
def State.projected (s : State) (l : LineId) : Option Nat :=
  ((s.activeTank l).bind (fun k => (s.tank k).latest)).map (fun h =>
    match s.pairInUse l with
    | none => h.level
    | some p => h.level + extraMm p (elapsed s.now h.time))

/-- A level of the ACTIVE tank, the latest or the projected, is at or above a mark (R13, R48). -/
def State.levelReaches (s : State) (l : LineId) (mark : Nat) : Bool :=
  match (s.activeTank l).bind (fun k => (s.tank k).latest), s.projected l with
  | some h, some v => decide (mark ≤ h.level) || decide (mark ≤ v)
  | _, _ => false

/-- The time to final for a final mark (R67). -/
def State.timeToFinal (s : State) (l : LineId) (finalMm : Nat) : Option Nat :=
  match s.projected l, s.pairInUse l with
  | some v, some p => if v < finalMm then some (min ((finalMm - v) * p.dt / p.dmm) Config.timeToFinalCeiling) else some 0
  | _, _ => none

/-! ### Settle (R57, R61 to R66) -/

/-- Clear the record (R57, R65). -/
def Ev.clearPred (e : Ev) (l : LineId) : Ev := e.modPred l (fun _ => Predictor.init)

/-- The settle ends with the tank's pair in use; the evaluation stays (R63, R64, R65). -/
def Predictor.settled (x : Predictor) : Predictor :=
  { x with settle := .clear, held := none, settleStart := none, deadline := none, lastFigure := none }

/-- A throttle is requested for the line (table of R61); `pair` is the ACTIVE tank's rise pair. -/
def Predictor.throttled (x : Predictor) (pair : Option Pair) : Predictor :=
  match x.settle with
  | .clear => { x with settle := .travel, held := pair, settleStart := none, deadline := none, lastFigure := none }
  | .travel => x
  | .settling => { x with settle := .travel, settleStart := none, deadline := none, lastFigure := none }
  | .carry => { x with settle := .travel, settleStart := none, deadline := none, lastFigure := none }

/-- The line is settling: TRAVEL or SETTLING (R66). -/
def Predictor.settling (x : Predictor) : Bool := x.settle == .travel || x.settle == .settling

/-- A pair is post-throttle: both halves later than the settle start (R63). -/
def Pair.postThrottle (p : Pair) (start : Time) : Bool := later p.prev.time start && later p.latest.time start

/-- Two post-throttle figures agree: the difference times 8 is at most the larger (R63). -/
def figuresAgree (f g : Nat) : Bool := decide (8 * dist f g ≤ max f g)

/-- An advance of the ACTIVE tank's high water that leaves it with `pair` (R63; in CARRY, R64). -/
def Predictor.advanced (x : Predictor) (pair : Option Pair) : Predictor :=
  match x.settle, pair, x.settleStart with
  | .settling, some p, some t =>
    if p.postThrottle t then
      match x.lastFigure with
      | none => { x with lastFigure := some p.msPerMm }
      | some f => if figuresAgree f p.msPerMm then x.settled else { x with lastFigure := some p.msPerMm }
    else x
  | .carry, some p, some t => if p.postThrottle t then x.settled else x
  | _, _, _ => x

/-- The settle deadline expires in SETTLING (R64). -/
def Predictor.deadlineTaken (x : Predictor) (pair : Option Pair) : Predictor :=
  match x.settle with
  | .settling =>
    match pair, x.settleStart with
    | some p, some t =>
      if p.postThrottle t then x.settled else { x with settle := .carry, deadline := none, lastFigure := none }
    | _, _ => { x with settle := .carry, deadline := none, lastFigure := none }
  | .clear => x
  | .travel => x
  | .carry => x

/-- The valve arrives at a target (R62): in TRAVEL, at the line's throttle position, the settle begins. -/
def Ev.settleArrival (e : Ev) (l : LineId) (target : Nat) : Ev :=
  if (e.pred l).settle = .travel ∧ target = (e.line l).throttle then
    e.modPred l (fun x =>
      { x with settle := .settling, settleStart := some e.now, deadline := some (after e.now (e.profile l).settleMs) })
  else e

end Sys2Proof.Machine
end

