-- ==== Sys2Proof/Machine/Sequencer.lean ====
section
/-! DEFINITION. The Line Sequencer's operations and the Tank Table's changeover: the trip record, entry into a close, trips,
the end of a close, STARTING, PROVING, the marks of BULK, TOPPING with the close-start test, CHANGEOVER. -/

namespace Sys2Proof.Machine

/-! ### Trips and closes (R17 to R20, R51, R74, R75) -/

/-- Write the line's trip record from the state as it stands (R19), with a TRIP notice. -/
def Ev.writeTrip (e : Ev) (l : LineId) (cause : TripCause) : Ev :=
  let rec' : TripRecord :=
    { cause := cause, time := e.now, stateAtTrip := (e.line l).state, pressure := (e.flow l).pressure,
      rate := (e.flow l).rate, delivered := (e.line l).delivered,
      activeTank := (e.activeTank l).map (fun k => (k, (e.tank k).latest.map (fun h => h.level))),
      esdCauses := if cause = .esd then some e.shut.causes.list else none }
  (e.modLine l (fun x => { x with trip := some rec' })).mark (.trip l)

/-- A changeover that ends other than by success (R51): the whole pending volume goes to the old tank, the window stops, the
incoming tank's baseline and watch record go; for reason HOLD the incoming tank becomes QUEUED at once (R17). -/
def Ev.changeoverExit (e : Ev) (l : LineId) (reason : CloseReason) : Ev :=
  let e1 := match e.activeTank l with
    | some k => e.credit k (e.line l).pendingVol
    | none => e
  let e2 := (e1.modLine l (fun x => { x with pendingVol := 0, changeoverStart := none })).modFlow l
    (fun x => { x with watchIncoming := none })
  match e.incomingTank l with
  | some k =>
    let e3 := e2.modTank k (fun x => { x with changeoverBase := none })
    if reason = .hold then e3.setUse k .queued else e3
  | none => e2

/-- A fresh close record (R74). -/
def CloseRec.fresh (now : Time) : CloseRec :=
  { entry := now, phase := .runDown, runDownStart := none, runDownEnd := none, plan := none, stage := none,
    dwellEnd := none, dwellOver := false, strokeEnded := false, retryUsed := false }

/-- A line enters CLOSING (R17) and the close is handed to the Close Planner (R75): trip record for TRIP and ESD, end of a
changeover, throttle position 0, predictor cleared (R57), counts reset (R97, R99), OPEN and THROTTLE work cancelled, the
pump permit evaluated. Whether the close waits for a run-down is decided once the event has been taken (R76). -/
def Ev.closeEntry (e : Ev) (l : LineId) (reason : CloseReason) (hold : Option HoldReason) (cause : Option TripCause) :
    Ev :=
  let e1 := match cause with
    | some c => e.writeTrip l c
    | none => e
  let e2 := if (e.line l).state = .changeover then e1.changeoverExit l reason else e1
  let e3 := (e2.modLine l (fun x =>
    { x with state := .closing, closeReason := some reason, holdReason := hold, tankEnd := none, throttle := 0,
             provingStart := none, changeoverStart := none })).mark (.line l)
  let e4 := (e3.clearPred l).modFlow l (fun x =>
    { x with rateCount := 0, pressCount := 0,
             overCount := if reason = .trip ∨ reason = .esd then 0 else x.overCount })
  let e5 := ((e4.setClose l (some (CloseRec.fresh e.now))).cancelWork l).evalPermitOf l
  { e5 with undecided := e5.undecided ++ [l] }

/-- A running close takes reason TRIP or ESD (R88, R89): the trip record is written anew, the plan goes on. A change of the
close reason queues a LINE notice (R92). -/
def Ev.retripClosing (e : Ev) (l : LineId) (reason : CloseReason) (cause : TripCause) : Ev :=
  (((e.writeTrip l cause).modLine l (fun x => { x with closeReason := some reason, holdReason := none })).modFlow l
    (fun x => { x with overCount := 0 })).markIf ((e.line l).closeReason != some reason) (.line l)

/-- A trip cause reaches a line (R18). FOUND_OPEN, which R3 raises in other states, does not come this way. -/
def Ev.trip (e : Ev) (l : LineId) (cause : TripCause) : Ev :=
  if e.flowing l then e.closeEntry l .trip none (some cause)
  else if (e.line l).state = .closing then e.retripClosing l .trip cause
  else if (e.line l).state = .idle ∨ (e.line l).state = .held then
    ((e.writeTrip l cause).modLine l (fun x => { x with holdReason := none })).setState l .tripped
  else e

/-- A trip cause reaches the line whose list holds a tank. -/
def Ev.tripHolder (e : Ev) (k : TankId) (cause : TripCause) : Ev :=
  match e.listLine k with
  | some l => e.trip l cause
  | none => e

/-- The line leaves CLOSING: close record and watch records discarded (R74, R101), close reason removed (R20). -/
def Ev.dropClose (e : Ev) (l : LineId) : Ev :=
  ((e.setClose l none).modLine l (fun x => { x with closeReason := none })).modFlow l
    (fun x => { x with watchActive := none, watchIncoming := none, overCount := 0 })

/-- A close ends with the closed limit switch confirmed: the end state of R20 by the close reason. -/
def Ev.closeEnd (e : Ev) (l : LineId) : Ev :=
  let e1 := e.dropClose l
  match (e.line l).closeReason with
  | some .ending => ((e1.settleComplete l).modLine l (fun x => { x with holdReason := none })).setState l .complete
  | some .tankEnd =>
    (match e.activeTank l with
      | some k => e1.setUse k .done
      | none => e1).setState l .held
  | some .hold =>
    (match e.activeTank l with
      | some k => e1.setUse k .queued
      | none => e1).setState l .held
  | some .trip => (e1.modLine l (fun x => { x with holdReason := none })).setState l .tripped
  | some .esd => (e1.modLine l (fun x => { x with holdReason := none })).setState l .tripped
  | none => e1

/-! ### STARTING and PROVING (R6, R8, R9) -/

/-- Entry to STARTING from START or RESUME (R6), with what other blocks do at that entry (R27, R94, R99, R101). -/
def Ev.enterStarting (e : Ev) (l : LineId) : Ev :=
  let e1 := match (e.list l).head? with
    | some k => (e.setUse k .active).modLine l (fun x =>
        { x with fedSet := if x.fedSet.contains k then x.fedSet else x.fedSet ++ [k] })
    | none => e
  let e2 := ((e1.setSurge l false).setLate l false).modFlow l (fun x =>
    { x with rateCount := 0, pressCount := 0, watchActive := none, watchIncoming := none,
             meterFactor := some (e.profile l).meterK })
  let e3 := (e2.modLine l (fun x =>
    { x with throttle := (e.profile l).startPos, holdReason := none, baseline := none })).setState l .starting
  e3.requestStroke l .opening (e.profile l).startPos false

/-- Entry to PROVING on arrival at start_pos (R8, R9): baseline, proving window, watch record (R101). -/
def Ev.enterProving (e : Ev) (l : LineId) : Ev :=
  let level := ((e.activeTank l).bind (fun k => (e.tank k).latest)).map (fun h => h.level)
  ((e.modLine l (fun x =>
    { x with baseline := some { level := level, litres := x.delivered }, provingStart := some e.now })).modFlow l
    (fun x => { x with watchActive := some { base := level, peak := level, peakTime := e.now } })).setState l .proving

/-! ### Throttles (R14, R16, R61, R99) -/

/-- Request a THROTTLE to a lower throttle position: the position is set (R16), both cap counts go to 0 (R99), the predictor
takes the throttle (R61), the stroke is requested. -/
def Ev.throttleTo (e : Ev) (l : LineId) (pos : Nat) : Ev :=
  let e1 := (e.modLine l (fun x => { x with throttle := pos })).modFlow l
    (fun x => { x with rateCount := 0, pressCount := 0 })
  let e2 := match (e.line l).state with
    | .bulk => e1.modPred l (fun x => x.throttled (e.activePair l))
    | .topping => e1.modPred l (fun x => x.throttled (e.activePair l))
    | .changeover => e1.modPred l (fun x => x.throttled (e.activePair l))
    | .undeclared => e1
    | .idle => e1
    | .starting => e1
    | .proving => e1
    | .closing => e1
    | .held => e1
    | .tripped => e1
    | .complete => e1
  e2.requestStroke l .throttle pos false

/-! ### TOPPING and the close start (R14, R69, R70) -/

/-- The halves of the pair in use as the console sees them (R72, R73). -/
def State.pairHalves (s : State) (l : LineId) : Option Half × Option Half :=
  if (s.pred l).sourceHeld then ((s.pred l).held.map (fun p => p.prev), (s.pred l).held.map (fun p => p.latest))
  else
    match s.activeTank l with
    | some k => ((s.tank k).pairPrev, (s.tank k).pairLatest)
    | none => (none, none)

/-- What an evaluation made now for a final mark records (R67 to R69, R73). -/
def State.evaluationNow (s : State) (l : LineId) (finalMm : Nat) : Evaluation :=
  { time := s.now, sourceHeld := (s.pred l).sourceHeld, prevHalf := (s.pairHalves l).1,
    latestHalf := (s.pairHalves l).2, msPerMm := (s.pairInUse l).map Pair.msPerMm, settle := (s.pred l).settle,
    settleStart := (s.pred l).settleStart, deadline := (s.pred l).deadline, projected := s.projected l,
    timeToFinal := s.timeToFinal l finalMm, lead := s.closeLead l }

/-- The time to final of an evaluation is at most its close lead (R69, condition 3). -/
def Evaluation.leads (x : Evaluation) : Bool :=
  match x.timeToFinal with
  | some t => decide (t ≤ x.lead)
  | none => false

/-- The close-start test in TOPPING (R69): the evaluation is recorded; on any condition the close starts, with LATE set on a
backstop, and reason TANK_END or END by the tank end (R70). -/
def Ev.closeStartTest (e : Ev) (l : LineId) : Ev :=
  match (e.activeTank l).bind (fun k => (e.tank k).decl) with
  | none => e
  | some d =>
    let v := e.evaluationNow l d.finalMm
    let backstop := e.levelReaches l d.finalMm
    let e1 := e.modPred l (fun x => { x with evaluation := some v })
    if backstop || v.leads then
      let e2 := if backstop then e1.setLate l true else e1
      if (e.line l).tankEnd = some true then e2.closeEntry l .tankEnd (some .tankEnd) none
      else e2.closeEntry l .ending none none
    else e1

/-- Entry to TOPPING (R14): the tank end, the throttle to topping_pos when above it, the close-start test at once. -/
def Ev.enterTopping (e : Ev) (l : LineId) : Ev :=
  let e1 := (e.modLine l (fun x => { x with tankEnd := some (decide (1 < (e.list l).length)) })).setState l .topping
  let e2 := if (e.profile l).toppingPos < (e.line l).throttle then e1.throttleTo l (e.profile l).toppingPos else e1
  e2.closeStartTest l

/-! ### CHANGEOVER (R15, R43 to R48) -/

/-- Entry to CHANGEOVER with successor `k` (R43, R44, R15). -/
def Ev.enterChangeover (e : Ev) (l : LineId) (k : TankId) : Ev :=
  let base := (e.tank k).latest.map (fun h => h.level)
  let e1 := (e.setUse k .incoming).modTank k (fun x =>
    { x with changeoverBase := base, highWater := base, pairPrev := none, pairLatest := none })
  let e2 := (e1.modLine l (fun x => { x with pendingVol := 0, changeoverStart := some e.now })).modFlow l
    (fun x => { x with watchIncoming := some { base := base, peak := base, peakTime := e.now } })
  let e3 := e2.setState l .changeover
  if (e.profile l).toppingPos < (e.line l).throttle then e3.throttleTo l (e.profile l).toppingPos else e3

/-- The successor of the ACTIVE tank: the second tank of the list. -/
def State.successor (s : State) (l : LineId) : Option TankId := ((s.list l).drop 1).head?

/-- CHANGEOVER_OK is agreed for the line's grade (R161). -/
def State.changeoverAgreed (s : State) (l : LineId) : Bool :=
  match s.gradeOfLine l with
  | some g => match (s.grade g).agreed with
    | some f => f.changeoverOk
    | none => false
  | none => false

/-- The successor a line may change over to at a mark: LIVE, with CHANGEOVER_OK agreed (R13). -/
def State.changeoverTarget (s : State) (l : LineId) : Option TankId :=
  match s.successor l with
  | some k => if s.changeoverAgreed l && (s.tank k).health == .live then some k else none
  | none => none

/-- Evaluate the marks of the ACTIVE tank of a line in BULK (R13). -/
def Ev.evaluateMarks (e : Ev) (l : LineId) : Ev :=
  match (e.activeTank l).bind (fun k => (e.tank k).decl) with
  | none => e
  | some d =>
    match e.changeoverTarget l with
    | some k => if e.levelReaches l (d.changeoverMm.getD d.topoffMm) then e.enterChangeover l k else e
    | none => if e.levelReaches l d.topoffMm then e.enterTopping l else e

/-- The overrun test of a line in CHANGEOVER (R48). -/
def Ev.overrunTest (e : Ev) (l : LineId) : Ev :=
  match (e.activeTank l).bind (fun k => (e.tank k).decl) with
  | none => e
  | some d => if e.levelReaches l d.finalMm then e.trip l .changeoverOverrun else e

/-- The incoming rise holds (R45, condition 1) while the incoming tank is LIVE: one gone STALE holds the rise back until its
readings return (R50; DEDUCED for a level that already stood past the mark, notes/assumptions/42.md). -/
def State.incomingRise (s : State) (l : LineId) : Bool :=
  match s.incomingTank l with
  | none => false
  | some k =>
    match (s.tank k).changeoverBase, (s.tank k).latest with
    | some b, some h => (s.tank k).health == .live && decide (b + (s.profile l).proveMm ≤ h.level)
    | _, _ => false

/-- The old-tank stop confirmation holds (R45, condition 2). -/
def State.stopConfirmed (s : State) (l : LineId) : Bool :=
  match s.activeTank l with
  | none => false
  | some k =>
    match (s.tank k).pairLatest with
    | some h => (s.tank k).health == .live && decide ((s.profile l).stopConfirmMs ≤ elapsed s.now h.time)
    | none => false

/-- The share of the pending volume that goes to the incoming tank (R46). -/
def State.incomingShare (s : State) (l : LineId) (k : TankId) : Nat :=
  match (s.tank k).changeoverBase, (s.tank k).latest, (s.tank k).decl with
  | some b, some h, some d => min (s.line l).pendingVol ((h.level - b) * d.litresPerMm)
  | _, _, _ => 0

/-- Changeover success from tank `old` to tank `new` (R46, R47, R65): the pending volume divided, the list and fed set moved
on, the proving baseline replaced, the line back in BULK, the marks of the new ACTIVE tank evaluated at once. -/
def Ev.changeoverSuccess (e : Ev) (l : LineId) (old new : TankId) : Ev :=
  let share := e.incomingShare l new
  let base := (e.tank new).changeoverBase
  let e1 := (e.credit new share).credit old ((e.line l).pendingVol - share)
  let e2 := (e1.setUse old .done).setList l ((e.list l).drop 1)
  let e3 := (e2.setUse new .active).modTank new (fun x => { x with changeoverBase := none })
  let e4 := e3.modLine l (fun x =>
    { x with pendingVol := 0, changeoverStart := none, throttle := (e.profile l).bulkPos,
             fedSet := if x.fedSet.contains new then x.fedSet else x.fedSet ++ [new],
             baseline := some { level := base, litres := x.delivered - share } })
  let e5 := (e4.modFlow l (fun x => { x with watchActive := x.watchIncoming, watchIncoming := none })).clearPred l
  ((e5.requestStroke l .opening (e.profile l).bulkPos false).setState l .bulk).evaluateMarks l

/-- The success test of a line in CHANGEOVER (R45). -/
def Ev.successTest (e : Ev) (l : LineId) : Ev :=
  match e.activeTank l, e.incomingTank l with
  | some old, some new => if e.incomingRise l && e.stopConfirmed l then e.changeoverSuccess l old new else e
  | _, _ => e

/-! ### The proving test (R10, R11) -/

/-- The balance figure of a reading against the proving baseline (R10). -/
def provingBalance (delivered baseLitres level baseLevel litresPerMm : Nat) : Int :=
  (delivered : Int) - baseLitres - ((level : Int) - baseLevel) * litresPerMm

/-- A reading of the ACTIVE tank accepted in PROVING: it becomes the baseline level when that is absent (R9), else it is
tested (R10) and may take the line to BULK (R11) and on by its marks (R13). -/
def Ev.provingTest (e : Ev) (l : LineId) (k : TankId) (level : Nat) : Ev :=
  match (e.line l).baseline with
  | none => e
  | some b =>
    match b.level with
    | none => e.modLine l (fun x => { x with baseline := some { b with level := some level } })
    | some b0 =>
      let lpm := ((e.tank k).decl.map (fun d => d.litresPerMm)).getD 0
      let fig := provingBalance (e.line l).delivered b.litres level b0 lpm
      if b0 + (e.profile l).proveMm ≤ level ∧ fig.natAbs ≤ (e.profile l).balanceTolL then
        let e1 := e.requestStroke l .opening (e.profile l).bulkPos false
        let e2 := e1.modLine l (fun x => { x with throttle := (e.profile l).bulkPos, provingStart := none })
        (e2.setState l .bulk).evaluateMarks l
      else e

end Sys2Proof.Machine
end

