-- ==== Sys2Proof/Machine/Shutdown.lean ====
section
/-! DEFINITION. The Shutdown Unit's raising of an ESD cause and its effects on permits, strokes and lines (R170, R171). -/

namespace Sys2Proof.Machine

/-- The ESD reaches a line (R170, step 3): a flowing line closes with reason ESD, a closing line takes reason ESD unless it
has it, the others are not changed. -/
def Ev.esdToLine (e : Ev) (l : LineId) : Ev :=
  if e.flowing l then e.closeEntry l .esd none (some .esd)
  else if (e.line l).state = .closing ∧ (e.line l).closeReason ≠ some .esd then e.retripClosing l .esd .esd
  else e

/-- Raise a cause (R170, R171). A cause already in the set changes nothing. -/
def Ev.raiseCause (e : Ev) (c : EsdCause) : Ev :=
  if (e.shut.causes.get c).isSome then e
  else
    let e1 := e.modShut (fun x => { x with causes := x.causes.add c e.now })
    let e2 := { e1 with restartEsd := e1.restartEsd || e1.restart != RestartWait.idle }
    let e3 := ((e2.evalPermit .p1).evalPermit .p2).cancelAllWork
    (e3.eachLine (fun l x => x.esdToLine l)).mark .esd

/-- Raise VALVE for an abandoned close (R91, R171): the line joins the valve list, with an ESD notice when it was not in
it. -/
def Ev.raiseValve (e : Ev) (l : LineId) : Ev :=
  let e1 := if e.shut.valveList.contains l then e
    else (e.modShut (fun x => { x with valveList := x.valveList ++ [l] })).mark .esd
  e1.raiseCause .valve

end Sys2Proof.Machine
end

