-- ==== Sys2Proof/Machine/Planner.lean ====
section
/-! DEFINITION. The Close Planner (chapter 4): the run-down decision, the making of the plan, the stages, the retry and the
abandonment; the handing of the arbiter's reports to the blocks that asked (R116); the work at the end of an event. -/

namespace Sys2Proof.Machine

/-! ### Stages (R83, R85) -/

/-- The target of stage `k`, counted from 1. -/
def Plan.target (p : Plan) (k : Nat) : Nat := p.targets.getD (k - 1) 0

/-- The plan of a line's close. -/
def State.planOf (s : State) (l : LineId) : Option Plan := (s.close l).bind (fun c => c.plan)

/-- Stage `k` comes up (R85): a stage whose target equals the one before it is passed and its dwell begins (R83); else its
CLOSE stroke is requested. -/
def Ev.requestStage (e : Ev) (l : LineId) (k : Nat) : Ev :=
  match e.planOf l with
  | none => e
  | some p =>
    if 1 < k ∧ p.target k = p.target (k - 1) then
      e.modClose l (fun c =>
        { c with phase := .dwell, stage := some k, dwellEnd := some (after e.now p.dwell), dwellOver := false,
                 strokeEnded := true })
    else
      (e.modClose l (fun c => { c with phase := .stage, stage := some k, dwellEnd := none })).requestStroke l .close
        (p.target k) false

/-- Make the plan (R82): figures fixed, SURGE_LIMITED set or cleared (R80), then the close ends on an active closed limit
switch, is seated from position 0 (R83), or begins stage 1 (R85). A seating close has no stage, so its current stage stays
absent in RETRY_WAIT too (DESIGN CHOICE, notes/assumptions/44.md). -/
def Ev.startPlan (e : Ev) (l : LineId) : Ev :=
  let e1 := (e.modClose l (fun c => { c with plan := some (e.makePlan l) })).setSurge l (e.closeFigures l).limited
  if (e.valve l).closedSwitch then e1.closeEnd l
  else if (e.valve l).position = 0 then
    (e1.modClose l (fun c => { c with phase := .seating, stage := none })).requestStroke l .close 0 false
  else e1.requestStage l 1

/-- The run-down ends (R77) and the plan is made. -/
def Ev.endRunDown (e : Ev) (l : LineId) (cause : RunDownEnd) : Ev :=
  (e.modClose l (fun c => { c with runDownEnd := some cause })).startPlan l

/-- The run-down's pressure test (R77): the latest sample is at or below run_down_kPa with the sensor not faulted. -/
def State.runDownPressure (s : State) (l : LineId) : Bool :=
  !(s.flow l).pressureFault && decide ((s.flow l).pressure ≤ (s.profile l).runDownKPa)

/-- Once the event that caused a close has been taken, the close waits for a run-down when its permit stands withdrawn, and
is planned at once otherwise (R76, R77). -/
def Ev.decideClose (e : Ev) (l : LineId) : Ev :=
  if (e.line l).state = .closing ∧ (e.close l).isSome then
    if e.permitOf l then e.startPlan l
    else
      let e1 := e.modClose l (fun c => { c with runDownStart := some c.entry })
      if e.runDownPressure l then e1.endRunDown l .pressure
      else if (e.profile l).runDownMs = 0 then e1.endRunDown l .time
      else e1
  else e

/-! ### Reports of CLOSE strokes (R86, R90, R91) -/

/-- The line is closing in the given phase. -/
def State.closePhase (s : State) (l : LineId) : Option ClosePhase :=
  if (s.line l).state = .closing then (s.close l).map (fun c => c.phase) else none

/-- A CLOSE stroke arrived (R86): at 0 the close ends; at an intermediate target the dwell begins. -/
def Ev.plannerArrived (e : Ev) (l : LineId) (target : Nat) : Ev :=
  if e.closePhase l = some .stage ∨ e.closePhase l = some .seating then
    if target = 0 then e.closeEnd l
    else
      e.modClose l (fun c =>
        { c with phase := .dwell, dwellEnd := some (after e.now ((e.planOf l).map (fun p => p.dwell) |>.getD 0)),
                 dwellOver := false, strokeEnded := false })
  else e

/-- The next stage is requested when the dwell has run out and the last stroke made has ended its hold (R85). -/
def Ev.nextStage (e : Ev) (l : LineId) : Ev :=
  match e.close l with
  | some c => if c.phase = .dwell ∧ c.dwellOver ∧ c.strokeEnded then e.requestStage l (c.stage.getD 0 + 1) else e
  | none => e

/-- The hold of a CLOSE stroke ended (R85). -/
def Ev.plannerEnded (e : Ev) (l : LineId) : Ev :=
  if e.closePhase l = some .dwell then (e.modClose l (fun c => { c with strokeEnded := true })).nextStage l else e

/-- Request the failed stage, or the seating stroke, again (R90). -/
def Ev.retryStage (e : Ev) (l : LineId) : Ev :=
  match e.close l with
  | none => e
  | some c =>
    match c.stage with
    | some k =>
      (e.modClose l (fun x => { x with phase := .stage })).requestStroke l .close
        (((e.planOf l).map (fun p => p.target k)).getD 0) true
    | none => (e.modClose l (fun x => { x with phase := .seating })).requestStroke l .close 0 true

/-- The close is abandoned (R91): CLOSE_FAILED, the line TRIPPED with its valve not confirmed closed, then VALVE raised. -/
def Ev.abandonClose (e : Ev) (l : LineId) : Ev :=
  (((e.retripClosing l .trip .closeFailed).dropClose l).setState l .tripped).raiseValve l

/-- A CLOSE stroke failed (R90, R91). -/
def Ev.plannerFailed (e : Ev) (l : LineId) : Ev :=
  if e.closePhase l = some .stage ∨ e.closePhase l = some .seating then
    if ((e.close l).map (fun c => c.retryUsed)).getD false then e.abandonClose l
    else
      let e1 := e.modClose l (fun c => { c with retryUsed := true, phase := .retryWait })
      if e.supply.band = .must then e1 else e1.retryStage l
  else e

/-- The closed limit switch went active: in DWELL and RETRY_WAIT the close ends (R86). -/
def Ev.plannerSeated (e : Ev) (l : LineId) : Ev :=
  if e.closePhase l = some .dwell ∨ e.closePhase l = some .retryWait then e.closeEnd l else e

/-- A close that waits for the band requests its retry (R90). -/
def Ev.retryWaiting (e : Ev) (l : LineId) : Ev :=
  if e.closePhase l = some .retryWait then e.retryStage l else e

/-- The band is computed afresh (R127, R130): a change pauses or resumes travel and drives the pump, a change away from
MUST lets the waiting retries go (R90), then grants are considered (R117, R129). The retries are requested line by line, and
grants are considered at each of those requests, so the first retry's request can let a waiting THROTTLE or OPEN take the other
channel before a second retry is requested (DESIGN CHOICE, notes/assumptions/9.md). -/
def Ev.bandEvent (e : Ev) : Ev :=
  let e1 := e.setBand
  if e1.supply.band = e.supply.band then e1
  else
    let e2 := if e.supply.band = .must then e1.eachLine (fun l x => x.retryWaiting l) else e1
    e2.considerGrants

/-! ### Reports (R116) and the end of an event -/

/-- Hand one report of the arbiter to its receiver (table of R116). -/
def Ev.handleReport (e : Ev) : Report → Ev
  | .arrived l .close target => e.plannerArrived l target
  | .arrived l .throttle target => e.settleArrival l target
  | .arrived l .opening target =>
    if (e.line l).state = .starting then e.enterProving l else e.settleArrival l target
  | .failed l .close _ => e.plannerFailed l
  | .failed l .throttle _ => if e.flowing l then e.trip l .strokeFailed else e
  | .failed l .opening _ => if e.flowing l then e.trip l .strokeFailed else e
  | .ended l .close =>
    if (e.line l).state = .starting then e.requestStroke l .opening (e.profile l).startPos false
    else e.plannerEnded l
  | .ended _ .throttle => e
  | .ended _ .opening => e
  | .seated l => e.plannerSeated l

/-- Hand on the reports of an event and then decide its closes, until neither is left (notes/assumptions/9.md). -/
def Ev.drainUpTo : Nat → Ev → Ev
  | 0, e => e
  | n + 1, e =>
    match e.reports, e.undecided with
    | r :: rs, _ => Ev.drainUpTo n (Ev.handleReport { e with reports := rs } r)
    | [], l :: ls => Ev.drainUpTo n (Ev.decideClose { e with undecided := ls } l)
    | [], [] => e

/-- The bound on the work of one event: an event gives each line a few reports and one close. -/
def Ev.drain (e : Ev) : Ev := e.drainUpTo 64

end Sys2Proof.Machine
end

