-- ==== Sys2Proof/Machine/Console.lean ====
section
/-! DEFINITION. The Console Port (chapter 10): the byte receiver, the request buffers and the taking of requests, the
overrun slot, the content of notices and their coalescing, the transmit arbiter, and the end of an event. -/

namespace Sys2Proof.Machine

/-! ### The receiver (R178) -/

/-- What a byte completes. -/
inductive RxEvent where
  | nothing
  | lengthMismatch
  | badCheck
  | frame (kind tag : Byte) (payload : List Byte)
  deriving DecidableEq, Repr

/-- Judge a complete frame: `len` is its length byte, `bs` the bytes after it (R178). -/
def rxComplete (len : Nat) (bs : List Byte) : RxEvent :=
  if crcBytes (BitVec.ofNat 8 len :: bs.take len) = bs.drop len then
    match bs.take len with
    | kind :: tag :: payload => .frame kind tag payload
    | _ => .badCheck
  else .badCheck

/-- One good byte reaches the receiver (R178, R192). -/
def rxByte : Rx → Byte → Rx × RxEvent
  | .hunt, b => (if b = 0xA5#8 then .length else .hunt, .nothing)
  | .length, b =>
    if b.toNat < 2 ∨ 66 < b.toNat then (.hunt, .lengthMismatch) else (.body b.toNat [], .nothing)
  | .body len bs, b =>
    if bs.length + 1 < len + 2 then (.body len (bs ++ [b]), .nothing) else (.hunt, rxComplete len (bs ++ [b]))

/-- The receiver after some bytes, with what they completed. -/
def rxBytes : Rx → List Byte → Rx × List RxEvent
  | r, [] => (r, [])
  | r, b :: bs => ((rxBytes (rxByte r b).1 bs).1, (rxByte r b).2 :: (rxBytes (rxByte r b).1 bs).2)

/-! ### Buffers (R180) -/

/-- The content of a request buffer. -/
def State.buf (s : State) : BufId → Buffer
  | .b1 => s.buf1 | .b2 => s.buf2

/-- Replace the content of a request buffer. -/
def Ev.setBuf (e : Ev) (b : BufId) (x : Buffer) : Ev :=
  match b with
  | .b1 => { e with buf1 := x } | .b2 => { e with buf2 := x }

/-- An empty buffer, the first before the second. -/
def State.freeBuf (s : State) : Option BufId :=
  if s.buf1 = .empty then some .b1 else if s.buf2 = .empty then some .b2 else none

/-- A received frame goes into an empty buffer as a waiting request; with both occupied an OVERRUN reply with its tag takes
the overrun slot, or replaces the tag there (R180). -/
def Ev.receive (e : Ev) (tag : Byte) (f : Received) : Ev :=
  match e.freeBuf with
  | some b =>
    let e1 := e.setBuf b (.waiting tag f)
    { e1 with waitOrder := e1.waitOrder ++ [b] }
  | none =>
    { e with overrun := some tag,
             replyOrder := if e.overrun.isSome then e.replyOrder else e.replyOrder ++ [.overrun] }

/-- The waiting frame that is taken next: the oldest; during the wait of a RESTART an ESD_STOP alone (R180, R189). -/
def State.takable (s : State) : Option BufId :=
  match s.restart with
  | .idle => s.waitOrder.head?
  | .replying => s.waitOrder.find? (fun b => match s.buf b with
      | .waiting _ (.request .esdStop) => true
      | _ => false)
  | .due => s.waitOrder.find? (fun b => match s.buf b with
      | .waiting _ (.request .esdStop) => true
      | _ => false)

/-- What the taking of a request gives: the event after its action, the result, and the record of a read (R181). -/
structure Taken where
  ev : Ev
  result : Result
  record : List Byte

/-- A taking with a result and no record. -/
def Ev.answer (e : Ev) (r : Result) : Taken := { ev := e, result := r, record := [] }

/-- A read answered OK with its record; a read changes no state (R183). -/
def Ev.answerRead (e : Ev) (bytes : List Byte) : Taken := { ev := e, result := .ok, record := bytes }

/-- Take the waiting frame of buffer `b`: it acts, its reply is formed at the same event, the buffer is answered (R180,
R182). The reply of an accepted RESTART is marked, since its sending ends the wait (R189). -/
def Ev.take (e : Ev) (b : BufId) (tag : Byte) (act : Ev → Taken) : Ev :=
  let x := act { e with waitOrder := e.waitOrder.erase b }
  let e1 := x.ev.setBuf b (.answered
    { tag := tag, result := x.result, record := x.record,
      restart := x.ev.restart == .replying && e.restart == .idle })
  { e1 with replyOrder := e1.replyOrder ++ [.buffer b] }

/-- Frames of an unknown kind or a wrong length reach no block: each is answered when every frame before it has been taken
(R179, R180). At most two buffers hold frames. -/
def Ev.answerUnread : Nat → Ev → Ev
  | 0, e => e
  | n + 1, e =>
    match e.takable with
    | none => e
    | some b =>
      match e.buf b with
      | .waiting tag .unknown => Ev.answerUnread n (e.take b tag (fun x => x.answer .unknownRequest))
      | .waiting tag .badLength => Ev.answerUnread n (e.take b tag (fun x => x.answer .length))
      | .waiting _ (.request _) => e
      | .empty => e
      | .answered _ => e

/-- The buffer whose waiting request (with this tag and content) is taken next. -/
def State.awaits (s : State) (tag : Byte) (r : Request) : Option BufId :=
  match s.takable with
  | some b => if s.buf b = .waiting tag (.request r) then some b else none
  | none => none

/-- The row of a request: the waiting request of this tag and content is taken when it is next; else the row stands for a
new frame, received and, when no frame waits before it, taken at the same event (R180, notes/assumptions/5.md). -/
def Ev.serve (e : Ev) (tag : Byte) (r : Request) (act : Ev → Taken) : Ev :=
  match e.awaits tag r with
  | some b => (e.take b tag act).answerUnread 2
  | none =>
    let e1 := e.receive tag (.request r)
    match e1.awaits tag r with
    | some b => (e1.take b tag act).answerUnread 2
    | none => e1

/-! ### Notices (section 10.5) -/

/-- The content of a subject as the state stands. -/
def State.content (s : State) : NoticeKey → Content
  | .line l =>
    .line { state := (s.line l).state, closeReason := (s.line l).closeReason, holdReason := (s.line l).holdReason,
            cause := (s.line l).trip.map (fun r => r.cause), surgeLimited := (s.line l).surgeLimited,
            late := (s.line l).late, quietPending := (s.line l).quietPending,
            pressureFault := (s.flow l).pressureFault, feedbackFault := (s.valve l).feedbackFault }
  | .trip l => .trip (s.line l).trip
  | .tank k =>
    .tank { health := (s.tank k).health, refusal := (s.tank k).refusal, use := (s.tank k).use, line := s.listLine k,
            level := (s.tank k).latest.map (fun h => h.level), highWater := (s.tank k).highWater,
            marks := (s.tank k).marks }
  | .link =>
    .link { state := s.link.state, cycle := s.link.cycle, missCount := s.link.missCount, panel := s.link.panel }
  | .terms g =>
    .terms { agreement := (s.grade g).agreement, barge := (s.grade g).barge, accepted := (s.grade g).accepted,
             agreed := (s.grade g).agreed }
  | .esd =>
    .esd { latch := s.latch, causes := s.shut.causes, valveList := s.shut.valveList, permit1 := s.shut.permit1,
           permit2 := s.shut.permit2 }
  | .hpu =>
    .hpu { band := s.supply.band, pressure := s.supply.pressure, fault := s.supply.fault, pump := s.supply.pump }

/-- Queue a notice: in place of one of the same kind and subject, or at the tail (R187). -/
def putNotice : List Notice → Notice → List Notice
  | [], n => [n]
  | x :: xs, n => if x.key = n.key then n :: xs else x :: putNotice xs n

/-- Queue the notices of an event with the content in which the event leaves each subject (R4, R187). -/
def Ev.queueNotices (e : Ev) : State :=
  { e.toState with notices :=
      e.dirty.foldl (fun q k => putNotice q { key := k, content := e.content k, stamp := e.now }) e.notices }

/-! ### The transmit arbiter (R182) -/

/-- The reply that waits at a place of the reply order. A place always holds one; an empty place would send an empty
OVERRUN. -/
def State.replyAt (s : State) : ReplySource → Reply
  | .buffer b =>
    match s.buf b with
    | .answered r => r
    | .empty => { tag := 0, result := .overrun, record := [], restart := false }
    | .waiting tag _ => { tag := tag, result := .overrun, record := [], restart := false }
  | .overrun => { tag := s.overrun.getD 0, result := .overrun, record := [], restart := false }

/-- When the line is free the arbiter begins the oldest waiting reply, else the notice at the head of the queue; it begins
no frame while a RESTART is due (R182, R189). -/
def State.arbitrate (s : State) : State :=
  if s.tx.isSome || s.restart == .due then s
  else
    match s.replyOrder, s.notices with
    | r :: rs, _ => { s with tx := some (.reply r (s.replyAt r)), replyOrder := rs }
    | [], n :: ns => { s with tx := some (.notice n), notices := ns }
    | [], [] => s

/-- The end of an event: reports handed on and closes decided, notices queued, the arbiter's choice. -/
def finish (e : Ev) : State := e.drain.queueNotices.arbitrate

/-- An event whole: begun at time `t`, worked by `op`, finished. -/
def event (t : Time) (s : State) (op : Ev → Ev) : Host.Outcome State Fault Refusal :=
  .next (finish (op (begin t s)))

/-- The last byte of the frame in transmission is sent: a reply empties its buffer or slot, and the reply of an accepted
RESTART makes the effect due (R182, R189). -/
def Ev.endFrame (e : Ev) : Ev :=
  match e.tx with
  | none => e
  | some (.notice _) => { e with tx := none }
  | some (.reply src r) =>
    let e1 : Ev := match src with
      | .buffer b => e.setBuf b .empty
      | .overrun => { e with overrun := none }
    { e1 with tx := none, restart := if r.restart then .due else e1.restart }

end Sys2Proof.Machine
end

