-- ==== Sys2Proof/Machine/Terms.lean ====
section
/-! DEFINITION. The Terms Unit (chapter 8): the judging of ship words by agreement state, the agreed terms, the barge words
of the marker, and the entries to WAITING and OFFERING. -/

namespace Sys2Proof.Machine

/-! ### Agreed terms and the agreement machine -/

/-- The stricter of the barge terms and the other side's figures (R161, R164). -/
def agreedTerms (b : BargeTerms) (f : TermsFields) : TermsFields :=
  { maxRate := min b.fields.maxRate f.maxRate, maxPressure := min b.fields.maxPressure f.maxPressure,
    changeoverOk := b.fields.changeoverOk && f.changeoverOk }

/-- The record with last word, accepted word, console terms, agreed terms and match count discarded (R154, R155, R158). -/
def Grade.cleared (x : Grade) (a : Agreement) : Grade :=
  { x with agreement := a, lastWord := .absent, matchCount := 0, accepted := none, console := none, agreed := none }

/-- The match count of a usable word in OFFERING (table of R159). -/
def offeringCount (x : Grade) (f : TermsFields) : Nat :=
  match x.lastWord with
  | .usable f0 _ => if f0 = f then x.matchCount + 1 else 1
  | .absent => 1
  | .withheld => 1

/-- A ship word taken in OFFERING (R159). -/
def Grade.offeringStep (x : Grade) (w : ShipWord) : Grade :=
  match w with
  | .usable f _ =>
    if offeringCount x f = Config.termsMatches then
      { x with agreement := .acking, accepted := some f, matchCount := 0, lastWord := w }
    else { x with matchCount := offeringCount x f, lastWord := w }
  | .absent => { x with matchCount := 0, lastWord := w }
  | .withheld => { x with matchCount := 0, lastWord := w }

/-- Back to OFFERING, the accepted word and the agreed terms discarded (R160, R162). -/
def Grade.reoffer (x : Grade) (w : ShipWord) (count : Nat) : Grade :=
  { x with agreement := .offering, accepted := none, agreed := none, matchCount := count, lastWord := w }

/-- The count with which a word that ends ACKING or AGREED is taken into OFFERING: 1 when usable, 0 when withheld. -/
def ShipWord.countOne : ShipWord → Nat
  | .usable _ _ => 1 | .absent => 0 | .withheld => 0

/-- A ship word taken in ACKING (R160); the third acknowledging word makes the grade AGREED (R161). -/
def Grade.ackingStep (x : Grade) (w : ShipWord) : Grade :=
  match w with
  | .usable f ack =>
    if x.accepted = some f then
      if ack then
        if x.matchCount + 1 = Config.termsMatches then
          { x with agreement := .agreed, matchCount := Config.termsMatches, lastWord := w,
                   agreed := x.barge.map (fun b => agreedTerms b f) }
        else { x with matchCount := x.matchCount + 1, lastWord := w }
      else { x with matchCount := 0, lastWord := w }
    else x.reoffer w 1
  | .absent => x.reoffer w 0
  | .withheld => x.reoffer w 0

/-- The word keeps the agreement of a grade in AGREED (R162). -/
def Grade.keeps (x : Grade) (w : ShipWord) : Bool :=
  match w with
  | .usable f ack => x.accepted == some f && ack
  | .absent => false
  | .withheld => false

/-- A ship word taken by the rule of the agreement state (R156, R158 to R162, R165). -/
def Grade.take (x : Grade) (w : ShipWord) : Grade :=
  match x.agreement with
  | .undeclared => { x with lastWord := w }
  | .waiting => { x with lastWord := w }
  | .manual => { x with lastWord := w }
  | .offering => x.offeringStep w
  | .acking => x.ackingStep w
  | .agreed => if x.keeps w then { x with lastWord := w } else x.reoffer w w.countOne

/-- The word ends the agreement of a grade in AGREED (R162). -/
def Grade.withdrawn (x : Grade) (w : ShipWord) : Bool := x.agreement == .agreed && !x.keeps w

/-- Take the ship word of a grade, with a TERMS notice when the agreement state changed (R166). -/
def Ev.takeWord (e : Ev) (g : GradeId) (w : ShipWord) : Ev :=
  (e.modGrade g (fun x => x.take w)).markIf (((e.grade g).take w).agreement != (e.grade g).agreement) (.terms g)

/-- A declared grade becomes WAITING on an entry of the link to SILENT or DOWN (R158). -/
def Ev.gradeWaiting (e : Ev) (g : GradeId) : Ev :=
  if (e.grade g).agreement = .undeclared then e
  else (e.modGrade g (fun x => x.cleared .waiting)).markIf ((e.grade g).agreement != .waiting) (.terms g)

/-- A WAITING grade becomes OFFERING when the silence ends (R142, R158). -/
def Ev.gradeOffering (e : Ev) (g : GradeId) : Ev :=
  if (e.grade g).agreement = .waiting then (e.modGrade g (fun x => x.cleared .offering)).mark (.terms g) else e

/-- Some line whose profile names the grade is flowing or closing. -/
def State.gradeActive (s : State) (g : GradeId) : Bool :=
  allLines.any (fun l => s.gradeOfLine l == some g && (s.flowing l || s.closing l))

/-- The agreement of a line's grade is AGREED or MANUAL (R5, condition 3). -/
def State.termsAgreed (s : State) (l : LineId) : Bool :=
  match s.gradeOfLine l with
  | some g => (s.grade g).agreement == .agreed || (s.grade g).agreement == .manual
  | none => false

/-- The rate limit of a grade's agreed terms, halved in MANUAL (R98, R165). -/
def Grade.rateLimit (x : Grade) : Option Nat :=
  x.agreed.map (fun f => if x.agreement = .manual then f.maxRate / 2 else f.maxRate)

/-! ### The barge word (R157, R195) -/

/-- A word marked withheld or absent: the grade number, the rest 0. -/
def emptyWord (g : GradeId) (marking : Nat) : WireWord :=
  { grade := gradeNum g, marking := marking, flags := 0, maxRate := 0, maxPressure := 0 }

/-- The flags byte of a word: bit 0 CHANGEOVER_OK, bit 1 ACK. -/
def wordFlags (ok ack : Bool) : Byte := BitVec.ofNat 8 ((if ok then 1 else 0) + (if ack then 2 else 0))

/-- ACK is set in ACKING, AGREED and MANUAL (R157). -/
def Agreement.acks : Agreement → Bool
  | .acking => true | .agreed => true | .manual => true
  | .undeclared => false | .waiting => false | .offering => false

/-- The barge word of a grade in the marker. -/
def State.bargeWord (s : State) (g : GradeId) : WireWord :=
  let x := s.grade g
  match x.agreement, x.barge with
  | .undeclared, _ => emptyWord g 2
  | _, none => emptyWord g 2
  | a, some b =>
    if s.link.state ≠ .up ∨ a = .waiting then emptyWord g 1
    else
      { grade := gradeNum g, marking := 0, flags := wordFlags b.fields.changeoverOk a.acks,
        maxRate := b.fields.maxRate, maxPressure := b.fields.maxPressure }

end Sys2Proof.Machine
end

