-- ==== Sys2Proof/Machine/FlowMonitor.lean ====
section
/-! DEFINITION. The Flow Monitor (chapter 5): the work of a gate end in its six steps, and the samples of line pressure,
valve position and accumulator pressure with what they set off. -/

namespace Sys2Proof.Machine

/-! ### Gate ends (R93 to R106) -/

/-- The gate rate of a count of pulses (R93). -/
def gateRate (pulses meterK : Nat) : Nat := min Config.maxRateLpm (pulses * 3000 / meterK)

/-- The gate rate a line computes; 0 without a profile. -/
def State.gateRateOf (s : State) (l : LineId) : Nat :=
  match (s.line l).profile with
  | some p => gateRate (s.flow l).gatePulses p.meterK
  | none => 0

/-- The floor of the mean of the good samples of a gate; none when every sample was faulted (R98). -/
def Flow.gateAverage (x : Flow) : Option Nat := if x.sampleCount = 0 then none else some (x.sampleSum / x.sampleCount)

/-- Step 1: the gate's count and rate; the next gate begins (R93, R107). -/
def Ev.gateCount (e : Ev) (l : LineId) : Ev :=
  e.modFlow l (fun x =>
    { x with lastPulses := x.gatePulses, prevRate := x.rate, rate := e.gateRateOf l, gatePulses := 0, sampleSum := 0,
             sampleCount := 0, blindWindow := none, excess := none })

/-- The account is open: flowing, or closing with an ACTIVE tank in the list (R94). -/
def State.accountOpen (s : State) (l : LineId) : Bool := s.flowing l || (s.closing l && (s.activeTank l).isSome)

/-- Step 2: the pulse total, the delivered litres, the credit of the new litres (R94, R95). -/
def Ev.gateCredit (e : Ev) (l : LineId) : Ev :=
  match e.accountOpen l, (e.flow l).meterFactor with
  | true, some k =>
    let total := (e.flow l).pulseTotal + (e.flow l).lastPulses
    let delivered := total * 100 / k
    let litres := delivered - (e.line l).delivered
    let e1 := (e.modFlow l (fun x => { x with pulseTotal := total })).modLine l (fun x =>
      { x with delivered := delivered })
    if (e.line l).state = .changeover then e1.modLine l (fun x => { x with pendingVol := x.pendingVol + litres })
    else
      match e.activeTank l with
      | some t => e1.credit t litres
      | none => e1
  | _, _ => e

/-- Step 3: the quiet timer (R104). -/
def Ev.gateQuiet (e : Ev) (l : LineId) : Ev :=
  if (e.line l).quietPending then
    if (e.flow l).lastPulses = 0 then
      if Config.quietMs ≤ (e.flow l).quiet + Config.gateMs then
        (e.modFlow l (fun x => { x with quiet := 0 })).setQuiet l false
      else e.modFlow l (fun x => { x with quiet := x.quiet + Config.gateMs })
    else e.modFlow l (fun x => { x with quiet := 0 })
  else e

/-- The line is in PROVING, BULK, TOPPING or CHANGEOVER. -/
def LineState.delivering : LineState → Bool
  | .proving => true | .bulk => true | .topping => true | .changeover => true
  | .undeclared => false | .idle => false | .starting => false | .closing => false | .held => false | .tripped => false
  | .complete => false

/-- The fed tanks of a line, which hold a watch record, with the record (R101). -/
def State.fedTanks (s : State) (l : LineId) : List (TankId × Watch) :=
  (match s.activeTank l, (s.flow l).watchActive with
    | some k, some w => [(k, w)]
    | _, _ => []) ++
  (match s.incomingTank l, (s.flow l).watchIncoming with
    | some k, some w => [(k, w)]
    | _, _ => [])

/-- The capacity factor a tank declares. -/
def State.litresPerMm (s : State) (k : TankId) : Nat := ((s.tank k).decl.map (fun d => d.litresPerMm)).getD 0

/-- The litres that the rise of a watch record shows (R105). -/
def Watch.litres (w : Watch) (lpm : Nat) : Nat :=
  match w.base, w.peak with
  | some b, some p => (p - b) * lpm
  | _, _ => 0

/-- The balance excess (R105). -/
def State.balanceExcess (s : State) (l : LineId) (baseLitres : Nat) : Int :=
  ((s.line l).delivered : Int) - baseLitres -
    ((s.fedTanks l).map (fun x => x.2.litres (s.litresPerMm x.1))).sum

/-- The balance test applies at this gate end (R105). -/
def State.balanceApplies (s : State) (l : LineId) : Bool :=
  (s.line l).state.delivering &&
  (match (s.flow l).watchActive with
    | some w => w.base.isSome
    | none => false) &&
  (s.fedTanks l).all (fun x => (s.tank x.1).health != .stale)

/-- Step 4: the balance test (R105). -/
def Ev.gateBalance (e : Ev) (l : LineId) : Ev :=
  match e.balanceApplies l, (e.line l).baseline with
  | true, some b =>
    let x := e.balanceExcess l b.litres
    let e1 := e.modFlow l (fun f => { f with excess := some x })
    if (e.profile l).balanceTolL < x.natAbs then e1.trip l .balance else e1
  | _, _ => e

/-- The tank window of the blind test (R102). -/
def tankWindow (lpm rate weight minMs : Nat) : Nat := max minMs (lpm * 60000 / rate * weight / 8)

/-- The blind window of a line: the largest of the tank windows of its ACTIVE tank and, in CHANGEOVER, its INCOMING tank
(R102). -/
def State.blindWindowOf (s : State) (l : LineId) : Nat :=
  ((s.fedTanks l).map (fun x =>
    tankWindow (s.litresPerMm x.1) (s.flow l).rate (s.profile l).blindWeight (s.profile l).blindMinMs)).foldl max 0

/-- The blind test applies at this gate end (R103); a line that holds no watch record has no fed tank and is not tested
(notes/assumptions/14.md). -/
def State.blindApplies (s : State) (l : LineId) : Bool :=
  ((s.line l).state.delivering ||
    (s.closing l && (s.activeTank l).isSome &&
      ((s.line l).closeReason == some .ending || (s.line l).closeReason == some .tankEnd ||
        (s.line l).closeReason == some .hold))) &&
  decide (0 < (s.flow l).rate) && decide (0 < (s.flow l).prevRate) && !(s.fedTanks l).isEmpty &&
  (s.fedTanks l).all (fun x => (s.tank x.1).health == .live)

/-- Step 5: the blind test (R103). -/
def Ev.gateBlind (e : Ev) (l : LineId) : Ev :=
  if e.blindApplies l then
    let w := e.blindWindowOf l
    let e1 := e.modFlow l (fun f => { f with blindWindow := some w })
    if (e.fedTanks l).all (fun x => decide (w < elapsed e.now x.2.peakTime)) then
      ((e1.trip l .blindFlow).modFlow l (fun f => { f with quiet := 0 })).setQuiet l true
    else e1
  else e

/-- The rate limit of a line: the agreed max rate, halved in MANUAL, and the ACTIVE tank's max_fill_lpm when smaller
(R98). -/
def State.rateLimit (s : State) (l : LineId) : Option Nat :=
  match s.gradeOfLine l with
  | none => none
  | some g =>
    (s.grade g).rateLimit.map (fun r =>
      match ((s.activeTank l).bind (fun k => (s.tank k).decl)).bind (fun d => d.maxFillLpm) with
      | some m => min m r
      | none => r)

/-- The pressure limit of a line: the agreed max pressure, not halved (R98). -/
def State.pressureLimit (s : State) (l : LineId) : Option Nat :=
  match s.gradeOfLine l with
  | none => none
  | some g => (s.grade g).agreed.map (fun f => f.maxPressure)

/-- A cap's count after a gate (R99): with no figure or no limit it stands. -/
def capCount (count : Nat) (figure limit : Option Nat) : Nat :=
  match figure, limit with
  | some v, some m => if m < v then count + 1 else 0
  | _, _ => count

/-- A count has reached 3: a cap throttle of one step (R99), or RATE_UNCONTROLLED with no step left (R100). -/
def Ev.capAct (e : Ev) (l : LineId) : Ev :=
  if (e.line l).throttle ≤ (e.profile l).startPos then e.trip l .rateUncontrolled
  else e.throttleTo l (max (e.profile l).startPos ((e.line l).throttle - (e.profile l).throttleStep))

/-- Step 6: the caps (R98 to R100). `avg` is the gate average of the line pressure. -/
def Ev.gateCaps (e : Ev) (l : LineId) (avg : Option Nat) : Ev :=
  if (e.line l).state.delivering && !(e.pred l).settling then
    let r := capCount (e.flow l).rateCount (some (e.flow l).rate) (e.rateLimit l)
    let p := capCount (e.flow l).pressCount avg (e.pressureLimit l)
    let e1 := e.modFlow l (fun f => { f with rateCount := r, pressCount := p })
    if Config.capGates ≤ r ∨ Config.capGates ≤ p then e1.capAct l else e1
  else e

/-- The work of a gate end for one line, in the order of R106. -/
def Ev.gateLine (e : Ev) (l : LineId) : Ev :=
  let avg := (e.flow l).gateAverage
  (((((e.gateCount l).gateCredit l).gateQuiet l).gateBalance l).gateBlind l).gateCaps l avg

/-- A gate end: one event for the four lines (notes/assumptions/7.md). -/
def Ev.gateEnd (e : Ev) : Ev := e.eachLine (fun l x => x.gateLine l)

/-! ### Line pressure (R77, R96, R97) -/

/-- The overpressure watch runs: flowing, or closing with reason END, TANK_END or HOLD (R97). -/
def State.overWatched (s : State) (l : LineId) : Bool :=
  s.flowing l ||
    (s.closing l && ((s.line l).closeReason == some .ending || (s.line l).closeReason == some .tankEnd ||
      (s.line l).closeReason == some .hold))

/-- A good sample is taken by the overpressure watch (R97). -/
def Ev.overWatch (e : Ev) (l : LineId) (kPa : Nat) : Ev :=
  if e.overWatched l && decide ((e.profile l).ratingKPa < kPa + (e.profile l).surgeMarginKPa) then
    if Config.overpressureSamples ≤ (e.flow l).overCount + 1 then
      (e.modFlow l (fun f => { f with overCount := 0 })).trip l .overpressure
    else e.modFlow l (fun f => { f with overCount := f.overCount + 1 })
  else e.modFlow l (fun f => { f with overCount := 0 })

/-- A run-down in progress ends on a good sample at or below run_down_kPa (R77). -/
def Ev.runDownSample (e : Ev) (l : LineId) : Ev :=
  if e.closePhase l = some .runDown ∧ e.runDownPressure l = true then e.endRunDown l .pressure else e

/-- A sample of the line pressure input (R96). -/
def Ev.pressureSample (e : Ev) (l : LineId) (microamps : Nat) : Ev :=
  if goodCurrent microamps then
    let v := scaled 4000 microamps
    let e1 := (e.modFlow l (fun f =>
      { f with pressure := v, sampleSum := f.sampleSum + v, sampleCount := f.sampleCount + 1 })).setPressureFault l false
    (e1.runDownSample l).overWatch l v
  else (e.setPressureFault l true).modFlow l (fun f => { f with overCount := 0 })

/-! ### Valve position and accumulator (R109, R110, R127) -/

/-- A sample of the position transmitter (R109, R110). -/
def Ev.positionSample (e : Ev) (l : LineId) (microamps : Nat) : Ev :=
  if goodCurrent microamps then
    let v := scaled 1000 microamps
    let e1 := (e.modValve l (fun x => { x with sample := some v })).setFeedbackFault l false
    if e1.usable l then e1.takeSample l v else e1
  else e.setFeedbackFault l true

/-- A sample of the accumulator pressure (R127). -/
def Ev.accumulatorSample (e : Ev) (microamps : Nat) : Ev :=
  if goodCurrent microamps then
    (e.modSupply (fun x => { x with pressure := scaled 25000 microamps, fault := false })).bandEvent
  else (e.modSupply (fun x => { x with fault := true })).bandEvent

end Sys2Proof.Machine
end

