-- ==== Sys2Proof/Machine/Records.lean ====
section
/-! DEFINITION. The bytes the part sends (chapter 11): named values, the read records in the order of their owning rules,
the content of notices, replies, notices and ship frames. Presence bytes, counts and widths are R191's; where chapter 11
leaves a detail of a record open, notes/assumptions/12.md says what is encoded. -/

namespace Sys2Proof.Machine

/-! ### Fields (R191) -/

/-- One and two byte numbers, and a time stamp or count of four bytes. -/
def u8 (n : Nat) : List Byte := beBytes 1 n
def u16 (n : Nat) : List Byte := beBytes 2 n
def time32 (t : Time) : List Byte := beBytes 4 t.toNat

/-- A count, total or time of four bytes. A figure that does not fit has no stated encoding: a free value
(notes/assumptions/11.md). -/
def u32 (n : Nat) : List Byte := if n < 2 ^ 32 then beBytes 4 n else beBytes 4 (Config.wideCount n).toNat

/-- A figure that can be negative: four bytes in two's complement. A figure outside their range has no stated encoding: a free
value (notes/assumptions/11.md). -/
def i32 (n : Int) : List Byte :=
  if -2 ^ 31 ≤ n ∧ n < 2 ^ 31 then beBytes 4 (BitVec.ofInt 32 n).toNat else beBytes 4 (Config.wideSigned n).toNat

/-- A yes or no field. -/
def yesNo (b : Bool) : List Byte := if b then [1] else [0]

/-- An optional part: a presence byte, then its fields. -/
def opt {α : Type} (x : Option α) (f : α → List Byte) : List Byte :=
  match x with
  | some a => 1 :: f a
  | none => [0]

/-- A part present under a condition. -/
def optIf (c : Bool) (bytes : List Byte) : List Byte := if c then 1 :: bytes else [0]

/-- A list: its count, then its items. -/
def listOf {α : Type} (xs : List α) (f : α → List Byte) : List Byte := u8 xs.length ++ xs.flatMap f

/-! ### Named values: positions in the defining table or list, from 0 (R191) -/

def LineState.code : LineState → Nat
  | .undeclared => 0 | .idle => 1 | .starting => 2 | .proving => 3 | .bulk => 4 | .topping => 5 | .changeover => 6
  | .closing => 7 | .held => 8 | .tripped => 9 | .complete => 10
def CloseReason.code : CloseReason → Nat
  | .ending => 0 | .tankEnd => 1 | .hold => 2 | .trip => 3 | .esd => 4
def HoldReason.code : HoldReason → Nat
  | .console => 0 | .shipStop => 1 | .termsChanged => 2 | .tankEnd => 3
def TripCause.code : TripCause → Nat
  | .noRise => 0 | .foundOpen => 1 | .blindFlow => 2 | .balance => 3 | .rateUncontrolled => 4 | .overpressure => 5
  | .highAlarm => 6 | .tankLost => 7 | .linkLost => 8 | .tankChanged => 9 | .changeoverTimeout => 10
  | .changeoverOverrun => 11 | .strokeFailed => 12 | .closeFailed => 13 | .esd => 14
def EsdCause.code : EsdCause → Nat
  | .loop => 0 | .ship => 1 | .overfill => 2 | .console => 3 | .valve => 4 | .powerOn => 5
def Health.code : Health → Nat
  | .absent => 0 | .live => 1 | .stale => 2 | .lost => 3 | .refused => 4
def RefusalReason.code : RefusalReason → Nat
  | .badDeclaration => 0 | .refusedByUnit => 1
def TankUse.code : TankUse → Nat
  | .free => 0 | .queued => 1 | .active => 2 | .incoming => 3 | .done => 4
/-- The marks in the order of the tank record's row, none last as that row writes it. -/
def Mark.code : Mark → Nat
  | .changeover => 0 | .topoff => 1 | .final => 2 | .high => 3 | .none => 4
def Settle.code : Settle → Nat
  | .clear => 0 | .travel => 1 | .settling => 2 | .carry => 3
def ClosePhase.code : ClosePhase → Nat
  | .runDown => 0 | .stage => 1 | .dwell => 2 | .retryWait => 3 | .seating => 4
def RunDownEnd.code : RunDownEnd → Nat
  | .time => 0 | .pressure => 1
def PositionSource.code : PositionSource → Nat
  | .transmitter => 0 | .arrival => 1 | .simulated => 2
def NearMark.code : NearMark → Nat
  | .nearClosed => 0 | .nearOpen => 1 | .none => 2
def StrokeClass.code : StrokeClass → Nat
  | .close => 0 | .throttle => 1 | .opening => 2
def StrokePhase.code : StrokePhase → Nat
  | .turnaround => 0 | .setup => 1 | .travel => 2 | .hold => 3
def StrokeOutcome.code : StrokeOutcome → Nat
  | .arrived => 0 | .arrivedAtOnce => 1 | .ended => 2 | .failedTimeout => 3 | .failedExtension => 4 | .failedSeated => 5
  | .failedOpenLimit => 6
def dirCode : Option Direction → Nat
  | some .openward => 0 | some .closeward => 1 | none => 2
def Band.code : Band → Nat
  | .release => 0 | .may => 1 | .need => 2 | .must => 3
def Agreement.code : Agreement → Nat
  | .undeclared => 0 | .waiting => 1 | .offering => 2 | .acking => 3 | .agreed => 4 | .manual => 5
def LinkState.code : LinkState → Nat
  | .down => 0 | .silent => 1 | .up => 2
def LoopState.code : LoopState → Nat
  | .closed => 0 | .debounce _ => 1 | .opened => 2
def ReplyKind.code : ReplyKind → Nat
  | .reading => 0 | .wait => 1 | .refuse => 2 | .declaration => 3 | .unlisted => 4

/-- The number of a refusal reason, from 1 (R193). -/
def Reason.code : Reason → Nat
  | .noFillOrder => 1 | .esdActive => 2 | .termsNotAgreed => 3 | .shipNotReady => 4 | .shipStop => 5 | .tankNotLive => 6
  | .gradeMismatch => 7 | .tankInUse => 8 | .duplicateTank => 9 | .quietPending => 10 | .valveNotClosed => 11
  | .causePresent => 12 | .linesActive => 13 | .linkNotUp => 14 | .panelCapable => 15 | .undeclaredGrade => 16

/-- The result byte and the detail byte of a reply (R193). -/
def Result.code : Result → Nat × Nat
  | .ok => (0, 0) | .okAdjusted => (1, 0) | .wrongState => (2, 0) | .refused r => (3, r.code)
  | .fieldRange i => (4, i) | .unknownRequest => (5, 0) | .length => (6, 0) | .overrun => (7, 0)

/-! ### Parts shared by records and notices -/

/-- The line flags byte (R193). -/
def lineFlags (surge late quiet : Bool) : List Byte :=
  u8 ((if surge then 1 else 0) + (if late then 2 else 0) + (if quiet then 4 else 0))

/-- The panel flags byte: the bits of byte 0 of a panel reply. -/
def panelFlags (p : PanelReply) : List Byte :=
  u8 ((if p.ready then 1 else 0) + (if p.shipStop then 2 else 0) + (if p.shipEsd then 4 else 0) +
    (if p.termsCapable then 8 else 0))

/-- A level with its time stamp. -/
def halfBytes (h : Half) : List Byte := u16 h.level ++ time32 h.time

/-- The fields of a trip record in the order of R19. Inside the active tank part the level has a presence byte of its own, since
the tank may have no accepted level (notes/assumptions/12.md). -/
def tripBytes (r : TripRecord) : List Byte :=
  u8 r.cause.code ++ time32 r.time ++ u8 r.stateAtTrip.code ++ u16 r.pressure ++ u16 r.rate ++ u32 r.delivered ++
  opt r.activeTank (fun a => u8 (tankNum a.1) ++ opt a.2 u16) ++
  opt r.esdCauses (fun cs => listOf cs (fun c => u8 c.code))

/-- Three terms figures: max rate, max pressure, CHANGEOVER_OK. -/
def fieldsBytes (f : TermsFields) : List Byte := u16 f.maxRate ++ u16 f.maxPressure ++ yesNo f.changeoverOk

/-- The barge terms of a grade. -/
def bargeBytes (b : BargeTerms) : List Byte := u16 b.density ++ fieldsBytes b.fields

/-- A set of causes with their stamps (R193), listed in the order of section 9.1's table (DEDUCED, notes/assumptions/12.md). -/
def causeList (c : CauseSet) (f : EsdCause → Time → List Byte) : List Byte :=
  listOf c.list (fun x => u8 x.code ++ f x ((c.get x).getD 0))

/-! ### READ_LINE (R184) -/

/-- The watch record of a fed tank: base, peak and peak time (R101). Base and peak, absent together, are two parts, each with a
presence byte of its own (DEDUCED, notes/assumptions/12.md). -/
def watchBytes (w : Watch) : List Byte := opt w.base u16 ++ opt w.peak u16 ++ time32 w.peakTime

/-- The Flow Monitor's figures (R107); in UNDECLARED three of them alone (R184). The latest blind window and the latest balance
excess are two parts, each present when its own test was applied at the latest gate end (DEDUCED, notes/assumptions/12.md). -/
def State.flowBytes (s : State) (l : LineId) : List Byte :=
  let f := s.flow l
  if (s.line l).state = .undeclared then
    0 :: (u16 f.pressure ++ yesNo f.pressureFault ++ u32 f.lastPulses)
  else
    1 :: (u16 f.rate ++ u32 f.lastPulses ++ u32 f.pulseTotal ++ opt f.meterFactor u16 ++ u32 (s.line l).delivered ++
      u16 f.pressure ++ yesNo f.pressureFault ++ u8 f.overCount ++ u8 f.rateCount ++ u8 f.pressCount ++
      optIf (s.line l).quietPending (u32 f.quiet) ++ listOf (s.fedTanks l) (fun x => watchBytes x.2) ++
      opt f.blindWindow u32 ++ opt f.excess i32)

/-- The valve figures of READ_LINE (R131). -/
def State.valveFigures (s : State) (l : LineId) : List Byte :=
  let v := s.valve l
  u16 v.position ++ u8 v.source.code ++ u8 (s.nearMark l).code ++ opt v.learnedRate u16 ++ yesNo v.feedbackFault ++
  u16 v.commanded

/-- The prediction fields of R73: those of the latest evaluation, not worked anew at the read. -/
def Evaluation.bytes (x : Evaluation) : List Byte :=
  u8 (if x.sourceHeld then 1 else 0) ++ opt x.prevHalf halfBytes ++ opt x.latestHalf halfBytes ++ opt x.msPerMm u32 ++
  u8 x.settle.code ++ opt x.settleStart time32 ++ opt x.deadline time32 ++ time32 x.time ++ opt x.projected u16 ++
  opt x.timeToFinal u32 ++ u32 x.lead

/-- The inputs and figures of a close plan (R92). -/
def planInputs (p : Plan) : List Byte :=
  u16 p.rate ++ u16 p.pressure ++ yesNo p.sensorFault ++ u16 p.position ++ u16 p.learnedRate
def planFigures (p : Plan) : List Byte :=
  u32 p.velocity ++ u16 p.headroom ++ u32 p.tSurge ++ u32 p.tClose ++ u32 p.tTravel ++ u32 p.pipePeriod ++
  u32 p.dwell ++ u32 p.planned

/-- The close plan of a closing line (R92). The run-down start and the end cause, one row of R92 with two presence conditions,
are two parts one after the other, each with its own presence byte, and so are the rows that come with the plan (DEDUCED,
notes/assumptions/12.md). -/
def closeBytes (reason : Option CloseReason) (c : CloseRec) : List Byte :=
  u8 ((reason.map CloseReason.code).getD 0) ++ u8 c.phase.code ++ time32 c.entry ++ opt c.runDownStart time32 ++
  opt c.runDownEnd (fun x => u8 x.code) ++ opt c.plan planInputs ++ opt c.plan planFigures ++
  opt c.plan (fun p => listOf p.targets u16) ++ opt c.stage u8 ++ opt c.dwellEnd time32 ++
  opt c.plan (fun _ => yesNo c.retryUsed)

/-- The widths of the thirty profile fields in a read record: an interval is four bytes there (R191), every other field as wide
as in the request. -/
def recordProfileWidths : List Nat :=
  [1, 1, 2, 2, 2, 2, 2, 2, 2, 2] ++ [2, 1, 1, 4, 4, 4, 2, 4, 4, 1] ++ [4, 4, 4, 1, 4, 2, 2, 1, 1, 1]

/-- The record of READ_LINE (table of R184). Each tank of the list shows its number, its use and its attributed litres (R52,
R184); the order of the last two, the order of the fed set and the presence byte that the baseline level has inside the baseline's
part are the model's (DEDUCED, notes/assumptions/12.md). -/
def State.lineRecord (s : State) (l : LineId) : List Byte :=
  let x := s.line l
  u8 (lineNum l) ++ u8 x.state.code ++ opt x.profile (fun p => joinFields recordProfileWidths (profileFields p)) ++
  opt x.closeReason (fun r => u8 r.code) ++ opt x.holdReason (fun r => u8 r.code) ++ opt x.tankEnd yesNo ++
  optIf (!(s.list l).isEmpty)
    (listOf (s.list l) (fun k => u8 (tankNum k) ++ u8 (s.tank k).use.code ++ u32 (s.tank k).attributed)) ++
  u32 x.delivered ++ u32 x.pendingVol ++ listOf x.fedSet (fun k => u8 (tankNum k) ++ u32 (s.tank k).attributed) ++
  opt x.baseline (fun b => opt b.level u16 ++ u32 b.litres) ++ u16 x.throttle ++
  lineFlags x.surgeLimited x.late x.quietPending ++ opt (x.trip.map (fun r => r.cause)) (fun c => u8 c.code) ++
  s.flowBytes l ++ s.valveFigures l ++
  optIf (x.state == .bulk || x.state == .changeover)
    (u8 (s.pred l).settle.code ++ u8 (if (s.pred l).sourceHeld then 1 else 0)) ++
  opt (if x.state == .topping then (s.pred l).evaluation else none) Evaluation.bytes ++
  opt (if x.state == .closing then s.close l else none) (closeBytes x.closeReason)

/-! ### The other read records (R185, R186) -/

/-- The record of READ_TRIP: the trip record, or its absence (R186). -/
def State.tripRecord (s : State) (l : LineId) : List Byte := opt (s.line l).trip tripBytes

/-- The fields of a declaration. -/
def declarationBytes (d : Declaration) : List Byte :=
  u8 (gradeNum d.grade) ++ u16 d.litresPerMm ++ u16 d.topoffMm ++ u16 d.finalMm ++ u16 d.highMm ++
  opt d.changeoverMm u16 ++ opt d.maxFillLpm u16

/-- The position of a tank in a list, from 1. -/
def positionIn (k : TankId) (ks : List TankId) : Nat := ks.idxOf k + 1

/-- The record of READ_TANK (section 2.1, R185). The toggle is a presence byte, 0 for unsynchronised, and then the stored value
(DEDUCED, notes/assumptions/12.md). -/
def State.tankRecord (s : State) (k : TankId) : List Byte :=
  let x := s.tank k
  u8 (tankNum k) ++ opt x.decl declarationBytes ++ u8 x.health.code ++ opt x.refusal (fun r => u8 r.code) ++
  u8 x.use.code ++ opt x.toggle yesNo ++ opt x.latest halfBytes ++ opt x.highWater u16 ++ opt x.pairPrev halfBytes ++
  opt x.pairLatest halfBytes ++ u8 x.missCount ++ time32 x.lastNew ++
  u8 ((if x.highAlarm then 1 else 0) + (if x.overfill then 2 else 0)) ++ u8 x.marks.code ++
  opt x.changeoverBase u16 ++ u32 x.attributed ++
  opt (s.listLine k) (fun l => u8 (lineNum l) ++ u8 (positionIn k (s.list l))) ++
  opt (s.fedLine k) (fun l => u8 (lineNum l))

/-- The outcome of a slot so far (R150). -/
def SlotOutcome.bytes : SlotOutcome → List Byte
  | .pending => u8 0
  | .reply k => u8 1 ++ u8 k.code
  | .repeated => u8 2
  | .refusedReading => u8 3
  | .noReply => u8 4
  | .badCheck => u8 5

/-- A slot of the schedule. An idle slot is shown as a presence byte of 0, any other as 1 and then its tank, its poll kind and its
outcome (DEDUCED, notes/assumptions/12.md). -/
def Slot.bytes (x : Slot) : List Byte :=
  match x.plan with
  | .idle => [0]
  | .read k => 1 :: (u8 (tankNum k) ++ u8 0 ++ x.outcome.bytes)
  | .declare k => 1 :: (u8 (tankNum k) ++ u8 1 ++ x.outcome.bytes)
  | .declareTail k => 1 :: (u8 (tankNum k) ++ u8 1 ++ x.outcome.bytes)

/-- A last ship word. -/
def ShipWord.bytes : ShipWord → List Byte
  | .absent => [0]
  | .withheld => [1, 1]
  | .usable f ack => [1, 0] ++ fieldsBytes f ++ yesNo ack

/-- A grade record with the rate cap in force (section 8.1, R166). The cap is an optional part, absent without agreed terms
(DEDUCED, notes/assumptions/12.md). -/
def gradeBytes (x : Grade) : List Byte :=
  opt x.barge bargeBytes ++ u8 x.agreement.code ++ x.lastWord.bytes ++ u8 x.matchCount ++ opt x.accepted fieldsBytes ++
  opt x.console fieldsBytes ++ opt x.agreed fieldsBytes ++ opt x.rateLimit u16

/-- The cycle number of the latest marker; 0 before the first (notes/assumptions/24.md). -/
def cycleByte (c : Option (BitVec 8)) : List Byte := [c.getD 0]

/-- The time at which the silence ends while the link is SILENT. -/
def Link.silenceEnd (x : Link) : Option Time := x.silenceStart.map (fun t => after t Config.silenceMs)

/-- A ship terms word as a read record carries it: the flag bits that no table names are sent as 0 (R191, R195). -/
def shipWordBytes (w : WireWord) : List Byte := wireWordBytes { w with flags := w.flags &&& 0x03#8 }

/-- The record of READ_LINK (R150, R166). The pointers come before the schedule, as in R150's list and against the order of
R185's sentence; the deferred DECLAREs follow the five slots as a list of tank numbers; the panel miss count, which R138 and R140
keep below 5, is one byte (DEDUCED, notes/assumptions/12.md). -/
def State.linkRecord (s : State) : List Byte :=
  let x := s.link
  u8 x.state.code ++ opt x.silenceEnd time32 ++ cycleByte x.cycle ++ u8 x.missCount ++
  opt x.panel (fun p => panelFlags p ++ shipWordBytes p.word1 ++ shipWordBytes p.word2) ++ u8 (tankNum x.pollPtr) ++
  u8 (tankNum x.prioPtr) ++ x.slots.flatMap Slot.bytes ++ listOf x.deferred (fun k => u8 (tankNum k)) ++
  gradeBytes s.grades.g1 ++ gradeBytes s.grades.g2

/-- The pending requests of some lines in grant order, by R117's ranking with the band's admission left apart (R131; DEDUCED,
notes/assumptions/12.md). -/
def State.grantOrder (s : State) : Nat → List LineId → List (LineId × StrokeReq)
  | 0, _ => []
  | n + 1, ls =>
    match s.bestOf (fun _ => true) ls with
    | none => []
    | some (l, r) => (l, r) :: s.grantOrder n (ls.erase l)

/-- Class, target and request time of a request. -/
def reqBytes (r : StrokeReq) : List Byte := u8 r.cls.code ++ u16 r.target ++ time32 r.time

/-- A channel: free or held with its line and the stroke's phase, and the last direction. Free or held is the presence byte of the
line and the phase, and no byte besides (DEDUCED, notes/assumptions/12.md). -/
def State.chanBytes (s : State) (c : Channel) : List Byte :=
  opt c.holder (fun l => u8 (lineNum l) ++ u8 (((s.valve l).stroke.map (fun k => k.phase.code)).getD 0)) ++
  u8 (dirCode c.lastDir)

/-- The channel of a line's stroke, 1 or 2. -/
def State.chanNumOf (s : State) (l : LineId) : Nat := if s.chan1.holder = some l then 1 else 2

/-- The travel and pause time used as they stand. -/
def Stroke.usedNow (k : Stroke) (now : Time) : Nat := if k.phase = .travel then k.usedAt now else k.used
def Stroke.pauseNow (k : Stroke) (now : Time) : Nat := if k.phase = .travel then k.pauseAt now else k.pauseUsed

/-- A valve record (section 6.1). The phase is a part of its own, absent for a pending request, which has none, and so are the
channel, the travel start and the times (DEDUCED, notes/assumptions/12.md). -/
def State.valveRecord (s : State) (l : LineId) : List Byte :=
  let v := s.valve l
  u16 v.position ++ u8 v.source.code ++ u8 (s.nearMark l).code ++ opt v.learnedRate u16 ++ yesNo v.feedbackFault ++
  u16 v.commanded ++
  opt (match v.stroke with
    | some k => some (k.req, some k)
    | none => v.pending.map (fun r => (r, none)))
    (fun x => reqBytes x.1 ++ opt x.2 (fun k => u8 k.phase.code) ++ yesNo x.1.retry ++
      opt x.2 (fun k => u8 (s.chanNumOf l) ++ time32 k.travelStart ++ u32 k.expected ++ u32 (k.usedNow s.now) ++
        u32 (k.pauseNow s.now))) ++
  opt v.followOn reqBytes ++ opt v.lastOutcome (fun o => u8 o.1.code ++ time32 o.2)

/-- The widths of the eight HPU settings in a read record: an interval is four bytes there (R191). -/
def recordHpuWidths : List Nat := [2, 2, 2, 4, 4, 4, 4, 4]

/-- The record of READ_HPU (R131). The sensor fault and the charge pump state are yes or no fields, 1 for faulted and running, and a
follow-on shows class, target and request time after its line, as an entry of the queue does; the follow-ons stand in ascending
line number (DEDUCED, notes/assumptions/12.md). -/
def State.hpuRecord (s : State) : List Byte :=
  let x := s.supply
  u16 x.pressure ++ yesNo x.fault ++ u8 x.band.code ++ yesNo x.pump ++
  joinFields recordHpuWidths (requestFields (.hpuProfile x.profile)) ++ s.chanBytes s.chan1 ++
  s.chanBytes s.chan2 ++ listOf (s.grantOrder 4 allLines) (fun p => u8 (lineNum p.1) ++ reqBytes p.2) ++
  listOf (allLines.filterMap (fun l => (s.valve l).followOn.map (fun r => (l, r))))
    (fun p => u8 (lineNum p.1) ++ reqBytes p.2) ++
  allLines.flatMap s.valveRecord

/-- The time at which a running debounce expires. -/
def LoopState.expiry : LoopState → Option Time
  | .debounce t => some (after t Config.debounceMs)
  | .closed => none
  | .opened => none

/-- The record of READ_ESD (R177). Latch, permits, status relay and the closed limit switch of a listed valve are yes or no fields,
1 for set, asserted, energised and active (DEDUCED, notes/assumptions/12.md). -/
def State.esdRecord (s : State) : List Byte :=
  yesNo s.latch ++ causeList s.shut.causes (fun c t => time32 t ++ yesNo (s.conditionHolds c)) ++
  listOf s.shut.valveList (fun l => u8 (lineNum l) ++ yesNo (s.valve l).closedSwitch) ++ u8 s.shut.loop.code ++
  opt s.shut.loop.expiry time32 ++ u8 s.shut.shipRun ++ u8 s.link.state.code ++ yesNo s.shut.permit1 ++
  yesNo s.shut.permit2 ++ yesNo s.statusRelay

/-! ### Notices and replies (section 11.2) -/

/-- The content bytes of a notice, as the rule of its kind lists them. The panel miss count of LINK is one byte, and the latch and
the permits of ESD, the sensor fault and the charge pump state of HPU are yes or no fields, as in the read records (DEDUCED,
notes/assumptions/12.md). -/
def contentBytes : NoticeKey → Content → List Byte
  | _, .line c =>
    u8 c.state.code ++ opt c.closeReason (fun r => u8 r.code) ++ opt c.holdReason (fun r => u8 r.code) ++
    opt c.cause (fun x => u8 x.code) ++ lineFlags c.surgeLimited c.late c.quietPending ++ yesNo c.pressureFault ++
    yesNo c.feedbackFault
  | _, .trip c =>
    match c with
    | some r => tripBytes r
    | none => []
  | k, .tank c =>
    (match k with
      | .tank n => u8 (tankNum n)
      | .line _ | .trip _ | .link | .terms _ | .esd | .hpu => []) ++
    u8 c.health.code ++ opt c.refusal (fun r => u8 r.code) ++ u8 c.use.code ++ opt c.line (fun l => u8 (lineNum l)) ++
    opt c.level u16 ++ opt c.highWater u16 ++ u8 c.marks.code
  | _, .link c => u8 c.state.code ++ cycleByte c.cycle ++ u8 c.missCount ++ opt c.panel panelFlags
  | k, .terms c =>
    (match k with
      | .terms g => u8 (gradeNum g)
      | .line _ | .trip _ | .link | .tank _ | .esd | .hpu => []) ++
    u8 c.agreement.code ++ opt c.barge bargeBytes ++ opt c.accepted fieldsBytes ++ opt c.agreed fieldsBytes
  | _, .esd c =>
    yesNo c.latch ++ causeList c.causes (fun _ t => time32 t) ++ listOf c.valveList (fun l => u8 (lineNum l)) ++
    yesNo c.permit1 ++ yesNo c.permit2
  | _, .hpu c => u8 c.band.code ++ u16 c.pressure ++ yesNo c.fault ++ yesNo c.pump

/-- The kind code and the subject byte of a notice (section 11.2). -/
def NoticeKey.codes : NoticeKey → Nat × Nat
  | .line l => (0x90, lineNum l) | .trip l => (0x91, lineNum l) | .tank k => (0x92, tankNum k) | .link => (0x93, 0)
  | .terms g => (0x94, gradeNum g) | .esd => (0x95, 0) | .hpu => (0x96, 0)

/-- A frame of the part: start A5, a length of two bytes, the bytes from the kind on, CRC-16 from byte 1. -/
def partFrame (body : List Byte) : List Byte :=
  let covered := u16 body.length ++ body
  0xA5#8 :: (covered ++ crcBytes covered)

/-- The bytes of a reply. -/
def replyFrame (r : Reply) : List Byte :=
  partFrame (u8 0x80 ++ [r.tag] ++ u8 r.result.code.1 ++ u8 r.result.code.2 ++ r.record)

/-- The bytes of a notice. -/
def noticeFrame (n : Notice) : List Byte :=
  partFrame (u8 n.key.codes.1 ++ u8 n.key.codes.2 ++ time32 n.stamp ++ contentBytes n.key n.content)

/-- The bytes of the frame in transmission on the console line. -/
def State.txBytes (s : State) : List Byte :=
  match s.tx with
  | none => []
  | some (.reply _ r) => replyFrame r
  | some (.notice n) => noticeFrame n

/-! ### Frames sent on the ship link (section 11.3) -/

/-- Two bits of the line summary byte. -/
def LineSummary.code : LineSummary → Nat
  | .closed => 0 | .flowing => 1 | .closing => 2

/-- The bytes of a frame sent on the ship link. -/
def shipOutFrame : ShipOut → List Byte
  | .marker cycle esd q w1 w2 =>
    shipFrame 0xFF 0x01 ([cycle] ++ yesNo esd ++
      u8 (q.a.code + 4 * q.b.code + 16 * q.c.code + 64 * q.d.code) ++ wireWordBytes w1 ++ wireWordBytes w2)
  | .panelPoll => shipFrame 0x00 0x02 []
  | .readPoll k tg => shipFrame (BitVec.ofNat 8 (tankNum k)) 0x03 (yesNo tg)
  | .declarePoll k => shipFrame (BitVec.ofNat 8 (tankNum k)) 0x04 []

end Sys2Proof.Machine
end

