-- ==== Sys2Proof/Machine/ShipLink.lean ====
section
/-! DEFINITION. The Ship Link Controller (chapter 7): link states, the panel reply, the poll schedule, the outcome of a
poll, tank replies and tank health, declarations, and the work at a marker. -/

namespace Sys2Proof.Machine

/-! ### Link states (R140 to R142) -/

/-- Entry to SILENT (R141), with the SHIP clear run at 0 (R169). -/
def Ev.enterSilent (e : Ev) : Ev :=
  let e1 := e.modLink (fun x => { x with state := .silent, silenceStart := some e.now })
  ((((e1.modShut (fun x => { x with shipRun := 0 })).gradeWaiting .g1).gradeWaiting .g2)).mark .link

/-- A line loses the link: a flowing line trips with LINK_LOST (R140). -/
def Ev.lineLinkLost (e : Ev) (l : LineId) : Ev := if e.flowing l then e.trip l .linkLost else e

/-- The link goes to DOWN (R140). -/
def Ev.linkDown (e : Ev) : Ev :=
  let e1 := e.modLink (fun x => { x with state := .down, silenceStart := none, missCount := 0, panel := none })
  let e2 := (e1.modShut (fun x => { x with shipRun := 0 })).eachLine (fun l x => x.lineLinkLost l)
  ((e2.gradeWaiting .g1).gradeWaiting .g2).mark .link

/-- A missed panel poll (R138, R140). -/
def Ev.panelMiss (e : Ev) : Ev :=
  if e.link.state = .down then e
  else if e.link.missCount + 1 < Config.panelMissLimit then e.modLink (fun x => { x with missCount := x.missCount + 1 })
  else e.linkDown

/-- The silence ends (R142). -/
def Ev.silenceEnds (e : Ev) : Ev :=
  let e1 := e.modLink (fun x => { x with state := .up, silenceStart := none })
  ((e1.gradeOffering .g1).gradeOffering .g2).mark .link

/-! ### The panel reply (R138, R139, R162, R169) -/

/-- What a panel reply can do to lines. -/
inductive PanelAct where
  | esd | stop | terms
  deriving DecidableEq, Repr

/-- The six orders of the three acts. -/
def actOrder : Nat → List PanelAct
  | 0 => [.esd, .stop, .terms]
  | 1 => [.esd, .terms, .stop]
  | 2 => [.stop, .esd, .terms]
  | 3 => [.stop, .terms, .esd]
  | 4 => [.terms, .esd, .stop]
  | _ => [.terms, .stop, .esd]

/-- A flowing line closes with reason HOLD (R17). -/
def Ev.holdLine (e : Ev) (l : LineId) (why : HoldReason) : Ev :=
  if e.flowing l then e.closeEntry l .hold (some why) none else e

/-- The lines of a grade whose agreement ended close with TERMS_CHANGED (R162). -/
def Ev.holdGrade (e : Ev) (g : GradeId) : Ev :=
  e.eachLine (fun l x => if x.gradeOfLine l = some g then x.holdLine l .termsChanged else x)

/-- One act of a panel reply; `gs` are the grades whose agreement the reply ended. -/
def Ev.panelAct (e : Ev) (gs : List GradeId) : PanelAct → Ev
  | .esd => e.raiseCause .ship
  | .stop => e.eachLine (fun l x => x.holdLine l .shipStop)
  | .terms => gs.foldl (fun x g => x.holdGrade g) e

/-- The acts a reply carries. -/
def panelActs (p : PanelReply) (gs : List GradeId) : List PanelAct :=
  (if p.shipEsd then [.esd] else []) ++ (if p.shipStop then [.stop] else []) ++ (if gs.isEmpty then [] else [.terms])

/-- Do the acts of a reply. Where it carries two or more, R139 and R162 give the outcome of each order and no rule which is
taken first: the order is a free value (DESIGN CHOICE, notes/assumptions/10.md). -/
def Ev.panelActsDo (e : Ev) (acts : List PanelAct) (gs : List GradeId) : Ev :=
  if acts.length < 2 then acts.foldl (fun x a => x.panelAct gs a) e
  else
    ((actOrder (Config.panelOrder e.freeCtr % 6)).filter (fun a => acts.contains a)).foldl
      (fun x a => x.panelAct gs a) { e with freeCtr := e.freeCtr + 1 }

/-- The four flags of two replies agree. -/
def sameFlags (p q : PanelReply) : Bool :=
  p.ready == q.ready && p.shipStop == q.shipStop && p.shipEsd == q.shipEsd && p.termsCapable == q.termsCapable

/-- The SHIP clear run after a reply (R169); `up` says that the link was UP when the reply was taken. -/
def nextShipRun (run : Nat) (up esd : Bool) : Nat := if esd then 0 else if up then min (run + 1) 3 else 0

/-- A panel reply is taken (R138, R139, R141, R156, R169). One that ends DOWN enters SILENT first and hands its words on after it,
so its words stand as the last ship words (DEDUCED, notes/assumptions/49.md). -/
def Ev.panelReply (e : Ev) (p : PanelReply) : Ev :=
  let e1 := if e.link.state = .down then e.enterSilent else e
  let fresh := match e.link.panel with
    | some q => !sameFlags p q
    | none => true
  let e2 := (e1.modLink (fun x => { x with missCount := 0, panel := some p })).markIf fresh .link
  let e3 := e2.modShut (fun x => { x with shipRun := nextShipRun x.shipRun (e.link.state == .up) p.shipEsd })
  let v1 := judgeWord .g1 p.word1
  let v2 := judgeWord .g2 p.word2
  let gs := (if (e3.grade .g1).withdrawn v1 then [GradeId.g1] else []) ++
    (if (e3.grade .g2).withdrawn v2 then [GradeId.g2] else [])
  ((e3.takeWord .g1 v1).takeWord .g2 v2).panelActsDo (panelActs p gs) gs

/-! ### The schedule (R136, R137) -/

/-- The tank is polled with READ: LIVE or STALE. -/
def Health.read : Health → Bool
  | .live => true | .stale => true | .absent => false | .lost => false | .refused => false

/-- The tank is ACTIVE or INCOMING. -/
def TankUse.filling : TankUse → Bool
  | .active => true | .incoming => true | .free => false | .queued => false | .done => false

/-- The tank is QUEUED, ACTIVE or INCOMING. -/
def TankUse.listed : TankUse → Bool
  | .queued => true | .active => true | .incoming => true | .free => false | .done => false

/-- The tanks in ascending number from `k`, wrapping from 8 to 1. -/
def tanksFrom (k : TankId) : List TankId :=
  allTanks.dropWhile (fun x => x != k) ++ allTanks.takeWhile (fun x => x != k)

/-- The tank number after `k`, wrapping. -/
def nextTank (k : TankId) : TankId := (tankOf (tankNum k + 1)).getD .k1

/-- The priority set (R136). -/
def State.priority (s : State) (k : TankId) : Bool := (s.tank k).use.filling && (s.tank k).health.read

/-- The priority tanks of a cycle in slot order, and the priority pointer after it (R136). Five of a larger set take the slots in
the order of their choice, wrapped from the pointer (DEDUCED, notes/assumptions/51.md). -/
def State.priorityPolls (s : State) : List TankId × TankId :=
  let all := allTanks.filter s.priority
  if all.length ≤ 5 then (all, s.link.prioPtr)
  else
    let five := ((tanksFrom s.link.prioPtr).filter s.priority).take 5
    (five, ((five.getLast?).map nextTank).getD s.link.prioPtr)

/-- The walk so far: slots given, deferred DECLAREs, tanks not polled. -/
structure Walk where
  slots : List Slot
  deferred : List TankId
  missed : List TankId
  deriving DecidableEq, Repr

/-- A slot given to a poll at the marker. -/
def Slot.given (p : SlotUse) : Slot := { plan := p, begun := false, outcome := .pending }

/-- The walk visits a tank (R137). -/
def Walk.visit (h : Health) (w : Walk) (k : TankId) : Walk :=
  if h.read then
    if w.slots.length < 5 then { w with slots := w.slots ++ [.given (.read k)] } else { w with missed := w.missed ++ [k] }
  else if w.slots.length < 4 then
    { w with slots := w.slots ++ [.given (.declare k), .given (.declareTail k)] }
  else if w.slots.length < 5 then { w with deferred := w.deferred ++ [k], missed := w.missed ++ [k] }
  else { w with missed := w.missed ++ [k] }

/-- The walk of a cycle after its priority polls (R137). -/
def State.walk (s : State) : Walk :=
  ((tanksFrom s.link.pollPtr).filter (fun k => !s.priority k)).foldl (fun w k => w.visit (s.tank k).health k)
    { slots := s.priorityPolls.1.map (fun k => .given (.read k)), deferred := [], missed := [] }

/-- Make the schedule of a cycle at its marker (R136, R137). -/
def Ev.makeSchedule (e : Ev) : Ev :=
  let w := e.walk
  e.modLink (fun x =>
    { x with slots := w.slots ++ List.replicate (5 - w.slots.length) Slot.idle, deferred := w.deferred,
             pollPtr := (w.missed.head?).getD x.pollPtr, prioPtr := e.priorityPolls.2 })

/-! ### Tank health (R146, R147) -/

/-- A tank becomes LOST: the line of an ACTIVE or INCOMING tank trips (R147). -/
def Ev.loseTank (e : Ev) (k : TankId) : Ev :=
  let e1 := e.setHealth k .lost none
  if (e.tank k).use.filling then e1.tripHolder k .tankLost else e1

/-- A miss of a READ poll (R146). -/
def Ev.tankMiss (e : Ev) (k : TankId) : Ev :=
  let n := (e.tank k).missCount
  let e1 := e.modTank k (fun x => { x with missCount := min (n + 1) Config.lostMisses })
  if n + 1 = Config.staleMisses ∧ (e.tank k).health = .live then e1.setHealth k .stale none
  else if n + 1 = Config.lostMisses ∧ (e.tank k).health = .stale then e1.loseTank k
  else e1

/-- The time thresholds of one tank at a marker (R147). -/
def Ev.thresholds (e : Ev) (k : TankId) : Ev :=
  if (e.tank k).health.read then
    let ms := elapsed e.now (e.tank k).lastNew
    if Config.lostMs ≤ ms then e.loseTank k
    else if Config.staleMs ≤ ms ∧ (e.tank k).health = .live then e.setHealth k .stale none
    else e
  else e

/-! ### The outcome of a poll (R134, R194) -/

/-- The reply timeout of a poll (R134). -/
def Poll.timeout (p : Poll) : Nat :=
  match p.kind with
  | .panel => Config.readTimeoutMs
  | .read _ => Config.readTimeoutMs
  | .declare _ => Config.declareTimeoutMs

/-- The poll awaiting its outcome whose timeout has not ended (R134, notes/assumptions/17.md). -/
def State.awaiting (s : State) : Option Poll :=
  match s.link.poll with
  | some p => if elapsed s.now p.start < p.timeout then some p else none
  | none => none

/-- Record the outcome of a tank slot, in both slots of a DECLARE. -/
def Ev.setOutcome (e : Ev) (slot : Nat) (o : SlotOutcome) : Ev :=
  e.modLink (fun x => { x with slots := x.slots.mapIdx (fun i y =>
    if i + 1 = slot then { y with outcome := o }
    else match y.plan with
      | .declareTail _ => if i = slot then { y with outcome := o } else y
      | .idle => y
      | .read _ => y
      | .declare _ => y) })

/-- The poll is decided. -/
def Ev.closePoll (e : Ev) (p : Poll) (o : SlotOutcome) : Ev :=
  (e.modLink (fun x => { x with poll := none })).setOutcome p.slot o

/-- A poll is decided without a listed reply: a miss to a PANEL or READ poll, no change to a DECLARE poll (R138, R146,
section 7.5). -/
def Ev.missPoll (e : Ev) (p : Poll) (o : SlotOutcome) : Ev :=
  let e1 := e.closePoll p o
  match p.kind with
  | .panel => e1.panelMiss
  | .read k => e1.tankMiss k
  | .declare _ => e1

/-- A first complete frame that is no listed reply decides the poll (R134, R194); without an awaiting poll it is
discarded. -/
def Ev.badFrame (e : Ev) (o : SlotOutcome) : Ev :=
  match e.awaiting with
  | some p => e.missPoll p o
  | none => e

/-- The poll is a PANEL poll. -/
def PollKind.isPanel : PollKind → Bool
  | .panel => true | .read _ => false | .declare _ => false

/-- The reply timeout of a poll ends (R134): it has no reply. `panel` says which of the two timeouts it is. -/
def Ev.replyTimeout (e : Ev) (panel : Bool) : Ev :=
  match e.link.poll with
  | some p => if p.kind.isPanel = panel ∧ p.timeout ≤ elapsed e.now p.start then e.missPoll p .noReply else e
  | none => e

/-- A frame of a good check from tank `k`: a reply when it is the tank polled, otherwise a frame from another address
(R134). -/
def Ev.tankFrame (e : Ev) (k : TankId) (onRead onDeclare : Poll → Ev → Ev) : Ev :=
  match e.awaiting with
  | none => e
  | some p =>
    match p.kind with
    | .panel => e.missPoll p .noReply
    | .read n => if n = k then onRead p e else e.missPoll p .noReply
    | .declare n => if n = k then onDeclare p e else e.missPoll p .noReply

/-- A panel reply frame: a reply when the panel was polled, otherwise a frame from another address. -/
def Ev.panelFrame (e : Ev) (p : PanelReply) : Ev :=
  match e.awaiting with
  | none => e
  | some q => if q.kind.isPanel then (e.closePoll q .pending).panelReply p else e.missPoll q .noReply

/-! ### Declarations (R31 to R34, R65) -/

/-- Store a declaration, valid or not: the valid one initialises the readings and makes the tank LIVE, the invalid one makes
it REFUSED with the stored one discarded (R32, R34). An ACTIVE tank's line loses its settle with the pair (R65). -/
def Ev.storeDeclaration (e : Ev) (k : TankId) (d : Option Declaration) : Ev :=
  match d with
  | some n =>
    let e1 := (e.modTank k (fun x => { (x.initReadings e.now) with decl := some n })).setHealth k .live none
    (match e.listLine k with
      | some l => if (e.tank k).use = .active then e1.modPred l (fun x => x.settled) else e1
      | none => e1)
  | none => (e.modTank k (fun x => { x with decl := none })).setHealth k .refused (some .badDeclaration)

/-- A DECLARATION answering a DECLARE poll (R32). The declaration is stored before TANK_CHANGED acts, so a trip record written by it
shows an ACTIVE tank of the reply without a level (DESIGN CHOICE, notes/assumptions/50.md). -/
def Ev.declared (e : Ev) (k : TankId) (d : WireDeclaration) : Ev :=
  let new := declarationOf k d
  let changed := new.isNone || ((e.tank k).decl.isSome && (e.tank k).decl != new)
  let e1 := e.storeDeclaration k new
  if (e.tank k).use.listed && changed then e1.tripHolder k .tankChanged else e1

/-- A DECLARATION answering a READ poll (R33, R34), stored before TANK_CHANGED acts as in `Ev.declared` (DESIGN CHOICE,
notes/assumptions/50.md). -/
def Ev.redeclared (e : Ev) (k : TankId) (d : WireDeclaration) : Ev :=
  let new := declarationOf k d
  if new.isSome && (e.tank k).decl == new then e.modTank k (fun x => { x with missCount := 0, toggle := none })
  else
    let e1 := e.storeDeclaration k new
    if (e.tank k).use.listed then e1.tripHolder k .tankChanged else e1

/-- A DECLARATION frame from tank `k`, decided by the poll it answers. -/
def Ev.declarationFrame (e : Ev) (k : TankId) (d : WireDeclaration) : Ev :=
  e.tankFrame k (fun p x => (x.closePoll p (.reply .declaration)).redeclared k d)
    (fun p x => (x.closePoll p (.reply .declaration)).declared k d)

/-- A REFUSE reply to either kind of poll (R149). -/
def Ev.refused (e : Ev) (k : TankId) : Ev :=
  let e1 := e.setHealth k .refused (some .refusedByUnit)
  if (e.tank k).use.filling then e1.tripHolder k .tankLost else e1

/-! ### Readings (R55, R101, R144, R145, R148) -/

/-- Rank of a mark reached. -/
def Mark.rank : Mark → Nat
  | .none => 0 | .changeover => 1 | .topoff => 2 | .final => 3 | .high => 4

/-- The highest mark of a declaration that a high water has come to or passed (R30). -/
def Declaration.markAt (d : Declaration) (level : Nat) : Mark :=
  if d.highMm ≤ level then .high
  else if d.finalMm ≤ level then .final
  else if d.topoffMm ≤ level then .topoff
  else match d.changeoverMm with
    | some c => if c ≤ level then .changeover else .none
    | none => .none

/-- The marks reached once the high water has come to a level. -/
def Tank.marksAt (x : Tank) (level : Nat) : Mark :=
  match x.decl with
  | some d => if x.marks.rank < (d.markAt level).rank then d.markAt level else x.marks
  | none => x.marks

/-- A READING is refused for use (R144). -/
def Tank.refuses (x : Tank) (fault : Bool) (level : Nat) : Bool :=
  fault || decide (Config.maxLevelMm < level) ||
    (match x.latest with
      | some h => decide (h.level + Config.levelJumpMm < level)
      | none => false)

/-- The record after an accepted new reading: latest level, toggle, health, and on an advance high water, rise pair and
marks (R55, R145). -/
def Tank.takeNew (x : Tank) (toggle : Bool) (level : Nat) (t : Time) : Tank :=
  let y := { x with latest := some { level := level, time := t }, lastNew := t, toggle := some toggle,
                    health := if x.health = .stale then .live else x.health }
  if x.advances level then
    { y with highWater := some level, pairPrev := x.pairLatest, pairLatest := some { level := level, time := t },
             marks := x.marksAt level }
  else y

/-- An accepted new reading above the peak of a watch record becomes its peak (R101). -/
def Watch.raise (w : Watch) (level : Nat) (t : Time) : Watch :=
  match w.peak with
  | some p => if p < level then { w with peak := some level, peakTime := t } else w
  | none => w

/-- The watch record after an accepted new reading where an absent base is taken from it: the ACTIVE tank's in PROVING, the
INCOMING tank's in CHANGEOVER (R101). -/
def Watch.take (w : Watch) (level : Nat) (t : Time) : Watch :=
  match w.peak with
  | none => { base := some level, peak := some level, peakTime := t }
  | some _ => w.raise level t

/-- The tests of a reading in CHANGEOVER: overrun first, then success if the line is still there (R45, R48). -/
def Ev.changeoverTests (e : Ev) (l : LineId) : Ev :=
  let e1 := e.overrunTest l
  if (e1.line l).state = .changeover then e1.successTest l else e1

/-- An accepted new reading of tank `k` is handed on for the line whose list holds it (R145): watch records, changeover
baseline (R44), the settle (R63), then the tests of the line's state (R10, R13, R45, R48, R69). -/
def Ev.handOn (e : Ev) (k : TankId) (l : LineId) (level : Nat) (advance : Bool) : Ev :=
  match (e.tank k).use with
  | .active =>
    let e1 := e.modFlow l (fun x => { x with watchActive := x.watchActive.map (fun w =>
      if (e.line l).state = .proving then w.take level e.now else w.raise level e.now) })
    let e2 := if advance then e1.modPred l (fun x => x.advanced (e.tank k).pair) else e1
    (match (e.line l).state with
      | .proving => e2.provingTest l k level
      | .bulk => e2.evaluateMarks l
      | .changeover => e2.changeoverTests l
      | .topping => e2.closeStartTest l
      | .undeclared => e2
      | .idle => e2
      | .starting => e2
      | .closing => e2
      | .held => e2
      | .tripped => e2
      | .complete => e2)
  | .incoming =>
    let e1 := e.modFlow l (fun x => { x with watchIncoming := x.watchIncoming.map (fun w => w.take level e.now) })
    if (e.line l).state = .changeover then
      (e1.modTank k (fun x =>
        { x with changeoverBase := match x.changeoverBase with
            | some b => some b
            | none => some level })).changeoverTests l
    else e1
  | .free => e
  | .queued => e
  | .done => e

/-- HIGH_ALARM of an accepted reading (R148); `was` is the record's flag before it. -/
def Ev.highAlarmActs (e : Ev) (k : TankId) (was : Bool) : Ev :=
  if (e.tank k).use.filling then
    match e.listLine k with
    | some l => if e.flowing l || (e.closing l && !was) then e.trip l .highAlarm else e
    | none => e
  else e

/-- A READING answering a READ poll (R144, R145, R148). -/
def Ev.takeReading (e : Ev) (p : Poll) (k : TankId) (toggle high overfull fault : Bool) (level : Nat) : Ev :=
  let x := e.tank k
  if x.refuses fault level then
    let e1 := (e.closePoll p .refusedReading).tankMiss k
    if overfull then e1.raiseCause .overfill else e1
  else
    let isNew := x.toggle != some toggle
    let e1 := (e.closePoll p (if isNew then .reply .reading else .repeated)).modTank k (fun y =>
      { y with missCount := 0, highAlarm := high, overfill := overfull })
    let e2 := if isNew then
        (e1.modTank k (fun y => y.takeNew toggle level e.now)).markIf
          (x.health == .stale || (x.advances level && x.marksAt level != x.marks)) (.tank k)
      else e1
    let e3 := if high then e2.highAlarmActs k x.highAlarm else e2
    let e4 := if overfull then e3.raiseCause .overfill else e3
    match isNew, e.listLine k with
    | true, some l => e4.handOn k l level (x.advances level)
    | _, _ => e4

/-- A READING frame from tank `k` (R32, R144, R148, R194): one whose toggle byte is neither 0 nor 1 is a reply not listed,
its flags not examined. -/
def Ev.readingFrame (e : Ev) (k : TankId) (toggle : Nat) (flags : Byte) (level : Nat) : Ev :=
  e.tankFrame k
    (fun p x =>
      if toggle < 2 then
        x.takeReading p k (toggle == 1) (flags.getLsbD 0) (flags.getLsbD 1) (flags.getLsbD 2) level
      else x.missPoll p (.reply .unlisted))
    (fun p x =>
      if toggle < 2 then
        if flags.getLsbD 1 then (x.closePoll p (.reply .reading)).raiseCause .overfill
        else x.closePoll p (.reply .reading)
      else x.missPoll p (.reply .unlisted))

/-! ### Slots and the marker (R134, R135) -/

/-- The PANEL poll is sent. -/
def Ev.sendPanelPoll (e : Ev) : Ev :=
  e.modLink (fun x => { x with poll := some { kind := .panel, slot := 0, start := e.now }, sent := some .panelPoll })

/-- Mark a slot, and the tail of its DECLARE, as begun. -/
def beginSlot (slots : List Slot) (slot : Nat) : List Slot :=
  slots.mapIdx (fun i y =>
    if i + 1 = slot then { y with begun := true }
    else match y.plan with
      | .declareTail _ => if i = slot then { y with begun := true } else y
      | .idle => y
      | .read _ => y
      | .declare _ => y)

/-- The poll that the schedule gives a slot is sent (R134, R145); a slot with none stays idle. -/
def Ev.sendTankPoll (e : Ev) (slot : Nat) : Ev :=
  if slot = 0 then e
  else
    match (e.link.slots.drop (slot - 1)).head? with
    | none => e
    | some y =>
      if y.begun then e
      else
        match y.plan with
        | .read k =>
          e.modLink (fun x =>
            { x with slots := beginSlot x.slots slot, poll := some { kind := .read k, slot := slot, start := e.now },
                     sent := some (.readPoll k ((e.tank k).toggle.getD false)) })
        | .declare k =>
          e.modLink (fun x =>
            { x with slots := beginSlot x.slots slot, poll := some { kind := .declare k, slot := slot, start := e.now },
                     sent := some (.declarePoll k) })
        | .declareTail _ => e
        | .idle => e

/-- The tests of a line at a marker (R135). -/
def Ev.markerLine (e : Ev) (l : LineId) : Ev :=
  match (e.line l).state with
  | .bulk => e.evaluateMarks l
  | .changeover => e.overrunTest l
  | .topping => e.closeStartTest l
  | .undeclared => e
  | .idle => e
  | .starting => e
  | .proving => e
  | .closing => e
  | .held => e
  | .tripped => e
  | .complete => e

/-- The number of the cycle that a marker opens (R134). -/
def nextCycle : Option (BitVec 8) → BitVec 8
  | none => 0
  | some c => c + 1

/-- A marker (R134 to R137, R147): sent with the state as it stands, then the thresholds, the schedule and the tests of the
lines. -/
def Ev.marker (e : Ev) : Ev :=
  let c := nextCycle e.link.cycle
  let e1 := e.modLink (fun x =>
    { x with cycle := some c, sent := some (.marker c e.latch e.summaries (e.bargeWord .g1) (e.bargeWord .g2)) })
  ((e1.eachTank allTanks (fun k x => x.thresholds k)).makeSchedule).eachLine (fun l x => x.markerLine l)

end Sys2Proof.Machine
end

