-- ==== Sys2Proof/Machine/Requests.lean ====
section
/-! DEFINITION. What each console request does when it is taken: the tests of its owning rule in their order, its effect
and its result (R181). A refused request changes nothing, the removal of R7 apart. -/

namespace Sys2Proof.Machine

/-! ### LINE_PROFILE (R1 to R3, R110 to R112) -/

/-- The list holds a tank that declares another grade. -/
def State.listGradeDiffers (s : State) (l : LineId) (g : GradeId) : Bool :=
  (s.list l).any (fun k => match (s.tank k).decl with
    | some d => d.grade != g
    | none => false)

/-- Another declared line of the other grade names the pump. -/
def State.pumpTaken (s : State) (l : LineId) (g : GradeId) (p : PumpId) : Bool :=
  allLines.any (fun m => m != l && s.pumpOfLine m == some p && s.gradeOfLine m != some g)

/-- The valve's part of an accepted profile: learned rate (R3, R111), position of a usable transmitter (R110), commanded
target (R112). -/
def Valve.profiled (v : Valve) (old : Option LineProfile) (p : LineProfile) : Valve :=
  let seeded := match old with
    | some q => q.nominalRate != p.nominalRate
    | none => true
  let v1 := if seeded then { v with learnedRate := some p.nominalRate } else v
  let v2 := match v1.sample with
    | some x => if p.feedbackPresent = 1 ∧ v1.feedbackFault = false then { v1 with position := x, source := .transmitter }
      else v1
    | none => v1
  { v2 with commanded := min v2.commanded p.bulkPos }

/-- An accepted profile takes effect (R3). -/
def Ev.acceptProfile (e : Ev) (l : LineId) (p : LineProfile) : Ev :=
  let st := (e.line l).state
  let e1 := (e.modValve l (fun v => v.profiled (e.line l).profile p)).modLine l (fun x => { x with profile := some p })
  let e2 := if st = .complete then e1.zeroAccount l else e1
  if (e.valve l).closedSwitch then
    if st = .undeclared ∨ st = .complete then e2.setState l .idle else e2
  else e2.closeEntry l .trip none (some .foundOpen)

/-- LINE_PROFILE of a line: the checks of R1 after the line number, the clamps of R2, the effects of R3. -/
def Ev.lineProfileOf (e : Ev) (l : LineId) (p : LineProfile) : Taken :=
  let st := (e.line l).state
  if st ≠ .undeclared ∧ st ≠ .idle ∧ st ≠ .complete ∧ st ≠ .tripped then e.answer .wrongState
  else
    match profileError p with
    | some i => e.answer (.fieldRange i)
    | none =>
      match gradeOf p.grade, pumpOf p.pump with
      | some g, some u =>
        if (e.grade g).agreement = .undeclared then e.answer (.refused .undeclaredGrade)
        else if e.listGradeDiffers l g || e.pumpTaken l g u then e.answer (.refused .gradeMismatch)
        else (e.acceptProfile l (clampProfile p)).answer (if clampProfile p = p then .ok else .okAdjusted)
      | _, _ => e.answer (.fieldRange 1)

/-- A request that names a line: FIELD_RANGE with index 0 for a number outside 1 to 4 (R1, R39, R183). -/
def Ev.onLine (e : Ev) (n : Nat) (f : LineId → Taken) : Taken :=
  match lineOf n with
  | some l => f l
  | none => e.answer (.fieldRange 0)

/-! ### START, RESUME, HOLD, STOP, CLEAR_TRIP (R5 to R7, R21, R22, R25) -/

/-- The first of the conditions 2 to 6 of R5 that fails. -/
def State.startRefusal (s : State) (l : LineId) : Option Reason :=
  if s.latch then some .esdActive
  else if s.termsAgreed l = false then some .termsNotAgreed
  else
    match s.link.panel with
    | none => some .shipNotReady
    | some p =>
      if p.ready = false then some .shipNotReady
      else if p.shipStop then some .shipStop
      else
        match (s.list l).head? with
        | none => some .tankNotLive
        | some k => if (s.tank k).health = .live then none else some .tankNotLive

/-- START (R5). -/
def Ev.startLine (e : Ev) (l : LineId) : Taken :=
  if (e.line l).state ≠ .idle then e.answer .wrongState
  else if (e.list l).isEmpty then e.answer (.refused .noFillOrder)
  else
    match e.startRefusal l with
    | some r => e.answer (.refused r)
    | none => ((e.zeroAccount l).enterStarting l).answer .ok

/-- RESUME removes a DONE front tank from the list (R7). -/
def Ev.dropDoneFront (e : Ev) (l : LineId) : Ev :=
  match e.list l with
  | k :: ks => if (e.tank k).use = .done then e.setList l ks else e
  | [] => e

/-- RESUME (R7). -/
def Ev.resumeLine (e : Ev) (l : LineId) : Taken :=
  if (e.line l).state ≠ .held then e.answer .wrongState
  else
    let e1 := e.dropDoneFront l
    if (e1.list l).isEmpty then e1.answer (.refused .noFillOrder)
    else
      match e1.startRefusal l with
      | some r => e1.answer (.refused r)
      | none => (e1.enterStarting l).answer .ok

/-- HOLD (R21). -/
def Ev.holdRequest (e : Ev) (l : LineId) : Taken :=
  if e.flowing l then (e.closeEntry l .hold (some .console) none).answer .ok else e.answer .wrongState

/-- A HELD line goes straight to COMPLETE (R22, R23). -/
def Ev.completeHeld (e : Ev) (l : LineId) : Ev :=
  ((e.settleComplete l).modLine l (fun x => { x with holdReason := none })).setState l .complete

/-- STOP (R22). -/
def Ev.stopRequest (e : Ev) (l : LineId) : Taken :=
  if e.flowing l then (e.closeEntry l .ending none none).answer .ok
  else if (e.line l).state = .held then (e.completeHeld l).answer .ok
  else e.answer .wrongState

/-- CLEAR_TRIP (R25). -/
def Ev.clearTripRequest (e : Ev) (l : LineId) : Taken :=
  if (e.line l).state ≠ .tripped then e.answer .wrongState
  else if (e.valve l).closedSwitch = false then e.answer (.refused .valveNotClosed)
  else if (e.line l).quietPending then e.answer (.refused .quietPending)
  else (((e.settleCleared l).zeroAccount l).setState l .idle).answer .ok

/-! ### FILL_ORDER (R39, R40) -/

/-- The index of the first tank position out of range (test 4 of R39). -/
def badPosition : Nat → List Nat → Option Nat
  | _, [] => none
  | i, n :: ns => if (tankOf n).isSome then badPosition (i + 1) ns else some i

/-- A number stands twice (test 5). -/
def hasDuplicate : List TankId → Bool
  | [] => false
  | k :: ks => ks.contains k || hasDuplicate ks

/-- A tank stands in another line's list or fed set (test 8). -/
def State.inOtherLine (s : State) (l : LineId) (k : TankId) : Bool :=
  allLines.any (fun m => m != l && ((s.list m).contains k || (s.line m).fedSet.contains k))

/-- The tests 5 to 8 of R39. -/
def State.orderRefusal (s : State) (l : LineId) (ks : List TankId) : Option Reason :=
  if hasDuplicate ks then some .duplicateTank
  else if !ks.all (fun k => (s.tank k).health == .live) then some .tankNotLive
  else if !ks.all (fun k => ((s.tank k).decl.map (fun d => d.grade)) == s.gradeOfLine l) then some .gradeMismatch
  else if ks.any (fun k => s.inOtherLine l k) then some .tankInUse
  else none

/-- An accepted fill order (R40). -/
def Ev.acceptOrder (e : Ev) (l : LineId) (ks : List TankId) : Ev :=
  let e1 := e.eachTank (e.list l) (fun k x =>
    if ks.contains k ∨ (x.tank k).use = .done then x else x.setUse k .free)
  let e2 := (e1.zeroAccount l).setList l ks
  let e3 := e2.eachTank ks (fun k x => (x.setUse k .queued).modTank k (fun y => { y with attributed := 0 }))
  if (e.line l).state = .complete then e3.setState l .idle else e3

/-- FILL_ORDER of a line (R39). -/
def Ev.fillOrderOf (e : Ev) (l : LineId) (o : OrderOperands) : Taken :=
  let st := (e.line l).state
  if st ≠ .idle ∧ st ≠ .held ∧ st ≠ .complete then e.answer .wrongState
  else if inRange o.count (1, 4) = false then e.answer (.fieldRange 1)
  else
    match badPosition 2 (orderNumbers o) with
    | some i => e.answer (.fieldRange i)
    | none =>
      let ks := (orderNumbers o).filterMap tankOf
      match e.orderRefusal l ks with
      | some r => e.answer (.refused r)
      | none => (e.acceptOrder l ks).answer .ok

/-! ### GRADE_PROFILE, MANUAL_TERMS, HPU_PROFILE (R130, R153, R155, R164) -/

/-- An accepted grade profile: the terms stored, the agreement begun again (R155). -/
def Ev.acceptGrade (e : Ev) (g : GradeId) (o : GradeOperands) : Ev :=
  (e.modGrade g (fun x =>
    { (x.cleared (if e.link.state = .up then .offering else .waiting)) with
      barge := some { density := o.density,
                      fields := { maxRate := o.maxRate, maxPressure := o.maxPressure,
                                  changeoverOk := o.changeoverOk == 1 } } })).mark (.terms g)

/-- GRADE_PROFILE (R153, R155). -/
def Ev.gradeRequest (e : Ev) (n : Nat) (o : GradeOperands) : Taken :=
  match gradeOf n with
  | none => e.answer (.fieldRange 0)
  | some g =>
    if e.gradeActive g then e.answer (.refused .linesActive)
    else
      match gradeError o with
      | some i => e.answer (.fieldRange i)
      | none => (e.acceptGrade g o).answer .ok

/-- Accepted manual terms (R164). -/
def Ev.acceptManual (e : Ev) (g : GradeId) (m : ManualOperands) : Ev :=
  let f : TermsFields := { maxRate := m.maxRate, maxPressure := m.maxPressure, changeoverOk := m.changeoverOk == 1 }
  (e.modGrade g (fun x =>
    { (x.cleared .manual) with console := some f, agreed := x.barge.map (fun b => agreedTerms b f) })).mark (.terms g)

/-- MANUAL_TERMS (R164). -/
def Ev.manualRequest (e : Ev) (n : Nat) (m : ManualOperands) : Taken :=
  match gradeOf n with
  | none => e.answer (.fieldRange 0)
  | some g =>
    match manualError m with
    | some i => e.answer (.fieldRange i)
    | none =>
      if (e.grade g).agreement = .undeclared then e.answer (.refused .undeclaredGrade)
      else if e.link.state ≠ .up then e.answer (.refused .linkNotUp)
      else if (match e.link.panel with
          | some p => p.termsCapable
          | none => true) then e.answer (.refused .panelCapable)
      else if e.gradeActive g then e.answer (.refused .linesActive)
      else (e.acceptManual g m).answer .ok

/-- HPU_PROFILE (R130). -/
def Ev.hpuRequest (e : Ev) (h : HpuProfile) : Taken :=
  if e.strokeInProgress then e.answer (.refused .linesActive)
  else
    match hpuError h with
    | some i => e.answer (.fieldRange i)
    | none => ((e.modSupply (fun x => { x with profile := h })).bandEvent).answer .ok

/-! ### ESD_STOP, ESD_RESET, RENEGOTIATE (R143, R163, R172, R173) -/

/-- ESD_STOP (R172). -/
def Ev.esdStopRequest (e : Ev) : Taken := (e.raiseCause .console).answer .ok

/-- The reset condition of some cause in the set holds (test 1 of R173). -/
def State.causePresent (s : State) : Bool := s.shut.causes.list.any s.conditionHolds

/-- The cause set and the valve list are emptied, the permits evaluated, the ESD notice queued (R173). -/
def Ev.resetLatch (e : Ev) : Ev :=
  (((e.modShut (fun x => { x with causes := noCauses, valveList := [] })).evalPermit .p1).evalPermit .p2).mark .esd

/-- ESD_RESET (R173). -/
def Ev.esdResetRequest (e : Ev) : Taken :=
  if e.causePresent then e.answer (.refused .causePresent)
  else if allLines.any (fun l => e.closing l) then e.answer (.refused .linesActive)
  else if e.latch then e.resetLatch.answer .ok
  else e.answer .ok

/-- RENEGOTIATE (R143, R163). -/
def Ev.renegotiateRequest (e : Ev) : Taken :=
  if e.anyActive then e.answer (.refused .linesActive)
  else if e.link.state ≠ .up then e.answer (.refused .linkNotUp)
  else e.enterSilent.answer .ok

/-! ### RESTART (R189, R190) -/

/-- RESTART is taken (R189). -/
def Ev.restartRequest (e : Ev) : Taken :=
  if e.anyActive || e.strokeInProgress then e.answer (.refused .linesActive)
  else Ev.answer { e with restart := .replying, restartEsd := false } .ok

/-- A buffer after the effect of a RESTART: a waiting request is emptied without reply (R190). -/
def Buffer.restarted : Buffer → Buffer
  | .waiting _ _ => .empty
  | .empty => .empty
  | .answered r => .answered r

/-- The Console Port's part (R190). -/
def Ev.restartConsole (e : Ev) : Ev :=
  { e with notices := [], buf1 := e.buf1.restarted, buf2 := e.buf2.restarted, waitOrder := [], restart := .idle,
           restartEsd := false }

/-- A line at RESTART (R29, R108): the account, hold reason, baseline and flags. -/
def Ev.restartLine (e : Ev) (l : LineId) : Ev :=
  let st := (e.line l).state
  let e1 := (((e.zeroAccount l).setList l []).setSurge l false).setLate l false
  let e2 := (e1.modLine l (fun x =>
    { x with holdReason := none, closeReason := none, tankEnd := none, baseline := none, provingStart := none,
             changeoverStart := none, throttle := 0 })).modFlow l (fun f =>
    { f with watchActive := none, watchIncoming := none, overCount := 0, rateCount := 0, pressCount := 0 })
  let e3 := ((e2.clearPred l).setClose l none).modValve l (fun v => { v with pending := none, followOn := none })
  if st = .held ∨ st = .complete then e3.setState l .idle else e3

/-- A tank at RESTART (R54): the values of R53, with a TANK notice when health or use changed. -/
def Ev.restartTank (e : Ev) (k : TankId) : Ev :=
  (e.modTank k (fun _ => Tank.init)).markIf ((e.tank k).health != .absent || (e.tank k).use != .free) (.tank k)

/-- A slot of the current cycle at RESTART: one that has not begun stays idle (R152). -/
def Slot.restarted (x : Slot) : Slot := if x.begun then x else Slot.idle

/-- The ship link at RESTART (R152). The deferred DECLAREs of the current cycle stay shown, and a tank slot that has begun keeps
its outcome, pending for one whose reply is then discarded (DESIGN CHOICE, notes/assumptions/48.md). -/
def Ev.restartLink (e : Ev) : Ev :=
  let e1 := e.enterSilent
  e1.modLink (fun x =>
    { x with missCount := 0, pollPtr := .k1, prioPtr := .k1, slots := x.slots.map Slot.restarted,
             poll := match x.poll with
               | some p => if p.kind.isPanel then some p else none
               | none => none })

/-- A grade at RESTART (R154): the last ship word, accepted word, console terms, agreed terms and match count are discarded,
in an UNDECLARED grade too; the state is the one the entry to SILENT has left. -/
def Ev.restartGrade (e : Ev) (g : GradeId) : Ev := e.modGrade g (fun x => x.cleared x.agreement)

/-- RESTART takes effect (R190). -/
def Ev.restartEffect (e : Ev) : Ev :=
  let e1 := (e.restartConsole.eachLine (fun l x => x.restartLine l)).eachTank allTanks (fun k x => x.restartTank k)
  ((e1.restartLink.restartGrade .g1).restartGrade .g2).markIf e.restartEsd .esd

end Sys2Proof.Machine
end

