-- ==== Sys2Proof/Machine/ConfigRequests.lean ====
section
/-! DEFINITION. The meanings of the configuration requests (R1 to R3, R39, R40, R130, R153, R155, R164). -/

namespace Sys2Proof.Machine

/-- LINE_PROFILE (R1). -/
def execLineProfile (t : Time) (tag : Byte) (line : Nat) (p : LineProfile) (s : State) :
    Host.Outcome State Fault Refusal :=
  event t s (fun e => e.serve tag (.lineProfile line p) (fun x => x.onLine line (fun l => x.lineProfileOf l p)))

/-- GRADE_PROFILE (R153). -/
def execGradeProfile (t : Time) (tag : Byte) (grade : Nat) (g : GradeOperands) (s : State) :
    Host.Outcome State Fault Refusal :=
  event t s (fun e => e.serve tag (.gradeProfile grade g) (fun x => x.gradeRequest grade g))

/-- HPU_PROFILE (R130). -/
def execHpuProfile (t : Time) (tag : Byte) (h : HpuProfile) (s : State) : Host.Outcome State Fault Refusal :=
  event t s (fun e => e.serve tag (.hpuProfile h) (fun x => x.hpuRequest h))

/-- FILL_ORDER (R39). -/
def execFillOrder (t : Time) (tag : Byte) (line : Nat) (o : OrderOperands) (s : State) :
    Host.Outcome State Fault Refusal :=
  event t s (fun e => e.serve tag (.fillOrder line o) (fun x => x.onLine line (fun l => x.fillOrderOf l o)))

/-- MANUAL_TERMS (R164). -/
def execManualTerms (t : Time) (tag : Byte) (grade : Nat) (m : ManualOperands) (s : State) :
    Host.Outcome State Fault Refusal :=
  event t s (fun e => e.serve tag (.manualTerms grade m) (fun x => x.manualRequest grade m))

end Sys2Proof.Machine
end

