-- ==== Sys2Proof/Machine/LineRequests.lean ====
section
/-! DEFINITION. The meanings of the line commands (R5 to R7, R21 to R25, R183). -/

namespace Sys2Proof.Machine

/-- START (R5). -/
def execStart (t : Time) (tag : Byte) (line : Nat) (s : State) : Host.Outcome State Fault Refusal :=
  event t s (fun e => e.serve tag (.start line) (fun x => x.onLine line (fun l => x.startLine l)))

/-- HOLD (R21). -/
def execHold (t : Time) (tag : Byte) (line : Nat) (s : State) : Host.Outcome State Fault Refusal :=
  event t s (fun e => e.serve tag (.hold line) (fun x => x.onLine line (fun l => x.holdRequest l)))

/-- RESUME (R7). -/
def execResume (t : Time) (tag : Byte) (line : Nat) (s : State) : Host.Outcome State Fault Refusal :=
  event t s (fun e => e.serve tag (.resume line) (fun x => x.onLine line (fun l => x.resumeLine l)))

/-- STOP (R22). -/
def execStop (t : Time) (tag : Byte) (line : Nat) (s : State) : Host.Outcome State Fault Refusal :=
  event t s (fun e => e.serve tag (.stop line) (fun x => x.onLine line (fun l => x.stopRequest l)))

/-- CLEAR_TRIP (R25). -/
def execClearTrip (t : Time) (tag : Byte) (line : Nat) (s : State) : Host.Outcome State Fault Refusal :=
  event t s (fun e => e.serve tag (.clearTrip line) (fun x => x.onLine line (fun l => x.clearTripRequest l)))

end Sys2Proof.Machine
end

