-- ==== Sys2Proof/Machine/LineTimers.lean ====
section
/-! DEFINITION. The meanings of the line timers' expiries (R12, R49, R64, R77, R85). An expiry acts only while its timer
runs and is due (notes/assumptions/3.md). -/

namespace Sys2Proof.Machine

/-- A timer started at `start` has reached its interval. -/
def State.due (s : State) (start : Option Time) (ms : Nat) : Bool :=
  match start with
  | some t0 => decide (ms ≤ elapsed s.now t0)
  | none => false

/-- A stamped deadline has been reached. -/
def State.deadlineDue (s : State) (deadline : Option Time) : Bool :=
  match deadline with
  | some t0 => reached s.now t0
  | none => false

/-- The proving window expires (R12). -/
def Ev.provingTimeout (e : Ev) (l : LineId) : Ev :=
  if (e.line l).state = .proving ∧ e.due (e.line l).provingStart (e.profile l).proveWindowMs then e.trip l .noRise
  else e

/-- The changeover window expires (R49). -/
def Ev.changeoverTimeout (e : Ev) (l : LineId) : Ev :=
  if (e.line l).state = .changeover ∧ e.due (e.line l).changeoverStart (e.profile l).changeoverWindowMs then
    e.trip l .changeoverTimeout
  else e

/-- The settle deadline expires (R64). -/
def Ev.settleDeadline (e : Ev) (l : LineId) : Ev :=
  if e.deadlineDue (e.pred l).deadline then e.modPred l (fun x => x.deadlineTaken (e.activePair l)) else e

/-- The start of the run-down of a line's close. -/
def State.runDownStart (s : State) (l : LineId) : Option Time := (s.close l).bind (fun c => c.runDownStart)

/-- The run-down's time runs out (R77). -/
def Ev.runDownExpiry (e : Ev) (l : LineId) : Ev :=
  if e.closePhase l = some .runDown ∧ e.due (e.runDownStart l) (e.profile l).runDownMs then e.endRunDown l .time else e

/-- The dwell runs out (R85). -/
def Ev.dwellOver (e : Ev) (l : LineId) : Ev :=
  if e.closePhase l = some .dwell ∧ e.deadlineDue ((e.close l).bind (fun c => c.dwellEnd)) then
    (e.modClose l (fun c => { c with dwellOver := true })).nextStage l
  else e

/-- PROVING_TIMEOUT (R12). -/
def execProvingTimeout (t : Time) (line : LineId) (s : State) : Host.Outcome State Fault Refusal :=
  event t s (fun e => e.provingTimeout line)

/-- CHANGEOVER_TIMEOUT (R49). -/
def execChangeoverTimeout (t : Time) (line : LineId) (s : State) : Host.Outcome State Fault Refusal :=
  event t s (fun e => e.changeoverTimeout line)

/-- SETTLE_DEADLINE (R64). -/
def execSettleDeadline (t : Time) (line : LineId) (s : State) : Host.Outcome State Fault Refusal :=
  event t s (fun e => e.settleDeadline line)

/-- RUN_DOWN_EXPIRY (R77). -/
def execRunDownExpiry (t : Time) (line : LineId) (s : State) : Host.Outcome State Fault Refusal :=
  event t s (fun e => e.runDownExpiry line)

/-- DWELL_END (R85). -/
def execDwellEnd (t : Time) (line : LineId) (s : State) : Host.Outcome State Fault Refusal :=
  event t s (fun e => e.dwellOver line)

end Sys2Proof.Machine
end

