-- ==== Sys2Proof/Machine/LinkEvents.lean ====
section
/-! DEFINITION. The meanings of the ship link's events (chapter 7, R194): the marker, the slots, the frames received and the
timeouts. -/

namespace Sys2Proof.Machine

/-- The ship receiver waits for a new start byte, nothing collected (R194). -/
def Ev.shipHunt (e : Ev) : Ev := e.modLink (fun x => { x with rx := .hunt })

/-- The event of a complete ship frame: with its last CRC byte the receiver waits for a new start byte (R194). -/
def frameEvent (t : Time) (s : State) (op : Ev → Ev) : Host.Outcome State Fault Refusal :=
  event t s (fun e => op e.shipHunt)

/-- MARKER (R135). -/
def execMarker (t : Time) (s : State) : Host.Outcome State Fault Refusal :=
  event t s Ev.marker

/-- PANEL_SLOT_START (R134). -/
def execPanelSlotStart (t : Time) (s : State) : Host.Outcome State Fault Refusal :=
  event t s Ev.sendPanelPoll

/-- TANK_SLOT_START (R134). -/
def execTankSlotStart (t : Time) (slot : Nat) (s : State) : Host.Outcome State Fault Refusal :=
  event t s (fun e => e.sendTankPoll slot)

/-- PANEL_REPLY (R138). -/
def execPanelReply (t : Time) (flags : Byte) (w1 w2 : WireWord) (s : State) : Host.Outcome State Fault Refusal :=
  frameEvent t s (fun e => e.panelFrame (panelReplyOf flags w1 w2))

/-- PANEL_REPLY_TIMEOUT (R138). -/
def execPanelReplyTimeout (t : Time) (s : State) : Host.Outcome State Fault Refusal :=
  event t s (fun e => e.replyTimeout true)

/-- READING (R144). -/
def execReading (t : Time) (tank : TankId) (toggle : Nat) (flags : Byte) (level : Nat) (s : State) : Host.Outcome State Fault Refusal :=
  frameEvent t s (fun e => e.readingFrame tank toggle flags level)

/-- DECLARATION (R32): a DECLARATION frame; which of R32 and R34 applies follows from the poll it answers. -/
def execDeclaration (t : Time) (tank : TankId) (dec : WireDeclaration) (s : State) : Host.Outcome State Fault Refusal :=
  frameEvent t s (fun e => e.declarationFrame tank dec)

/-- DECLARATION_ON_READ (R34): the same frame on the wire, so the poll it answers decides. -/
def execDeclarationOnRead (t : Time) (tank : TankId) (dec : WireDeclaration) (s : State) : Host.Outcome State Fault Refusal :=
  frameEvent t s (fun e => e.declarationFrame tank dec)

/-- WAIT (R147): neither a new reading nor a miss. -/
def execWait (t : Time) (tank : TankId) (s : State) : Host.Outcome State Fault Refusal :=
  frameEvent t s (fun e =>
    e.tankFrame tank (fun p x => x.closePoll p (.reply .wait)) (fun p x => x.closePoll p (.reply .wait)))

/-- REFUSE (R149). -/
def execRefuse (t : Time) (tank : TankId) (s : State) : Host.Outcome State Fault Refusal :=
  frameEvent t s (fun e =>
    e.tankFrame tank (fun p x => (x.closePoll p (.reply .refuse)).refused tank)
      (fun p x => (x.closePoll p (.reply .refuse)).refused tank))

/-- SHIP_BAD_CHECK (R134). -/
def execShipBadCheck (t : Time) (s : State) : Host.Outcome State Fault Refusal :=
  frameEvent t s (fun e => e.badFrame .badCheck)

/-- SHIP_REPLY_UNLISTED (R194). -/
def execShipReplyUnlisted (t : Time) (s : State) : Host.Outcome State Fault Refusal :=
  frameEvent t s (fun e => e.badFrame (.reply .unlisted))

/-- SHIP_FRAME_ERROR (R194): the bytes collected are discarded and the receiver waits for a new start byte; the poll goes on
waiting. -/
def execShipFrameError (t : Time) (s : State) : Host.Outcome State Fault Refusal :=
  event t s Ev.shipHunt

/-- SHIP_FRAME_OTHER_ADDRESS (R134): no reply. -/
def execShipFrameOtherAddress (t : Time) (s : State) : Host.Outcome State Fault Refusal :=
  frameEvent t s (fun e => e.badFrame .noReply)

/-- TANK_REPLY_TIMEOUT (R146). -/
def execTankReplyTimeout (t : Time) (s : State) : Host.Outcome State Fault Refusal :=
  event t s (fun e => e.replyTimeout false)

/-- The silence timer has run out with the link still SILENT (R142). -/
def State.silenceOver (s : State) : Bool :=
  s.link.state == .silent &&
    (match s.link.silenceStart with
      | some t0 => decide (Config.silenceMs ≤ elapsed s.now t0)
      | none => false)

/-- SILENCE_EXPIRY (R142). -/
def execSilenceExpiry (t : Time) (s : State) : Host.Outcome State Fault Refusal :=
  event t s (fun e => if e.silenceOver then e.silenceEnds else e)

end Sys2Proof.Machine
end

