-- ==== Sys2Proof/Machine/LoopEvents.lean ====
section
/-! DEFINITION. The meanings of the ESD loop's events (R168). -/

namespace Sys2Proof.Machine

/-- The loop input goes open (R168). -/
def Ev.loopOpens (e : Ev) : Ev :=
  match e.shut.loop with
  | .closed => e.modShut (fun x => { x with loop := .debounce e.now })
  | .debounce _ => e
  | .opened => e

/-- The loop input goes closed (R168). -/
def Ev.loopCloses (e : Ev) : Ev := e.modShut (fun x => { x with loop := .closed })

/-- The debounce runs out with the loop still open: LOOP is raised (R168). -/
def Ev.debounceExpires (e : Ev) : Ev :=
  match e.shut.loop with
  | .closed => e
  | .debounce t0 =>
    if Config.debounceMs ≤ elapsed e.now t0 then (e.modShut (fun x => { x with loop := .opened })).raiseCause .loop else e
  | .opened => e

/-- ESD_LOOP_OPEN (R168). -/
def execEsdLoopOpen (t : Time) (s : State) : Host.Outcome State Fault Refusal :=
  event t s Ev.loopOpens

/-- ESD_LOOP_CLOSED (R168). -/
def execEsdLoopClosed (t : Time) (s : State) : Host.Outcome State Fault Refusal :=
  event t s Ev.loopCloses

/-- LOOP_DEBOUNCE_EXPIRY (R168). -/
def execLoopDebounceExpiry (t : Time) (s : State) : Host.Outcome State Fault Refusal :=
  event t s Ev.debounceExpires

end Sys2Proof.Machine
end

