-- ==== Sys2Proof/Machine/PartRequests.lean ====
section
/-! DEFINITION. The meanings of the requests that concern the whole part, and of the effect of RESTART (R143, R172, R173,
R189, R190). -/

namespace Sys2Proof.Machine

/-- ESD_STOP (R172). -/
def execEsdStop (t : Time) (tag : Byte) (s : State) : Host.Outcome State Fault Refusal :=
  event t s (fun e => e.serve tag .esdStop (fun x => x.esdStopRequest))

/-- ESD_RESET (R173). -/
def execEsdReset (t : Time) (tag : Byte) (s : State) : Host.Outcome State Fault Refusal :=
  event t s (fun e => e.serve tag .esdReset (fun x => x.esdResetRequest))

/-- RENEGOTIATE (R143). -/
def execRenegotiate (t : Time) (tag : Byte) (s : State) : Host.Outcome State Fault Refusal :=
  event t s (fun e => e.serve tag .renegotiate (fun x => x.renegotiateRequest))

/-- RESTART (R189). -/
def execRestart (t : Time) (tag : Byte) (s : State) : Host.Outcome State Fault Refusal :=
  event t s (fun e => e.serve tag .restart (fun x => x.restartRequest))

/-- RESTART_EFFECT (R190): acts once the reply of an accepted RESTART has been sent. -/
def execRestartEffect (t : Time) (s : State) : Host.Outcome State Fault Refusal :=
  event t s (fun e => if e.restart = .due then e.restartEffect else e)

end Sys2Proof.Machine
end

