-- ==== Sys2Proof/Machine/PowerConsole.lean ====
section
/-! DEFINITION. The meanings of POWER_ON, of the console line's events and of the end of a transmitted frame (R175, R178 to
R182, R188, R189). -/

namespace Sys2Proof.Machine

/-- POWER_ON (R175): every block takes its power-on values; the queue of commands and the model's free counter stay
(notes/assumptions/28.md). -/
def execPowerOn (inputs : PowerInputs) (s : State) : Host.Outcome State Fault Refusal :=
  .next { State.powerOn inputs with pending := s.pending, freeCtr := s.freeCtr }

/-- What the tests of R179 make of a received frame. -/
def receivedOf (kind : Byte) (payload : List Byte) : Received :=
  match decodeRequest kind payload with
  | none => .unknown
  | some none => .badLength
  | some (some r) => .request r

/-- A complete frame with a good check (R178 to R180). A request waits for its own row; a frame no block sees is answered as
soon as every frame before it has been taken. -/
def Ev.consoleFrame (e : Ev) (kind tag : Byte) (payload : List Byte) : Ev :=
  (Ev.receive { e with rx := .hunt } tag (receivedOf kind payload)).answerUnread 2

/-- CONSOLE_FRAME_RECEIVED (R180). -/
def execConsoleFrameReceived (t : Time) (kind tag : Byte) (payload : List Byte) (s : State) :
    Host.Outcome State Fault Refusal :=
  event t s (fun e => e.consoleFrame kind tag payload)

/-- The frame being received is abandoned or discarded: the receiver is in HUNT (R178). -/
def Ev.abandonFrame (e : Ev) : Ev := { e with rx := .hunt }

/-- CONSOLE_GAP_TIMEOUT (R178). -/
def execConsoleGapTimeout (t : Time) (s : State) : Host.Outcome State Fault Refusal :=
  event t s Ev.abandonFrame

/-- CONSOLE_FRAMING_ERROR (R178). -/
def execConsoleFramingError (t : Time) (s : State) : Host.Outcome State Fault Refusal :=
  event t s Ev.abandonFrame

/-- CONSOLE_LENGTH_MISMATCH (R178). -/
def execConsoleLengthMismatch (t : Time) (s : State) : Host.Outcome State Fault Refusal :=
  event t s Ev.abandonFrame

/-- CONSOLE_BAD_CHECK (R178): the frame is discarded without reply. -/
def execConsoleBadCheck (t : Time) (s : State) : Host.Outcome State Fault Refusal :=
  event t s Ev.abandonFrame

/-- TRANSMIT_FRAME_END (R182, R189). -/
def execTransmitFrameEnd (t : Time) (s : State) : Host.Outcome State Fault Refusal :=
  event t s Ev.endFrame

end Sys2Proof.Machine
end

