-- ==== Sys2Proof/Machine/Reads.lean ====
section
/-! DEFINITION. The meanings of the reads (R183 to R186): each is answered with its record as the state stands at the
taking and changes nothing else. -/

namespace Sys2Proof.Machine

/-- READ_LINE (R184). -/
def execReadLine (t : Time) (tag : Byte) (line : Nat) (s : State) : Host.Outcome State Fault Refusal :=
  event t s (fun e => e.serve tag (.readLine line) (fun x => x.onLine line (fun l => x.answerRead (x.lineRecord l))))

/-- READ_TRIP (R186). -/
def execReadTrip (t : Time) (tag : Byte) (line : Nat) (s : State) : Host.Outcome State Fault Refusal :=
  event t s (fun e => e.serve tag (.readTrip line) (fun x => x.onLine line (fun l => x.answerRead (x.tripRecord l))))

/-- READ_TANK (R185). -/
def execReadTank (t : Time) (tag : Byte) (tank : Nat) (s : State) : Host.Outcome State Fault Refusal :=
  event t s (fun e => e.serve tag (.readTank tank) (fun x =>
    match tankOf tank with
    | some k => x.answerRead (x.tankRecord k)
    | none => x.answer (.fieldRange 0)))

/-- READ_LINK (R150). -/
def execReadLink (t : Time) (tag : Byte) (s : State) : Host.Outcome State Fault Refusal :=
  event t s (fun e => e.serve tag .readLink (fun x => x.answerRead x.linkRecord))

/-- READ_HPU (R131). -/
def execReadHpu (t : Time) (tag : Byte) (s : State) : Host.Outcome State Fault Refusal :=
  event t s (fun e => e.serve tag .readHpu (fun x => x.answerRead x.hpuRecord))

/-- READ_ESD (R177). -/
def execReadEsd (t : Time) (tag : Byte) (s : State) : Host.Outcome State Fault Refusal :=
  event t s (fun e => e.serve tag .readEsd (fun x => x.answerRead x.esdRecord))

end Sys2Proof.Machine
end

