-- ==== Sys2Proof/Machine/Samples.lean ====
section
/-! DEFINITION. The meanings of meter pulses, gate ends and samples (R93, R96, R106, R109, R127). -/

namespace Sys2Proof.Machine

/-- GATE_END (R106). -/
def execGateEnd (t : Time) (s : State) : Host.Outcome State Fault Refusal :=
  event t s Ev.gateEnd

/-- METER_PULSE (R93). -/
def execMeterPulse (t : Time) (line : LineId) (s : State) : Host.Outcome State Fault Refusal :=
  event t s (fun e => e.modFlow line (fun f => { f with gatePulses := f.gatePulses + 1 }))

/-- PRESSURE_SAMPLE (R96). -/
def execPressureSample (t : Time) (line : LineId) (microamps : Nat) (s : State) : Host.Outcome State Fault Refusal :=
  event t s (fun e => e.pressureSample line microamps)

/-- POSITION_SAMPLE (R109). -/
def execPositionSample (t : Time) (line : LineId) (microamps : Nat) (s : State) : Host.Outcome State Fault Refusal :=
  event t s (fun e => e.positionSample line microamps)

/-- ACCUMULATOR_SAMPLE (R127). -/
def execAccumulatorSample (t : Time) (microamps : Nat) (s : State) : Host.Outcome State Fault Refusal :=
  event t s (fun e => e.accumulatorSample microamps)

end Sys2Proof.Machine
end

