-- ==== Sys2Proof/Machine/StrokeEvents.lean ====
section
/-! DEFINITION. The meanings of the stroke timers and of the limit switches (R119 to R126). -/

namespace Sys2Proof.Machine

/-- The turnaround of a stroke runs out: SETUP begins (R119). -/
def Ev.turnaroundEnd (e : Ev) (l : LineId) : Ev :=
  match e.strokeIn l .turnaround with
  | none => e
  | some k =>
    if e.supply.profile.turnaroundMs ≤ elapsed e.now k.since then
      e.modValve l (fun v => { v with stroke := some { k with phase := .setup, since := e.now } })
    else e

/-- A CLOSE request is pending. -/
def State.closePending (s : State) : Bool :=
  allLines.any (fun l => match (s.valve l).pending with
    | some r => r.cls == .close
    | none => false)

/-- The stroke is withdrawn at the end of its setup: its class is not admitted, or it is an OPEN or THROTTLE and a CLOSE is
pending with no channel free (R120). -/
def State.withdrawn (s : State) (k : Stroke) : Bool :=
  !admitted s.supply.band k.req.cls || (k.req.cls != .close && s.closePending && !s.someFree)

/-- A stroke is withdrawn to the queue; a follow-on replaces it (R115, R120). -/
def Ev.withdraw (e : Ev) (l : LineId) (k : Stroke) : Ev :=
  let back := ((e.valve l).followOn).getD k.req
  (((e.modValve l (fun v => { v with stroke := none, followOn := none })).freeChannel l).modValve l
    (fun v => { v with pending := some back })).considerGrants

/-- The setup of a stroke runs out (R120, R121). -/
def Ev.setupEnd (e : Ev) (l : LineId) : Ev :=
  match e.strokeIn l .setup with
  | none => e
  | some k =>
    if e.supply.profile.setupMs ≤ elapsed e.now k.since then
      if e.withdrawn k then e.withdraw l k else e.beginTravel l k
    else e

/-- The blanking of a stroke runs out: both switches are read as they stand (R121). With no stroke in progress the blanking has
gone with the stroke that ended, and nothing is read (DESIGN CHOICE, notes/assumptions/43.md). -/
def Ev.blankingEnd (e : Ev) (l : LineId) : Ev :=
  match (e.valve l).stroke with
  | none => e
  | some k =>
    if k.blanking ∧ e.supply.profile.blankingMs ≤ elapsed e.now k.travelStart then
      let e1 := e.modValve l (fun v => { v with stroke := some { k with blanking := false } })
      let e2 := if (e.valve l).closedSwitch then e1.closedActive l else e1
      if (e.valve l).openSwitch then e2.openActive l else e2
    else e

/-- The travel time used reaches the expected travel with simulated arrival on (R123). -/
def Ev.simulatedArrival (e : Ev) (l : LineId) : Ev :=
  match e.strokeIn l .travel with
  | none => e
  | some k =>
    if intermediate k.req.target && (e.profile l).simulatedArrival == 1 && decide (k.expected ≤ k.usedAt e.now) then
      (e.modValve l (fun v => { v with position := k.req.target, source := .simulated })).arrive l k k.req.target
    else e

/-- The travel time used reaches the travel timeout (R122). -/
def Ev.travelTimeout (e : Ev) (l : LineId) : Ev :=
  match e.strokeIn l .travel with
  | none => e
  | some k => if k.timeout ≤ k.usedAt e.now then e.failStroke l .failedTimeout else e

/-- The pause time used reaches extension_max_ms during a pause (R122). -/
def Ev.extensionExhausted (e : Ev) (l : LineId) : Ev :=
  match e.strokeIn l .travel with
  | none => e
  | some k =>
    if k.paused ∧ e.supply.profile.extensionMaxMs ≤ k.pauseAt e.now then e.failStroke l .failedExtension else e

/-- The hold of a stroke runs out: the stroke ends, its channel is freed and considered, the end is reported, the follow-on
enters the queue (R125). -/
def Ev.holdEnd (e : Ev) (l : LineId) : Ev :=
  match e.strokeIn l .hold with
  | none => e
  | some k =>
    if e.supply.profile.holdMs ≤ elapsed e.now k.since then
      let e1 := ((((e.modValve l (fun v => { v with stroke := none, followOn := none })).freeChannel l).considerGrants).report
        (.ended l k.req.cls))
      match (e.valve l).followOn with
      | some r => e1.enqueue l r
      | none => e1
    else e

/-- A change of the closed limit switch (R109, R121, R124). -/
def Ev.closedSwitch (e : Ev) (l : LineId) (active : Bool) : Ev :=
  if (e.valve l).closedSwitch = active then e
  else
    let e1 := e.modValve l (fun v => { v with closedSwitch := active })
    if active && !e.blanked l then e1.closedActive l else e1

/-- A change of the open limit switch (R109, R121, R124). -/
def Ev.openSwitch (e : Ev) (l : LineId) (active : Bool) : Ev :=
  if (e.valve l).openSwitch = active then e
  else
    let e1 := e.modValve l (fun v => { v with openSwitch := active })
    if active && !e.blanked l then e1.openActive l else e1

/-- TURNAROUND_END (R119). -/
def execTurnaroundEnd (t : Time) (line : LineId) (s : State) : Host.Outcome State Fault Refusal :=
  event t s (fun e => e.turnaroundEnd line)

/-- SETUP_END (R120). -/
def execSetupEnd (t : Time) (line : LineId) (s : State) : Host.Outcome State Fault Refusal :=
  event t s (fun e => e.setupEnd line)

/-- BLANKING_END (R121). -/
def execBlankingEnd (t : Time) (line : LineId) (s : State) : Host.Outcome State Fault Refusal :=
  event t s (fun e => e.blankingEnd line)

/-- SIMULATED_ARRIVAL (R123). -/
def execSimulatedArrival (t : Time) (line : LineId) (s : State) : Host.Outcome State Fault Refusal :=
  event t s (fun e => e.simulatedArrival line)

/-- TRAVEL_TIMEOUT (R122). -/
def execTravelTimeout (t : Time) (line : LineId) (s : State) : Host.Outcome State Fault Refusal :=
  event t s (fun e => e.travelTimeout line)

/-- EXTENSION_EXHAUSTED (R122). -/
def execExtensionExhausted (t : Time) (line : LineId) (s : State) : Host.Outcome State Fault Refusal :=
  event t s (fun e => e.extensionExhausted line)

/-- HOLD_END (R125). -/
def execHoldEnd (t : Time) (line : LineId) (s : State) : Host.Outcome State Fault Refusal :=
  event t s (fun e => e.holdEnd line)

/-- CLOSED_LIMIT_SWITCH (R124). -/
def execClosedLimitSwitch (t : Time) (line : LineId) (active : Bool) (s : State) : Host.Outcome State Fault Refusal :=
  event t s (fun e => e.closedSwitch line active)

/-- OPEN_LIMIT_SWITCH (R124). -/
def execOpenLimitSwitch (t : Time) (line : LineId) (active : Bool) (s : State) : Host.Outcome State Fault Refusal :=
  event t s (fun e => e.openSwitch line active)

end Sys2Proof.Machine
end

