-- ==== Sys2Proof/Machine/Dispatch.lean ====
section
/-! DEFINITION. The effect of every command on everything but the queue: one arm for each row of the table. -/

namespace Sys2Proof.Machine

def exec (i : Instr) (s : State) : Host.Outcome State Fault Refusal :=
  match i with
  | .powerOn inputs => Sys2Proof.Machine.execPowerOn inputs s
  | .consoleFrameReceived t kind tag payload => Sys2Proof.Machine.execConsoleFrameReceived t kind tag payload s
  | .consoleGapTimeout t => Sys2Proof.Machine.execConsoleGapTimeout t s
  | .consoleFramingError t => Sys2Proof.Machine.execConsoleFramingError t s
  | .transmitFrameEnd t => Sys2Proof.Machine.execTransmitFrameEnd t s
  | .lineProfile t tag line p => Sys2Proof.Machine.execLineProfile t tag line p s
  | .gradeProfile t tag grade g => Sys2Proof.Machine.execGradeProfile t tag grade g s
  | .hpuProfile t tag h => Sys2Proof.Machine.execHpuProfile t tag h s
  | .fillOrder t tag line o => Sys2Proof.Machine.execFillOrder t tag line o s
  | .start t tag line => Sys2Proof.Machine.execStart t tag line s
  | .hold t tag line => Sys2Proof.Machine.execHold t tag line s
  | .resume t tag line => Sys2Proof.Machine.execResume t tag line s
  | .stop t tag line => Sys2Proof.Machine.execStop t tag line s
  | .clearTrip t tag line => Sys2Proof.Machine.execClearTrip t tag line s
  | .esdStop t tag => Sys2Proof.Machine.execEsdStop t tag s
  | .esdReset t tag => Sys2Proof.Machine.execEsdReset t tag s
  | .renegotiate t tag => Sys2Proof.Machine.execRenegotiate t tag s
  | .manualTerms t tag grade m => Sys2Proof.Machine.execManualTerms t tag grade m s
  | .restart t tag => Sys2Proof.Machine.execRestart t tag s
  | .restartEffect t => Sys2Proof.Machine.execRestartEffect t s
  | .readLine t tag line => Sys2Proof.Machine.execReadLine t tag line s
  | .readTrip t tag line => Sys2Proof.Machine.execReadTrip t tag line s
  | .readTank t tag tank => Sys2Proof.Machine.execReadTank t tag tank s
  | .readLink t tag => Sys2Proof.Machine.execReadLink t tag s
  | .readHpu t tag => Sys2Proof.Machine.execReadHpu t tag s
  | .readEsd t tag => Sys2Proof.Machine.execReadEsd t tag s
  | .marker t => Sys2Proof.Machine.execMarker t s
  | .panelSlotStart t => Sys2Proof.Machine.execPanelSlotStart t s
  | .tankSlotStart t slot => Sys2Proof.Machine.execTankSlotStart t slot s
  | .panelReply t flags w1 w2 => Sys2Proof.Machine.execPanelReply t flags w1 w2 s
  | .panelReplyTimeout t => Sys2Proof.Machine.execPanelReplyTimeout t s
  | .reading t tank toggle flags level => Sys2Proof.Machine.execReading t tank toggle flags level s
  | .declaration t tank dec => Sys2Proof.Machine.execDeclaration t tank dec s
  | .declarationOnRead t tank dec => Sys2Proof.Machine.execDeclarationOnRead t tank dec s
  | .wait t tank => Sys2Proof.Machine.execWait t tank s
  | .refuse t tank => Sys2Proof.Machine.execRefuse t tank s
  | .shipBadCheck t => Sys2Proof.Machine.execShipBadCheck t s
  | .shipReplyUnlisted t => Sys2Proof.Machine.execShipReplyUnlisted t s
  | .shipFrameError t => Sys2Proof.Machine.execShipFrameError t s
  | .tankReplyTimeout t => Sys2Proof.Machine.execTankReplyTimeout t s
  | .silenceExpiry t => Sys2Proof.Machine.execSilenceExpiry t s
  | .provingTimeout t line => Sys2Proof.Machine.execProvingTimeout t line s
  | .changeoverTimeout t line => Sys2Proof.Machine.execChangeoverTimeout t line s
  | .settleDeadline t line => Sys2Proof.Machine.execSettleDeadline t line s
  | .runDownExpiry t line => Sys2Proof.Machine.execRunDownExpiry t line s
  | .dwellEnd t line => Sys2Proof.Machine.execDwellEnd t line s
  | .gateEnd t => Sys2Proof.Machine.execGateEnd t s
  | .meterPulse t line => Sys2Proof.Machine.execMeterPulse t line s
  | .pressureSample t line microamps => Sys2Proof.Machine.execPressureSample t line microamps s
  | .positionSample t line microamps => Sys2Proof.Machine.execPositionSample t line microamps s
  | .turnaroundEnd t line => Sys2Proof.Machine.execTurnaroundEnd t line s
  | .setupEnd t line => Sys2Proof.Machine.execSetupEnd t line s
  | .blankingEnd t line => Sys2Proof.Machine.execBlankingEnd t line s
  | .simulatedArrival t line => Sys2Proof.Machine.execSimulatedArrival t line s
  | .travelTimeout t line => Sys2Proof.Machine.execTravelTimeout t line s
  | .extensionExhausted t line => Sys2Proof.Machine.execExtensionExhausted t line s
  | .holdEnd t line => Sys2Proof.Machine.execHoldEnd t line s
  | .closedLimitSwitch t line active => Sys2Proof.Machine.execClosedLimitSwitch t line active s
  | .openLimitSwitch t line active => Sys2Proof.Machine.execOpenLimitSwitch t line active s
  | .accumulatorSample t microamps => Sys2Proof.Machine.execAccumulatorSample t microamps s
  | .esdLoopOpen t => Sys2Proof.Machine.execEsdLoopOpen t s
  | .esdLoopClosed t => Sys2Proof.Machine.execEsdLoopClosed t s
  | .loopDebounceExpiry t => Sys2Proof.Machine.execLoopDebounceExpiry t s
  | .consoleLengthMismatch t => Sys2Proof.Machine.execConsoleLengthMismatch t s
  | .consoleBadCheck t => Sys2Proof.Machine.execConsoleBadCheck t s
  | .shipFrameOtherAddress t => Sys2Proof.Machine.execShipFrameOtherAddress t s

end Sys2Proof.Machine
end

