-- ==== Sys2Proof/WellFormed.lean ====
section
/-! DEFINITION. Which command terms stand for something that can reach the part: operands that fit the bytes that carry
them, slots and times that exist. exec answers every term; WellFormed says which terms an encoding or the time base can
produce. -/

namespace Sys2Proof

/-- Every field fits its width in bytes, and there is one field for each width. -/
def fieldsFit : List Nat → List Nat → Bool
  | [], [] => true
  | w :: ws, v :: vs => decide (v < 256 ^ w) && fieldsFit ws vs
  | _, _ => false

/-- The operands of a request fit the payload of its kind (R192). -/
def requestFits (r : Request) : Bool := fieldsFit ((requestWidths (kindCode r)).getD []) (requestFields r)

/-- A terms word fits its seven bytes (R195). -/
def wireWordFits (w : WireWord) : Bool :=
  fieldsFit [1, 1, 1, 2, 2] [w.grade, w.marking, w.flags.toNat, w.maxRate, w.maxPressure]

/-- A declaration fits its fifteen bytes (section 11.3). -/
def declarationFits (d : WireDeclaration) : Bool :=
  fieldsFit [1, 1, 1, 2, 2, 2, 2, 2, 2]
    [d.tankNumber, d.grade, d.presence.toNat, d.litresPerMm, d.topoffMm, d.finalMm, d.highMm, d.changeoverMm,
     d.maxFillLpm]

/-- A ship reply fits its frame; a READING's toggle is 0 or 1, since another byte makes it a reply not listed (R194). -/
def shipReplyFits : ShipReply → Bool
  | .panel _ w1 w2 => wireWordFits w1 && wireWordFits w2
  | .reading tg _ lv => decide (tg ≤ 1) && decide (lv < 65536)
  | .declaration d => declarationFits d
  | .wait => true
  | .refuse => true
  | .unlisted => false

/-- Well-formed commands: request operands fit their payload; a received frame's payload is at most 64 bytes (R192); a
marker falls on a multiple of 250 ms (R134); a tank slot is 1 to 5; ship reply fields fit their bytes. -/
def WellFormed : Instr → Bool
  | .powerOn _ => true
  | .consoleFrameReceived _ _ _ payload => decide (payload.length ≤ 64)
  | .consoleGapTimeout _ => true
  | .consoleFramingError _ => true
  | .transmitFrameEnd _ => true
  | .lineProfile _ _ line p => requestFits (.lineProfile line p)
  | .gradeProfile _ _ grade g => requestFits (.gradeProfile grade g)
  | .hpuProfile _ _ h => requestFits (.hpuProfile h)
  | .fillOrder _ _ line o => requestFits (.fillOrder line o)
  | .start _ _ line => requestFits (.start line)
  | .hold _ _ line => requestFits (.hold line)
  | .resume _ _ line => requestFits (.resume line)
  | .stop _ _ line => requestFits (.stop line)
  | .clearTrip _ _ line => requestFits (.clearTrip line)
  | .esdStop _ _ => true
  | .esdReset _ _ => true
  | .renegotiate _ _ => true
  | .manualTerms _ _ grade m => requestFits (.manualTerms grade m)
  | .restart _ _ => true
  | .restartEffect _ => true
  | .readLine _ _ line => requestFits (.readLine line)
  | .readTrip _ _ line => requestFits (.readTrip line)
  | .readTank _ _ tank => requestFits (.readTank tank)
  | .readLink _ _ => true
  | .readHpu _ _ => true
  | .readEsd _ _ => true
  | .marker t => decide (t.toNat % 250 = 0)
  | .panelSlotStart _ => true
  | .tankSlotStart _ slot => decide (1 ≤ slot) && decide (slot ≤ 5)
  | .panelReply _ _ w1 w2 => wireWordFits w1 && wireWordFits w2
  | .panelReplyTimeout _ => true
  | .reading _ _ toggle _ level => decide (toggle < 256) && decide (level < 65536)
  | .declaration _ _ dec => declarationFits dec
  | .declarationOnRead _ _ dec => declarationFits dec
  | .wait _ _ => true
  | .refuse _ _ => true
  | .shipBadCheck _ => true
  | .shipReplyUnlisted _ => true
  | .shipFrameError _ => true
  | .tankReplyTimeout _ => true
  | .silenceExpiry _ => true
  | .provingTimeout _ _ => true
  | .changeoverTimeout _ _ => true
  | .settleDeadline _ _ => true
  | .runDownExpiry _ _ => true
  | .dwellEnd _ _ => true
  | .gateEnd _ => true
  | .meterPulse _ _ => true
  | .pressureSample _ _ _ => true
  | .positionSample _ _ _ => true
  | .turnaroundEnd _ _ => true
  | .setupEnd _ _ => true
  | .blankingEnd _ _ => true
  | .simulatedArrival _ _ => true
  | .travelTimeout _ _ => true
  | .extensionExhausted _ _ => true
  | .holdEnd _ _ => true
  | .closedLimitSwitch _ _ _ => true
  | .openLimitSwitch _ _ _ => true
  | .accumulatorSample _ _ => true
  | .esdLoopOpen _ => true
  | .esdLoopClosed _ => true
  | .loopDebounceExpiry _ => true
  | .consoleLengthMismatch _ => true
  | .consoleBadCheck _ => true
  | .shipFrameOtherAddress _ => true

end Sys2Proof
end

