-- ==== Sys2Proof/Safety.lean ====
section
/-! DEFINITION. The words the claims are written in: when a request row is taken, what an answer and an unchanged block are,
which commands may change which part of the state, and the invariants that every step is claimed to keep. -/

namespace Sys2Proof

/-- The row of a request: the command that brings it, with the time of its taking and the tag of its frame (R180). -/
def Request.row (t : Time) (tag : Byte) : Request → Instr
  | .lineProfile line p => .lineProfile t tag line p
  | .gradeProfile grade g => .gradeProfile t tag grade g
  | .hpuProfile h => .hpuProfile t tag h
  | .fillOrder line o => .fillOrder t tag line o
  | .start line => .start t tag line
  | .hold line => .hold t tag line
  | .resume line => .resume t tag line
  | .stop line => .stop t tag line
  | .clearTrip line => .clearTrip t tag line
  | .esdStop => .esdStop t tag
  | .esdReset => .esdReset t tag
  | .renegotiate => .renegotiate t tag
  | .manualTerms grade m => .manualTerms t tag grade m
  | .restart => .restart t tag
  | .readLine line => .readLine t tag line
  | .readTank tank => .readTank t tag tank
  | .readLink => .readLink t tag
  | .readHpu => .readHpu t tag
  | .readEsd => .readEsd t tag
  | .readTrip line => .readTrip t tag line

/-- Commands that can change the Ship Link Controller: the events of the ship link, RENEGOTIATE, the effect of RESTART and
POWER_ON. -/
def Instr.touchesLink : Instr → Bool
  | .powerOn _ => true
  | .renegotiate _ _ => true
  | .restartEffect _ => true
  | .marker _ => true
  | .panelSlotStart _ => true
  | .tankSlotStart _ _ => true
  | .panelReply _ _ _ _ => true
  | .panelReplyTimeout _ => true
  | .reading _ _ _ _ _ => true
  | .declaration _ _ _ => true
  | .declarationOnRead _ _ _ => true
  | .wait _ _ => true
  | .refuse _ _ => true
  | .shipBadCheck _ => true
  | .shipReplyUnlisted _ => true
  | .shipFrameError _ => true
  | .tankReplyTimeout _ => true
  | .silenceExpiry _ => true
  | .shipFrameOtherAddress _ => true
  | _ => false

/-- Commands that can change a grade record: those of the link, and the two requests of the Terms Unit. -/
def Instr.touchesGrades : Instr → Bool
  | .gradeProfile _ _ _ _ => true
  | .manualTerms _ _ _ _ => true
  | c => c.touchesLink

/-- Commands that can change a tank's declaration, health or readings: those of the link, but for RENEGOTIATE, the slot
starts, the panel's reply timeout, the end of the silence and a frame error. -/
def Instr.touchesReadings : Instr → Bool
  | .renegotiate _ _ => false
  | .panelSlotStart _ => false
  | .tankSlotStart _ _ => false
  | .panelReplyTimeout _ => false
  | .shipFrameError _ => false
  | .silenceExpiry _ => false
  | c => c.touchesLink

end Sys2Proof

namespace Sys2Proof.Machine

/-! ### Requests and answers -/

/-- The overrun slot takes a tag: it joins the end of the reply order or, occupied already, keeps its place there; the arbiter may
then begin the oldest reply (R180, R182). The waiting frames and the buffers stay. -/
def State.overrunBy (s u : State) (tag : Byte) : Prop :=
  u.overrun = some tag ∧ u.waitOrder = s.waitOrder ∧ (∀ x, u.buf x = s.buf x) ∧
    let order := if s.overrun.isSome then s.replyOrder else s.replyOrder ++ [.overrun]
    u.replyOrder = order ∨ ∃ q x, order = q :: u.replyOrder ∧ u.tx = some (.reply q x)

/-- A frame waits in buffer `b` behind the frames before it (R180). -/
def State.waitsBehind (s u : State) (b : BufId) (tag : Byte) (f : Received) : Prop :=
  u.buf b = .waiting tag f ∧ u.waitOrder = s.waitOrder ++ [b] ∧ u.overrun = s.overrun ∧ ∀ x, x ≠ b → u.buf x = s.buf x

/-- The buffer in which the row of a request is taken; none when the row only receives the request, because another frame is
taken before it, or finds both buffers occupied (R180). -/
def State.takesIn (s : State) (tag : Byte) (r : Request) : Option BufId :=
  match s.awaits tag r with
  | some b => some b
  | none => ((begin s.now s).receive tag (.request r)).awaits tag r

/-- No block but the Console Port has changed. -/
def State.sameBlocks (s u : State) : Prop :=
  u.lines = s.lines ∧ u.lists = s.lists ∧ u.tanks = s.tanks ∧ u.preds = s.preds ∧ u.closes = s.closes ∧
  u.flows = s.flows ∧ u.valves = s.valves ∧ u.chan1 = s.chan1 ∧ u.chan2 = s.chan2 ∧ u.supply = s.supply ∧
  u.link = s.link ∧ u.grades = s.grades ∧ u.shut = s.shut ∧ u.freeCtr = s.freeCtr

/-- The reply of buffer `b` waits to be sent or is being sent. -/
def State.replyStands (u : State) (b : BufId) : Prop :=
  (∃ r, u.tx = some (.reply (.buffer b) r)) ∨ .buffer b ∈ u.replyOrder

/-- Command `c`, taken in buffer `b` at time `t`, completes: the buffer holds the reply with this tag, result and record,
which waits to be sent, and the state it leaves satisfies `Q` (R181, R182). -/
def Answers (s : State) (c : Instr) (t : Time) (b : BufId) (tag : Byte) (r : Result) (record : List Byte)
    (Q : State → Prop) : Prop :=
  ∃ u, exec c s = .next u ∧ u.now = t ∧ u.pending = s.pending ∧
    u.buf b = .answered { tag := tag, result := r, record := record, restart := false } ∧ u.replyStands b ∧ Q u

/-- Command `c` completes at time `t` and the state it leaves satisfies `Q`. -/
def Completes (s : State) (c : Instr) (t : Time) (Q : State → Prop) : Prop :=
  ∃ u, exec c s = .next u ∧ u.now = t ∧ u.pending = s.pending ∧ Q u

/-- A notice of this kind and subject, with the subject's present content and the present time, stands in the queue or is in
transmission. -/
def State.announced (u : State) (k : NoticeKey) : Prop :=
  { key := k, content := u.content k, stamp := u.now } ∈ u.notices ∨
    u.tx = some (.notice { key := k, content := u.content k, stamp := u.now })

/-- A line closes with these reasons, its trip record left by cause `c` when there is one. -/
def State.closesWith (u : State) (l : LineId) (reason : CloseReason) (hold : Option HoldReason) (c : Option TripCause) :
    Prop :=
  (u.line l).state = .closing ∧ (u.line l).closeReason = some reason ∧ (u.line l).holdReason = hold ∧
    (u.line l).throttle = 0 ∧ ∀ x, c = some x → (u.line l).trip.map (fun r => r.cause) = some x

/-- The request that STARTING makes for its valve (R6, R112). -/
def State.startStroke (s : State) (l : LineId) (t : Time) : StrokeReq :=
  { cls := .opening, target := min (s.profile l).startPos (s.profile l).bulkPos, time := t, retry := false }

/-- What a raised ESD cause leaves behind (R170): no line flowing, both permits withdrawn, no OPEN or THROTTLE work; a line
that flowed, its valve not on the closed limit switch, closing with reason ESD. -/
def State.shutDown (s v : State) : Prop :=
  v.latch = true ∧ (∀ l, v.flowing l = false) ∧ (∀ p, v.shut.permit p = false) ∧
  (∀ l r, (v.valve l).pending = some r → r.cls = .close) ∧ (∀ l k, (v.valve l).stroke = some k → k.req.cls = .close) ∧
  (∀ l, s.flowing l = true → (s.valve l).closedSwitch = false → v.closesWith l .esd none (some .esd))

/-- A stroke request made in state `s` stands in `v`: it waits in the queue, its stroke is in progress, or it had arrived at once
(R113, R117, R118). -/
def State.strokeStands (s v : State) (l : LineId) (r : StrokeReq) : Prop :=
  (v.valve l).pending = some r ∨ (∃ x, (v.valve l).stroke = some x ∧ x.req = r) ∨
    s.atTarget l r = true ∧ (v.valve l).lastOutcome = some (.arrivedAtOnce, r.time) ∧ (v.valve l).commanded = r.target

/-- The close of a line goes on at time `t` from stage `k` of plan `p` to the next: a stage with the same target is passed, its
dwell begun; any other has its CLOSE stroke requested (R83, R85). -/
def State.nextStageComes (s v : State) (l : LineId) (t : Time) (c : CloseRec) (p : Plan) (k : Nat) : Prop :=
  ∃ x, v.close l = some x ∧ x.stage = some (k + 1) ∧ x.plan = some p ∧ x.entry = c.entry ∧
    (p.target (k + 1) = p.target k → x.phase = .dwell ∧ x.dwellEnd = some (after t p.dwell)) ∧
    (p.target (k + 1) ≠ p.target k → (x.phase = .stage ∨ x.phase = .dwell) ∧
      s.strokeStands v l
        { cls := .close, target := min (p.target (k + 1)) (s.profile l).bulkPos, time := t, retry := false })

/-- Request `r` of line `l` is the one R117 grants next: pending, admitted in the band, and before every other such request by
class, then by request time, then by line number. -/
def State.ranksFirst (s : State) (l : LineId) (r : StrokeReq) : Prop :=
  (s.valve l).pending = some r ∧ admitted s.supply.band r.cls = true ∧
  ∀ m q, m ≠ l → (s.valve m).pending = some q → admitted s.supply.band q.cls = true →
    q.cls.rank < r.cls.rank ∨ q.cls.rank = r.cls.rank ∧
      (elapsed s.now q.time < elapsed s.now r.time ∨ q.time = r.time ∧ lineNum l < lineNum m)

/-- Channel `c` is the free one that R117 gives a stroke of direction `d`: with both free the one that needs no turnaround,
channel 1 when that is both or neither. -/
def State.channelGiven (s : State) (d : Direction) (c : ChanId) : Prop :=
  (c = .c1 ∧ s.chan1.holder = none ∧ (s.chan2.holder = none → s.chan1.suits d = true ∨ s.chan2.suits d = false)) ∨
  (c = .c2 ∧ s.chan2.holder = none ∧ (s.chan1.holder = none → s.chan1.suits d = false ∧ s.chan2.suits d = true))

/-- The state at time `t` once the stroke of line `l` has ended and freed its channel (R114, R125, R128). -/
def State.released (s : State) (l : LineId) (t : Time) : State :=
  (((begin t s).modValve l (fun v => { v with stroke := none, followOn := none })).freeChannel l).toState

/-! ### The tests of a line at a reading or a marker. `x` is the state in which a test is made, `v` the state the command leaves -/

/-- The state in which an accepted new reading with both alarms clear is handed on: the tank's record, the changeover baseline
of a tank that had none (R44), and the settle, brought up to date (R55, R63, R145). -/
def State.withReading (s : State) (l : LineId) (k : TankId) (toggle : Bool) (level : Nat) (t : Time) : State :=
  let y := ({ s.tank k with missCount := 0, highAlarm := false, overfill := false } : Tank).takeNew toggle level t
  let z := if (s.tank k).use = .incoming ∧ (s.line l).state = .changeover then
    { y with changeoverBase := some (y.changeoverBase.getD level) } else y
  { s with now := t, tanks := s.tanks.set k z,
           preds := if (s.tank k).use = .active ∧ (s.tank k).advances level = true then
             s.preds.set l ((s.pred l).advanced y.pair) else s.preds }

/-- The close-start test: on a backstop or a lead the line closes by its tank end, LATE set on a backstop; otherwise it stays in
TOPPING and the evaluation is recorded (R69, R70). -/
def State.closeStartTested (x v : State) (l : LineId) (tankEnd : Option Bool) (finalMm : Nat) : Prop :=
  if x.levelReaches l finalMm = true ∨ (x.evaluationNow l finalMm).leads = true then
    (if tankEnd = some true then v.closesWith l .tankEnd (some .tankEnd) none else v.closesWith l .ending none none) ∧
      (v.line l).late = (x.levelReaches l finalMm || (x.line l).late)
  else (v.line l).state = .topping ∧ (v.line l).tankEnd = tankEnd ∧ (v.line l).late = (x.line l).late ∧
    (v.pred l).evaluation = some (x.evaluationNow l finalMm)

/-- Entry to CHANGEOVER with successor `n` (R15, R43, R44, R101). -/
def State.changesOver (x v : State) (l : LineId) (n : TankId) : Prop :=
  let level := (x.tank n).latest.map (fun h => h.level)
  (v.line l).state = .changeover ∧ (v.line l).changeoverStart = some x.now ∧ (v.line l).pendingVol = 0 ∧
  (v.line l).throttle = min (x.line l).throttle (x.profile l).toppingPos ∧ (v.tank n).use = .incoming ∧
  (v.tank n).changeoverBase = level ∧ (v.tank n).highWater = level ∧ (v.tank n).pairPrev = none ∧
  (v.tank n).pairLatest = none ∧
  (v.flow l).watchIncoming = some { base := level, peak := level, peakTime := x.now }

/-- Entry to TOPPING: the tank end recorded, the throttle lowered to topping_pos with the settle it begins (R61), and the
close-start test made at once (R14, R69). -/
def State.topsOff (x v : State) (l : LineId) (finalMm : Nat) : Prop :=
  let lowered := decide ((x.profile l).toppingPos < (x.line l).throttle)
  let y : State := if lowered then { x with preds := x.preds.set l ((x.pred l).throttled (x.activePair l)) } else x
  y.closeStartTested v l (some (decide (1 < (x.list l).length))) finalMm ∧
    ((v.line l).state = .topping → (v.line l).throttle = min (x.line l).throttle (x.profile l).toppingPos)

/-- The marks of the ACTIVE tank of a line in BULK, evaluated with the successor `target` it may change over to: CHANGEOVER at the
changeover mark, without one TOPPING at the topoff mark, below the mark nothing (R13). -/
def State.marksEvaluated (x v : State) (l : LineId) (d : Declaration) (target : Option TankId) : Prop :=
  match target with
  | some n =>
    if x.levelReaches l (d.changeoverMm.getD d.topoffMm) = true then x.changesOver v l n else v.line l = x.line l
  | none => if x.levelReaches l d.topoffMm = true then x.topsOff v l d.finalMm else v.line l = x.line l

/-- The overrun test of CHANGEOVER: at the final mark the line trips, its pending volume given up (R48, R51). -/
def State.overruns (x v : State) (l : LineId) (finalMm : Nat) : Prop :=
  if x.levelReaches l finalMm = true then
    v.closesWith l .trip none (some .changeoverOverrun) ∧ (v.line l).pendingVol = 0
  else v.line l = x.line l

/-- A reading in CHANGEOVER from tank `old` to tank `new`: the overrun test, then the success test; on success the pending volume
is divided, the list moves on, the line is in BULK at bulk_pos with the proving baseline of the new tank, whose marks are
evaluated at once (R45 to R48, R65). -/
def State.changeoverTested (x v : State) (l : LineId) (old new : TankId) (finalMm : Nat) : Prop :=
  if x.levelReaches l finalMm = false ∧ x.incomingRise l = true ∧ x.stopConfirmed l = true then
    let share := x.incomingShare l new
    let fed := (x.line l).fedSet
    let y : State :=
      { x with lists := x.lists.set l ((x.list l).drop 1), preds := x.preds.set l Predictor.init,
               tanks := (x.tanks.set old { x.tank old with use := .done }).set new
                 { x.tank new with use := .active, changeoverBase := none },
               lines := x.lines.set l { x.line l with
                 state := .bulk, throttle := (x.profile l).bulkPos, pendingVol := 0, changeoverStart := none,
                 fedSet := if fed.contains new then fed else fed ++ [new],
                 baseline := some { level := (x.tank new).changeoverBase, litres := (x.line l).delivered - share } } }
    (v.tank old).use = .done ∧ (v.tank new).use = .active ∧ v.list l = (x.list l).drop 1 ∧
    (v.tank new).attributed = (x.tank new).attributed + share ∧
    (v.tank old).attributed = (x.tank old).attributed + ((x.line l).pendingVol - share) ∧
    ∀ d, (x.tank new).decl = some d → y.marksEvaluated v l d (y.changeoverTarget l)
  else x.overruns v l finalMm

/-! ### The watches of a gate end. `x` is the state after the first three steps of R106 for the line -/

/-- The state of a gate end after its count, credit and quiet timer for line `l` (R106, steps 1 to 3). -/
def State.gateOpened (s : State) (l : LineId) (t : Time) : State :=
  (((begin t s).gateCount l).gateCredit l).gateQuiet l |>.toState

/-- The balance test applies and fails (R105). -/
def State.balanceTrips (x : State) (l : LineId) : Bool :=
  x.balanceApplies l && (match (x.line l).baseline with
    | some b => decide ((x.profile l).balanceTolL < (x.balanceExcess l b.litres).natAbs)
    | none => false)

/-- The blind test applies and fails: every fed tank's peak is older than the blind window (R102, R103). -/
def State.blindTrips (x : State) (l : LineId) : Bool :=
  x.blindApplies l && (x.fedTanks l).all (fun f => decide (x.blindWindowOf l < elapsed x.now f.2.peakTime))

/-! ### Invariants -/

/-- The notice queue never holds two notices of one kind and subject (R187). -/
def State.noticesDistinct (s : State) : Prop := (s.notices.map (fun n => n.key)).Nodup

/-- While no RESTART waits, a frame that stands first among the waiting ones is a request: frames of an unknown kind or a wrong
length have been answered (R179, R180, R189). -/
def State.unreadAnswered (s : State) : Prop :=
  s.restart = .idle → ∀ b g f, s.waitOrder.head? = some b → s.buf b = .waiting g f → ∃ r, f = .request r

/-- No tank stands twice on a fill order list, nor on the lists of two lines (R38, R39). -/
def State.listsApart (s : State) : Prop :=
  ∀ l, (s.list l).Nodup ∧ ∀ m, m ≠ l → ∀ k ∈ s.list l, k ∉ s.list m

/-- A tank's miss count never exceeds 15 (R146), and the SHIP clear run never exceeds 3 (R169). -/
def State.countsBounded (s : State) : Prop := (∀ k, (s.tank k).missCount ≤ Config.lostMisses) ∧ s.shut.shipRun ≤ 3

/-- Each permit is asserted exactly while the ESD latch is clear and a line on the pump is flowing (R174). -/
def State.permitsSound (s : State) : Prop := ∀ p, s.shut.permit p = (!s.latch && s.pumpFlowing p)

/-- Every learned stroke rate lies between 5 and 500 per-mille per second (R111). -/
def State.ratesBounded (s : State) : Prop :=
  ∀ l r, (s.valve l).learnedRate = some r → Config.minRate ≤ r ∧ r ≤ Config.maxRate

/-- Each valve has at most one stroke pending or in progress (R113). -/
def State.oneStroke (s : State) : Prop := ∀ l, (s.valve l).stroke.isSome = true → (s.valve l).pending = none

/-- The charge pump after a change of band (R128): stopped in RELEASE, running in NEED and MUST; in MAY a running pump runs on and
a stopped one, which comes from RELEASE, starts exactly when both channels are free at the change. -/
def State.pumpDriven (s v : State) : Prop :=
  (v.supply.band = .release → v.supply.pump = false) ∧
  (v.supply.band = .need ∨ v.supply.band = .must → v.supply.pump = true) ∧
  (v.supply.band = .may → (s.supply.pump = true ∨ s.bothFree = true → v.supply.pump = true) ∧
    (s.supply.band = .release → s.oneStroke → s.supply.pump = false → s.bothFree = false → v.supply.pump = false))

/-- A follow-on is OPEN or THROTTLE work behind an OPEN or THROTTLE stroke in progress on its valve (R113, R115). -/
def State.followOnsSound (s : State) : Prop :=
  ∀ l r, (s.valve l).followOn = some r → r.cls ≠ .close ∧ ∃ k, (s.valve l).stroke = some k ∧ k.req.cls ≠ .close

/-- A CLOSE is pending only on the valve of a line in CLOSING whose close is in STAGE or SEATING (R83, R85, R90). -/
def State.pendingClosesSound (s : State) : Prop :=
  ∀ l r, (s.valve l).pending = some r → r.cls = .close → s.closePhase l = some .stage ∨ s.closePhase l = some .seating

/-- Each channel is free or held by a line whose valve has a stroke in progress, and each such stroke holds one channel, so that
no more than two are in progress (R113, R117). -/
def State.channelsSound (s : State) : Prop :=
  ∀ l, ((s.valve l).stroke.isSome = true ↔ s.chan1.holder = some l ∨ s.chan2.holder = some l) ∧
    ¬ (s.chan1.holder = some l ∧ s.chan2.holder = some l)

/-- While the ESD latch is set no line is flowing and no OPEN or THROTTLE work is pending, in progress or to follow (R170). -/
def State.latchQuiet (s : State) : Prop :=
  s.latch = true → ∀ l, s.flowing l = false ∧ (∀ r, (s.valve l).pending = some r → r.cls = .close) ∧
    (∀ k, (s.valve l).stroke = some k → k.req.cls = .close) ∧ (s.valve l).followOn = none

/-- No valve's commanded target, and no target of its strokes and requests, exceeds its line's bulk_pos (R112). -/
def State.targetsBounded (s : State) : Prop :=
  ∀ l, (s.valve l).commanded ≤ (s.profile l).bulkPos ∧
    (∀ r, (s.valve l).pending = some r → r.target ≤ (s.profile l).bulkPos) ∧
    (∀ k, (s.valve l).stroke = some k → k.req.target ≤ (s.profile l).bulkPos) ∧
    (∀ r, (s.valve l).followOn = some r → r.target ≤ (s.profile l).bulkPos)

/-- The fed set of each line holds its ACTIVE tank, without repeats, and no tank of another line's fed set; a flowing line has
an ACTIVE tank (R26, R36 to R40). -/
def State.fedSound (s : State) : Prop :=
  ∀ l, (s.line l).fedSet.Nodup ∧ (∀ m, m ≠ l → ∀ k ∈ (s.line l).fedSet, k ∉ (s.line m).fedSet) ∧
    (∀ n, s.activeTank l = some n → n ∈ (s.line l).fedSet) ∧ (s.flowing l = true → (s.activeTank l).isSome = true)

/-- The account law of a line: its delivered litres are the litres attributed to its fed set and its pending volume (R26). -/
def State.accountBalances (s : State) (l : LineId) : Prop :=
  (s.line l).delivered = ((s.line l).fedSet.map (fun k => (s.tank k).attributed)).sum + (s.line l).pendingVol

/-- The invariants together. -/
structure State.Inv (s : State) : Prop where
  notices : s.noticesDistinct
  waiting : s.unreadAnswered
  lists : s.listsApart
  counts : s.countsBounded
  permits : s.permitsSound
  rates : s.ratesBounded
  strokes : s.oneStroke
  followOns : s.followOnsSound
  pendingCloses : s.pendingClosesSound
  channels : s.channelsSound
  latched : s.latchQuiet
  targets : s.targetsBounded

end Sys2Proof.Machine
end

