-- ==== Sys2Proof/Certificates/Slice0/Obligations.lean ====
section
/-! DEFINITION. The statements for the provers, in the order of OBLIGATIONS.json. Each names the rules it formalises. -/

open Sys2Proof Sys2Proof.Machine

/-! ### The step, the console line, the request buffers -/

/-- A step takes the command at the front of the queue and is exec of it on the state with the queue's rest; on an empty
queue the part idles (notes/assumptions/2.md). -/
def Obligations.StepTakesTheFrontCommand : Prop :=
  (∀ (c : Instr) (cs : List Instr) (s : State), step { s with pending := c :: cs } = exec c { s with pending := cs }) ∧
  (∀ s : State, s.pending = [] → step s = .next s)

/-- Every command completes in every state, and no command takes from or adds to the queue of commands. This is the model's
choice: that a command without its occasion still answers a next state is notes/assumptions/3.md and 4.md, that POWER_ON keeps
the queue notes/assumptions/28.md. -/
def Obligations.EveryCommandCompletes : Prop :=
  ∀ c s, ∃ u, exec c s = .next u ∧ u.pending = s.pending

/-- R183 whole: a line command or a read whose number is out of range is answered FIELD_RANGE with index 0 before any state is
looked at; a line command for a line in UNDECLARED is answered WRONG_STATE; every read with a valid operand is answered OK
with its record as the state stands at the taking; none of these changes any block or queues a notice. -/
def Obligations.ReadsAndLineNumbers : Prop :=
  ∀ (s : State) (t : Time) (tag : Byte) (b : BufId),
    let now : State := { s with now := t }
    let quiet (u : State) : Prop := s.sameBlocks u ∧ ∀ n ∈ u.notices, n ∈ s.notices
    (∀ n r, (r = .start n ∨ r = .hold n ∨ r = .resume n ∨ r = .stop n ∨ r = .clearTrip n) → s.takesIn tag r = some b →
      (lineOf n = none → Answers s (r.row t tag) t b tag (.fieldRange 0) [] quiet) ∧
      (∀ l, lineOf n = some l → (s.line l).state = .undeclared → Answers s (r.row t tag) t b tag .wrongState [] quiet)) ∧
    (∀ n, s.takesIn tag (.readLine n) = some b →
      (lineOf n = none → Answers s (.readLine t tag n) t b tag (.fieldRange 0) [] quiet) ∧
      (∀ l, lineOf n = some l → Answers s (.readLine t tag n) t b tag .ok (now.lineRecord l) quiet)) ∧
    (∀ n, s.takesIn tag (.readTrip n) = some b →
      (lineOf n = none → Answers s (.readTrip t tag n) t b tag (.fieldRange 0) [] quiet) ∧
      (∀ l, lineOf n = some l → Answers s (.readTrip t tag n) t b tag .ok (now.tripRecord l) quiet)) ∧
    (∀ n, s.takesIn tag (.readTank n) = some b →
      (tankOf n = none → Answers s (.readTank t tag n) t b tag (.fieldRange 0) [] quiet) ∧
      (∀ k, tankOf n = some k → Answers s (.readTank t tag n) t b tag .ok (now.tankRecord k) quiet)) ∧
    (s.takesIn tag .readLink = some b → Answers s (.readLink t tag) t b tag .ok now.linkRecord quiet) ∧
    (s.takesIn tag .readHpu = some b → Answers s (.readHpu t tag) t b tag .ok now.hpuRecord quiet) ∧
    (s.takesIn tag .readEsd = some b → Answers s (.readEsd t tag) t b tag .ok now.esdRecord quiet)

/-- A request that is not taken at its row changes no block: it waits in the free buffer behind the frames before it, or, with
both buffers occupied, its tag stands in the overrun slot, which joins the end of the reply order or, occupied already, keeps its
place there; the arbiter may begin the oldest reply (R180, R182). That the row of a request that is not next stands for a new
frame is the model's choice (notes/assumptions/5.md). -/
def Obligations.RequestWaitsOrOverruns : Prop :=
  ∀ (s : State) (t : Time) (tag : Byte) (r : Request), s.takesIn tag r = none →
    Completes s (r.row t tag) t (fun u => s.sameBlocks u ∧
      match s.freeBuf with
      | some b => u.buf b = .waiting tag (.request r) ∧ u.waitOrder = s.waitOrder ++ [b] ∧ u.overrun = s.overrun ∧
          (∀ x, x ≠ b → u.buf x = s.buf x)
      | none => u.overrun = some tag ∧ u.waitOrder = s.waitOrder ∧ (∀ x, u.buf x = s.buf x) ∧
          let order := if s.overrun.isSome then s.replyOrder else s.replyOrder ++ [.overrun]
          u.replyOrder = order ∨ ∃ q x, order = q :: u.replyOrder ∧ u.tx = some (.reply q x))

/-- CONSOLE_FRAME_RECEIVED: the receiver is in HUNT and no block changes. With a buffer free and no frame waiting before it, a
frame of an unknown kind is answered UNKNOWN_REQUEST, one of a wrong length LENGTH (R179). Behind a waiting request, or during
the wait of a RESTART, a frame of any of the three kinds waits in the free buffer; with both buffers occupied it is not executed
and its tag takes the overrun slot (R180). The premise of these two holds in every run: each step keeps the frame that stands
first a request while no RESTART waits. That a frame of an unknown kind or a wrong length also waits during the wait of a
RESTART, and is not answered there, is the model's reading (DEDUCED, notes/assumptions/27.md). That a request waits in the buffer
until its own row takes it, though nothing stands before it, is the model's choice (notes/assumptions/5.md). -/
def Obligations.ReceivedFrameIsBufferedOrAnswered : Prop :=
  (∀ s u : State, s.unreadAnswered → step s = .next u → u.unreadAnswered) ∧
  (∀ (s : State) (t : Time) (kind tag : Byte) (payload : List Byte), s.unreadAnswered →
    Completes s (.consoleFrameReceived t kind tag payload) t (fun u => s.sameBlocks u ∧ u.rx = .hunt ∧
      (s.freeBuf = none → s.overrunBy u tag) ∧
      (∀ b, s.freeBuf = some b → s.restart ≠ .idle ∨ (∃ x, s.waitOrder.head? = some x ∧ s.buf x ≠ .empty) →
        s.waitsBehind u b tag (receivedOf kind payload)))) ∧
  ∀ (s : State) (t : Time) (kind tag : Byte) (payload : List Byte) (b : BufId),
    s.freeBuf = some b → s.waitOrder = [] → s.restart = .idle →
    Completes s (.consoleFrameReceived t kind tag payload) t (fun u => s.sameBlocks u ∧ u.rx = .hunt ∧
      (decodeRequest kind payload = none →
        u.buf b = .answered { tag := tag, result := .unknownRequest, record := [], restart := false } ∧ u.replyStands b) ∧
      (decodeRequest kind payload = some none →
        u.buf b = .answered { tag := tag, result := .length, record := [], restart := false } ∧ u.replyStands b) ∧
      (∀ r, decodeRequest kind payload = some (some r) →
        u.buf b = .waiting tag (.request r) ∧ u.waitOrder = [b] ∧ s.takesIn tag r = some b))

/-- The console line's faults abandon the frame being received and do nothing else; an error on the ship link discards the
bytes collected; the row of a gap, a framing error, a length mismatch and a bad check (R178, R194). The ship receiver, fed the
bytes of a frame, completes nothing before the last byte and then the frame itself; a length above 17 ends the frame. The byte
functions are called by no command (notes/assumptions/25.md). A pulse is counted in the running gate (R93). -/
def Obligations.AbandonedFramesAndPulses : Prop :=
  ∀ (s : State) (t : Time),
    (∀ c, (c = .consoleGapTimeout t ∨ c = .consoleFramingError t ∨ c = .consoleLengthMismatch t ∨ c = .consoleBadCheck t) →
      exec c s = .next (State.arbitrate { s with now := t, rx := .hunt })) ∧
    exec (.shipFrameError t) s = .next (State.arbitrate { s with now := t, link := { s.link with rx := .hunt } }) ∧
    (∀ l, exec (.meterPulse t l) s = .next (State.arbitrate
      { s with now := t, flows := s.flows.set l { s.flow l with gatePulses := (s.flow l).gatePulses + 1 } })) ∧
    (∀ (address kind : Byte) (payload : List Byte), payload.length ≤ 17 →
      shipRxBytes .hunt (shipFrame address kind payload) =
        (.hunt, List.replicate (payload.length + 5) .nothing ++ [.frame address kind payload])) ∧
    (∀ address kind n : Byte, 17 < n.toNat →
      shipRxBytes .hunt [0x5A, address, kind, n] = (.hunt, [.nothing, .nothing, .nothing, .ended]))

/-- TRANSMIT_FRAME_END frees the line: a reply empties its buffer or the overrun slot, the reply of an accepted RESTART makes its
effect due and stops the arbiter; otherwise the arbiter begins the oldest waiting reply, the answer of its buffer or OVERRUN with
the tag of the slot, or else the first notice (R180 to R182, R189). -/
def Obligations.FrameEndFreesTheLine : Prop :=
  ∀ (s : State) (t : Time),
    Completes s (.transmitFrameEnd t) t (fun u => s.sameBlocks u ∧
      (∀ b r, s.tx = some (.reply (.buffer b) r) → u.buf b = .empty ∧ (∀ x, x ≠ b → u.buf x = s.buf x) ∧
        (r.restart = true → u.restart = .due ∧ u.tx = none)) ∧
      (∀ r, s.tx = some (.reply .overrun r) → u.overrun = none) ∧
      (s.restart = .idle → (∀ q r, s.tx = some (.reply q r) → r.restart = false) → u.restart = .idle ∧
        (∀ q qs, s.replyOrder = q :: qs →
          (∃ x, u.tx = some (.reply q x)) ∧ u.replyOrder = qs ∧ u.notices = s.notices ∧
          ((∀ x, s.tx ≠ some (.reply q x)) →
            (∀ b x, q = .buffer b → s.buf b = .answered x → u.tx = some (.reply q x)) ∧
            (∀ g, q = .overrun → s.overrun = some g →
              u.tx = some (.reply q { tag := g, result := .overrun, record := [], restart := false })))) ∧
        (∀ n ns, s.replyOrder = [] → s.notices = n :: ns → u.tx = some (.notice n) ∧ u.notices = ns) ∧
        (s.replyOrder = [] → s.notices = [] → u.tx = none)))

/-! ### Frames and their bytes -/

/-- The receiver, fed the bytes of a console frame, completes nothing before the last byte and then the frame itself, and is
back in HUNT (R178, R192). The byte functions are called by no command, since the table has no row for a byte
(notes/assumptions/25.md). -/
def Obligations.ReceiverReadsEveryFrame : Prop :=
  ∀ (kind tag : Byte) (payload : List Byte), payload.length ≤ 64 →
    rxBytes .hunt (consoleFrame kind tag payload) =
      (.hunt, List.replicate (payload.length + 5) .nothing ++ [.frame kind tag payload])

/-- Decoding the payload of a request gives the request back, for every request whose operands fit their fields (R191, R192). -/
def Obligations.RequestPayloadsDecode : Prop :=
  ∀ r : Request, requestFits r = true → decodeRequest (kindCode r) (requestPayload r) = some (some r)

/-- Decoding the kind and payload of a ship unit's reply gives the reply back, for every reply that fits its frame (R194,
R195). -/
def Obligations.ShipRepliesDecode : Prop :=
  ∀ r : ShipReply, shipReplyFits r = true → decodeShip (shipReplyBytes r).1 (shipReplyBytes r).2 = r

/-! ### Invariants -/

/-- The state after reset satisfies the invariants. -/
def Obligations.ResetMeetsTheInvariants : Prop := State.reset.Inv

/-- Every step keeps the notices of one kind and subject apart (R187), and a tank on one list at most, once at most (R38,
R39). -/
def Obligations.NoticesAndListsStayDistinct : Prop :=
  (∀ s u : State, s.noticesDistinct → step s = .next u → u.noticesDistinct) ∧
  (∀ s u : State, s.listsApart → step s = .next u → u.listsApart)

/-- Every step keeps every miss count at or below 15 (R146) and the SHIP clear run at or below 3 (R169). -/
def Obligations.CountsStayBounded : Prop :=
  ∀ s u, s.countsBounded → step s = .next u → u.countsBounded

/-- After every step a permit is asserted exactly while the latch is clear and a line on its pump is flowing (R174); while the
latch is set no line is flowing and no OPEN or THROTTLE work is left on any valve (R170), in states whose valves have one stroke
each and follow-ons only behind OPEN and THROTTLE strokes. -/
def Obligations.PermitsStaySound : Prop :=
  (∀ s u : State, s.permitsSound → step s = .next u → u.permitsSound) ∧
  (∀ s u : State, s.oneStroke → s.followOnsSound → s.latchQuiet → step s = .next u → u.latchQuiet)

/-- Every step keeps every learned rate within 5 to 500 (R111) and each valve at no more than one stroke pending or in progress
(R113). In states with no valve at more, it keeps each follow-on behind an OPEN or THROTTLE stroke (R115), and each channel free
or held by one stroke in progress, each of which holds one (R113, R117); with follow-ons so placed, it keeps a CLOSE pending only
on the valve of a line in CLOSING whose close is in STAGE or SEATING (R83, R85, R90). It keeps every target within bulk_pos
(R112), a LINE_PROFILE apart, of which LineProfileIsTestedAndStored says so. -/
def Obligations.ValvesStaySound : Prop :=
  (∀ s u : State, s.ratesBounded → step s = .next u → u.ratesBounded) ∧
  (∀ s u : State, s.oneStroke → step s = .next u → u.oneStroke) ∧
  (∀ s u : State, s.oneStroke → s.followOnsSound → step s = .next u → u.followOnsSound) ∧
  (∀ s u : State, s.oneStroke → s.channelsSound → step s = .next u → u.channelsSound) ∧
  (∀ s u : State, s.oneStroke → s.followOnsSound → s.pendingClosesSound → step s = .next u → u.pendingClosesSound) ∧
  (∀ s u : State, s.targetsBounded → (∀ t tag n p, s.pending.head? ≠ some (.lineProfile t tag n p)) → step s = .next u →
    u.targetsBounded)

/-! ### Who may change what -/

/-- No other command changes the Ship Link Controller, and no other command a grade record (R138 to R152, R154 to R164). -/
def Obligations.OnlyTheirCommandsChangeLinkAndGrades : Prop :=
  ∀ c s u, exec c s = .next u →
    (c.touchesLink = false → u.link = s.link) ∧ (c.touchesGrades = false → u.grades = s.grades)

/-- A line's profile changes only by a LINE_PROFILE of that line, the HPU profile only by HPU_PROFILE, a grade's barge terms only
by a GRADE_PROFILE of that grade; POWER_ON apart. RESTART keeps them (R29, R152, R154). -/
def Obligations.OnlyProfilesChangeTheSettings : Prop :=
  ∀ c s u, exec c s = .next u → (∀ i, c ≠ .powerOn i) →
    (∀ l, (∀ t tag n p, c = .lineProfile t tag n p → lineOf n ≠ some l) → (u.line l).profile = (s.line l).profile) ∧
    ((∀ t tag h, c ≠ .hpuProfile t tag h) → u.supply.profile = s.supply.profile) ∧
    (∀ g, (∀ t tag n o, c = .gradeProfile t tag n o → gradeOf n ≠ some g) → (u.grade g).barge = (s.grade g).barge)

/-- What comes from an input changes only at that input's event: a limit switch, the transmitter's sample, the pulse counts and
the gate rate, the pressure sample and its fault, the accumulator's, the loop (R93, R96, R109, R127, R168). -/
def Obligations.OnlyInputsChangeInputs : Prop :=
  ∀ c s u, exec c s = .next u → (∀ i, c ≠ .powerOn i) →
    (∀ l, (∀ t a, c ≠ .closedLimitSwitch t l a) → (u.valve l).closedSwitch = (s.valve l).closedSwitch) ∧
    (∀ l, (∀ t a, c ≠ .openLimitSwitch t l a) → (u.valve l).openSwitch = (s.valve l).openSwitch) ∧
    (∀ l, (∀ t x, c ≠ .positionSample t l x) → (u.valve l).sample = (s.valve l).sample) ∧
    (∀ l, (∀ t, c ≠ .gateEnd t) → (u.flow l).rate = (s.flow l).rate ∧ (u.flow l).lastPulses = (s.flow l).lastPulses ∧
      (u.flow l).prevRate = (s.flow l).prevRate) ∧
    (∀ l, (∀ t, c ≠ .gateEnd t) → (∀ t, c ≠ .meterPulse t l) → (u.flow l).gatePulses = (s.flow l).gatePulses) ∧
    (∀ l, (∀ t x, c ≠ .pressureSample t l x) → (u.flow l).pressure = (s.flow l).pressure ∧
      (u.flow l).pressureFault = (s.flow l).pressureFault) ∧
    ((∀ t x, c ≠ .accumulatorSample t x) → u.supply.pressure = s.supply.pressure ∧ u.supply.fault = s.supply.fault) ∧
    ((∀ t, c ≠ .esdLoopOpen t) → (∀ t, c ≠ .esdLoopClosed t) → (∀ t, c ≠ .loopDebounceExpiry t) →
      u.shut.loop = s.shut.loop)

/-- A tank's declaration, health, alarms, miss count, marks and readings, the high water and the rise pair among them, change only
by the commands of the ship link, a RESTART and POWER_ON: no request of the console and no event of a line changes them (section
2.1; R30 to R34, R44, R54, R55, R144 to R149). -/
def Obligations.OnlyTheShipLinkChangesTankReadings : Prop :=
  ∀ c s u, exec c s = .next u → c.touchesReadings = false → ∀ k,
    (u.tank k).decl = (s.tank k).decl ∧ (u.tank k).health = (s.tank k).health ∧ (u.tank k).refusal = (s.tank k).refusal ∧
    (u.tank k).toggle = (s.tank k).toggle ∧ (u.tank k).latest = (s.tank k).latest ∧
    (u.tank k).highWater = (s.tank k).highWater ∧ (u.tank k).pairPrev = (s.tank k).pairPrev ∧
    (u.tank k).pairLatest = (s.tank k).pairLatest ∧
    (u.tank k).missCount = (s.tank k).missCount ∧ (u.tank k).lastNew = (s.tank k).lastNew ∧
    (u.tank k).highAlarm = (s.tank k).highAlarm ∧ (u.tank k).overfill = (s.tank k).overfill ∧
    (u.tank k).marks = (s.tank k).marks

/-- A cause in the ESD cause set keeps its place and its stamp through every command but ESD_RESET and POWER_ON, so nothing else
clears the latch; a trip record is written anew but never removed, and the valve list only grows (R19, R171, R173, R186). -/
def Obligations.LatchedCausesAndTripRecordsPersist : Prop :=
  ∀ c s u, exec c s = .next u → (∀ i, c ≠ .powerOn i) →
    ((∀ t tag, c ≠ .esdReset t tag) →
      (∀ x t0, s.shut.causes.get x = some t0 → u.shut.causes.get x = some t0) ∧
      (∀ l ∈ s.shut.valveList, l ∈ u.shut.valveList)) ∧
    (∀ l, (s.line l).trip.isSome = true → (u.line l).trip.isSome = true)

/-- A command that changes a line's state leaves a LINE notice with the content in which it leaves the line (R4, R187). -/
def Obligations.LineStateChangesAreAnnounced : Prop :=
  ∀ c s u l, exec c s = .next u → (∀ i, c ≠ .powerOn i) → (u.line l).state ≠ (s.line l).state → u.announced (.line l)

/-! ### Requests for a line -/

/-- The refusals of START, in the order of the conditions of R5; a refused START changes nothing. -/
def Obligations.StartIsRefusedInOrder : Prop :=
  ∀ (s : State) (t : Time) (tag : Byte) (n : Nat) (l : LineId) (b : BufId),
    lineOf n = some l → s.takesIn tag (.start n) = some b →
    let refused (r : Result) : Prop := Answers s (.start t tag n) t b tag r [] s.sameBlocks
    ((s.line l).state ≠ .idle → refused .wrongState) ∧
    ((s.line l).state = .idle →
      (s.list l = [] → refused (.refused .noFillOrder)) ∧
      (∀ k ks, s.list l = k :: ks →
        (s.latch = true → refused (.refused .esdActive)) ∧
        (s.latch = false → s.termsAgreed l = false → refused (.refused .termsNotAgreed)) ∧
        (s.latch = false → s.termsAgreed l = true →
          ((∀ p, s.link.panel = some p → p.ready = false) → refused (.refused .shipNotReady)) ∧
          (∀ p, s.link.panel = some p → p.ready = true →
            (p.shipStop = true → refused (.refused .shipStop)) ∧
            (p.shipStop = false → (s.tank k).health ≠ .live → refused (.refused .tankNotLive))))))

/-- START, with every condition of R5 met, completes, no tank standing on two lists: the account is zeroed, the front tank
becomes ACTIVE and joins the fed set, the line is STARTING at throttle position start_pos with its flags clear, or, with its
valve at start_pos already, PROVING; its pump's permit is asserted. The OPEN stroke stands in the queue or has been granted; a
CLOSE stroke that still holds its valve goes on, and any other stroke takes it as its follow-on (R5, R6, R26, R27, R94, R113,
R174). The line's list and profile, the link, the grades and the ESD causes are unchanged. -/
def Obligations.StartRunsTheLine : Prop :=
  ∀ (s : State) (t : Time) (tag : Byte) (n : Nat) (l : LineId) (b : BufId) (k : TankId) (ks : List TankId) (p : PanelReply)
    (u : PumpId),
    lineOf n = some l → s.takesIn tag (.start n) = some b → (s.line l).state = .idle → s.list l = k :: ks →
    s.latch = false → s.termsAgreed l = true → s.link.panel = some p → p.ready = true → p.shipStop = false →
    (s.tank k).health = .live → s.pumpOfLine l = some u → s.listsApart →
    Answers s (.start t tag n) t b tag .ok [] (fun v =>
      ((v.line l).state = .starting ∧ (v.line l).baseline = none ∨
        s.atTarget l (s.startStroke l t) = true ∧ (v.line l).state = .proving) ∧
      (v.line l).throttle = (s.profile l).startPos ∧ (v.line l).delivered = 0 ∧
      (v.line l).pendingVol = 0 ∧ (v.line l).fedSet = [k] ∧ (v.line l).holdReason = none ∧
      (v.line l).surgeLimited = false ∧ (v.line l).late = false ∧ (v.line l).profile = (s.line l).profile ∧
      (v.line l).trip = (s.line l).trip ∧ v.list l = s.list l ∧ v.pred l = s.pred l ∧
      (v.flow l).pulseTotal = 0 ∧ (v.flow l).meterFactor = some (s.profile l).meterK ∧
      (v.tank k).use = .active ∧ v.shut.permit u = true ∧ v.shut.causes = s.shut.causes ∧
      v.link = s.link ∧ v.grades = s.grades ∧
      (∀ x, (s.valve l).stroke = some x → (v.valve l).stroke = some x ∧
        (x.req.cls ≠ .close → (v.valve l).followOn = some (s.startStroke l t))) ∧
      ((s.valve l).stroke = none → s.atTarget l (s.startStroke l t) = false →
        (∀ r, (s.valve l).pending = some r → r.cls ≠ .close) →
        (v.valve l).pending = some (s.startStroke l t) ∨
          ∃ x, (v.valve l).stroke = some x ∧ x.req = s.startStroke l t))

/-- RESUME: outside HELD it is WRONG_STATE; in HELD a DONE front tank leaves the list, even when the RESUME is then refused; an
accepted RESUME, no tank standing on two lists, is STARTING, or PROVING with its valve at start_pos already, with the account
kept (R7). -/
def Obligations.ResumeGoesOnWithTheList : Prop :=
  ∀ (s : State) (t : Time) (tag : Byte) (n : Nat) (l : LineId) (b : BufId),
    lineOf n = some l → s.takesIn tag (.resume n) = some b →
    let ks := match s.list l with
      | k :: rest => if (s.tank k).use = .done then rest else k :: rest
      | [] => []
    let refused (r : Result) : Prop := Answers s (.resume t tag n) t b tag r []
      (fun v => v.lists = s.lists.set l ks ∧ v.lines = s.lines ∧ v.tanks = s.tanks ∧ v.valves = s.valves ∧
        v.shut = s.shut ∧ v.link = s.link ∧ v.grades = s.grades ∧ v.flows = s.flows)
    ((s.line l).state ≠ .held → Answers s (.resume t tag n) t b tag .wrongState [] s.sameBlocks) ∧
    ((s.line l).state = .held →
      (ks = [] → refused (.refused .noFillOrder)) ∧
      (ks ≠ [] → s.latch = true → refused (.refused .esdActive)) ∧
      (ks ≠ [] → s.latch = false → s.termsAgreed l = false → refused (.refused .termsNotAgreed)) ∧
      (ks ≠ [] → s.latch = false → s.termsAgreed l = true → (∀ p, s.link.panel = some p → p.ready = false) →
        refused (.refused .shipNotReady)) ∧
      (∀ k rest p, ks = k :: rest → s.latch = false → s.termsAgreed l = true → s.link.panel = some p → p.ready = true →
        (p.shipStop = true → refused (.refused .shipStop)) ∧
        (p.shipStop = false → (s.tank k).health ≠ .live → refused (.refused .tankNotLive)) ∧
        (p.shipStop = false → (s.tank k).health = .live → s.listsApart →
          Answers s (.resume t tag n) t b tag .ok [] (fun v =>
            ((v.line l).state = .starting ∧ (v.line l).baseline = none ∨
              s.atTarget l (s.startStroke l t) = true ∧ (v.line l).state = .proving) ∧
            (v.line l).throttle = (s.profile l).startPos ∧ (v.tank k).use = .active ∧
            (v.line l).delivered = (s.line l).delivered ∧
            (v.line l).fedSet = (if (s.line l).fedSet.contains k then (s.line l).fedSet else (s.line l).fedSet ++ [k]) ∧
            (v.line l).holdReason = none ∧ (v.line l).surgeLimited = false ∧
            (v.line l).late = false ∧ v.list l = ks ∧ (v.flow l).pulseTotal = (s.flow l).pulseTotal ∧
            v.link = s.link ∧ v.grades = s.grades))))

/-- HOLD: a flowing line enters CLOSING with reason HOLD and hold reason CONSOLE and answers OK; the line does not reach HELD
while its closed limit switch is inactive. From CHANGEOVER the whole pending volume goes to the old tank, and the INCOMING tank
becomes QUEUED with its changeover baseline removed. In every other state the answer is WRONG_STATE (R17, R21, R51). -/
def Obligations.HoldClosesAFlowingLine : Prop :=
  ∀ (s : State) (t : Time) (tag : Byte) (n : Nat) (l : LineId) (b : BufId),
    lineOf n = some l → s.takesIn tag (.hold n) = some b →
    (s.flowing l = false → Answers s (.hold t tag n) t b tag .wrongState [] s.sameBlocks) ∧
    (s.flowing l = true → Answers s (.hold t tag n) t b tag .ok [] (fun v =>
      (v.closesWith l .hold (some .console) none ∨
        ((v.line l).state = .held ∧ (v.line l).closeReason = none ∧ (v.line l).holdReason = some .console)) ∧
      ((s.valve l).closedSwitch = false → v.closesWith l .hold (some .console) none) ∧
      ((s.line l).state = .changeover → ∀ old, s.activeTank l = some old →
        (v.tank old).attributed = (s.tank old).attributed + (s.line l).pendingVol ∧ (v.line l).pendingVol = 0 ∧
        ∀ new, s.incomingTank l = some new → (v.tank new).use = .queued ∧ (v.tank new).changeoverBase = none ∧
          (v.tank new).attributed = (s.tank new).attributed) ∧
      (v.line l).delivered = (s.line l).delivered ∧ (v.line l).fedSet = (s.line l).fedSet ∧
      (v.line l).trip = (s.line l).trip ∧ (v.line l).profile = (s.line l).profile ∧ v.list l = s.list l ∧
      v.shut.causes = s.shut.causes ∧ v.link = s.link ∧ v.grades = s.grades))

/-- STOP: a flowing line enters CLOSING with reason END, from CHANGEOVER with the whole pending volume given to the old tank, and
the INCOMING tank still INCOMING while the line closes, its changeover baseline removed (R51); a HELD line goes straight to
COMPLETE, the fed tanks of its list DONE, the others FREE, the list emptied; in every other state the answer is WRONG_STATE (R22,
R23). -/
def Obligations.StopEndsTheTransfer : Prop :=
  ∀ (s : State) (t : Time) (tag : Byte) (n : Nat) (l : LineId) (b : BufId),
    lineOf n = some l → s.takesIn tag (.stop n) = some b →
    (s.flowing l = false → (s.line l).state ≠ .held → Answers s (.stop t tag n) t b tag .wrongState [] s.sameBlocks) ∧
    (s.flowing l = true → Answers s (.stop t tag n) t b tag .ok [] (fun v =>
      ((s.valve l).closedSwitch = false → v.closesWith l .ending none none) ∧
      ((v.line l).state = .closing ∨ (v.line l).state = .complete) ∧
      ((s.line l).state = .changeover → ∀ old, s.activeTank l = some old →
        (v.tank old).attributed = (s.tank old).attributed + (s.line l).pendingVol ∧ (v.line l).pendingVol = 0 ∧
        ∀ new, s.incomingTank l = some new → (v.tank new).changeoverBase = none ∧
          (v.tank new).attributed = (s.tank new).attributed ∧
          ((s.valve l).closedSwitch = false → (v.tank new).use = .incoming)) ∧
      (v.line l).delivered = (s.line l).delivered ∧ (v.line l).fedSet = (s.line l).fedSet ∧
      (v.line l).profile = (s.line l).profile ∧ v.shut.causes = s.shut.causes ∧ v.link = s.link ∧ v.grades = s.grades)) ∧
    ((s.line l).state = .held → Answers s (.stop t tag n) t b tag .ok [] (fun v =>
      (v.line l) = { s.line l with state := .complete, holdReason := none } ∧ v.list l = [] ∧
      (∀ k, (v.tank k).use = if k ∈ s.list l then (if k ∈ (s.line l).fedSet then .done else .free) else (s.tank k).use) ∧
      (∀ m, m ≠ l → v.line m = s.line m ∧ v.list m = s.list m) ∧ v.valves = s.valves ∧ v.closes = s.closes ∧
      v.preds = s.preds ∧ v.flows = s.flows ∧ v.link = s.link ∧ v.grades = s.grades ∧ v.supply = s.supply ∧
      v.shut.causes = s.shut.causes))

/-- R25 whole: CLEAR_TRIP is WRONG_STATE outside TRIPPED, refused VALVE_NOT_CLOSED unless the closed limit switch is active and
then QUIET_PENDING while that flag is set; otherwise the list is settled and emptied, the delivery account zeroed, the line IDLE
with its trip record kept, the answer OK. -/
def Obligations.ClearTripSettlesTheLine : Prop :=
  ∀ (s : State) (t : Time) (tag : Byte) (n : Nat) (l : LineId) (b : BufId),
    lineOf n = some l → s.takesIn tag (.clearTrip n) = some b →
    ((s.line l).state ≠ .tripped → Answers s (.clearTrip t tag n) t b tag .wrongState [] s.sameBlocks) ∧
    ((s.line l).state = .tripped → (s.valve l).closedSwitch = false →
      Answers s (.clearTrip t tag n) t b tag (.refused .valveNotClosed) [] s.sameBlocks) ∧
    ((s.line l).state = .tripped → (s.valve l).closedSwitch = true → (s.line l).quietPending = true →
      Answers s (.clearTrip t tag n) t b tag (.refused .quietPending) [] s.sameBlocks) ∧
    ((s.line l).state = .tripped → (s.valve l).closedSwitch = true → (s.line l).quietPending = false →
      (s.list l).Nodup →
      Answers s (.clearTrip t tag n) t b tag .ok [] (fun v =>
        v.line l = { s.line l with state := .idle, delivered := 0, pendingVol := 0, fedSet := [] } ∧ v.list l = [] ∧
        (∀ k, k ∈ s.list l → (v.tank k).use =
          if (s.tank k).use = .active then .done else if (s.tank k).use = .incoming then .free
          else if k ∈ (s.line l).fedSet then .done else .free) ∧
        (∀ k, k ∉ s.list l → (v.tank k).use = (s.tank k).use) ∧
        (∀ k, (v.tank k).attributed = if k ∈ (s.line l).fedSet then 0 else (s.tank k).attributed) ∧
        v.flow l = { s.flow l with pulseTotal := 0, meterFactor := none } ∧
        (∀ m, m ≠ l → v.line m = s.line m ∧ v.list m = s.list m ∧ v.flow m = s.flow m) ∧
        v.valves = s.valves ∧ v.closes = s.closes ∧ v.preds = s.preds ∧ v.link = s.link ∧ v.grades = s.grades ∧
        v.supply = s.supply ∧ v.shut.causes = s.shut.causes))

/-- LINE_PROFILE: the tests of R1 in their order; an accepted profile is stored with the clamps of R2, seeds the learned rate
where R111 says, keeps the commanded target of a valve with no request waiting within bulk_pos (R112), and leaves the line IDLE
(from UNDECLARED and COMPLETE) with its valve on the closed limit switch, or closing with FOUND_OPEN otherwise (R1 to R3). That
the pump test looks only at other lines, and that a listed tank with no declaration passes the grade test, is the model's
reading (DEDUCED, notes/assumptions/41.md). -/
def Obligations.LineProfileIsTestedAndStored : Prop :=
  (∀ (s : State) (t : Time) (tag : Byte) (n : Nat) (b : BufId) (p : LineProfile),
    lineOf n = none → s.takesIn tag (.lineProfile n p) = some b →
    Answers s (.lineProfile t tag n p) t b tag (.fieldRange 0) [] s.sameBlocks) ∧
  (∀ (s : State) (t : Time) (tag : Byte) (n : Nat) (l : LineId) (b : BufId) (p : LineProfile),
    lineOf n = some l → s.takesIn tag (.lineProfile n p) = some b →
    let st := (s.line l).state
    let admits : Prop := st = .undeclared ∨ st = .idle ∨ st = .complete ∨ st = .tripped
    let refused (r : Result) : Prop := Answers s (.lineProfile t tag n p) t b tag r [] s.sameBlocks
    (¬ admits → refused .wrongState) ∧
    (admits → ∀ i, profileError p = some i → refused (.fieldRange i)) ∧
    (admits → profileError p = none → ∃ g u, gradeOf p.grade = some g ∧ pumpOf p.pump = some u ∧
      ((s.grade g).agreement = .undeclared → refused (.refused .undeclaredGrade)) ∧
      ((s.grade g).agreement ≠ .undeclared →
        ((∃ k d, k ∈ s.list l ∧ (s.tank k).decl = some d ∧ d.grade ≠ g) ∨
          (∃ m, m ≠ l ∧ s.pumpOfLine m = some u ∧ s.gradeOfLine m ≠ some g) → refused (.refused .gradeMismatch)) ∧
        ((∀ k d, k ∈ s.list l → (s.tank k).decl = some d → d.grade = g) →
          (∀ m, m ≠ l → s.pumpOfLine m = some u → s.gradeOfLine m = some g) →
          Answers s (.lineProfile t tag n p) t b tag (if clampProfile p = p then .ok else .okAdjusted) [] (fun v =>
            (v.line l).profile = some (clampProfile p) ∧
            ((s.line l).profile.map (fun q => q.nominalRate) ≠ some p.nominalRate →
              (v.valve l).learnedRate = some p.nominalRate) ∧
            ((s.line l).profile.map (fun q => q.nominalRate) = some p.nominalRate →
              (v.valve l).learnedRate = (s.valve l).learnedRate) ∧
            ((s.valve l).pending = none → (v.valve l).commanded ≤ (clampProfile p).bulkPos) ∧
            ((s.valve l).closedSwitch = true → (v.line l).state = if st = .tripped then .tripped else .idle) ∧
            ((s.valve l).closedSwitch = true → st = .complete → (v.line l).delivered = 0 ∧ (v.line l).fedSet = []) ∧
            ((s.valve l).closedSwitch = false → v.closesWith l .trip none (some .foundOpen)) ∧
            (∀ m, m ≠ l → (v.line m).profile = (s.line m).profile) ∧
            v.link = s.link ∧ v.grades = s.grades ∧ v.shut.causes = s.shut.causes)))))

/-- FILL_ORDER: the tests of R39 in their order; an accepted order becomes the line's list, its tanks QUEUED with nothing
attributed, the tanks it leaves FREE unless DONE, the delivery account zeroed, a COMPLETE line IDLE (R39, R40). -/
def Obligations.FillOrderReplacesTheList : Prop :=
  (∀ (s : State) (t : Time) (tag : Byte) (n : Nat) (b : BufId) (o : OrderOperands),
    lineOf n = none → s.takesIn tag (.fillOrder n o) = some b →
    Answers s (.fillOrder t tag n o) t b tag (.fieldRange 0) [] s.sameBlocks) ∧
  (∀ (s : State) (t : Time) (tag : Byte) (n : Nat) (l : LineId) (b : BufId) (o : OrderOperands),
    lineOf n = some l → s.takesIn tag (.fillOrder n o) = some b →
    let st := (s.line l).state
    let admits : Prop := st = .idle ∨ st = .held ∨ st = .complete
    let ks := (orderNumbers o).filterMap tankOf
    let refused (r : Result) : Prop := Answers s (.fillOrder t tag n o) t b tag r [] s.sameBlocks
    (¬ admits → refused .wrongState) ∧
    (admits → ¬ (1 ≤ o.count ∧ o.count ≤ 4) → refused (.fieldRange 1)) ∧
    (admits → 1 ≤ o.count → o.count ≤ 4 →
      (∀ i, i < o.count → (∀ j, j < i → (tankOf ((orderNumbers o).getD j 0)).isSome = true) →
        tankOf ((orderNumbers o).getD i 0) = none → refused (.fieldRange (i + 2))) ∧
      ((∀ x ∈ orderNumbers o, (tankOf x).isSome = true) →
        (¬ ks.Nodup → refused (.refused .duplicateTank)) ∧
        (ks.Nodup → (∃ k ∈ ks, (s.tank k).health ≠ .live) → refused (.refused .tankNotLive)) ∧
        (ks.Nodup → (∀ k ∈ ks, (s.tank k).health = .live) →
          (∃ k ∈ ks, (s.tank k).decl.map (fun d => d.grade) ≠ s.gradeOfLine l) → refused (.refused .gradeMismatch)) ∧
        (ks.Nodup → (∀ k ∈ ks, (s.tank k).health = .live) →
          (∀ k ∈ ks, (s.tank k).decl.map (fun d => d.grade) = s.gradeOfLine l) →
          ((∃ k ∈ ks, ∃ m, m ≠ l ∧ (k ∈ s.list m ∨ k ∈ (s.line m).fedSet)) → refused (.refused .tankInUse)) ∧
          ((∀ k ∈ ks, ∀ m, m ≠ l → k ∉ s.list m ∧ k ∉ (s.line m).fedSet) →
            Answers s (.fillOrder t tag n o) t b tag .ok [] (fun v =>
              v.list l = ks ∧ (∀ m, m ≠ l → v.list m = s.list m ∧ v.line m = s.line m) ∧
              (v.line l).state = (if st = .complete then .idle else st) ∧ (v.line l).delivered = 0 ∧
              (v.line l).fedSet = [] ∧
              (∀ k ∈ ks, (v.tank k).use = .queued ∧ (v.tank k).attributed = 0) ∧
              (∀ k ∈ s.list l, k ∉ ks → (v.tank k).use = if (s.tank k).use = .done then .done else .free) ∧
              (∀ k, k ∉ ks → k ∉ s.list l → (v.tank k).use = (s.tank k).use) ∧
              v.valves = s.valves ∧ v.link = s.link ∧ v.grades = s.grades ∧ v.shut.causes = s.shut.causes))))))

/-! ### Requests for a grade, the supply and the whole part -/

/-- GRADE_PROFILE: its tests in their order; an accepted one stores the four barge terms and begins the agreement again, at
OFFERING with the link UP and at WAITING otherwise, with a TERMS notice every time (R153, R155). -/
def Obligations.GradeProfileRestartsTheAgreement : Prop :=
  ∀ (s : State) (t : Time) (tag : Byte) (n : Nat) (o : GradeOperands) (b : BufId),
    s.takesIn tag (.gradeProfile n o) = some b →
    let refused (r : Result) : Prop := Answers s (.gradeProfile t tag n o) t b tag r [] s.sameBlocks
    (gradeOf n = none → refused (.fieldRange 0)) ∧
    (∀ g, gradeOf n = some g →
      ((∃ l, s.gradeOfLine l = some g ∧ (s.flowing l = true ∨ s.closing l = true)) → refused (.refused .linesActive)) ∧
      ((∀ l, s.gradeOfLine l = some g → s.flowing l = false ∧ s.closing l = false) →
        (∀ i, gradeError o = some i → refused (.fieldRange i)) ∧
        (gradeError o = none → Answers s (.gradeProfile t tag n o) t b tag .ok [] (fun v =>
          v.grade g = { barge := some { density := o.density,
                                        fields := { maxRate := o.maxRate, maxPressure := o.maxPressure,
                                                    changeoverOk := o.changeoverOk == 1 } },
                        agreement := if s.link.state = .up then .offering else .waiting,
                        lastWord := .absent, matchCount := 0, accepted := none, console := none, agreed := none } ∧
          (∀ h, h ≠ g → v.grade h = s.grade h) ∧ v.announced (.terms g) ∧ v.lines = s.lines ∧ v.tanks = s.tanks ∧
          v.valves = s.valves ∧ v.link = s.link ∧ v.shut = s.shut))))

/-- MANUAL_TERMS: its tests in their order; accepted terms make the grade MANUAL with the stricter of the two sides' figures
agreed (R161, R164). -/
def Obligations.ManualTermsAgreeTheStricterFigures : Prop :=
  ∀ (s : State) (t : Time) (tag : Byte) (n : Nat) (m : ManualOperands) (b : BufId),
    s.takesIn tag (.manualTerms n m) = some b →
    let refused (r : Result) : Prop := Answers s (.manualTerms t tag n m) t b tag r [] s.sameBlocks
    (gradeOf n = none → refused (.fieldRange 0)) ∧
    (∀ g, gradeOf n = some g →
      (∀ i, manualError m = some i → refused (.fieldRange i)) ∧
      (manualError m = none →
        ((s.grade g).agreement = .undeclared → refused (.refused .undeclaredGrade)) ∧
        ((s.grade g).agreement ≠ .undeclared → s.link.state ≠ .up → refused (.refused .linkNotUp)) ∧
        ((s.grade g).agreement ≠ .undeclared → s.link.state = .up → ∀ p, s.link.panel = some p →
          (p.termsCapable = true → refused (.refused .panelCapable)) ∧
          (p.termsCapable = false → (∃ l, s.gradeOfLine l = some g ∧ (s.flowing l = true ∨ s.closing l = true)) →
            refused (.refused .linesActive)) ∧
          (p.termsCapable = false → (∀ l, s.gradeOfLine l = some g → s.flowing l = false ∧ s.closing l = false) →
            ∀ x, (s.grade g).barge = some x →
            Answers s (.manualTerms t tag n m) t b tag .ok [] (fun v =>
              (v.grade g).agreement = .manual ∧ (v.grade g).barge = some x ∧
              (v.grade g).agreed = some { maxRate := min x.fields.maxRate m.maxRate,
                                          maxPressure := min x.fields.maxPressure m.maxPressure,
                                          changeoverOk := x.fields.changeoverOk && (m.changeoverOk == 1) } ∧
              (v.grade g).rateLimit = some (min x.fields.maxRate m.maxRate / 2) ∧
              (∀ h, h ≠ g → v.grade h = s.grade h) ∧ v.announced (.terms g) ∧ v.lines = s.lines ∧ v.tanks = s.tanks ∧
              v.valves = s.valves ∧ v.link = s.link ∧ v.shut = s.shut)))))

/-- HPU_PROFILE: refused while a stroke is in progress and on a bad setting; an accepted profile is stored and the band is worked
afresh from it, and a change of band drives the charge pump, nothing else does (R127, R128, R130). -/
def Obligations.HpuProfileReworksTheBand : Prop :=
  ∀ (s : State) (t : Time) (tag : Byte) (h : HpuProfile) (b : BufId),
    s.takesIn tag (.hpuProfile h) = some b →
    ((∃ l, (s.valve l).stroke.isSome = true) →
      Answers s (.hpuProfile t tag h) t b tag (.refused .linesActive) [] s.sameBlocks) ∧
    ((∀ l, (s.valve l).stroke = none) →
      (∀ i, hpuError h = some i → Answers s (.hpuProfile t tag h) t b tag (.fieldRange i) [] s.sameBlocks) ∧
      (hpuError h = none → Answers s (.hpuProfile t tag h) t b tag .ok [] (fun v =>
        v.supply.profile = h ∧ v.supply.pressure = s.supply.pressure ∧ v.supply.fault = s.supply.fault ∧
        v.supply.band = (if s.supply.fault then .need
          else if h.releaseKPa ≤ s.supply.pressure then .release
          else if h.needKPa ≤ s.supply.pressure then .may
          else if h.mustKPa ≤ s.supply.pressure then .need else .must) ∧
        (v.supply.band ≠ s.supply.band → v.announced .hpu ∧ s.pumpDriven v) ∧
        (v.supply.band = s.supply.band → v.supply.pump = s.supply.pump) ∧
        v.link = s.link ∧ v.grades = s.grades ∧ v.shut.causes = s.shut.causes)))

/-- ESD_STOP is answered OK in every state: it raises CONSOLE with the present time, which shuts every line down, or, with
CONSOLE in the set already, changes nothing (R170 to R172). -/
def Obligations.EsdStopShutsDown : Prop :=
  ∀ (s : State) (t : Time) (tag : Byte) (b : BufId), s.takesIn tag .esdStop = some b →
    (∀ t0, s.shut.causes.console = some t0 → Answers s (.esdStop t tag) t b tag .ok [] s.sameBlocks) ∧
    (s.shut.causes.console = none → Answers s (.esdStop t tag) t b tag .ok [] (fun v =>
      v.shut.causes = { s.shut.causes with console := some t } ∧ s.shutDown v ∧ v.announced .esd ∧
      (∀ l, s.flowing l = false → s.closing l = false → v.line l = s.line l) ∧
      v.link = s.link ∧ v.grades = s.grades))

/-- ESD_RESET: refused CAUSE_PRESENT while the condition of a cause in the set holds, then LINES_ACTIVE while a line is closing;
otherwise OK, and a set latch is cleared with the cause set and the valve list emptied (R173). -/
def Obligations.EsdResetClearsTheLatch : Prop :=
  ∀ (s : State) (t : Time) (tag : Byte) (b : BufId), s.takesIn tag .esdReset = some b →
    let refused (r : Reason) : Prop := Answers s (.esdReset t tag) t b tag (.refused r) [] s.sameBlocks
    ((∃ x, (s.shut.causes.get x).isSome = true ∧ s.conditionHolds x = true) → refused .causePresent) ∧
    ((∀ x, (s.shut.causes.get x).isSome = true → s.conditionHolds x = false) →
      ((∃ l, s.closing l = true) → refused .linesActive) ∧
      ((∀ l, s.closing l = false) →
        (s.latch = false → Answers s (.esdReset t tag) t b tag .ok [] s.sameBlocks) ∧
        (s.latch = true → Answers s (.esdReset t tag) t b tag .ok [] (fun v =>
          v.latch = false ∧ v.shut.causes = noCauses ∧ v.shut.valveList = [] ∧ v.shut.loop = s.shut.loop ∧
          v.shut.shipRun = s.shut.shipRun ∧ v.permitsSound ∧ v.announced .esd ∧ v.lines = s.lines ∧ v.tanks = s.tanks ∧
          v.valves = s.valves ∧ v.link = s.link ∧ v.grades = s.grades))))

/-- RENEGOTIATE is refused LINES_ACTIVE while a line flows or closes, then LINK_NOT_UP unless the link is UP; otherwise the link
enters SILENT with its timer started and every declared grade WAITING, the panel's figures kept (R141, R143, R158). That an
UNDECLARED grade keeps its whole record, its last ship word among it, and that a grade already WAITING loses that word, is the
model's reading (DEDUCED, notes/assumptions/26.md). -/
def Obligations.RenegotiateEntersSilence : Prop :=
  ∀ (s : State) (t : Time) (tag : Byte) (b : BufId), s.takesIn tag .renegotiate = some b →
    let refused (r : Reason) : Prop := Answers s (.renegotiate t tag) t b tag (.refused r) [] s.sameBlocks
    ((∃ l, s.flowing l = true ∨ s.closing l = true) → refused .linesActive) ∧
    ((∀ l, s.flowing l = false ∧ s.closing l = false) →
      (s.link.state ≠ .up → refused .linkNotUp) ∧
      (s.link.state = .up → Answers s (.renegotiate t tag) t b tag .ok [] (fun v =>
        v.link = { s.link with state := .silent, silenceStart := some t } ∧ v.announced .link ∧ v.shut.shipRun = 0 ∧
        v.shut.causes = s.shut.causes ∧
        (∀ g, (s.grade g).agreement = .undeclared → v.grade g = s.grade g) ∧
        (∀ g, (s.grade g).agreement ≠ .undeclared →
          v.grade g = { s.grade g with agreement := .waiting, lastWord := .absent, matchCount := 0, accepted := none,
                                       console := none, agreed := none }) ∧
        v.lines = s.lines ∧ v.lists = s.lists ∧ v.tanks = s.tanks ∧ v.valves = s.valves ∧ v.flows = s.flows ∧
        v.supply = s.supply)))

/-- RESTART is refused while a line flows or closes or a stroke is in progress; accepted, it is answered OK and waits for its
reply to be sent (R189). Its effect, once due, puts the lines, lists, tanks, grades and the link as R29, R54, R152, R154 and R190
say. That an effect that is not due changes nothing is the model's choice (notes/assumptions/3.md), and so is the last ship word
absent of every grade after it, an UNDECLARED one among them (notes/assumptions/26.md). -/
def Obligations.RestartWaitsThenStartsAfresh : Prop :=
  (∀ (s : State) (t : Time) (tag : Byte) (b : BufId), s.takesIn tag .restart = some b → s.restart = .idle →
    ((∃ l, s.flowing l = true ∨ s.closing l = true ∨ (s.valve l).stroke.isSome = true) →
      Answers s (.restart t tag) t b tag (.refused .linesActive) [] s.sameBlocks) ∧
    ((∀ l, s.flowing l = false ∧ s.closing l = false ∧ (s.valve l).stroke = none) →
      Completes s (.restart t tag) t (fun v => s.sameBlocks v ∧ v.restart = .replying ∧
        v.buf b = .answered { tag := tag, result := .ok, record := [], restart := true } ∧ v.replyStands b))) ∧
  (∀ (s : State) (t : Time),
    (s.restart ≠ .due → exec (.restartEffect t) s = .next (State.arbitrate { s with now := t })) ∧
    (s.restart = .due → Completes s (.restartEffect t) t (fun v =>
      v.restart = .idle ∧ v.waitOrder = [] ∧ (∀ b g r, s.buf b = .waiting g r → v.buf b = .empty) ∧
      (∀ b r, s.buf b = .answered r → v.buf b = .answered r) ∧
      (∀ k, v.tank k = Tank.init) ∧ (∀ l, v.list l = []) ∧
      (∀ l, (v.line l).state = (if (s.line l).state = .held ∨ (s.line l).state = .complete then .idle
          else (s.line l).state) ∧
        (v.line l).profile = (s.line l).profile ∧ (v.line l).trip = (s.line l).trip ∧ (v.line l).delivered = 0 ∧
        (v.line l).fedSet = [] ∧ (v.line l).quietPending = (s.line l).quietPending) ∧
      v.link.state = .silent ∧ v.link.silenceStart = some t ∧ v.link.missCount = 0 ∧ v.link.pollPtr = .k1 ∧
      v.link.prioPtr = .k1 ∧ v.link.panel = s.link.panel ∧ v.shut.causes = s.shut.causes ∧
      (∀ g, v.grade g = (s.grade g).cleared
        (if (s.grade g).agreement = .undeclared then .undeclared else .waiting)) ∧
      v.supply = s.supply)))

/-! ### The ship link -/

/-- The starts of the slots: the PANEL poll is sent at the panel slot; a tank slot not yet begun sends the READ poll, with the
toggle held for the tank, or the DECLARE poll that the schedule gives it; an idle slot, the second slot of a DECLARE and a slot
that has begun send nothing. No other block changes (R134, R136, R137, R145). That a slot which has begun sends nothing, and that
a poll sent while an earlier one is outstanding replaces it, is the model's choice (notes/assumptions/4.md and 32.md). -/
def Obligations.SlotsSendTheirPolls : Prop :=
  ∀ (s : State) (t : Time),
    Completes s (.panelSlotStart t) t (fun v =>
      v.link = { s.link with poll := some { kind := .panel, slot := 0, start := t }, sent := some .panelPoll } ∧
      v.tanks = s.tanks ∧ v.lines = s.lines ∧ v.shut = s.shut ∧ v.grades = s.grades ∧ v.valves = s.valves) ∧
    (∀ i x, i < 5 → (s.link.slots.drop i).head? = some x →
      Completes s (.tankSlotStart t (i + 1)) t (fun v =>
        v.tanks = s.tanks ∧ v.lines = s.lines ∧ v.shut = s.shut ∧ v.grades = s.grades ∧ v.valves = s.valves ∧
        (∀ k, x = { plan := .read k, begun := false, outcome := .pending } →
          v.link.poll = some { kind := .read k, slot := i + 1, start := t } ∧
          v.link.sent = some (.readPoll k ((s.tank k).toggle.getD false)) ∧
          (v.link.slots.drop i).head? = some { x with begun := true }) ∧
        (∀ k, x = { plan := .declare k, begun := false, outcome := .pending } →
          v.link.poll = some { kind := .declare k, slot := i + 1, start := t } ∧
          v.link.sent = some (.declarePoll k) ∧ (v.link.slots.drop i).head? = some { x with begun := true }) ∧
        (x.plan = .idle ∨ x.begun = true ∨ (∃ k, x.plan = .declareTail k) → v.link = s.link)))

/-- MARKER: the cycle number advances, wrapping from 255 to 0; the marker carries it with the latch, the four lines and the two
barge words as they stand before the marker's own tests (R134, R135, R157); the time thresholds make LIVE tanks STALE at 3000 ms
and polled tanks LOST at 15000 ms, an ACTIVE or INCOMING one tripping its flowing line with TANK_LOST (R147, R50); the schedule
has five slots (R136, R137). Then a line whose tanks are not lost at this marker, its valve off the closed limit switch, is
tested by its state: in BULK the marks, with a successor that is still LIVE (R13 to R15, R43, R44); in CHANGEOVER the overrun
(R48); in TOPPING the close start (R69, R70). That the event that enters CHANGEOVER leaves the line there, untested for overrun,
and what an evaluation records, is the model's reading (DEDUCED, notes/assumptions/16.md and 29.md). -/
def Obligations.MarkerOpensACycle : Prop :=
  ∀ (s : State) (t : Time), Completes s (.marker t) t (fun v =>
    let c : BitVec 8 := match s.link.cycle with
      | none => 0
      | some n => n + 1
    v.link.cycle = some c ∧
    v.link.sent = some (.marker c s.latch s.summaries (s.bargeWord .g1) (s.bargeWord .g2)) ∧
    v.link.state = s.link.state ∧ v.link.panel = s.link.panel ∧ v.link.missCount = s.link.missCount ∧
    v.link.poll = s.link.poll ∧ v.link.slots.length = 5 ∧
    (∀ k, (v.tank k).health =
      if (s.tank k).health = .live ∨ (s.tank k).health = .stale then
        if 15000 ≤ elapsed t (s.tank k).lastNew then .lost
        else if 3000 ≤ elapsed t (s.tank k).lastNew then .stale else (s.tank k).health
      else (s.tank k).health) ∧
    (∀ k, (v.tank k).latest = (s.tank k).latest ∧ (v.tank k).missCount = (s.tank k).missCount) ∧ v.grades = s.grades ∧
    (∀ l k, s.listLine k = some l → s.flowing l = true → (s.valve l).closedSwitch = false →
      ((s.tank k).use = .active ∨ (s.tank k).use = .incoming) → ((s.tank k).health = .live ∨ (s.tank k).health = .stale) →
      15000 ≤ elapsed t (s.tank k).lastNew → v.closesWith l .trip none (some .tankLost)) ∧
    (s.listsApart → ∀ l k d, s.activeTank l = some k → (s.tank k).decl = some d → (s.valve l).closedSwitch = false →
      (∀ n ∈ s.list l, elapsed t (s.tank n).lastNew < 15000) →
      let x : State := { s with now := t }
      ((s.line l).state = .bulk → x.marksEvaluated v l d
        ((x.changeoverTarget l).filter (fun n => decide (elapsed t (s.tank n).lastNew < 3000)))) ∧
      ((s.line l).state = .changeover → x.overruns v l d.finalMm) ∧
      ((s.line l).state = .topping → x.closeStartTested v l (s.line l).tankEnd d.finalMm)))

/-- PANEL_REPLY while the panel is awaited: it is stored with the panel miss count 0; a link that was DOWN enters SILENT with its
timer started; each grade takes its word; the SHIP clear run counts; SHIP_ESD raises SHIP, and both SHIP_ESD and SHIP_STOP leave
no line flowing, whichever acts first: a flowing line, its valve off the closed limit switch, closes with reason ESD when SHIP is
raised anew, and without SHIP_ESD with reason HOLD, hold reason SHIP_STOP or, on a grade whose agreement the reply ends,
TERMS_CHANGED, either of the two when both hold (R17, R138, R139, R141, R156, R162, R169). A flowing line that none of these
reaches stays as it is, but for a line in STARTING whose OPEN waits with its valve already at the target: a channel that another
line's close frees lets it arrive at once, and the line enters PROVING (R8, R114, R117, R118); the premise there, that a CLOSE is
pending only where a close is in STAGE or SEATING, is kept by every step (ValvesStaySound). With no poll awaited the frame is
discarded. That the word of the reply that ends DOWN stands as the last ship word is the model's reading (DEDUCED,
notes/assumptions/49.md); the order of the acts is open (notes/assumptions/10.md). -/
def Obligations.PanelReplyIsStoredAndActs : Prop :=
  ∀ (s : State) (t : Time) (flags : Byte) (w1 w2 : WireWord),
    let p := panelReplyOf flags w1 w2
    (s.link.poll = none → Completes s (.panelReply t flags w1 w2) t
      ({ s with link := { s.link with rx := .hunt } } : State).sameBlocks) ∧
    (∀ q, s.link.poll = some q → q.kind = .panel → elapsed t q.start < 30 →
      Completes s (.panelReply t flags w1 w2) t (fun v =>
        v.link.panel = some p ∧ v.link.missCount = 0 ∧ v.link.poll = none ∧
        v.link.state = (if s.link.state = .down then .silent else s.link.state) ∧
        v.link.silenceStart = (if s.link.state = .down then some t else s.link.silenceStart) ∧
        v.shut.shipRun = (if p.shipEsd then 0 else if s.link.state = .up then min (s.shut.shipRun + 1) 3 else 0) ∧
        (∀ g, v.grade g = Grade.take (if s.link.state = .down ∧ (s.grade g).agreement ≠ .undeclared
            then (s.grade g).cleared .waiting else s.grade g)
          (match g with
            | .g1 => judgeWord .g1 w1
            | .g2 => judgeWord .g2 w2)) ∧
        (p.shipEsd = true → v.latch = true ∧ v.shut.causes.ship = some (s.shut.causes.ship.getD t)) ∧
        (p.shipEsd = true → s.shut.causes.ship = none → ∀ l, v.flowing l = false) ∧
        (p.shipStop = true → ∀ l, v.flowing l = false) ∧
        (p.shipEsd = false → v.shut.causes = s.shut.causes) ∧
        (∀ l, s.flowing l = true → (s.valve l).closedSwitch = false →
          let ends (g : GradeId) (w : ShipWord) : Prop := s.gradeOfLine l = some g ∧ s.link.state ≠ .down ∧
            (s.grade g).agreement = .agreed ∧ (s.grade g).keeps w = false
          let withdrawn : Prop := ends .g1 (judgeWord .g1 w1) ∨ ends .g2 (judgeWord .g2 w2)
          (p.shipEsd = true → s.shut.causes.ship = none → v.closesWith l .esd none (some .esd)) ∧
          (p.shipEsd = false → p.shipStop = true → ¬ withdrawn → v.closesWith l .hold (some .shipStop) none) ∧
          (p.shipEsd = false → p.shipStop = false → withdrawn → v.closesWith l .hold (some .termsChanged) none) ∧
          (p.shipEsd = false → p.shipStop = true → withdrawn →
            v.closesWith l .hold (some .shipStop) none ∨ v.closesWith l .hold (some .termsChanged) none) ∧
          (s.pendingClosesSound → p.shipEsd = false → p.shipStop = false → ¬ withdrawn → v.line l = s.line l ∨
            (s.line l).state = .starting ∧ (v.line l).state = .proving ∧
              ∃ r, (s.valve l).pending = some r ∧ r.cls = .opening ∧ s.atTarget l r = true))))

/-- A poll decided without a listed reply: to the panel it is a miss, the fifth in a row taking the link to DOWN with the panel
absent, every declared grade WAITING and no line flowing; to a READ it raises the tank's miss count, a LIVE tank STALE at 3 and a
STALE tank LOST at 15, an ACTIVE or INCOMING one tripping its flowing line with TANK_LOST; to a DECLARE it changes no tank (R50,
R134, R138, R140, R146, R147, R158, R194). A panel reply in time is stored with the panel miss count 0 (R138). -/
def Obligations.MissesCountToTheirLimits : Prop :=
  (∀ (s : State) (t : Time) (flags : Byte) (w1 w2 : WireWord) (q : Poll), s.link.poll = some q → q.kind = .panel →
    elapsed t q.start < 30 → Completes s (.panelReply t flags w1 w2) t (fun v =>
      v.link.poll = none ∧ v.link.missCount = 0 ∧ v.link.panel = some (panelReplyOf flags w1 w2))) ∧
  ∀ (s : State) (t : Time) (c : Instr) (q : Poll), s.link.poll = some q →
    ((c = .shipBadCheck t ∨ c = .shipReplyUnlisted t ∨ c = .shipFrameOtherAddress t) ∧ elapsed t q.start < q.timeout ∨
      c = .panelReplyTimeout t ∧ q.kind = .panel ∧ q.timeout ≤ elapsed t q.start ∨
      c = .tankReplyTimeout t ∧ q.kind ≠ .panel ∧ q.timeout ≤ elapsed t q.start) →
    Completes s c t (fun v =>
      v.link.poll = none ∧
      (q.kind = .panel → (∀ k, (v.tank k).health = (s.tank k).health) ∧
        (s.link.state = .down → v.link.state = .down ∧ v.link.missCount = s.link.missCount ∧ v.grades = s.grades) ∧
        (s.link.state ≠ .down → s.link.missCount + 1 < 5 → v.link.state = s.link.state ∧
          v.link.missCount = s.link.missCount + 1 ∧ v.link.panel = s.link.panel ∧ v.grades = s.grades ∧
          v.lines = s.lines) ∧
        (s.link.state ≠ .down → 5 ≤ s.link.missCount + 1 → v.link.state = .down ∧ v.link.missCount = 0 ∧
          v.link.panel = none ∧ v.link.silenceStart = none ∧ v.shut.shipRun = 0 ∧ v.announced .link ∧
          (∀ g, (s.grade g).agreement ≠ .undeclared → (v.grade g).agreement = .waiting) ∧
          (∀ l, v.flowing l = false) ∧
          (∀ l, s.flowing l = true → (s.valve l).closedSwitch = false →
            v.closesWith l .trip none (some .linkLost)))) ∧
      (∀ k, q.kind = .read k → v.grades = s.grades ∧
        (v.tank k).missCount = min ((s.tank k).missCount + 1) 15 ∧ (v.tank k).latest = (s.tank k).latest ∧
        (v.tank k).health =
          (if (s.tank k).missCount + 1 = 3 ∧ (s.tank k).health = .live then .stale
           else if (s.tank k).missCount + 1 = 15 ∧ (s.tank k).health = .stale then .lost
           else (s.tank k).health) ∧
        (∀ l, s.listLine k = some l → s.flowing l = true → (s.valve l).closedSwitch = false →
          if (s.tank k).missCount + 1 = 15 ∧ (s.tank k).health = .stale ∧
              ((s.tank k).use = .active ∨ (s.tank k).use = .incoming) then
            v.closesWith l .trip none (some .tankLost)
          else v.line l = s.line l)) ∧
      (∀ k, q.kind = .declare k → v.tanks = s.tanks ∧ v.lines = s.lines ∧ v.grades = s.grades ∧ v.shut = s.shut))

/-- READING answering the READ poll of its tank: refused for use it is a miss; accepted, it sets the miss count to 0 and the
alarms to its flags, and a new one sets level, toggle and times and brings a STALE tank back to LIVE, while a repeat changes
none of them; OVERFILL latches the shutdown in either case; HIGH_ALARM of an accepted reading of an ACTIVE or INCOMING tank
trips its flowing line, and takes its closing line to reason TRIP when the record's flag was clear (R50, R89, R144 to R146,
R148). A new reading with both alarms clear is handed on for the line whose list holds the tank, its valve off the closed limit
switch: from the ACTIVE tank in PROVING it becomes the absent baseline level, or proves the line, which goes to BULK at bulk_pos
with its marks evaluated at once, or changes nothing (R9 to R11); in BULK the marks are evaluated (R13 to R15, R43); in TOPPING
the close-start test is made (R69, R70); from either tank of a CHANGEOVER the overrun and the success test are made (R45 to
R48). That the event that enters CHANGEOVER leaves the line there, what an evaluation records, that the old tank's stop is not
confirmed without a latest half, and that a STALE INCOMING tank holds the rise back, is the model's reading (DEDUCED,
notes/assumptions/16.md, 29.md, 33.md and 42.md). That a refused reading with OVERFILL is counted as a miss first, so that the
line of an ACTIVE or INCOMING tank it makes LOST closes for TANK_LOST before OVERFILL acts and is left with close reason ESD, is
the model's choice (notes/assumptions/8.md). -/
def Obligations.ReadingsReachTheTank : Prop :=
  ∀ (s : State) (t : Time) (k : TankId) (toggle : Nat) (flags : Byte) (level : Nat) (q : Poll),
    s.link.poll = some q → q.kind = .read k → elapsed t q.start < 30 → toggle < 2 →
    let refuse : Prop := flags.getLsbD 2 = true ∨ 30000 < level ∨ ∃ h, (s.tank k).latest = some h ∧ h.level + 200 < level
    Completes s (.reading t k toggle flags level) t (fun v =>
      v.link.poll = none ∧ (∀ n, n ≠ k → (v.tank n).latest = (s.tank n).latest ∧ (v.tank n).health = (s.tank n).health) ∧
      (v.tank k).decl = (s.tank k).decl ∧
      (flags.getLsbD 1 = true → v.latch = true ∧ (v.shut.causes.overfill).isSome = true ∧
        (s.shut.causes.overfill = none → s.shutDown v)) ∧
      (¬ refuse → flags.getLsbD 0 = true → flags.getLsbD 1 = false →
        ((s.tank k).use = .active ∨ (s.tank k).use = .incoming) → ∀ l, s.listLine k = some l →
        (s.flowing l = true → (s.valve l).closedSwitch = false → v.closesWith l .trip none (some .highAlarm)) ∧
        (s.closing l = true → (s.tank k).highAlarm = false →
          (v.line l).state = .closing ∧ (v.line l).closeReason = some .trip ∧ v.close l = s.close l ∧
          (v.line l).trip.map (fun r => r.cause) = some .highAlarm) ∧
        (s.closing l = true → (s.tank k).highAlarm = true → v.line l = s.line l)) ∧
      (refuse → (v.tank k).latest = (s.tank k).latest ∧ (v.tank k).missCount = min ((s.tank k).missCount + 1) 15 ∧
        (v.tank k).highAlarm = (s.tank k).highAlarm ∧ (v.tank k).overfill = (s.tank k).overfill) ∧
      (¬ refuse → (v.tank k).missCount = 0 ∧ (v.tank k).highAlarm = flags.getLsbD 0 ∧
        (v.tank k).overfill = flags.getLsbD 1 ∧
        (if (s.tank k).toggle = some (toggle == 1) then
          (v.tank k).latest = (s.tank k).latest ∧ (v.tank k).lastNew = (s.tank k).lastNew ∧
          (v.tank k).health = (s.tank k).health ∧ (v.tank k).toggle = (s.tank k).toggle
        else
          (v.tank k).latest = some { level := level, time := t } ∧ (v.tank k).lastNew = t ∧
          (v.tank k).toggle = some (toggle == 1) ∧
          (v.tank k).health = if (s.tank k).health = .stale then .live else (s.tank k).health)) ∧
      (¬ refuse → (s.tank k).toggle ≠ some (toggle == 1) → flags.getLsbD 0 = false → flags.getLsbD 1 = false →
        s.listsApart → ∀ l, s.listLine k = some l → (s.valve l).closedSwitch = false →
        let x := s.withReading l k (toggle == 1) level t
        (∀ d, s.activeTank l = some k → (s.tank k).decl = some d →
          ((s.line l).state = .proving → ∀ b, (s.line l).baseline = some b →
            (b.level = none → v.line l = { s.line l with baseline := some { b with level := some level } }) ∧
            (∀ b0, b.level = some b0 →
              if b0 + (s.profile l).proveMm ≤ level ∧
                  (((s.line l).delivered : Int) - b.litres - ((level : Int) - b0) * d.litresPerMm).natAbs ≤
                    (s.profile l).balanceTolL then
                let y : State := { x with lines := x.lines.set l { s.line l with
                  state := .bulk, throttle := (s.profile l).bulkPos, provingStart := none } }
                y.marksEvaluated v l d (y.changeoverTarget l)
              else v.line l = s.line l)) ∧
          ((s.line l).state = .bulk → x.marksEvaluated v l d (x.changeoverTarget l)) ∧
          ((s.line l).state = .topping → x.closeStartTested v l (s.line l).tankEnd d.finalMm)) ∧
        (∀ old new ks d, s.list l = old :: new :: ks → (s.tank old).use = .active → (s.tank new).use = .incoming →
          (s.tank old).decl = some d → (k = old ∨ k = new) → (s.line l).state = .changeover →
          x.changeoverTested v l old new d.finalMm)))

/-- A DECLARATION answering a DECLARE poll: a valid one is stored, makes the tank LIVE and initialises its readings; an invalid
one leaves it REFUSED with BAD_DECLARATION and nothing stored. Answering a READ poll, an identical one clears only the miss
count and the toggle, and any other is stored in the same way. The tank's use is kept. A declaration that is invalid or differs
from the one held, of a QUEUED, ACTIVE or INCOMING tank, hands TANK_CHANGED to the line whose list holds it: a flowing line
closes, its valve off the closed limit switch, a closing line takes close reason TRIP with its plan going on, a line in IDLE or
HELD goes to TRIPPED, and any other is left as it is; without such a change the line is left as it is too (R18, R19, R31 to R34,
R89). That either row stands for the one frame, and the poll it answers decides between the rules, is the model's choice, and
that an invalid one trips also where none was held is its reading (notes/assumptions/34.md and 21.md). -/
def Obligations.DeclarationsAreJudgedAndStored : Prop :=
  ∀ (s : State) (t : Time) (k : TankId) (d : WireDeclaration) (q : Poll) (c : Instr),
    s.link.poll = some q → elapsed t q.start < q.timeout → (c = .declaration t k d ∨ c = .declarationOnRead t k d) →
    (q.kind = .declare k ∨ q.kind = .read k) →
    let same : Prop := q.kind = .read k ∧ (s.tank k).decl = declarationOf k d ∧ (declarationOf k d).isSome = true
    Completes s c t (fun v =>
      v.link.poll = none ∧ (∀ n, n ≠ k → (v.tank n).decl = (s.tank n).decl ∧ (v.tank n).health = (s.tank n).health) ∧
      (same → v.tank k = { s.tank k with missCount := 0, toggle := none } ∧ v.lines = s.lines) ∧
      (¬ same → ∀ x, declarationOf k d = some x →
        (v.tank k).decl = some x ∧ (v.tank k).health = .live ∧ (v.tank k).refusal = none ∧ (v.tank k).latest = none ∧
        (v.tank k).missCount = 0 ∧ (v.tank k).lastNew = t ∧ (v.tank k).highAlarm = false ∧
        (v.tank k).overfill = false ∧ (v.tank k).marks = .none ∧ (v.tank k).toggle = none) ∧
      (declarationOf k d = none →
        (v.tank k).decl = none ∧ (v.tank k).health = .refused ∧ (v.tank k).refusal = some .badDeclaration) ∧
      (v.tank k).use = (s.tank k).use ∧
      (∀ l, s.listLine k = some l →
        let changed : Prop := q.kind = .read k ∧ ¬ same ∨ q.kind = .declare k ∧
          (declarationOf k d = none ∨ ∃ x, (s.tank k).decl = some x ∧ declarationOf k d ≠ some x)
        let listed : Prop := (s.tank k).use = .queued ∨ (s.tank k).use = .active ∨ (s.tank k).use = .incoming
        (changed ∧ listed →
          (s.flowing l = true → (s.valve l).closedSwitch = false → v.closesWith l .trip none (some .tankChanged)) ∧
          (s.closing l = true → (v.line l).state = .closing ∧ (v.line l).closeReason = some .trip ∧
            (v.line l).holdReason = none ∧ (v.line l).trip.map (fun r => r.cause) = some .tankChanged ∧
            v.close l = s.close l) ∧
          ((s.line l).state = .idle ∨ (s.line l).state = .held → (v.line l).state = .tripped ∧
            (v.line l).holdReason = none ∧ (v.line l).trip.map (fun r => r.cause) = some .tankChanged) ∧
          ((s.line l).state = .undeclared ∨ (s.line l).state = .tripped ∨ (s.line l).state = .complete →
            v.line l = s.line l)) ∧
        (¬ (changed ∧ listed) → v.line l = s.line l)))

/-- WAIT answers a poll and changes no tank; REFUSE makes the tank REFUSED by its unit with its declaration kept, an ACTIVE or
INCOMING one tripping its flowing line with TANK_LOST (R50, R147, R149, section 7.5). The silence timer's expiry, once due in
SILENT, takes the link to UP with every WAITING grade OFFERING (R142, R158). That an expiry that finds the link elsewhere or the
timer not due changes nothing is the model's choice (notes/assumptions/3.md). -/
def Obligations.WaitRefuseAndTheEndOfSilence : Prop :=
  ∀ (s : State) (t : Time),
    (∀ k q, s.link.poll = some q → (q.kind = .read k ∨ q.kind = .declare k) → elapsed t q.start < q.timeout →
      Completes s (.wait t k) t (fun v =>
        v.link.poll = none ∧ v.tanks = s.tanks ∧ v.lines = s.lines ∧ v.grades = s.grades ∧ v.shut = s.shut ∧
        v.valves = s.valves) ∧
      Completes s (.refuse t k) t (fun v =>
        v.link.poll = none ∧ (v.tank k).health = .refused ∧ (v.tank k).refusal = some .refusedByUnit ∧
        (v.tank k).decl = (s.tank k).decl ∧ (v.tank k).missCount = (s.tank k).missCount ∧
        (v.tank k).lastNew = (s.tank k).lastNew ∧ v.grades = s.grades ∧
        (∀ l, s.listLine k = some l → s.flowing l = true → (s.valve l).closedSwitch = false →
          if (s.tank k).use = .active ∨ (s.tank k).use = .incoming then v.closesWith l .trip none (some .tankLost)
          else v.line l = s.line l))) ∧
    (∀ t0, s.link.state = .silent → s.link.silenceStart = some t0 → 3000 ≤ elapsed t t0 →
      Completes s (.silenceExpiry t) t (fun v =>
        v.link = { s.link with state := .up, silenceStart := none } ∧ v.announced .link ∧
        (∀ g, (s.grade g).agreement ≠ .waiting → v.grade g = s.grade g) ∧
        (∀ g, (s.grade g).agreement = .waiting →
          v.grade g = { s.grade g with agreement := .offering, lastWord := .absent, matchCount := 0, accepted := none,
                                       console := none, agreed := none }) ∧
        v.lines = s.lines ∧ v.tanks = s.tanks ∧ v.shut = s.shut)) ∧
    (s.link.state ≠ .silent → exec (.silenceExpiry t) s = .next (State.arbitrate { s with now := t })) ∧
    (∀ t0, s.link.silenceStart = some t0 → elapsed t t0 < 3000 →
      exec (.silenceExpiry t) s = .next (State.arbitrate { s with now := t }))

/-- The handshake of a grade: from OFFERING with another word last seen, three equal usable words make it ACKING with that word
accepted, and three acknowledging words more make it AGREED with the stricter figures; a usable word that differs ends an
agreement and counts as the first of a new offer (R159 to R162). -/
def Obligations.ThreeEqualWordsThenThreeAcknowledged : Prop :=
  ∀ (x : Grade) (b : BargeTerms) (f : TermsFields) (a1 a2 a3 : Bool),
    x.agreement = .offering → x.barge = some b → (∀ a, x.lastWord ≠ .usable f a) →
    let y := ((x.take (.usable f a1)).take (.usable f a2)).take (.usable f a3)
    let z := ((y.take (.usable f true)).take (.usable f true)).take (.usable f true)
    y.agreement = .acking ∧ y.accepted = some f ∧
    z.agreement = .agreed ∧ z.agreed = some (agreedTerms b f) ∧
    (∀ g a, g ≠ f → (z.take (.usable g a)).agreement = .offering ∧ (z.take (.usable g a)).agreed = none ∧
      (z.take (.usable g a)).matchCount = 1)

/-! ### Timers of a line -/

/-- The proving window and the changeover window, expired with the line still in that state, close the line with reason TRIP and
their causes; an expiry that finds the line elsewhere changes nothing (R12, R49). That one whose window is not yet over changes
nothing is the model's choice (notes/assumptions/3.md). -/
def Obligations.ExpiredWindowsTripTheLine : Prop :=
  ∀ (s : State) (t : Time) (l : LineId),
    (∀ t0, (s.line l).state = .proving → (s.line l).provingStart = some t0 →
      ((s.profile l).proveWindowMs ≤ elapsed t t0 → (s.valve l).closedSwitch = false →
        Completes s (.provingTimeout t l) t (fun v => v.closesWith l .trip none (some .noRise) ∧
          v.shut.causes = s.shut.causes ∧ v.link = s.link ∧ v.grades = s.grades)) ∧
      (elapsed t t0 < (s.profile l).proveWindowMs →
        exec (.provingTimeout t l) s = .next (State.arbitrate { s with now := t }))) ∧
    ((s.line l).state ≠ .proving → exec (.provingTimeout t l) s = .next (State.arbitrate { s with now := t })) ∧
    (∀ t0, (s.line l).state = .changeover → (s.line l).changeoverStart = some t0 →
      ((s.profile l).changeoverWindowMs ≤ elapsed t t0 → (s.valve l).closedSwitch = false →
        Completes s (.changeoverTimeout t l) t (fun v => v.closesWith l .trip none (some .changeoverTimeout) ∧
          (v.line l).pendingVol = 0 ∧ v.shut.causes = s.shut.causes ∧ v.link = s.link ∧ v.grades = s.grades)) ∧
      (elapsed t t0 < (s.profile l).changeoverWindowMs →
        exec (.changeoverTimeout t l) s = .next (State.arbitrate { s with now := t }))) ∧
    ((s.line l).state ≠ .changeover → exec (.changeoverTimeout t l) s = .next (State.arbitrate { s with now := t }))

/-- The settle deadline, reached in SETTLING, ends the settle: with a rise pair of the ACTIVE tank later than the settle start
the predictor is CLEAR, with none it is CARRY and keeps the held pair (R63, R64). That an expiry whose deadline is not reached
changes nothing, and when a stamp counts as reached or later, is the model's choice (notes/assumptions/3.md and 18.md). -/
def Obligations.SettleDeadlineAdoptsOrCarries : Prop :=
  ∀ (s : State) (t t0 t1 : Time) (l : LineId),
    (s.pred l).settle = .settling → (s.pred l).settleStart = some t0 → (s.pred l).deadline = some t1 →
    (reached t t1 = true →
      Completes s (.settleDeadline t l) t (fun v =>
        (∀ p, s.activePair l = some p → later p.prev.time t0 = true → later p.latest.time t0 = true →
          (v.pred l).settle = .clear ∧ (v.pred l).held = none ∧ (v.pred l).evaluation = (s.pred l).evaluation) ∧
        ((∀ p, s.activePair l = some p → ¬ (later p.prev.time t0 = true ∧ later p.latest.time t0 = true)) →
          (v.pred l).settle = .carry ∧ (v.pred l).held = (s.pred l).held ∧ (v.pred l).settleStart = some t0) ∧
        (∀ m, m ≠ l → v.pred m = s.pred m) ∧ v.lines = s.lines ∧ v.tanks = s.tanks ∧ v.valves = s.valves ∧
        v.closes = s.closes ∧ v.flows = s.flows ∧ v.link = s.link ∧ v.shut = s.shut)) ∧
    (reached t t1 = false → exec (.settleDeadline t l) s = .next (State.arbitrate { s with now := t }))

/-- RUN_DOWN_EXPIRY, due in the run-down of a close whose valve is not on its closed limit switch, ends the run-down by time and
fixes the plan from the figures as they stand (R77, R80, R82). DWELL_END, due, requests the CLOSE stroke of the next stage once
the last stroke has ended its hold, or passes a stage of the same target with its dwell begun, and until then changes no more
than the close record (R83, R85). -/
def Obligations.CloseTimersMoveTheClose : Prop :=
  ∀ (s : State) (t : Time) (l : LineId) (c : CloseRec),
    (s.line l).state = .closing → s.close l = some c → (s.valve l).closedSwitch = false →
    (∀ t0, c.phase = .runDown → c.runDownStart = some t0 → (s.profile l).runDownMs ≤ elapsed t t0 →
      Completes s (.runDownExpiry t l) t (fun v =>
        (∃ x, v.close l = some x ∧ x.entry = c.entry ∧ x.runDownEnd = some .time ∧ x.plan = some (s.makePlan l)) ∧
        (v.line l).state = .closing ∧ (v.line l).closeReason = (s.line l).closeReason ∧
        (v.line l).surgeLimited = (s.closeFigures l).limited ∧ v.shut.causes = s.shut.causes ∧ v.link = s.link)) ∧
    (∀ t1 k p, c.phase = .dwell → c.dwellEnd = some t1 → reached t t1 = true → c.stage = some k → c.plan = some p →
      (c.strokeEnded = true → Completes s (.dwellEnd t l) t (fun v =>
        (∃ x, v.close l = some x ∧ x.stage = some (k + 1) ∧ x.plan = some p ∧ x.entry = c.entry) ∧
        (0 < k → (s.valve l).stroke = none → s.nextStageComes v l t c p k) ∧
        (v.line l).state = .closing ∧ v.shut.causes = s.shut.causes ∧ v.link = s.link)) ∧
      (c.strokeEnded = false → exec (.dwellEnd t l) s = .next (State.arbitrate
        { s with now := t, closes := s.closes.set l (some { c with dwellOver := true }) })))

/-! ### Metering and samples -/

/-- GATE_END: each line's gate rate is worked from the pulses of the gate by R93 (0 without a profile, 30000 at most), the count
begins again at 0, and the delivered litres of a line whose account is open, flowing or closing with an ACTIVE tank, are its
whole pulse total over the meter factor, the new litres credited to the ACTIVE tank, and in CHANGEOVER to the pending volume,
which a close that begins at this gate end gives to the ACTIVE tank (R43, R51, R93 to R95). The account law of R26 is kept. The
quiet timer counts the still gates of a line with QUIET_PENDING (R104). The balance test (R105), then the blind test (R102,
R103), trip a line they apply to and that fails them; one that passes both, in a state that delivers and not settling, has its
cap counts worked, is throttled one step at a count of 3, or trips with RATE_UNCONTROLLED at start_pos (R98 to R100, R106). -/
def Obligations.GateEndWorksRatesAndLitres : Prop :=
  ∀ (s : State) (t : Time), Completes s (.gateEnd t) t (fun v => ∀ l,
    (v.flow l).lastPulses = (s.flow l).gatePulses ∧ (v.flow l).prevRate = (s.flow l).rate ∧
    (v.flow l).gatePulses = 0 ∧ (v.flow l).sampleCount = 0 ∧
    ((s.line l).profile = none → (v.flow l).rate = 0) ∧
    (∀ p, (s.line l).profile = some p →
      (v.flow l).rate = min 30000 ((s.flow l).gatePulses * 3000 / p.meterK)) ∧
    (s.flowing l = true → ∀ k, (s.flow l).meterFactor = some k →
      (v.flow l).pulseTotal = (s.flow l).pulseTotal + (s.flow l).gatePulses ∧
      (v.line l).delivered = ((s.flow l).pulseTotal + (s.flow l).gatePulses) * 100 / k) ∧
    (s.flowing l = false → s.closing l = false → (v.line l).delivered = (s.line l).delivered) ∧
    (s.closing l = true → s.activeTank l = none → (v.line l).delivered = (s.line l).delivered) ∧
    (s.closing l = true → ∀ n k, s.activeTank l = some n → (s.flow l).meterFactor = some k →
      (v.flow l).pulseTotal = (s.flow l).pulseTotal + (s.flow l).gatePulses ∧
      (v.line l).delivered = ((s.flow l).pulseTotal + (s.flow l).gatePulses) * 100 / k) ∧
    (s.listsApart → (s.line l).state ≠ .changeover → ∀ n, s.activeTank l = some n →
      (v.tank n).attributed = (s.tank n).attributed + ((v.line l).delivered - (s.line l).delivered)) ∧
    (s.listsApart → (s.line l).state = .changeover → ∀ n, s.activeTank l = some n →
      (v.tank n).attributed + (v.line l).pendingVol =
        (s.tank n).attributed + (s.line l).pendingVol + ((v.line l).delivered - (s.line l).delivered) ∧
      ((v.line l).state = .changeover → (v.tank n).attributed = (s.tank n).attributed) ∧
      ((v.line l).state ≠ .changeover → (v.line l).pendingVol = 0)) ∧
    (s.listsApart → s.fedSound → s.accountBalances l → (s.line l).delivered ≤ (v.line l).delivered →
      v.accountBalances l ∧ (v.line l).fedSet = (s.line l).fedSet) ∧
    ((s.line l).quietPending = true →
      if (s.flow l).gatePulses = 0 then
        if 30000 ≤ (s.flow l).quiet + 2000 then (v.line l).quietPending = false ∧ (v.flow l).quiet = 0
        else (v.line l).quietPending = true ∧ (v.flow l).quiet = (s.flow l).quiet + 2000
      else (v.line l).quietPending = true ∧ (v.flow l).quiet = 0) ∧
    (s.listsApart → (s.valve l).closedSwitch = false →
      let x := s.gateOpened l t
      let r := capCount (s.flow l).rateCount (some (v.flow l).rate) (s.rateLimit l)
      let p := capCount (s.flow l).pressCount (s.flow l).gateAverage (s.pressureLimit l)
      (x.balanceApplies l = true → ∀ b, (x.line l).baseline = some b →
        (v.flow l).excess = some (x.balanceExcess l b.litres)) ∧
      (x.balanceTrips l = true → v.closesWith l .trip none (some .balance)) ∧
      (x.balanceTrips l = false → x.blindApplies l = true → (v.flow l).blindWindow = some (x.blindWindowOf l)) ∧
      (x.balanceTrips l = false → x.blindTrips l = true →
        (v.line l).state = .closing ∧ (v.line l).closeReason = some .trip ∧ (v.line l).holdReason = none ∧
        (v.line l).trip.map (fun z => z.cause) = some .blindFlow ∧ (v.line l).quietPending = true ∧
        (v.flow l).quiet = 0) ∧
      (x.balanceTrips l = false → x.blindTrips l = false → (s.line l).state.delivering = true →
        ((s.pred l).settling = true → v.line l = x.line l ∧ (v.flow l).rateCount = (s.flow l).rateCount ∧
          (v.flow l).pressCount = (s.flow l).pressCount) ∧
        ((s.pred l).settling = false → r < 3 → p < 3 →
          v.line l = x.line l ∧ (v.flow l).rateCount = r ∧ (v.flow l).pressCount = p) ∧
        ((s.pred l).settling = false → (3 ≤ r ∨ 3 ≤ p) →
          if (s.line l).throttle ≤ (s.profile l).startPos then v.closesWith l .trip none (some .rateUncontrolled)
          else
            v.line l = { x.line l with
              throttle := max (s.profile l).startPos ((s.line l).throttle - (s.profile l).throttleStep) } ∧
            (v.flow l).rateCount = 0 ∧ (v.flow l).pressCount = 0))) ∧
    (v.flow l).pressure = (s.flow l).pressure ∧ (v.line l).profile = (s.line l).profile ∧
    v.link = s.link ∧ v.grades = s.grades)

/-- PRESSURE_SAMPLE: a good sample becomes the line's pressure by R96 and clears its fault, a faulted one sets the fault and
keeps the held value; the second good sample in a row above rating less margin closes a flowing line with OVERPRESSURE, and
takes a line closing for END, TANK_END or HOLD to reason TRIP, its plan going on (R89, R96, R97). A good sample at or below
run_down_kPa ends a run-down with end cause PRESSURE and makes the plan from the figures then standing (R77, R82). -/
def Obligations.PressureSamplesAreHeldAndWatched : Prop :=
  ∀ (s : State) (t : Time) (l : LineId) (i : Nat),
    (3600 ≤ i → i ≤ 21000 → Completes s (.pressureSample t l i) t (fun v =>
      (v.flow l).pressure = min ((i - 4000) * 4000 / 16000) 4000 ∧ (v.flow l).pressureFault = false ∧
      (∀ m, m ≠ l → (v.flow m).pressure = (s.flow m).pressure) ∧ v.link = s.link ∧ v.grades = s.grades ∧
      (s.flowing l = true → (s.flow l).overCount = 1 → (s.valve l).closedSwitch = false →
        (s.profile l).ratingKPa < min ((i - 4000) * 4000 / 16000) 4000 + (s.profile l).surgeMarginKPa →
        v.closesWith l .trip none (some .overpressure)) ∧
      (s.flowing l = true → (s.flow l).overCount = 0 → v.lines = s.lines) ∧
      ((s.line l).state = .closing → (∀ c, s.close l = some c → c.phase ≠ .runDown) →
        let kPa := min ((i - 4000) * 4000 / 16000) 4000
        v.close l = s.close l ∧
        (if ((s.line l).closeReason = some .ending ∨ (s.line l).closeReason = some .tankEnd ∨
              (s.line l).closeReason = some .hold) ∧ (s.profile l).ratingKPa < kPa + (s.profile l).surgeMarginKPa then
          if 1 ≤ (s.flow l).overCount then
            (v.line l).state = .closing ∧ (v.line l).closeReason = some .trip ∧ (v.line l).holdReason = none ∧
            (v.line l).trip.map (fun r => r.cause) = some .overpressure ∧ (v.flow l).overCount = 0
          else v.line l = s.line l ∧ (v.flow l).overCount = 1
        else v.line l = s.line l ∧ (v.flow l).overCount = 0)) ∧
      (∀ c, (s.line l).state = .closing → s.close l = some c → c.phase = .runDown → (s.valve l).closedSwitch = false →
        let kPa := min ((i - 4000) * 4000 / 16000) 4000
        let x : State := { s with flows := s.flows.set l { s.flow l with pressure := kPa, pressureFault := false } }
        (kPa ≤ (s.profile l).runDownKPa → (v.line l).state = .closing ∧
          (v.line l).surgeLimited = (x.closeFigures l).limited ∧
          ∃ y, v.close l = some y ∧ y.entry = c.entry ∧ y.runDownStart = c.runDownStart ∧
            y.runDownEnd = some .pressure ∧ y.plan = some (x.makePlan l)) ∧
        ((s.profile l).runDownKPa < kPa → v.close l = s.close l)))) ∧
    (¬ (3600 ≤ i ∧ i ≤ 21000) → Completes s (.pressureSample t l i) t (fun v =>
      v.flow l = { s.flow l with pressureFault := true, overCount := 0 } ∧ (∀ m, m ≠ l → v.flow m = s.flow m) ∧
      ((s.flow l).pressureFault = false → v.announced (.line l)) ∧
      v.lines = s.lines ∧ v.valves = s.valves ∧ v.closes = s.closes ∧ v.tanks = s.tanks ∧ v.link = s.link ∧
      v.shut = s.shut))

/-- POSITION_SAMPLE: a good sample is kept, clears the feedback fault and, with the profile's feedback present, sets the known
position; a stroke in TRAVEL to an intermediate target then arrives within arrival_band of it and teaches the learned rate, and
goes on outside it (R111, R123); a faulted sample sets the fault and nothing else (R109, R110). ACCUMULATOR_SAMPLE: a good sample
becomes the accumulator pressure, and the band follows it, or is NEED while the sensor is faulted; a change of band drives the
charge pump, nothing else does, and one into MUST pauses every stroke in TRAVEL and drops its solenoid (R122, R127, R128). -/
def Obligations.PositionAndAccumulatorSamples : Prop :=
  ∀ (s : State) (t : Time) (l : LineId) (i : Nat),
    (3600 ≤ i → i ≤ 21000 →
      Completes s (.positionSample t l i) t (fun v =>
        (v.valve l).sample = some (min ((i - 4000) * 1000 / 16000) 1000) ∧ (v.valve l).feedbackFault = false ∧
        ((s.line l).profile.map (fun p => p.feedbackPresent) = some 1 →
          (v.valve l).position = min ((i - 4000) * 1000 / 16000) 1000 ∧ (v.valve l).source = .transmitter) ∧
        ((s.line l).profile.map (fun p => p.feedbackPresent) ≠ some 1 →
          (v.valve l).position = (s.valve l).position ∧ (v.valve l).source = (s.valve l).source) ∧
        (∀ p k, (s.line l).profile = some p → p.feedbackPresent = 1 → (s.valve l).stroke = some k → k.phase = .travel →
          0 < k.req.target → k.req.target < 1000 →
          let pos := min ((i - 4000) * 1000 / 16000) 1000
          let used := k.usedAt t
          if pos ≤ k.req.target + p.arrivalBand ∧ k.req.target ≤ pos + p.arrivalBand then
            (v.valve l).learnedRate =
              some (if used = 0 then 500 else min 500 (max 5 ((max pos k.startPos - min pos k.startPos) * 1000 / used))) ∧
            (v.valve l).stroke = some { k with phase := .hold, since := t, used := used, pauseUsed := k.pauseAt t, mark := t,
                                               paused := false } ∧
            (v.valve l).lastOutcome = some (.arrived, t)
          else (v.valve l).learnedRate = (s.valve l).learnedRate ∧ (v.valve l).stroke = some k ∧
            (v.valve l).lastOutcome = (s.valve l).lastOutcome) ∧
        (v.valve l).closedSwitch = (s.valve l).closedSwitch ∧ v.link = s.link ∧ v.grades = s.grades) ∧
      Completes s (.accumulatorSample t i) t (fun v =>
        v.supply.pressure = min ((i - 4000) * 25000 / 16000) 25000 ∧ v.supply.fault = false ∧
        v.supply.band = bandOf s.supply.profile (min ((i - 4000) * 25000 / 16000) 25000) ∧
        v.supply.profile = s.supply.profile ∧ (v.supply.band ≠ s.supply.band → v.announced .hpu ∧ s.pumpDriven v) ∧
        (v.supply.band = s.supply.band → v.supply.pump = s.supply.pump ∧ v.valves = s.valves) ∧
        (s.supply.band ≠ .must → v.supply.band = .must → s.oneStroke → ∀ m k, (s.valve m).stroke = some k →
          k.phase = .travel → k.paused = false → v.solenoid m = none ∧
          (v.valve m).stroke = some { k with used := k.used + elapsed t k.mark, mark := t, paused := true }) ∧
        v.link = s.link ∧ v.grades = s.grades)) ∧
    (¬ (3600 ≤ i ∧ i ≤ 21000) →
      Completes s (.positionSample t l i) t (fun v =>
        v.valve l = { s.valve l with feedbackFault := true } ∧ (∀ m, m ≠ l → v.valve m = s.valve m) ∧
        v.lines = s.lines ∧ v.flows = s.flows ∧ v.tanks = s.tanks ∧ v.link = s.link ∧ v.shut = s.shut) ∧
      Completes s (.accumulatorSample t i) t (fun v =>
        v.supply.pressure = s.supply.pressure ∧ v.supply.fault = true ∧ v.supply.band = .need ∧
        v.supply.profile = s.supply.profile ∧ (s.supply.band ≠ .need → v.announced .hpu ∧ v.supply.pump = true) ∧
        (s.supply.band = .need → v.supply.pump = s.supply.pump ∧ v.valves = s.valves) ∧
        v.link = s.link ∧ v.grades = s.grades))

/-! ### Strokes -/

/-- TURNAROUND_END, due, begins SETUP. SETUP_END, due, begins TRAVEL for a stroke whose class the band admits, unless it must
make way for a waiting CLOSE: the travel start, the known position and the expected travel are recorded, the channel takes the
stroke's direction, its solenoid is energised outside MUST and blanking runs; a stroke whose class is not admitted, or that
makes way, goes back to the queue (R119 to R122). No solenoid is energised in TURNAROUND; that the pilot of SETUP is the
solenoid output of the direction is the model's reading (DEDUCED, notes/assumptions/47.md). -/
def Obligations.TurnaroundAndSetupEnd : Prop :=
  ∀ (s : State) (t : Time) (l : LineId) (k : Stroke), (s.valve l).stroke = some k →
    (k.phase = .turnaround → s.supply.profile.turnaroundMs ≤ elapsed t k.since →
      let w : Valve := { s.valve l with stroke := some { k with phase := .setup, since := t } }
      exec (.turnaroundEnd t l) s = .next (State.arbitrate { s with now := t, valves := s.valves.set l w }) ∧
      s.solenoid l = none ∧ (State.arbitrate { s with now := t, valves := s.valves.set l w }).solenoid l =
        some (if k.req.cls = .opening then .openward else .closeward)) ∧
    (k.phase = .setup → s.supply.profile.setupMs ≤ elapsed t k.since →
      let moving : Stroke :=
        { k with phase := .travel, since := t, travelStart := t, startPos := (s.valve l).position,
                 expected := ceilDiv (Machine.dist k.req.target (s.valve l).position * 1000) ((s.valve l).learnedRate.getD 0),
                 used := 0, pauseUsed := 0, paused := s.supply.band == .must, mark := t, blanking := true }
      (admitted s.supply.band k.req.cls = true →
        (k.req.cls = .close ∨ s.chan1.holder = none ∨ s.chan2.holder = none ∨
          ∀ m r, (s.valve m).pending = some r → r.cls ≠ .close) →
        Completes s (.setupEnd t l) t (fun v =>
          v.valve l = { s.valve l with stroke := some moving } ∧
          v.solenoid l = (if s.supply.band = .must then none
            else some (if k.req.cls = .opening then .openward else .closeward)) ∧
          (∀ m, m ≠ l → v.valve m = s.valve m) ∧
          v.chan1.holder = s.chan1.holder ∧ v.chan2.holder = s.chan2.holder ∧
          (s.chan1.holder = some l → v.chan1.lastDir = some k.req.cls.dir) ∧
          (s.chan2.holder = some l → v.chan2.lastDir = some k.req.cls.dir) ∧
          v.lines = s.lines ∧ v.tanks = s.tanks ∧ v.supply = s.supply ∧ v.link = s.link ∧ v.shut = s.shut)) ∧
      (admitted s.supply.band k.req.cls = true → k.req.cls ≠ .close → s.chan1.holder.isSome = true →
        s.chan2.holder.isSome = true → (∃ m r, (s.valve m).pending = some r ∧ r.cls = .close) →
        (s.valve l).followOn = none → s.atTarget l k.req = false → Completes s (.setupEnd t l) t (fun v =>
          ((v.valve l).stroke = none ∧ (v.valve l).pending = some k.req ∨
            ∃ x, (v.valve l).stroke = some x ∧ x.req = k.req ∧ x.phase ≠ .travel) ∧
          (v.valve l).position = (s.valve l).position ∧ v.shut.causes = s.shut.causes ∧ v.link = s.link)) ∧
      (admitted s.supply.band k.req.cls = false → (s.valve l).followOn = none →
        Completes s (.setupEnd t l) t (fun v =>
          (v.valve l).stroke = none ∧ (v.valve l).pending = some k.req ∧ (v.valve l).position = (s.valve l).position ∧
          v.supply.band = s.supply.band ∧ v.shut.causes = s.shut.causes ∧ v.link = s.link)))

/-- A limit switch that changes outside blanking sets the known position to its end of travel when it goes active, and only its
level when it goes inactive; during blanking nothing but its level changes. The end of the blanking reads both switches as they
stand (R109, R121, R124). That a stroke that has ended leaves no blanking behind is the model's choice (notes/assumptions/43.md),
and so is the order of the two switches when both are active (notes/assumptions/40.md). -/
def Obligations.LimitSwitchesSetThePosition : Prop :=
  ∀ (s : State) (t : Time) (l : LineId) (a : Bool),
    ((s.valve l).closedSwitch ≠ a → a = false ∨ s.blanked l = true →
      exec (.closedLimitSwitch t l a) s = .next (State.arbitrate
        { s with now := t, valves := s.valves.set l { s.valve l with closedSwitch := a } })) ∧
    ((s.valve l).openSwitch ≠ a → a = false ∨ s.blanked l = true →
      exec (.openLimitSwitch t l a) s = .next (State.arbitrate
        { s with now := t, valves := s.valves.set l { s.valve l with openSwitch := a } })) ∧
    ((s.valve l).closedSwitch = false → s.blanked l = false →
      Completes s (.closedLimitSwitch t l true) t (fun v =>
        (v.valve l).closedSwitch = true ∧ (v.valve l).position = 0 ∧ (v.valve l).source = .arrival ∧
        v.link = s.link ∧ v.grades = s.grades)) ∧
    ((s.valve l).openSwitch = false → s.blanked l = false →
      Completes s (.openLimitSwitch t l true) t (fun v =>
        (v.valve l).openSwitch = true ∧ (v.valve l).position = 1000 ∧ (v.valve l).source = .arrival ∧
        v.link = s.link ∧ v.grades = s.grades)) ∧
    (∀ k, (s.valve l).stroke = some k → k.blanking = true → s.supply.profile.blankingMs ≤ elapsed t k.travelStart →
      ((s.valve l).closedSwitch = false → (s.valve l).openSwitch = false →
        exec (.blankingEnd t l) s = .next (State.arbitrate
          { s with now := t, valves := s.valves.set l { s.valve l with stroke := some ({ k with blanking := false } : Stroke) } })) ∧
      ((s.valve l).closedSwitch = true → (s.valve l).openSwitch = false →
        Completes s (.blankingEnd t l) t (fun v =>
          (v.valve l).position = 0 ∧ (v.valve l).source = .arrival ∧ v.link = s.link ∧ v.grades = s.grades)) ∧
      ((s.valve l).openSwitch = true →
        Completes s (.blankingEnd t l) t (fun v =>
          (v.valve l).position = 1000 ∧ (v.valve l).source = .arrival ∧ v.link = s.link ∧ v.grades = s.grades)))

/-- The closed limit switch going active under a CLOSE stroke in TRAVEL to 0 ends the close of its line: COMPLETE for reason
END, HELD for TANK_END and HOLD, TRIPPED for TRIP and ESD, with the close record and the close reason removed (R20, R74, R86,
R124). -/
def Obligations.TheSwitchEndsTheClose : Prop :=
  ∀ (s : State) (t : Time) (l : LineId) (k : Stroke) (c : CloseRec) (r : CloseReason),
    (s.valve l).stroke = some k → k.phase = .travel → k.blanking = false → k.req.cls = .close → k.req.target = 0 →
    (s.valve l).closedSwitch = false → (s.line l).state = .closing → (s.line l).closeReason = some r →
    s.close l = some c → (c.phase = .stage ∨ c.phase = .seating) →
    Completes s (.closedLimitSwitch t l true) t (fun v =>
      (v.line l).state = (match r with
        | .ending => .complete
        | .tankEnd => .held
        | .hold => .held
        | .trip => .tripped
        | .esd => .tripped) ∧
      (v.line l).closeReason = none ∧ v.close l = none ∧ (v.line l).delivered = (s.line l).delivered ∧
      (v.line l).trip = (s.line l).trip ∧
      (v.valve l).stroke = some { k with phase := .hold, since := t, used := k.usedAt t, pauseUsed := k.pauseAt t,
                                         mark := t, paused := false } ∧
      (v.valve l).lastOutcome = some (.arrived, t) ∧ (r = .ending → v.list l = []) ∧ v.announced (.line l) ∧
      v.link = s.link ∧ v.grades = s.grades ∧ v.shut.causes = s.shut.causes)

/-- In TRAVEL to an intermediate target a stroke with simulated arrival arrives once its travel time used reaches the expected
travel (R123); a stroke whose travel time used reaches the timeout, or whose pause time used reaches extension_max_ms during a
pause, fails: an OPEN or THROTTLE stroke closes its flowing line with STROKE_FAILED (R116, R122, R126); at the first failure of a
close the same stage, or the seating stroke, is requested again, at once or, in MUST, after a wait (R90); the second failure of
a close leaves its line TRIPPED with CLOSE_FAILED and raises VALVE (R91). That the stage of a seating close stays absent while it
waits is the model's choice (notes/assumptions/44.md). -/
def Obligations.TravelEndsInArrivalOrFailure : Prop :=
  ∀ (s : State) (t : Time) (l : LineId) (k : Stroke), (s.valve l).stroke = some k → k.phase = .travel →
    (0 < k.req.target → k.req.target < 1000 → (s.profile l).simulatedArrival = 1 → k.expected ≤ k.usedAt t →
      Completes s (.simulatedArrival t l) t (fun v =>
        (v.valve l).position = k.req.target ∧ (v.valve l).source = .simulated ∧
        (v.valve l).learnedRate = (s.valve l).learnedRate ∧
        (∃ x, (v.valve l).stroke = some x ∧ x.phase = .hold ∧ x.since = t ∧ x.req = k.req) ∧
        (v.valve l).lastOutcome = some (.arrived, t) ∧ v.shut.causes = s.shut.causes ∧ v.link = s.link)) ∧
    (∀ c, (c = .travelTimeout t l ∧ 2 * k.expected + 2000 ≤ k.usedAt t ∨
        c = .extensionExhausted t l ∧ k.paused = true ∧ s.supply.profile.extensionMaxMs ≤ k.pauseAt t) →
      (k.req.cls ≠ .close → s.flowing l = true → (s.valve l).closedSwitch = false →
        Completes s c t (fun v => v.closesWith l .trip none (some .strokeFailed) ∧
          v.shut.causes = s.shut.causes ∧ v.link = s.link ∧ v.grades = s.grades)) ∧
      (∀ x, k.req.cls = .close → (s.line l).state = .closing → s.close l = some x →
        (x.phase = .stage ∨ x.phase = .seating) → x.retryUsed = false → (s.valve l).closedSwitch = false →
        (s.valve l).pending = none →
        Completes s c t (fun v => (v.line l).state = .closing ∧ (v.line l).closeReason = (s.line l).closeReason ∧
          (∃ y, v.close l = some y ∧ y.retryUsed = true ∧ y.stage = x.stage ∧ y.plan = x.plan ∧
            (s.supply.band = .must → y.phase = .retryWait) ∧
            (s.supply.band ≠ .must → y.phase = (if x.stage.isSome then .stage else .seating) ∨ y.phase = .dwell)) ∧
          (s.supply.band = .must → (v.valve l).stroke = none ∧ (v.valve l).pending = none) ∧
          (s.supply.band ≠ .must → s.strokeStands v l
            { cls := .close,
              target := min ((x.plan.bind (fun p => x.stage.map p.target)).getD 0) (s.profile l).bulkPos,
              time := t, retry := true }) ∧
          v.shut.causes = s.shut.causes ∧ v.link = s.link ∧ v.grades = s.grades)) ∧
      (∀ x, k.req.cls = .close → (s.line l).state = .closing → s.close l = some x →
        (x.phase = .stage ∨ x.phase = .seating) → x.retryUsed = true →
        Completes s c t (fun v => (v.line l).state = .tripped ∧ (v.line l).closeReason = none ∧ v.close l = none ∧
          (v.line l).trip.map (fun r => r.cause) = some .closeFailed ∧ v.latch = true ∧
          (v.shut.causes.valve).isSome = true ∧ l ∈ v.shut.valveList ∧
          (s.shut.causes.valve = none → (∀ m, v.flowing m = false) ∧ ∀ p, v.shut.permit p = false) ∧
          v.link = s.link ∧ v.grades = s.grades)))

/-- HOLD_END, due, ends a stroke in HOLD: without a follow-on the valve of an OPEN or THROTTLE stroke has no stroke and no
request left; with one, the follow-on stands in the queue or has been granted (R115, R125). The end of a CLOSE stroke's hold
lets a line in STARTING make its OPEN request anew (R6), and a close in DWELL note it and, its dwell over, come to its next
stage (R85). The freed channel goes to the pending request that R117 ranks first, in SETUP, or in TURNAROUND against the
channel's last direction (R117 to R119), and the charge pump is driven at the freeing, before that grant by the model's choice
(R128, notes/assumptions/45.md); during the hold the solenoid of the direction is energised outside MUST (R125). That a command
whose hold is not yet over changes nothing is the model's choice (notes/assumptions/3.md). -/
def Obligations.HoldEndReleasesTheValve : Prop :=
  ∀ (s : State) (t : Time) (l : LineId) (k : Stroke), (s.valve l).stroke = some k → k.phase = .hold →
    (elapsed t k.since < s.supply.profile.holdMs →
      exec (.holdEnd t l) s = .next (State.arbitrate { s with now := t })) ∧
    (s.supply.profile.holdMs ≤ elapsed t k.since → k.req.cls ≠ .close → (s.valve l).pending = none →
      ((s.valve l).followOn = none → Completes s (.holdEnd t l) t (fun v =>
        (v.valve l).stroke = none ∧ (v.valve l).pending = none ∧ (v.valve l).lastOutcome = (s.valve l).lastOutcome ∧
        (v.valve l).position = (s.valve l).position ∧ v.shut.causes = s.shut.causes ∧ v.link = s.link)) ∧
      (∀ r, (s.valve l).followOn = some r → s.atTarget l r = false → Completes s (.holdEnd t l) t (fun v =>
        ((v.valve l).pending = some r ∨ ∃ x, (v.valve l).stroke = some x ∧ x.req = r) ∧
        (v.valve l).followOn = none ∧ v.shut.causes = s.shut.causes ∧ v.link = s.link))) ∧
    (s.supply.profile.holdMs ≤ elapsed t k.since → k.req.cls = .close → (s.valve l).pending = none →
      (s.valve l).followOn = none → Completes s (.holdEnd t l) t (fun v =>
        ((s.line l).state = .starting → s.strokeStands v l (s.startStroke l t) ∧
          ((v.line l).state = .starting ∨ s.atTarget l (s.startStroke l t) = true ∧ (v.line l).state = .proving)) ∧
        ((s.line l).state ≠ .starting → (s.line l).state ≠ .closing →
          v.valve l = { s.valve l with stroke := none } ∧ v.line l = s.line l) ∧
        (∀ c, (s.line l).state = .closing → s.close l = some c → c.phase = .dwell → (s.valve l).closedSwitch = false →
          (v.line l).state = .closing ∧
          (c.dwellOver = false → v.close l = some { c with strokeEnded := true } ∧
            v.valve l = { s.valve l with stroke := none }) ∧
          (∀ n p, c.dwellOver = true → c.stage = some n → 0 < n → c.plan = some p →
            s.nextStageComes v l t c p n)) ∧
        v.shut.causes = s.shut.causes ∧ v.link = s.link ∧ v.grades = s.grades)) ∧
    (s.solenoid l = if s.supply.band = .must then none
      else some (if k.req.cls = .opening then .openward else .closeward)) ∧
    (s.supply.profile.holdMs ≤ elapsed t k.since → s.oneStroke → Completes s (.holdEnd t l) t (fun v =>
      let x := s.released l t
      (s.supply.band = .release → v.supply.pump = false) ∧
      (s.supply.band = .need ∨ s.supply.band = .must → v.supply.pump = true) ∧
      (s.supply.band = .may → v.supply.pump = (s.supply.pump || x.bothFree)) ∧
      (∀ m r c, x.ranksFirst m r → x.channelGiven r.cls.dir c → x.atTarget m r = false →
        (v.valve m).stroke = some (newStroke r (if (x.chan c).suits r.cls.dir then .setup else .turnaround) t) ∧
        (v.valve m).pending = none ∧ (v.valve m).commanded = r.target ∧ (v.chan c).holder = some m)))

/-! ### The shutdown loop, power-on, and figures -/

/-- The loop is CLOSED, in DEBOUNCE or OPEN; an opening starts the debounce from CLOSED, a closing returns it to CLOSED from any
state with no cause removed, and the expiry after 50 ms with the loop still open makes it OPEN and raises LOOP, which changes
nothing while LOOP is in the set (R168). That an opening in DEBOUNCE or OPEN changes nothing, and an expiry that is not due, is
the model's choice (notes/assumptions/4.md and 3.md). -/
def Obligations.TheLoopIsDebounced : Prop :=
  ∀ (s : State) (t : Time),
    (s.shut.loop = .closed → exec (.esdLoopOpen t) s = .next (State.arbitrate
      { s with now := t, shut := { s.shut with loop := .debounce t } })) ∧
    (s.shut.loop ≠ .closed → exec (.esdLoopOpen t) s = .next (State.arbitrate { s with now := t })) ∧
    exec (.esdLoopClosed t) s = .next (State.arbitrate { s with now := t, shut := { s.shut with loop := .closed } }) ∧
    ((∀ t0, s.shut.loop = .debounce t0 → elapsed t t0 < 50) →
      exec (.loopDebounceExpiry t) s = .next (State.arbitrate { s with now := t })) ∧
    (∀ t0, s.shut.loop = .debounce t0 → 50 ≤ elapsed t t0 →
      (s.shut.causes.loop = none → Completes s (.loopDebounceExpiry t) t (fun v =>
        v.shut.loop = .opened ∧ v.shut.causes = { s.shut.causes with loop := some t } ∧ s.shutDown v ∧
        v.announced .esd ∧ v.link = s.link ∧ v.grades = s.grades)) ∧
      (∀ t1, s.shut.causes.loop = some t1 → exec (.loopDebounceExpiry t) s = .next (State.arbitrate
        { s with now := t, shut := { s.shut with loop := .opened } })))

/-- POWER_ON: every line UNDECLARED with its flags clear, its account zero and its trip record absent, every list empty, every
tank ABSENT and FREE with nothing read, no figure of the Flow Monitor, no close, a cleared predictor; every valve at position 0
by ARRIVAL with no stroke; both channels free with no last direction; the supply at pressure 0 without fault on the default
profile, the band MUST with the charge pump on; both grades UNDECLARED; the link DOWN with no panel reply, both pointers at tank
1 and every slot idle; the cause set POWER_ON alone stamped 0, both permits withdrawn, the loop judged from its first reading;
buffers, overrun slot, notices and transmitter empty (R28, R53, R57, R74, R108, R130, R132, R151, R154, R175, R188). That the
queue of commands is kept, and that no cycle has a number yet, is the model's choice (notes/assumptions/28.md and 24.md). -/
def Obligations.PowerOnTakesItsValues : Prop :=
  ∀ (s : State) (i : PowerInputs), ∃ v, exec (.powerOn i) s = .next v ∧ v.pending = s.pending ∧ v.now = 0 ∧
    (∀ l, (v.line l).state = .undeclared ∧ (v.line l).profile = none ∧ (v.line l).trip = none ∧ v.list l = [] ∧
      v.close l = none ∧ (v.flow l).rate = 0 ∧ (v.flow l).pressure = 0 ∧ (v.pred l).settle = .clear ∧
      (v.valve l).position = 0 ∧ (v.valve l).stroke = none ∧ (v.valve l).pending = none ∧
      (v.valve l).learnedRate = none ∧ (v.valve l).closedSwitch = i.closedSwitch.get l ∧
      (v.valve l).openSwitch = i.openSwitch.get l) ∧
    (∀ l, (v.line l).closeReason = none ∧ (v.line l).holdReason = none ∧ (v.line l).delivered = 0 ∧
      (v.line l).pendingVol = 0 ∧ (v.line l).fedSet = [] ∧ (v.line l).baseline = none ∧ (v.line l).throttle = 0 ∧
      (v.line l).surgeLimited = false ∧ (v.line l).late = false ∧ (v.line l).quietPending = false ∧
      (v.flow l).pulseTotal = 0 ∧ (v.flow l).meterFactor = none ∧ (v.flow l).pressureFault = false ∧
      (v.flow l).overCount = 0 ∧ (v.flow l).rateCount = 0 ∧ (v.flow l).pressCount = 0 ∧ (v.flow l).quiet = 0 ∧
      (v.flow l).watchActive = none ∧ (v.flow l).watchIncoming = none ∧ (v.pred l).held = none ∧
      (v.pred l).evaluation = none ∧ (v.valve l).source = .arrival ∧ (v.valve l).feedbackFault = false ∧
      (v.valve l).commanded = 0 ∧ (v.valve l).followOn = none ∧ (v.valve l).lastOutcome = none) ∧
    (∀ k, (v.tank k).health = .absent ∧ (v.tank k).use = .free ∧ (v.tank k).decl = none ∧ (v.tank k).latest = none) ∧
    (∀ k, (v.tank k).refusal = none ∧ (v.tank k).toggle = none ∧ (v.tank k).highWater = none ∧
      (v.tank k).pairPrev = none ∧ (v.tank k).pairLatest = none ∧ (v.tank k).missCount = 0 ∧ (v.tank k).lastNew = 0 ∧
      (v.tank k).highAlarm = false ∧ (v.tank k).overfill = false ∧ (v.tank k).marks = .none ∧
      (v.tank k).changeoverBase = none ∧ (v.tank k).attributed = 0) ∧
    (∀ g, (v.grade g).agreement = .undeclared ∧ (v.grade g).barge = none ∧ (v.grade g).agreed = none) ∧
    (∀ g, (v.grade g).lastWord = .absent ∧ (v.grade g).matchCount = 0 ∧ (v.grade g).accepted = none ∧
      (v.grade g).console = none) ∧
    v.chan1 = { holder := none, lastDir := none } ∧ v.chan2 = { holder := none, lastDir := none } ∧
    v.link.state = .down ∧ v.link.panel = none ∧ v.link.missCount = 0 ∧ v.link.silenceStart = none ∧
    v.link.pollPtr = .k1 ∧ v.link.prioPtr = .k1 ∧ v.link.poll = none ∧ v.link.deferred = [] ∧ v.link.cycle = none ∧
    v.link.slots.length = 5 ∧ (∀ x ∈ v.link.slots, x.plan = .idle) ∧ v.link.rx = .hunt ∧
    v.shut.causes = { loop := none, ship := none, overfill := none, console := none, valve := none, powerOn := some 0 } ∧
    v.shut.valveList = [] ∧ v.shut.shipRun = 0 ∧ (∀ p, v.shut.permit p = false) ∧
    v.shut.loop = (if i.loopOpen then .debounce 0 else .closed) ∧ v.supply.band = .must ∧ v.supply.pump = true ∧
    v.supply.pressure = 0 ∧ v.supply.fault = false ∧
    v.supply.profile = { releaseKPa := 18000, needKPa := 14000, mustKPa := 10000, setupMs := 400, holdMs := 500,
                         turnaroundMs := 300, blankingMs := 300, extensionMaxMs := 20000 } ∧
    v.buf1 = .empty ∧ v.buf2 = .empty ∧ v.overrun = none ∧ v.waitOrder = [] ∧ v.replyOrder = [] ∧ v.restart = .idle ∧
    v.notices = [] ∧ v.tx = none ∧ v.rx = .hunt

/-- R81 whole: the pipe period is 2 × length × 1000 / wave speed, rounded up, lies between 8 and 5000 ms over the profile
ranges, is the floor of the dwell of every plan with stages, and enters neither the close time nor SURGE_LIMITED. -/
def Obligations.PipePeriodFloorsTheDwell : Prop :=
  (∀ p : LineProfile, 0 < p.waveSpeed →
    2 * p.lengthM * 1000 ≤ pipePeriod p * p.waveSpeed ∧
    (∀ n, 2 * p.lengthM * 1000 ≤ n * p.waveSpeed → pipePeriod p ≤ n)) ∧
  (∀ p : LineProfile, profileError p = none → 8 ≤ pipePeriod p ∧ pipePeriod p ≤ 5000) ∧
  (∀ (s : State) (l : LineId), (s.makePlan l).targets ≠ [] → pipePeriod (s.profile l) ≤ (s.makePlan l).dwell) ∧
  (∀ (p : LineProfile) (w density rate pressure : Nat) (fault : Bool),
    closeFigures { p with waveSpeed := w } density rate pressure fault = closeFigures p density rate pressure fault)

/-- The figures of a close (R79, R80, R82): the velocity; the headroom, 50 at its floor and with the sensor faulted; T_surge
rounded up; the close time, T_surge within the profile's two clamps; whether floor or upper clamp was used. The stage targets are
floor(P × (N − k) / N), below P, falling to 0, one for each stage. A plan off the seat has T_travel rounded up, the dwell and the
planned duration of R82, which is at least T_close. -/
def Obligations.ClosePlansFallToZero : Prop :=
  (∀ (p : LineProfile) (density rate pressure : Nat) (fault : Bool),
    let f := closeFigures p density rate pressure fault
    f.velocity = rate * 21221 / (p.boreMm * p.boreMm) ∧
    (fault = true ∨ p.ratingKPa ≤ pressure + p.surgeMarginKPa + 50 → f.headroom = 50) ∧
    (fault = false → pressure + p.surgeMarginKPa + 50 < p.ratingKPa →
      f.headroom = p.ratingKPa - pressure - p.surgeMarginKPa) ∧
    2 * density * p.lengthM * f.velocity ≤ f.tSurge * (1000 * f.headroom) ∧
    (∀ n, 2 * density * p.lengthM * f.velocity ≤ n * (1000 * f.headroom) → f.tSurge ≤ n) ∧
    (f.tSurge < p.closeMinMs → f.tClose = p.closeMinMs) ∧
    (p.closeMinMs ≤ f.tSurge → f.tClose = min f.tSurge p.closeMaxMs) ∧
    (f.limited = true ↔ fault = true ∨ p.ratingKPa ≤ pressure + p.surgeMarginKPa + 50 ∨ p.closeMaxMs < f.tSurge)) ∧
  (∀ (p : LineProfile) (density rate pressure : Nat) (fault : Bool), p.closeMinMs ≤ p.closeMaxMs →
    p.closeMinMs ≤ (closeFigures p density rate pressure fault).tClose ∧
    (closeFigures p density rate pressure fault).tClose ≤ p.closeMaxMs) ∧
  (∀ position stages : Nat, 0 < stages →
    (stageTargets position stages).length = stages ∧ (stageTargets position stages).getLast? = some 0 ∧
    (stageTargets position stages).Pairwise (fun x y => y ≤ x) ∧
    (∀ k, 1 ≤ k → k ≤ stages →
      (stageTargets position stages)[k - 1]? = some (position * (stages - k) / stages)) ∧
    (∀ x ∈ stageTargets position stages, x ≤ position ∧ (0 < position → x < position))) ∧
  (∀ (s : State) (l : LineId) (r : Nat),
    (s.valve l).closedSwitch = false → 0 < (s.valve l).position → (s.valve l).learnedRate = some r → 0 < r →
    2 ≤ (s.profile l).closeStages →
    let x := s.makePlan l
    let f := closeFigures (s.profile l) (s.density l) (s.flow l).rate (s.flow l).pressure (s.flow l).pressureFault
    let n := (s.profile l).closeStages
    x.rate = (s.flow l).rate ∧ x.pressure = (s.flow l).pressure ∧ x.sensorFault = (s.flow l).pressureFault ∧
    x.position = (s.valve l).position ∧ x.learnedRate = r ∧ x.velocity = f.velocity ∧ x.headroom = f.headroom ∧
    x.tSurge = f.tSurge ∧ x.tClose = f.tClose ∧ x.targets = stageTargets (s.valve l).position n ∧
    (∀ m, x.tTravel ≤ m ↔ (s.valve l).position * 1000 ≤ m * r) ∧
    (∀ m, x.dwell ≤ m ↔ x.tClose - x.tTravel ≤ m * (n - 1) ∧ pipePeriod (s.profile l) ≤ m) ∧
    x.planned = x.tTravel + (n - 1) * x.dwell ∧ x.tClose ≤ x.planned)

/-- R46 whole: on success the pending volume is divided, none of it lost: the incoming share, the smaller of the pending volume
and the rise of the new tank above its changeover baseline times its litres per mm, goes to the new tank, the rest to the old
one, and the pending volume becomes zero. No other tank's litres change. -/
def Obligations.ChangeoverDividesThePendingVolume : Prop :=
  ∀ (e : Ev) (l : LineId) (old new : TankId), old ≠ new →
    let v := e.changeoverSuccess l old new
    (∀ base h d, (e.tank new).changeoverBase = some base → (e.tank new).latest = some h → (e.tank new).decl = some d →
      e.incomingShare l new = min (e.line l).pendingVol ((h.level - base) * d.litresPerMm)) ∧
    (v.tank new).attributed = (e.tank new).attributed + e.incomingShare l new ∧
    (v.tank old).attributed = (e.tank old).attributed + ((e.line l).pendingVol - e.incomingShare l new) ∧
    e.incomingShare l new ≤ (e.line l).pendingVol ∧ (v.line l).pendingVol = 0 ∧
    (∀ k, k ≠ old → k ≠ new → (v.tank k).attributed = (e.tank k).attributed)
end

