-- ==== Sys2Proof/Laws/State.lean ====
section
/-! SUPPORT. The small lemmas of the named updates: reading one record back, and one lemma for each field and each update,
so that no later proof unfolds an update of State. -/

namespace Sys2Proof

/-- Reading a line's value after a write to a line. -/
theorem Quad.get_set {α : Type} (q : Quad α) (l m : LineId) (x : α) :
    (q.set l x).get m = if m = l then x else q.get m := by
  cases l <;> cases m <;> rfl

@[simp] theorem Quad.get_set_same {α : Type} (q : Quad α) (l : LineId) (x : α) : (q.set l x).get l = x := by
  cases l <;> rfl

theorem Quad.get_set_ne {α : Type} (q : Quad α) {l m : LineId} (x : α) (h : m ≠ l) : (q.set l x).get m = q.get m := by
  rw [Quad.get_set, if_neg h]

/-- Two quads with the same four values are equal. -/
theorem Quad.ext_get {α : Type} {p q : Quad α} (h : ∀ l, p.get l = q.get l) : p = q := by
  cases p; cases q
  have ha := h .a; have hb := h .b; have hc := h .c; have hd := h .d
  simp only [Quad.get] at ha hb hc hd
  simp [*]

@[simp] theorem Quad.set_get {α : Type} (q : Quad α) (l : LineId) : q.set l (q.get l) = q := by
  cases l <;> rfl

end Sys2Proof

namespace Sys2Proof.Machine

/-- Reading a tank's record after a write to a tank. -/
theorem Tanks.get_set (q : Tanks) (k n : TankId) (x : Tank) :
    (q.set k x).get n = if n = k then x else q.get n := by
  cases k <;> cases n <;> rfl

@[simp] theorem Tanks.get_set_same (q : Tanks) (k : TankId) (x : Tank) : (q.set k x).get k = x := by
  cases k <;> rfl

theorem Tanks.get_set_ne (q : Tanks) {k n : TankId} (x : Tank) (h : n ≠ k) : (q.set k x).get n = q.get n := by
  rw [Tanks.get_set, if_neg h]

/-- Reading a grade's record after a write to a grade. -/
theorem Grades.get_set (q : Grades) (g h : GradeId) (x : Grade) :
    (q.set g x).get h = if h = g then x else q.get h := by
  cases g <;> cases h <;> rfl

@[simp] theorem Grades.get_set_same (q : Grades) (g : GradeId) (x : Grade) : (q.set g x).get g = x := by
  cases g <;> rfl

/-! ### What each update leaves alone -/

@[simp] theorem Ev.modLine_pending (e : Ev) (l : LineId) (f : LineRec → LineRec) : (e.modLine l f).pending = e.pending := rfl
@[simp] theorem Ev.modLine_now (e : Ev) (l : LineId) (f : LineRec → LineRec) : (e.modLine l f).now = e.now := rfl
@[simp] theorem Ev.modLine_freeCtr (e : Ev) (l : LineId) (f : LineRec → LineRec) : (e.modLine l f).freeCtr = e.freeCtr := rfl
@[simp] theorem Ev.modLine_rx (e : Ev) (l : LineId) (f : LineRec → LineRec) : (e.modLine l f).rx = e.rx := rfl
@[simp] theorem Ev.modLine_buf1 (e : Ev) (l : LineId) (f : LineRec → LineRec) : (e.modLine l f).buf1 = e.buf1 := rfl
@[simp] theorem Ev.modLine_buf2 (e : Ev) (l : LineId) (f : LineRec → LineRec) : (e.modLine l f).buf2 = e.buf2 := rfl
@[simp] theorem Ev.modLine_waitOrder (e : Ev) (l : LineId) (f : LineRec → LineRec) : (e.modLine l f).waitOrder = e.waitOrder := rfl
@[simp] theorem Ev.modLine_overrun (e : Ev) (l : LineId) (f : LineRec → LineRec) : (e.modLine l f).overrun = e.overrun := rfl
@[simp] theorem Ev.modLine_replyOrder (e : Ev) (l : LineId) (f : LineRec → LineRec) : (e.modLine l f).replyOrder = e.replyOrder := rfl
@[simp] theorem Ev.modLine_tx (e : Ev) (l : LineId) (f : LineRec → LineRec) : (e.modLine l f).tx = e.tx := rfl
@[simp] theorem Ev.modLine_notices (e : Ev) (l : LineId) (f : LineRec → LineRec) : (e.modLine l f).notices = e.notices := rfl
@[simp] theorem Ev.modLine_restart (e : Ev) (l : LineId) (f : LineRec → LineRec) : (e.modLine l f).restart = e.restart := rfl
@[simp] theorem Ev.modLine_restartEsd (e : Ev) (l : LineId) (f : LineRec → LineRec) : (e.modLine l f).restartEsd = e.restartEsd := rfl
@[simp] theorem Ev.modLine_lists (e : Ev) (l : LineId) (f : LineRec → LineRec) : (e.modLine l f).lists = e.lists := rfl
@[simp] theorem Ev.modLine_tanks (e : Ev) (l : LineId) (f : LineRec → LineRec) : (e.modLine l f).tanks = e.tanks := rfl
@[simp] theorem Ev.modLine_preds (e : Ev) (l : LineId) (f : LineRec → LineRec) : (e.modLine l f).preds = e.preds := rfl
@[simp] theorem Ev.modLine_closes (e : Ev) (l : LineId) (f : LineRec → LineRec) : (e.modLine l f).closes = e.closes := rfl
@[simp] theorem Ev.modLine_flows (e : Ev) (l : LineId) (f : LineRec → LineRec) : (e.modLine l f).flows = e.flows := rfl
@[simp] theorem Ev.modLine_valves (e : Ev) (l : LineId) (f : LineRec → LineRec) : (e.modLine l f).valves = e.valves := rfl
@[simp] theorem Ev.modLine_chan1 (e : Ev) (l : LineId) (f : LineRec → LineRec) : (e.modLine l f).chan1 = e.chan1 := rfl
@[simp] theorem Ev.modLine_chan2 (e : Ev) (l : LineId) (f : LineRec → LineRec) : (e.modLine l f).chan2 = e.chan2 := rfl
@[simp] theorem Ev.modLine_supply (e : Ev) (l : LineId) (f : LineRec → LineRec) : (e.modLine l f).supply = e.supply := rfl
@[simp] theorem Ev.modLine_link (e : Ev) (l : LineId) (f : LineRec → LineRec) : (e.modLine l f).link = e.link := rfl
@[simp] theorem Ev.modLine_grades (e : Ev) (l : LineId) (f : LineRec → LineRec) : (e.modLine l f).grades = e.grades := rfl
@[simp] theorem Ev.modLine_shut (e : Ev) (l : LineId) (f : LineRec → LineRec) : (e.modLine l f).shut = e.shut := rfl
@[simp] theorem Ev.modLine_dirty (e : Ev) (l : LineId) (f : LineRec → LineRec) : (e.modLine l f).dirty = e.dirty := rfl
@[simp] theorem Ev.modLine_reports (e : Ev) (l : LineId) (f : LineRec → LineRec) : (e.modLine l f).reports = e.reports := rfl
@[simp] theorem Ev.modLine_undecided (e : Ev) (l : LineId) (f : LineRec → LineRec) : (e.modLine l f).undecided = e.undecided := rfl
@[simp] theorem Ev.setList_pending (e : Ev) (l : LineId) (ks : List TankId) : (e.setList l ks).pending = e.pending := rfl
@[simp] theorem Ev.setList_now (e : Ev) (l : LineId) (ks : List TankId) : (e.setList l ks).now = e.now := rfl
@[simp] theorem Ev.setList_freeCtr (e : Ev) (l : LineId) (ks : List TankId) : (e.setList l ks).freeCtr = e.freeCtr := rfl
@[simp] theorem Ev.setList_rx (e : Ev) (l : LineId) (ks : List TankId) : (e.setList l ks).rx = e.rx := rfl
@[simp] theorem Ev.setList_buf1 (e : Ev) (l : LineId) (ks : List TankId) : (e.setList l ks).buf1 = e.buf1 := rfl
@[simp] theorem Ev.setList_buf2 (e : Ev) (l : LineId) (ks : List TankId) : (e.setList l ks).buf2 = e.buf2 := rfl
@[simp] theorem Ev.setList_waitOrder (e : Ev) (l : LineId) (ks : List TankId) : (e.setList l ks).waitOrder = e.waitOrder := rfl
@[simp] theorem Ev.setList_overrun (e : Ev) (l : LineId) (ks : List TankId) : (e.setList l ks).overrun = e.overrun := rfl
@[simp] theorem Ev.setList_replyOrder (e : Ev) (l : LineId) (ks : List TankId) : (e.setList l ks).replyOrder = e.replyOrder := rfl
@[simp] theorem Ev.setList_tx (e : Ev) (l : LineId) (ks : List TankId) : (e.setList l ks).tx = e.tx := rfl
@[simp] theorem Ev.setList_notices (e : Ev) (l : LineId) (ks : List TankId) : (e.setList l ks).notices = e.notices := rfl
@[simp] theorem Ev.setList_restart (e : Ev) (l : LineId) (ks : List TankId) : (e.setList l ks).restart = e.restart := rfl
@[simp] theorem Ev.setList_restartEsd (e : Ev) (l : LineId) (ks : List TankId) : (e.setList l ks).restartEsd = e.restartEsd := rfl
@[simp] theorem Ev.setList_lines (e : Ev) (l : LineId) (ks : List TankId) : (e.setList l ks).lines = e.lines := rfl
@[simp] theorem Ev.setList_tanks (e : Ev) (l : LineId) (ks : List TankId) : (e.setList l ks).tanks = e.tanks := rfl
@[simp] theorem Ev.setList_preds (e : Ev) (l : LineId) (ks : List TankId) : (e.setList l ks).preds = e.preds := rfl
@[simp] theorem Ev.setList_closes (e : Ev) (l : LineId) (ks : List TankId) : (e.setList l ks).closes = e.closes := rfl
@[simp] theorem Ev.setList_flows (e : Ev) (l : LineId) (ks : List TankId) : (e.setList l ks).flows = e.flows := rfl
@[simp] theorem Ev.setList_valves (e : Ev) (l : LineId) (ks : List TankId) : (e.setList l ks).valves = e.valves := rfl
@[simp] theorem Ev.setList_chan1 (e : Ev) (l : LineId) (ks : List TankId) : (e.setList l ks).chan1 = e.chan1 := rfl
@[simp] theorem Ev.setList_chan2 (e : Ev) (l : LineId) (ks : List TankId) : (e.setList l ks).chan2 = e.chan2 := rfl
@[simp] theorem Ev.setList_supply (e : Ev) (l : LineId) (ks : List TankId) : (e.setList l ks).supply = e.supply := rfl
@[simp] theorem Ev.setList_link (e : Ev) (l : LineId) (ks : List TankId) : (e.setList l ks).link = e.link := rfl
@[simp] theorem Ev.setList_grades (e : Ev) (l : LineId) (ks : List TankId) : (e.setList l ks).grades = e.grades := rfl
@[simp] theorem Ev.setList_shut (e : Ev) (l : LineId) (ks : List TankId) : (e.setList l ks).shut = e.shut := rfl
@[simp] theorem Ev.setList_dirty (e : Ev) (l : LineId) (ks : List TankId) : (e.setList l ks).dirty = e.dirty := rfl
@[simp] theorem Ev.setList_reports (e : Ev) (l : LineId) (ks : List TankId) : (e.setList l ks).reports = e.reports := rfl
@[simp] theorem Ev.setList_undecided (e : Ev) (l : LineId) (ks : List TankId) : (e.setList l ks).undecided = e.undecided := rfl
@[simp] theorem Ev.modPred_pending (e : Ev) (l : LineId) (f : Predictor → Predictor) : (e.modPred l f).pending = e.pending := rfl
@[simp] theorem Ev.modPred_now (e : Ev) (l : LineId) (f : Predictor → Predictor) : (e.modPred l f).now = e.now := rfl
@[simp] theorem Ev.modPred_freeCtr (e : Ev) (l : LineId) (f : Predictor → Predictor) : (e.modPred l f).freeCtr = e.freeCtr := rfl
@[simp] theorem Ev.modPred_rx (e : Ev) (l : LineId) (f : Predictor → Predictor) : (e.modPred l f).rx = e.rx := rfl
@[simp] theorem Ev.modPred_buf1 (e : Ev) (l : LineId) (f : Predictor → Predictor) : (e.modPred l f).buf1 = e.buf1 := rfl
@[simp] theorem Ev.modPred_buf2 (e : Ev) (l : LineId) (f : Predictor → Predictor) : (e.modPred l f).buf2 = e.buf2 := rfl
@[simp] theorem Ev.modPred_waitOrder (e : Ev) (l : LineId) (f : Predictor → Predictor) : (e.modPred l f).waitOrder = e.waitOrder := rfl
@[simp] theorem Ev.modPred_overrun (e : Ev) (l : LineId) (f : Predictor → Predictor) : (e.modPred l f).overrun = e.overrun := rfl
@[simp] theorem Ev.modPred_replyOrder (e : Ev) (l : LineId) (f : Predictor → Predictor) : (e.modPred l f).replyOrder = e.replyOrder := rfl
@[simp] theorem Ev.modPred_tx (e : Ev) (l : LineId) (f : Predictor → Predictor) : (e.modPred l f).tx = e.tx := rfl
@[simp] theorem Ev.modPred_notices (e : Ev) (l : LineId) (f : Predictor → Predictor) : (e.modPred l f).notices = e.notices := rfl
@[simp] theorem Ev.modPred_restart (e : Ev) (l : LineId) (f : Predictor → Predictor) : (e.modPred l f).restart = e.restart := rfl
@[simp] theorem Ev.modPred_restartEsd (e : Ev) (l : LineId) (f : Predictor → Predictor) : (e.modPred l f).restartEsd = e.restartEsd := rfl
@[simp] theorem Ev.modPred_lines (e : Ev) (l : LineId) (f : Predictor → Predictor) : (e.modPred l f).lines = e.lines := rfl
@[simp] theorem Ev.modPred_lists (e : Ev) (l : LineId) (f : Predictor → Predictor) : (e.modPred l f).lists = e.lists := rfl
@[simp] theorem Ev.modPred_tanks (e : Ev) (l : LineId) (f : Predictor → Predictor) : (e.modPred l f).tanks = e.tanks := rfl
@[simp] theorem Ev.modPred_closes (e : Ev) (l : LineId) (f : Predictor → Predictor) : (e.modPred l f).closes = e.closes := rfl
@[simp] theorem Ev.modPred_flows (e : Ev) (l : LineId) (f : Predictor → Predictor) : (e.modPred l f).flows = e.flows := rfl
@[simp] theorem Ev.modPred_valves (e : Ev) (l : LineId) (f : Predictor → Predictor) : (e.modPred l f).valves = e.valves := rfl
@[simp] theorem Ev.modPred_chan1 (e : Ev) (l : LineId) (f : Predictor → Predictor) : (e.modPred l f).chan1 = e.chan1 := rfl
@[simp] theorem Ev.modPred_chan2 (e : Ev) (l : LineId) (f : Predictor → Predictor) : (e.modPred l f).chan2 = e.chan2 := rfl
@[simp] theorem Ev.modPred_supply (e : Ev) (l : LineId) (f : Predictor → Predictor) : (e.modPred l f).supply = e.supply := rfl
@[simp] theorem Ev.modPred_link (e : Ev) (l : LineId) (f : Predictor → Predictor) : (e.modPred l f).link = e.link := rfl
@[simp] theorem Ev.modPred_grades (e : Ev) (l : LineId) (f : Predictor → Predictor) : (e.modPred l f).grades = e.grades := rfl
@[simp] theorem Ev.modPred_shut (e : Ev) (l : LineId) (f : Predictor → Predictor) : (e.modPred l f).shut = e.shut := rfl
@[simp] theorem Ev.modPred_dirty (e : Ev) (l : LineId) (f : Predictor → Predictor) : (e.modPred l f).dirty = e.dirty := rfl
@[simp] theorem Ev.modPred_reports (e : Ev) (l : LineId) (f : Predictor → Predictor) : (e.modPred l f).reports = e.reports := rfl
@[simp] theorem Ev.modPred_undecided (e : Ev) (l : LineId) (f : Predictor → Predictor) : (e.modPred l f).undecided = e.undecided := rfl
@[simp] theorem Ev.setClose_pending (e : Ev) (l : LineId) (c : Option CloseRec) : (e.setClose l c).pending = e.pending := rfl
@[simp] theorem Ev.setClose_now (e : Ev) (l : LineId) (c : Option CloseRec) : (e.setClose l c).now = e.now := rfl
@[simp] theorem Ev.setClose_freeCtr (e : Ev) (l : LineId) (c : Option CloseRec) : (e.setClose l c).freeCtr = e.freeCtr := rfl
@[simp] theorem Ev.setClose_rx (e : Ev) (l : LineId) (c : Option CloseRec) : (e.setClose l c).rx = e.rx := rfl
@[simp] theorem Ev.setClose_buf1 (e : Ev) (l : LineId) (c : Option CloseRec) : (e.setClose l c).buf1 = e.buf1 := rfl
@[simp] theorem Ev.setClose_buf2 (e : Ev) (l : LineId) (c : Option CloseRec) : (e.setClose l c).buf2 = e.buf2 := rfl
@[simp] theorem Ev.setClose_waitOrder (e : Ev) (l : LineId) (c : Option CloseRec) : (e.setClose l c).waitOrder = e.waitOrder := rfl
@[simp] theorem Ev.setClose_overrun (e : Ev) (l : LineId) (c : Option CloseRec) : (e.setClose l c).overrun = e.overrun := rfl
@[simp] theorem Ev.setClose_replyOrder (e : Ev) (l : LineId) (c : Option CloseRec) : (e.setClose l c).replyOrder = e.replyOrder := rfl
@[simp] theorem Ev.setClose_tx (e : Ev) (l : LineId) (c : Option CloseRec) : (e.setClose l c).tx = e.tx := rfl
@[simp] theorem Ev.setClose_notices (e : Ev) (l : LineId) (c : Option CloseRec) : (e.setClose l c).notices = e.notices := rfl
@[simp] theorem Ev.setClose_restart (e : Ev) (l : LineId) (c : Option CloseRec) : (e.setClose l c).restart = e.restart := rfl
@[simp] theorem Ev.setClose_restartEsd (e : Ev) (l : LineId) (c : Option CloseRec) : (e.setClose l c).restartEsd = e.restartEsd := rfl
@[simp] theorem Ev.setClose_lines (e : Ev) (l : LineId) (c : Option CloseRec) : (e.setClose l c).lines = e.lines := rfl
@[simp] theorem Ev.setClose_lists (e : Ev) (l : LineId) (c : Option CloseRec) : (e.setClose l c).lists = e.lists := rfl
@[simp] theorem Ev.setClose_tanks (e : Ev) (l : LineId) (c : Option CloseRec) : (e.setClose l c).tanks = e.tanks := rfl
@[simp] theorem Ev.setClose_preds (e : Ev) (l : LineId) (c : Option CloseRec) : (e.setClose l c).preds = e.preds := rfl
@[simp] theorem Ev.setClose_flows (e : Ev) (l : LineId) (c : Option CloseRec) : (e.setClose l c).flows = e.flows := rfl
@[simp] theorem Ev.setClose_valves (e : Ev) (l : LineId) (c : Option CloseRec) : (e.setClose l c).valves = e.valves := rfl
@[simp] theorem Ev.setClose_chan1 (e : Ev) (l : LineId) (c : Option CloseRec) : (e.setClose l c).chan1 = e.chan1 := rfl
@[simp] theorem Ev.setClose_chan2 (e : Ev) (l : LineId) (c : Option CloseRec) : (e.setClose l c).chan2 = e.chan2 := rfl
@[simp] theorem Ev.setClose_supply (e : Ev) (l : LineId) (c : Option CloseRec) : (e.setClose l c).supply = e.supply := rfl
@[simp] theorem Ev.setClose_link (e : Ev) (l : LineId) (c : Option CloseRec) : (e.setClose l c).link = e.link := rfl
@[simp] theorem Ev.setClose_grades (e : Ev) (l : LineId) (c : Option CloseRec) : (e.setClose l c).grades = e.grades := rfl
@[simp] theorem Ev.setClose_shut (e : Ev) (l : LineId) (c : Option CloseRec) : (e.setClose l c).shut = e.shut := rfl
@[simp] theorem Ev.setClose_dirty (e : Ev) (l : LineId) (c : Option CloseRec) : (e.setClose l c).dirty = e.dirty := rfl
@[simp] theorem Ev.setClose_reports (e : Ev) (l : LineId) (c : Option CloseRec) : (e.setClose l c).reports = e.reports := rfl
@[simp] theorem Ev.setClose_undecided (e : Ev) (l : LineId) (c : Option CloseRec) : (e.setClose l c).undecided = e.undecided := rfl
@[simp] theorem Ev.modClose_pending (e : Ev) (l : LineId) (f : CloseRec → CloseRec) : (e.modClose l f).pending = e.pending := rfl
@[simp] theorem Ev.modClose_now (e : Ev) (l : LineId) (f : CloseRec → CloseRec) : (e.modClose l f).now = e.now := rfl
@[simp] theorem Ev.modClose_freeCtr (e : Ev) (l : LineId) (f : CloseRec → CloseRec) : (e.modClose l f).freeCtr = e.freeCtr := rfl
@[simp] theorem Ev.modClose_rx (e : Ev) (l : LineId) (f : CloseRec → CloseRec) : (e.modClose l f).rx = e.rx := rfl
@[simp] theorem Ev.modClose_buf1 (e : Ev) (l : LineId) (f : CloseRec → CloseRec) : (e.modClose l f).buf1 = e.buf1 := rfl
@[simp] theorem Ev.modClose_buf2 (e : Ev) (l : LineId) (f : CloseRec → CloseRec) : (e.modClose l f).buf2 = e.buf2 := rfl
@[simp] theorem Ev.modClose_waitOrder (e : Ev) (l : LineId) (f : CloseRec → CloseRec) : (e.modClose l f).waitOrder = e.waitOrder := rfl
@[simp] theorem Ev.modClose_overrun (e : Ev) (l : LineId) (f : CloseRec → CloseRec) : (e.modClose l f).overrun = e.overrun := rfl
@[simp] theorem Ev.modClose_replyOrder (e : Ev) (l : LineId) (f : CloseRec → CloseRec) : (e.modClose l f).replyOrder = e.replyOrder := rfl
@[simp] theorem Ev.modClose_tx (e : Ev) (l : LineId) (f : CloseRec → CloseRec) : (e.modClose l f).tx = e.tx := rfl
@[simp] theorem Ev.modClose_notices (e : Ev) (l : LineId) (f : CloseRec → CloseRec) : (e.modClose l f).notices = e.notices := rfl
@[simp] theorem Ev.modClose_restart (e : Ev) (l : LineId) (f : CloseRec → CloseRec) : (e.modClose l f).restart = e.restart := rfl
@[simp] theorem Ev.modClose_restartEsd (e : Ev) (l : LineId) (f : CloseRec → CloseRec) : (e.modClose l f).restartEsd = e.restartEsd := rfl
@[simp] theorem Ev.modClose_lines (e : Ev) (l : LineId) (f : CloseRec → CloseRec) : (e.modClose l f).lines = e.lines := rfl
@[simp] theorem Ev.modClose_lists (e : Ev) (l : LineId) (f : CloseRec → CloseRec) : (e.modClose l f).lists = e.lists := rfl
@[simp] theorem Ev.modClose_tanks (e : Ev) (l : LineId) (f : CloseRec → CloseRec) : (e.modClose l f).tanks = e.tanks := rfl
@[simp] theorem Ev.modClose_preds (e : Ev) (l : LineId) (f : CloseRec → CloseRec) : (e.modClose l f).preds = e.preds := rfl
@[simp] theorem Ev.modClose_flows (e : Ev) (l : LineId) (f : CloseRec → CloseRec) : (e.modClose l f).flows = e.flows := rfl
@[simp] theorem Ev.modClose_valves (e : Ev) (l : LineId) (f : CloseRec → CloseRec) : (e.modClose l f).valves = e.valves := rfl
@[simp] theorem Ev.modClose_chan1 (e : Ev) (l : LineId) (f : CloseRec → CloseRec) : (e.modClose l f).chan1 = e.chan1 := rfl
@[simp] theorem Ev.modClose_chan2 (e : Ev) (l : LineId) (f : CloseRec → CloseRec) : (e.modClose l f).chan2 = e.chan2 := rfl
@[simp] theorem Ev.modClose_supply (e : Ev) (l : LineId) (f : CloseRec → CloseRec) : (e.modClose l f).supply = e.supply := rfl
@[simp] theorem Ev.modClose_link (e : Ev) (l : LineId) (f : CloseRec → CloseRec) : (e.modClose l f).link = e.link := rfl
@[simp] theorem Ev.modClose_grades (e : Ev) (l : LineId) (f : CloseRec → CloseRec) : (e.modClose l f).grades = e.grades := rfl
@[simp] theorem Ev.modClose_shut (e : Ev) (l : LineId) (f : CloseRec → CloseRec) : (e.modClose l f).shut = e.shut := rfl
@[simp] theorem Ev.modClose_dirty (e : Ev) (l : LineId) (f : CloseRec → CloseRec) : (e.modClose l f).dirty = e.dirty := rfl
@[simp] theorem Ev.modClose_reports (e : Ev) (l : LineId) (f : CloseRec → CloseRec) : (e.modClose l f).reports = e.reports := rfl
@[simp] theorem Ev.modClose_undecided (e : Ev) (l : LineId) (f : CloseRec → CloseRec) : (e.modClose l f).undecided = e.undecided := rfl
@[simp] theorem Ev.modFlow_pending (e : Ev) (l : LineId) (f : Flow → Flow) : (e.modFlow l f).pending = e.pending := rfl
@[simp] theorem Ev.modFlow_now (e : Ev) (l : LineId) (f : Flow → Flow) : (e.modFlow l f).now = e.now := rfl
@[simp] theorem Ev.modFlow_freeCtr (e : Ev) (l : LineId) (f : Flow → Flow) : (e.modFlow l f).freeCtr = e.freeCtr := rfl
@[simp] theorem Ev.modFlow_rx (e : Ev) (l : LineId) (f : Flow → Flow) : (e.modFlow l f).rx = e.rx := rfl
@[simp] theorem Ev.modFlow_buf1 (e : Ev) (l : LineId) (f : Flow → Flow) : (e.modFlow l f).buf1 = e.buf1 := rfl
@[simp] theorem Ev.modFlow_buf2 (e : Ev) (l : LineId) (f : Flow → Flow) : (e.modFlow l f).buf2 = e.buf2 := rfl
@[simp] theorem Ev.modFlow_waitOrder (e : Ev) (l : LineId) (f : Flow → Flow) : (e.modFlow l f).waitOrder = e.waitOrder := rfl
@[simp] theorem Ev.modFlow_overrun (e : Ev) (l : LineId) (f : Flow → Flow) : (e.modFlow l f).overrun = e.overrun := rfl
@[simp] theorem Ev.modFlow_replyOrder (e : Ev) (l : LineId) (f : Flow → Flow) : (e.modFlow l f).replyOrder = e.replyOrder := rfl
@[simp] theorem Ev.modFlow_tx (e : Ev) (l : LineId) (f : Flow → Flow) : (e.modFlow l f).tx = e.tx := rfl
@[simp] theorem Ev.modFlow_notices (e : Ev) (l : LineId) (f : Flow → Flow) : (e.modFlow l f).notices = e.notices := rfl
@[simp] theorem Ev.modFlow_restart (e : Ev) (l : LineId) (f : Flow → Flow) : (e.modFlow l f).restart = e.restart := rfl
@[simp] theorem Ev.modFlow_restartEsd (e : Ev) (l : LineId) (f : Flow → Flow) : (e.modFlow l f).restartEsd = e.restartEsd := rfl
@[simp] theorem Ev.modFlow_lines (e : Ev) (l : LineId) (f : Flow → Flow) : (e.modFlow l f).lines = e.lines := rfl
@[simp] theorem Ev.modFlow_lists (e : Ev) (l : LineId) (f : Flow → Flow) : (e.modFlow l f).lists = e.lists := rfl
@[simp] theorem Ev.modFlow_tanks (e : Ev) (l : LineId) (f : Flow → Flow) : (e.modFlow l f).tanks = e.tanks := rfl
@[simp] theorem Ev.modFlow_preds (e : Ev) (l : LineId) (f : Flow → Flow) : (e.modFlow l f).preds = e.preds := rfl
@[simp] theorem Ev.modFlow_closes (e : Ev) (l : LineId) (f : Flow → Flow) : (e.modFlow l f).closes = e.closes := rfl
@[simp] theorem Ev.modFlow_valves (e : Ev) (l : LineId) (f : Flow → Flow) : (e.modFlow l f).valves = e.valves := rfl
@[simp] theorem Ev.modFlow_chan1 (e : Ev) (l : LineId) (f : Flow → Flow) : (e.modFlow l f).chan1 = e.chan1 := rfl
@[simp] theorem Ev.modFlow_chan2 (e : Ev) (l : LineId) (f : Flow → Flow) : (e.modFlow l f).chan2 = e.chan2 := rfl
@[simp] theorem Ev.modFlow_supply (e : Ev) (l : LineId) (f : Flow → Flow) : (e.modFlow l f).supply = e.supply := rfl
@[simp] theorem Ev.modFlow_link (e : Ev) (l : LineId) (f : Flow → Flow) : (e.modFlow l f).link = e.link := rfl
@[simp] theorem Ev.modFlow_grades (e : Ev) (l : LineId) (f : Flow → Flow) : (e.modFlow l f).grades = e.grades := rfl
@[simp] theorem Ev.modFlow_shut (e : Ev) (l : LineId) (f : Flow → Flow) : (e.modFlow l f).shut = e.shut := rfl
@[simp] theorem Ev.modFlow_dirty (e : Ev) (l : LineId) (f : Flow → Flow) : (e.modFlow l f).dirty = e.dirty := rfl
@[simp] theorem Ev.modFlow_reports (e : Ev) (l : LineId) (f : Flow → Flow) : (e.modFlow l f).reports = e.reports := rfl
@[simp] theorem Ev.modFlow_undecided (e : Ev) (l : LineId) (f : Flow → Flow) : (e.modFlow l f).undecided = e.undecided := rfl
@[simp] theorem Ev.modValve_pending (e : Ev) (l : LineId) (f : Valve → Valve) : (e.modValve l f).pending = e.pending := rfl
@[simp] theorem Ev.modValve_now (e : Ev) (l : LineId) (f : Valve → Valve) : (e.modValve l f).now = e.now := rfl
@[simp] theorem Ev.modValve_freeCtr (e : Ev) (l : LineId) (f : Valve → Valve) : (e.modValve l f).freeCtr = e.freeCtr := rfl
@[simp] theorem Ev.modValve_rx (e : Ev) (l : LineId) (f : Valve → Valve) : (e.modValve l f).rx = e.rx := rfl
@[simp] theorem Ev.modValve_buf1 (e : Ev) (l : LineId) (f : Valve → Valve) : (e.modValve l f).buf1 = e.buf1 := rfl
@[simp] theorem Ev.modValve_buf2 (e : Ev) (l : LineId) (f : Valve → Valve) : (e.modValve l f).buf2 = e.buf2 := rfl
@[simp] theorem Ev.modValve_waitOrder (e : Ev) (l : LineId) (f : Valve → Valve) : (e.modValve l f).waitOrder = e.waitOrder := rfl
@[simp] theorem Ev.modValve_overrun (e : Ev) (l : LineId) (f : Valve → Valve) : (e.modValve l f).overrun = e.overrun := rfl
@[simp] theorem Ev.modValve_replyOrder (e : Ev) (l : LineId) (f : Valve → Valve) : (e.modValve l f).replyOrder = e.replyOrder := rfl
@[simp] theorem Ev.modValve_tx (e : Ev) (l : LineId) (f : Valve → Valve) : (e.modValve l f).tx = e.tx := rfl
@[simp] theorem Ev.modValve_notices (e : Ev) (l : LineId) (f : Valve → Valve) : (e.modValve l f).notices = e.notices := rfl
@[simp] theorem Ev.modValve_restart (e : Ev) (l : LineId) (f : Valve → Valve) : (e.modValve l f).restart = e.restart := rfl
@[simp] theorem Ev.modValve_restartEsd (e : Ev) (l : LineId) (f : Valve → Valve) : (e.modValve l f).restartEsd = e.restartEsd := rfl
@[simp] theorem Ev.modValve_lines (e : Ev) (l : LineId) (f : Valve → Valve) : (e.modValve l f).lines = e.lines := rfl
@[simp] theorem Ev.modValve_lists (e : Ev) (l : LineId) (f : Valve → Valve) : (e.modValve l f).lists = e.lists := rfl
@[simp] theorem Ev.modValve_tanks (e : Ev) (l : LineId) (f : Valve → Valve) : (e.modValve l f).tanks = e.tanks := rfl
@[simp] theorem Ev.modValve_preds (e : Ev) (l : LineId) (f : Valve → Valve) : (e.modValve l f).preds = e.preds := rfl
@[simp] theorem Ev.modValve_closes (e : Ev) (l : LineId) (f : Valve → Valve) : (e.modValve l f).closes = e.closes := rfl
@[simp] theorem Ev.modValve_flows (e : Ev) (l : LineId) (f : Valve → Valve) : (e.modValve l f).flows = e.flows := rfl
@[simp] theorem Ev.modValve_chan1 (e : Ev) (l : LineId) (f : Valve → Valve) : (e.modValve l f).chan1 = e.chan1 := rfl
@[simp] theorem Ev.modValve_chan2 (e : Ev) (l : LineId) (f : Valve → Valve) : (e.modValve l f).chan2 = e.chan2 := rfl
@[simp] theorem Ev.modValve_supply (e : Ev) (l : LineId) (f : Valve → Valve) : (e.modValve l f).supply = e.supply := rfl
@[simp] theorem Ev.modValve_link (e : Ev) (l : LineId) (f : Valve → Valve) : (e.modValve l f).link = e.link := rfl
@[simp] theorem Ev.modValve_grades (e : Ev) (l : LineId) (f : Valve → Valve) : (e.modValve l f).grades = e.grades := rfl
@[simp] theorem Ev.modValve_shut (e : Ev) (l : LineId) (f : Valve → Valve) : (e.modValve l f).shut = e.shut := rfl
@[simp] theorem Ev.modValve_dirty (e : Ev) (l : LineId) (f : Valve → Valve) : (e.modValve l f).dirty = e.dirty := rfl
@[simp] theorem Ev.modValve_reports (e : Ev) (l : LineId) (f : Valve → Valve) : (e.modValve l f).reports = e.reports := rfl
@[simp] theorem Ev.modValve_undecided (e : Ev) (l : LineId) (f : Valve → Valve) : (e.modValve l f).undecided = e.undecided := rfl
@[simp] theorem Ev.modTank_pending (e : Ev) (k : TankId) (f : Tank → Tank) : (e.modTank k f).pending = e.pending := rfl
@[simp] theorem Ev.modTank_now (e : Ev) (k : TankId) (f : Tank → Tank) : (e.modTank k f).now = e.now := rfl
@[simp] theorem Ev.modTank_freeCtr (e : Ev) (k : TankId) (f : Tank → Tank) : (e.modTank k f).freeCtr = e.freeCtr := rfl
@[simp] theorem Ev.modTank_rx (e : Ev) (k : TankId) (f : Tank → Tank) : (e.modTank k f).rx = e.rx := rfl
@[simp] theorem Ev.modTank_buf1 (e : Ev) (k : TankId) (f : Tank → Tank) : (e.modTank k f).buf1 = e.buf1 := rfl
@[simp] theorem Ev.modTank_buf2 (e : Ev) (k : TankId) (f : Tank → Tank) : (e.modTank k f).buf2 = e.buf2 := rfl
@[simp] theorem Ev.modTank_waitOrder (e : Ev) (k : TankId) (f : Tank → Tank) : (e.modTank k f).waitOrder = e.waitOrder := rfl
@[simp] theorem Ev.modTank_overrun (e : Ev) (k : TankId) (f : Tank → Tank) : (e.modTank k f).overrun = e.overrun := rfl
@[simp] theorem Ev.modTank_replyOrder (e : Ev) (k : TankId) (f : Tank → Tank) : (e.modTank k f).replyOrder = e.replyOrder := rfl
@[simp] theorem Ev.modTank_tx (e : Ev) (k : TankId) (f : Tank → Tank) : (e.modTank k f).tx = e.tx := rfl
@[simp] theorem Ev.modTank_notices (e : Ev) (k : TankId) (f : Tank → Tank) : (e.modTank k f).notices = e.notices := rfl
@[simp] theorem Ev.modTank_restart (e : Ev) (k : TankId) (f : Tank → Tank) : (e.modTank k f).restart = e.restart := rfl
@[simp] theorem Ev.modTank_restartEsd (e : Ev) (k : TankId) (f : Tank → Tank) : (e.modTank k f).restartEsd = e.restartEsd := rfl
@[simp] theorem Ev.modTank_lines (e : Ev) (k : TankId) (f : Tank → Tank) : (e.modTank k f).lines = e.lines := rfl
@[simp] theorem Ev.modTank_lists (e : Ev) (k : TankId) (f : Tank → Tank) : (e.modTank k f).lists = e.lists := rfl
@[simp] theorem Ev.modTank_preds (e : Ev) (k : TankId) (f : Tank → Tank) : (e.modTank k f).preds = e.preds := rfl
@[simp] theorem Ev.modTank_closes (e : Ev) (k : TankId) (f : Tank → Tank) : (e.modTank k f).closes = e.closes := rfl
@[simp] theorem Ev.modTank_flows (e : Ev) (k : TankId) (f : Tank → Tank) : (e.modTank k f).flows = e.flows := rfl
@[simp] theorem Ev.modTank_valves (e : Ev) (k : TankId) (f : Tank → Tank) : (e.modTank k f).valves = e.valves := rfl
@[simp] theorem Ev.modTank_chan1 (e : Ev) (k : TankId) (f : Tank → Tank) : (e.modTank k f).chan1 = e.chan1 := rfl
@[simp] theorem Ev.modTank_chan2 (e : Ev) (k : TankId) (f : Tank → Tank) : (e.modTank k f).chan2 = e.chan2 := rfl
@[simp] theorem Ev.modTank_supply (e : Ev) (k : TankId) (f : Tank → Tank) : (e.modTank k f).supply = e.supply := rfl
@[simp] theorem Ev.modTank_link (e : Ev) (k : TankId) (f : Tank → Tank) : (e.modTank k f).link = e.link := rfl
@[simp] theorem Ev.modTank_grades (e : Ev) (k : TankId) (f : Tank → Tank) : (e.modTank k f).grades = e.grades := rfl
@[simp] theorem Ev.modTank_shut (e : Ev) (k : TankId) (f : Tank → Tank) : (e.modTank k f).shut = e.shut := rfl
@[simp] theorem Ev.modTank_dirty (e : Ev) (k : TankId) (f : Tank → Tank) : (e.modTank k f).dirty = e.dirty := rfl
@[simp] theorem Ev.modTank_reports (e : Ev) (k : TankId) (f : Tank → Tank) : (e.modTank k f).reports = e.reports := rfl
@[simp] theorem Ev.modTank_undecided (e : Ev) (k : TankId) (f : Tank → Tank) : (e.modTank k f).undecided = e.undecided := rfl
@[simp] theorem Ev.modGrade_pending (e : Ev) (g : GradeId) (f : Grade → Grade) : (e.modGrade g f).pending = e.pending := rfl
@[simp] theorem Ev.modGrade_now (e : Ev) (g : GradeId) (f : Grade → Grade) : (e.modGrade g f).now = e.now := rfl
@[simp] theorem Ev.modGrade_freeCtr (e : Ev) (g : GradeId) (f : Grade → Grade) : (e.modGrade g f).freeCtr = e.freeCtr := rfl
@[simp] theorem Ev.modGrade_rx (e : Ev) (g : GradeId) (f : Grade → Grade) : (e.modGrade g f).rx = e.rx := rfl
@[simp] theorem Ev.modGrade_buf1 (e : Ev) (g : GradeId) (f : Grade → Grade) : (e.modGrade g f).buf1 = e.buf1 := rfl
@[simp] theorem Ev.modGrade_buf2 (e : Ev) (g : GradeId) (f : Grade → Grade) : (e.modGrade g f).buf2 = e.buf2 := rfl
@[simp] theorem Ev.modGrade_waitOrder (e : Ev) (g : GradeId) (f : Grade → Grade) : (e.modGrade g f).waitOrder = e.waitOrder := rfl
@[simp] theorem Ev.modGrade_overrun (e : Ev) (g : GradeId) (f : Grade → Grade) : (e.modGrade g f).overrun = e.overrun := rfl
@[simp] theorem Ev.modGrade_replyOrder (e : Ev) (g : GradeId) (f : Grade → Grade) : (e.modGrade g f).replyOrder = e.replyOrder := rfl
@[simp] theorem Ev.modGrade_tx (e : Ev) (g : GradeId) (f : Grade → Grade) : (e.modGrade g f).tx = e.tx := rfl
@[simp] theorem Ev.modGrade_notices (e : Ev) (g : GradeId) (f : Grade → Grade) : (e.modGrade g f).notices = e.notices := rfl
@[simp] theorem Ev.modGrade_restart (e : Ev) (g : GradeId) (f : Grade → Grade) : (e.modGrade g f).restart = e.restart := rfl
@[simp] theorem Ev.modGrade_restartEsd (e : Ev) (g : GradeId) (f : Grade → Grade) : (e.modGrade g f).restartEsd = e.restartEsd := rfl
@[simp] theorem Ev.modGrade_lines (e : Ev) (g : GradeId) (f : Grade → Grade) : (e.modGrade g f).lines = e.lines := rfl
@[simp] theorem Ev.modGrade_lists (e : Ev) (g : GradeId) (f : Grade → Grade) : (e.modGrade g f).lists = e.lists := rfl
@[simp] theorem Ev.modGrade_tanks (e : Ev) (g : GradeId) (f : Grade → Grade) : (e.modGrade g f).tanks = e.tanks := rfl
@[simp] theorem Ev.modGrade_preds (e : Ev) (g : GradeId) (f : Grade → Grade) : (e.modGrade g f).preds = e.preds := rfl
@[simp] theorem Ev.modGrade_closes (e : Ev) (g : GradeId) (f : Grade → Grade) : (e.modGrade g f).closes = e.closes := rfl
@[simp] theorem Ev.modGrade_flows (e : Ev) (g : GradeId) (f : Grade → Grade) : (e.modGrade g f).flows = e.flows := rfl
@[simp] theorem Ev.modGrade_valves (e : Ev) (g : GradeId) (f : Grade → Grade) : (e.modGrade g f).valves = e.valves := rfl
@[simp] theorem Ev.modGrade_chan1 (e : Ev) (g : GradeId) (f : Grade → Grade) : (e.modGrade g f).chan1 = e.chan1 := rfl
@[simp] theorem Ev.modGrade_chan2 (e : Ev) (g : GradeId) (f : Grade → Grade) : (e.modGrade g f).chan2 = e.chan2 := rfl
@[simp] theorem Ev.modGrade_supply (e : Ev) (g : GradeId) (f : Grade → Grade) : (e.modGrade g f).supply = e.supply := rfl
@[simp] theorem Ev.modGrade_link (e : Ev) (g : GradeId) (f : Grade → Grade) : (e.modGrade g f).link = e.link := rfl
@[simp] theorem Ev.modGrade_shut (e : Ev) (g : GradeId) (f : Grade → Grade) : (e.modGrade g f).shut = e.shut := rfl
@[simp] theorem Ev.modGrade_dirty (e : Ev) (g : GradeId) (f : Grade → Grade) : (e.modGrade g f).dirty = e.dirty := rfl
@[simp] theorem Ev.modGrade_reports (e : Ev) (g : GradeId) (f : Grade → Grade) : (e.modGrade g f).reports = e.reports := rfl
@[simp] theorem Ev.modGrade_undecided (e : Ev) (g : GradeId) (f : Grade → Grade) : (e.modGrade g f).undecided = e.undecided := rfl
@[simp] theorem Ev.modLink_pending (e : Ev) (f : Link → Link) : (e.modLink f).pending = e.pending := rfl
@[simp] theorem Ev.modLink_now (e : Ev) (f : Link → Link) : (e.modLink f).now = e.now := rfl
@[simp] theorem Ev.modLink_freeCtr (e : Ev) (f : Link → Link) : (e.modLink f).freeCtr = e.freeCtr := rfl
@[simp] theorem Ev.modLink_rx (e : Ev) (f : Link → Link) : (e.modLink f).rx = e.rx := rfl
@[simp] theorem Ev.modLink_buf1 (e : Ev) (f : Link → Link) : (e.modLink f).buf1 = e.buf1 := rfl
@[simp] theorem Ev.modLink_buf2 (e : Ev) (f : Link → Link) : (e.modLink f).buf2 = e.buf2 := rfl
@[simp] theorem Ev.modLink_waitOrder (e : Ev) (f : Link → Link) : (e.modLink f).waitOrder = e.waitOrder := rfl
@[simp] theorem Ev.modLink_overrun (e : Ev) (f : Link → Link) : (e.modLink f).overrun = e.overrun := rfl
@[simp] theorem Ev.modLink_replyOrder (e : Ev) (f : Link → Link) : (e.modLink f).replyOrder = e.replyOrder := rfl
@[simp] theorem Ev.modLink_tx (e : Ev) (f : Link → Link) : (e.modLink f).tx = e.tx := rfl
@[simp] theorem Ev.modLink_notices (e : Ev) (f : Link → Link) : (e.modLink f).notices = e.notices := rfl
@[simp] theorem Ev.modLink_restart (e : Ev) (f : Link → Link) : (e.modLink f).restart = e.restart := rfl
@[simp] theorem Ev.modLink_restartEsd (e : Ev) (f : Link → Link) : (e.modLink f).restartEsd = e.restartEsd := rfl
@[simp] theorem Ev.modLink_lines (e : Ev) (f : Link → Link) : (e.modLink f).lines = e.lines := rfl
@[simp] theorem Ev.modLink_lists (e : Ev) (f : Link → Link) : (e.modLink f).lists = e.lists := rfl
@[simp] theorem Ev.modLink_tanks (e : Ev) (f : Link → Link) : (e.modLink f).tanks = e.tanks := rfl
@[simp] theorem Ev.modLink_preds (e : Ev) (f : Link → Link) : (e.modLink f).preds = e.preds := rfl
@[simp] theorem Ev.modLink_closes (e : Ev) (f : Link → Link) : (e.modLink f).closes = e.closes := rfl
@[simp] theorem Ev.modLink_flows (e : Ev) (f : Link → Link) : (e.modLink f).flows = e.flows := rfl
@[simp] theorem Ev.modLink_valves (e : Ev) (f : Link → Link) : (e.modLink f).valves = e.valves := rfl
@[simp] theorem Ev.modLink_chan1 (e : Ev) (f : Link → Link) : (e.modLink f).chan1 = e.chan1 := rfl
@[simp] theorem Ev.modLink_chan2 (e : Ev) (f : Link → Link) : (e.modLink f).chan2 = e.chan2 := rfl
@[simp] theorem Ev.modLink_supply (e : Ev) (f : Link → Link) : (e.modLink f).supply = e.supply := rfl
@[simp] theorem Ev.modLink_grades (e : Ev) (f : Link → Link) : (e.modLink f).grades = e.grades := rfl
@[simp] theorem Ev.modLink_shut (e : Ev) (f : Link → Link) : (e.modLink f).shut = e.shut := rfl
@[simp] theorem Ev.modLink_dirty (e : Ev) (f : Link → Link) : (e.modLink f).dirty = e.dirty := rfl
@[simp] theorem Ev.modLink_reports (e : Ev) (f : Link → Link) : (e.modLink f).reports = e.reports := rfl
@[simp] theorem Ev.modLink_undecided (e : Ev) (f : Link → Link) : (e.modLink f).undecided = e.undecided := rfl
@[simp] theorem Ev.modShut_pending (e : Ev) (f : Shutdown → Shutdown) : (e.modShut f).pending = e.pending := rfl
@[simp] theorem Ev.modShut_now (e : Ev) (f : Shutdown → Shutdown) : (e.modShut f).now = e.now := rfl
@[simp] theorem Ev.modShut_freeCtr (e : Ev) (f : Shutdown → Shutdown) : (e.modShut f).freeCtr = e.freeCtr := rfl
@[simp] theorem Ev.modShut_rx (e : Ev) (f : Shutdown → Shutdown) : (e.modShut f).rx = e.rx := rfl
@[simp] theorem Ev.modShut_buf1 (e : Ev) (f : Shutdown → Shutdown) : (e.modShut f).buf1 = e.buf1 := rfl
@[simp] theorem Ev.modShut_buf2 (e : Ev) (f : Shutdown → Shutdown) : (e.modShut f).buf2 = e.buf2 := rfl
@[simp] theorem Ev.modShut_waitOrder (e : Ev) (f : Shutdown → Shutdown) : (e.modShut f).waitOrder = e.waitOrder := rfl
@[simp] theorem Ev.modShut_overrun (e : Ev) (f : Shutdown → Shutdown) : (e.modShut f).overrun = e.overrun := rfl
@[simp] theorem Ev.modShut_replyOrder (e : Ev) (f : Shutdown → Shutdown) : (e.modShut f).replyOrder = e.replyOrder := rfl
@[simp] theorem Ev.modShut_tx (e : Ev) (f : Shutdown → Shutdown) : (e.modShut f).tx = e.tx := rfl
@[simp] theorem Ev.modShut_notices (e : Ev) (f : Shutdown → Shutdown) : (e.modShut f).notices = e.notices := rfl
@[simp] theorem Ev.modShut_restart (e : Ev) (f : Shutdown → Shutdown) : (e.modShut f).restart = e.restart := rfl
@[simp] theorem Ev.modShut_restartEsd (e : Ev) (f : Shutdown → Shutdown) : (e.modShut f).restartEsd = e.restartEsd := rfl
@[simp] theorem Ev.modShut_lines (e : Ev) (f : Shutdown → Shutdown) : (e.modShut f).lines = e.lines := rfl
@[simp] theorem Ev.modShut_lists (e : Ev) (f : Shutdown → Shutdown) : (e.modShut f).lists = e.lists := rfl
@[simp] theorem Ev.modShut_tanks (e : Ev) (f : Shutdown → Shutdown) : (e.modShut f).tanks = e.tanks := rfl
@[simp] theorem Ev.modShut_preds (e : Ev) (f : Shutdown → Shutdown) : (e.modShut f).preds = e.preds := rfl
@[simp] theorem Ev.modShut_closes (e : Ev) (f : Shutdown → Shutdown) : (e.modShut f).closes = e.closes := rfl
@[simp] theorem Ev.modShut_flows (e : Ev) (f : Shutdown → Shutdown) : (e.modShut f).flows = e.flows := rfl
@[simp] theorem Ev.modShut_valves (e : Ev) (f : Shutdown → Shutdown) : (e.modShut f).valves = e.valves := rfl
@[simp] theorem Ev.modShut_chan1 (e : Ev) (f : Shutdown → Shutdown) : (e.modShut f).chan1 = e.chan1 := rfl
@[simp] theorem Ev.modShut_chan2 (e : Ev) (f : Shutdown → Shutdown) : (e.modShut f).chan2 = e.chan2 := rfl
@[simp] theorem Ev.modShut_supply (e : Ev) (f : Shutdown → Shutdown) : (e.modShut f).supply = e.supply := rfl
@[simp] theorem Ev.modShut_link (e : Ev) (f : Shutdown → Shutdown) : (e.modShut f).link = e.link := rfl
@[simp] theorem Ev.modShut_grades (e : Ev) (f : Shutdown → Shutdown) : (e.modShut f).grades = e.grades := rfl
@[simp] theorem Ev.modShut_dirty (e : Ev) (f : Shutdown → Shutdown) : (e.modShut f).dirty = e.dirty := rfl
@[simp] theorem Ev.modShut_reports (e : Ev) (f : Shutdown → Shutdown) : (e.modShut f).reports = e.reports := rfl
@[simp] theorem Ev.modShut_undecided (e : Ev) (f : Shutdown → Shutdown) : (e.modShut f).undecided = e.undecided := rfl
@[simp] theorem Ev.modSupply_pending (e : Ev) (f : Supply → Supply) : (e.modSupply f).pending = e.pending := rfl
@[simp] theorem Ev.modSupply_now (e : Ev) (f : Supply → Supply) : (e.modSupply f).now = e.now := rfl
@[simp] theorem Ev.modSupply_freeCtr (e : Ev) (f : Supply → Supply) : (e.modSupply f).freeCtr = e.freeCtr := rfl
@[simp] theorem Ev.modSupply_rx (e : Ev) (f : Supply → Supply) : (e.modSupply f).rx = e.rx := rfl
@[simp] theorem Ev.modSupply_buf1 (e : Ev) (f : Supply → Supply) : (e.modSupply f).buf1 = e.buf1 := rfl
@[simp] theorem Ev.modSupply_buf2 (e : Ev) (f : Supply → Supply) : (e.modSupply f).buf2 = e.buf2 := rfl
@[simp] theorem Ev.modSupply_waitOrder (e : Ev) (f : Supply → Supply) : (e.modSupply f).waitOrder = e.waitOrder := rfl
@[simp] theorem Ev.modSupply_overrun (e : Ev) (f : Supply → Supply) : (e.modSupply f).overrun = e.overrun := rfl
@[simp] theorem Ev.modSupply_replyOrder (e : Ev) (f : Supply → Supply) : (e.modSupply f).replyOrder = e.replyOrder := rfl
@[simp] theorem Ev.modSupply_tx (e : Ev) (f : Supply → Supply) : (e.modSupply f).tx = e.tx := rfl
@[simp] theorem Ev.modSupply_notices (e : Ev) (f : Supply → Supply) : (e.modSupply f).notices = e.notices := rfl
@[simp] theorem Ev.modSupply_restart (e : Ev) (f : Supply → Supply) : (e.modSupply f).restart = e.restart := rfl
@[simp] theorem Ev.modSupply_restartEsd (e : Ev) (f : Supply → Supply) : (e.modSupply f).restartEsd = e.restartEsd := rfl
@[simp] theorem Ev.modSupply_lines (e : Ev) (f : Supply → Supply) : (e.modSupply f).lines = e.lines := rfl
@[simp] theorem Ev.modSupply_lists (e : Ev) (f : Supply → Supply) : (e.modSupply f).lists = e.lists := rfl
@[simp] theorem Ev.modSupply_tanks (e : Ev) (f : Supply → Supply) : (e.modSupply f).tanks = e.tanks := rfl
@[simp] theorem Ev.modSupply_preds (e : Ev) (f : Supply → Supply) : (e.modSupply f).preds = e.preds := rfl
@[simp] theorem Ev.modSupply_closes (e : Ev) (f : Supply → Supply) : (e.modSupply f).closes = e.closes := rfl
@[simp] theorem Ev.modSupply_flows (e : Ev) (f : Supply → Supply) : (e.modSupply f).flows = e.flows := rfl
@[simp] theorem Ev.modSupply_valves (e : Ev) (f : Supply → Supply) : (e.modSupply f).valves = e.valves := rfl
@[simp] theorem Ev.modSupply_chan1 (e : Ev) (f : Supply → Supply) : (e.modSupply f).chan1 = e.chan1 := rfl
@[simp] theorem Ev.modSupply_chan2 (e : Ev) (f : Supply → Supply) : (e.modSupply f).chan2 = e.chan2 := rfl
@[simp] theorem Ev.modSupply_link (e : Ev) (f : Supply → Supply) : (e.modSupply f).link = e.link := rfl
@[simp] theorem Ev.modSupply_grades (e : Ev) (f : Supply → Supply) : (e.modSupply f).grades = e.grades := rfl
@[simp] theorem Ev.modSupply_shut (e : Ev) (f : Supply → Supply) : (e.modSupply f).shut = e.shut := rfl
@[simp] theorem Ev.modSupply_dirty (e : Ev) (f : Supply → Supply) : (e.modSupply f).dirty = e.dirty := rfl
@[simp] theorem Ev.modSupply_reports (e : Ev) (f : Supply → Supply) : (e.modSupply f).reports = e.reports := rfl
@[simp] theorem Ev.modSupply_undecided (e : Ev) (f : Supply → Supply) : (e.modSupply f).undecided = e.undecided := rfl
@[simp] theorem Ev.report_pending (e : Ev) (r : Report) : (e.report r).pending = e.pending := rfl
@[simp] theorem Ev.report_now (e : Ev) (r : Report) : (e.report r).now = e.now := rfl
@[simp] theorem Ev.report_freeCtr (e : Ev) (r : Report) : (e.report r).freeCtr = e.freeCtr := rfl
@[simp] theorem Ev.report_rx (e : Ev) (r : Report) : (e.report r).rx = e.rx := rfl
@[simp] theorem Ev.report_buf1 (e : Ev) (r : Report) : (e.report r).buf1 = e.buf1 := rfl
@[simp] theorem Ev.report_buf2 (e : Ev) (r : Report) : (e.report r).buf2 = e.buf2 := rfl
@[simp] theorem Ev.report_waitOrder (e : Ev) (r : Report) : (e.report r).waitOrder = e.waitOrder := rfl
@[simp] theorem Ev.report_overrun (e : Ev) (r : Report) : (e.report r).overrun = e.overrun := rfl
@[simp] theorem Ev.report_replyOrder (e : Ev) (r : Report) : (e.report r).replyOrder = e.replyOrder := rfl
@[simp] theorem Ev.report_tx (e : Ev) (r : Report) : (e.report r).tx = e.tx := rfl
@[simp] theorem Ev.report_notices (e : Ev) (r : Report) : (e.report r).notices = e.notices := rfl
@[simp] theorem Ev.report_restart (e : Ev) (r : Report) : (e.report r).restart = e.restart := rfl
@[simp] theorem Ev.report_restartEsd (e : Ev) (r : Report) : (e.report r).restartEsd = e.restartEsd := rfl
@[simp] theorem Ev.report_lines (e : Ev) (r : Report) : (e.report r).lines = e.lines := rfl
@[simp] theorem Ev.report_lists (e : Ev) (r : Report) : (e.report r).lists = e.lists := rfl
@[simp] theorem Ev.report_tanks (e : Ev) (r : Report) : (e.report r).tanks = e.tanks := rfl
@[simp] theorem Ev.report_preds (e : Ev) (r : Report) : (e.report r).preds = e.preds := rfl
@[simp] theorem Ev.report_closes (e : Ev) (r : Report) : (e.report r).closes = e.closes := rfl
@[simp] theorem Ev.report_flows (e : Ev) (r : Report) : (e.report r).flows = e.flows := rfl
@[simp] theorem Ev.report_valves (e : Ev) (r : Report) : (e.report r).valves = e.valves := rfl
@[simp] theorem Ev.report_chan1 (e : Ev) (r : Report) : (e.report r).chan1 = e.chan1 := rfl
@[simp] theorem Ev.report_chan2 (e : Ev) (r : Report) : (e.report r).chan2 = e.chan2 := rfl
@[simp] theorem Ev.report_supply (e : Ev) (r : Report) : (e.report r).supply = e.supply := rfl
@[simp] theorem Ev.report_link (e : Ev) (r : Report) : (e.report r).link = e.link := rfl
@[simp] theorem Ev.report_grades (e : Ev) (r : Report) : (e.report r).grades = e.grades := rfl
@[simp] theorem Ev.report_shut (e : Ev) (r : Report) : (e.report r).shut = e.shut := rfl
@[simp] theorem Ev.report_dirty (e : Ev) (r : Report) : (e.report r).dirty = e.dirty := rfl
@[simp] theorem Ev.report_undecided (e : Ev) (r : Report) : (e.report r).undecided = e.undecided := rfl
@[simp] theorem Ev.mark_pending (e : Ev) (k : NoticeKey) : (e.mark k).pending = e.pending := by unfold Ev.mark; split <;> rfl
@[simp] theorem Ev.markIf_pending (e : Ev) (c : Bool) (k : NoticeKey) : (e.markIf c k).pending = e.pending := by cases c <;> simp [Ev.markIf]
@[simp] theorem Ev.mark_now (e : Ev) (k : NoticeKey) : (e.mark k).now = e.now := by unfold Ev.mark; split <;> rfl
@[simp] theorem Ev.markIf_now (e : Ev) (c : Bool) (k : NoticeKey) : (e.markIf c k).now = e.now := by cases c <;> simp [Ev.markIf]
@[simp] theorem Ev.mark_freeCtr (e : Ev) (k : NoticeKey) : (e.mark k).freeCtr = e.freeCtr := by unfold Ev.mark; split <;> rfl
@[simp] theorem Ev.markIf_freeCtr (e : Ev) (c : Bool) (k : NoticeKey) : (e.markIf c k).freeCtr = e.freeCtr := by cases c <;> simp [Ev.markIf]
@[simp] theorem Ev.mark_rx (e : Ev) (k : NoticeKey) : (e.mark k).rx = e.rx := by unfold Ev.mark; split <;> rfl
@[simp] theorem Ev.markIf_rx (e : Ev) (c : Bool) (k : NoticeKey) : (e.markIf c k).rx = e.rx := by cases c <;> simp [Ev.markIf]
@[simp] theorem Ev.mark_buf1 (e : Ev) (k : NoticeKey) : (e.mark k).buf1 = e.buf1 := by unfold Ev.mark; split <;> rfl
@[simp] theorem Ev.markIf_buf1 (e : Ev) (c : Bool) (k : NoticeKey) : (e.markIf c k).buf1 = e.buf1 := by cases c <;> simp [Ev.markIf]
@[simp] theorem Ev.mark_buf2 (e : Ev) (k : NoticeKey) : (e.mark k).buf2 = e.buf2 := by unfold Ev.mark; split <;> rfl
@[simp] theorem Ev.markIf_buf2 (e : Ev) (c : Bool) (k : NoticeKey) : (e.markIf c k).buf2 = e.buf2 := by cases c <;> simp [Ev.markIf]
@[simp] theorem Ev.mark_waitOrder (e : Ev) (k : NoticeKey) : (e.mark k).waitOrder = e.waitOrder := by unfold Ev.mark; split <;> rfl
@[simp] theorem Ev.markIf_waitOrder (e : Ev) (c : Bool) (k : NoticeKey) : (e.markIf c k).waitOrder = e.waitOrder := by cases c <;> simp [Ev.markIf]
@[simp] theorem Ev.mark_overrun (e : Ev) (k : NoticeKey) : (e.mark k).overrun = e.overrun := by unfold Ev.mark; split <;> rfl
@[simp] theorem Ev.markIf_overrun (e : Ev) (c : Bool) (k : NoticeKey) : (e.markIf c k).overrun = e.overrun := by cases c <;> simp [Ev.markIf]
@[simp] theorem Ev.mark_replyOrder (e : Ev) (k : NoticeKey) : (e.mark k).replyOrder = e.replyOrder := by unfold Ev.mark; split <;> rfl
@[simp] theorem Ev.markIf_replyOrder (e : Ev) (c : Bool) (k : NoticeKey) : (e.markIf c k).replyOrder = e.replyOrder := by cases c <;> simp [Ev.markIf]
@[simp] theorem Ev.mark_tx (e : Ev) (k : NoticeKey) : (e.mark k).tx = e.tx := by unfold Ev.mark; split <;> rfl
@[simp] theorem Ev.markIf_tx (e : Ev) (c : Bool) (k : NoticeKey) : (e.markIf c k).tx = e.tx := by cases c <;> simp [Ev.markIf]
@[simp] theorem Ev.mark_notices (e : Ev) (k : NoticeKey) : (e.mark k).notices = e.notices := by unfold Ev.mark; split <;> rfl
@[simp] theorem Ev.markIf_notices (e : Ev) (c : Bool) (k : NoticeKey) : (e.markIf c k).notices = e.notices := by cases c <;> simp [Ev.markIf]
@[simp] theorem Ev.mark_restart (e : Ev) (k : NoticeKey) : (e.mark k).restart = e.restart := by unfold Ev.mark; split <;> rfl
@[simp] theorem Ev.markIf_restart (e : Ev) (c : Bool) (k : NoticeKey) : (e.markIf c k).restart = e.restart := by cases c <;> simp [Ev.markIf]
@[simp] theorem Ev.mark_restartEsd (e : Ev) (k : NoticeKey) : (e.mark k).restartEsd = e.restartEsd := by unfold Ev.mark; split <;> rfl
@[simp] theorem Ev.markIf_restartEsd (e : Ev) (c : Bool) (k : NoticeKey) : (e.markIf c k).restartEsd = e.restartEsd := by cases c <;> simp [Ev.markIf]
@[simp] theorem Ev.mark_lines (e : Ev) (k : NoticeKey) : (e.mark k).lines = e.lines := by unfold Ev.mark; split <;> rfl
@[simp] theorem Ev.markIf_lines (e : Ev) (c : Bool) (k : NoticeKey) : (e.markIf c k).lines = e.lines := by cases c <;> simp [Ev.markIf]
@[simp] theorem Ev.mark_lists (e : Ev) (k : NoticeKey) : (e.mark k).lists = e.lists := by unfold Ev.mark; split <;> rfl
@[simp] theorem Ev.markIf_lists (e : Ev) (c : Bool) (k : NoticeKey) : (e.markIf c k).lists = e.lists := by cases c <;> simp [Ev.markIf]
@[simp] theorem Ev.mark_tanks (e : Ev) (k : NoticeKey) : (e.mark k).tanks = e.tanks := by unfold Ev.mark; split <;> rfl
@[simp] theorem Ev.markIf_tanks (e : Ev) (c : Bool) (k : NoticeKey) : (e.markIf c k).tanks = e.tanks := by cases c <;> simp [Ev.markIf]
@[simp] theorem Ev.mark_preds (e : Ev) (k : NoticeKey) : (e.mark k).preds = e.preds := by unfold Ev.mark; split <;> rfl
@[simp] theorem Ev.markIf_preds (e : Ev) (c : Bool) (k : NoticeKey) : (e.markIf c k).preds = e.preds := by cases c <;> simp [Ev.markIf]
@[simp] theorem Ev.mark_closes (e : Ev) (k : NoticeKey) : (e.mark k).closes = e.closes := by unfold Ev.mark; split <;> rfl
@[simp] theorem Ev.markIf_closes (e : Ev) (c : Bool) (k : NoticeKey) : (e.markIf c k).closes = e.closes := by cases c <;> simp [Ev.markIf]
@[simp] theorem Ev.mark_flows (e : Ev) (k : NoticeKey) : (e.mark k).flows = e.flows := by unfold Ev.mark; split <;> rfl
@[simp] theorem Ev.markIf_flows (e : Ev) (c : Bool) (k : NoticeKey) : (e.markIf c k).flows = e.flows := by cases c <;> simp [Ev.markIf]
@[simp] theorem Ev.mark_valves (e : Ev) (k : NoticeKey) : (e.mark k).valves = e.valves := by unfold Ev.mark; split <;> rfl
@[simp] theorem Ev.markIf_valves (e : Ev) (c : Bool) (k : NoticeKey) : (e.markIf c k).valves = e.valves := by cases c <;> simp [Ev.markIf]
@[simp] theorem Ev.mark_chan1 (e : Ev) (k : NoticeKey) : (e.mark k).chan1 = e.chan1 := by unfold Ev.mark; split <;> rfl
@[simp] theorem Ev.markIf_chan1 (e : Ev) (c : Bool) (k : NoticeKey) : (e.markIf c k).chan1 = e.chan1 := by cases c <;> simp [Ev.markIf]
@[simp] theorem Ev.mark_chan2 (e : Ev) (k : NoticeKey) : (e.mark k).chan2 = e.chan2 := by unfold Ev.mark; split <;> rfl
@[simp] theorem Ev.markIf_chan2 (e : Ev) (c : Bool) (k : NoticeKey) : (e.markIf c k).chan2 = e.chan2 := by cases c <;> simp [Ev.markIf]
@[simp] theorem Ev.mark_supply (e : Ev) (k : NoticeKey) : (e.mark k).supply = e.supply := by unfold Ev.mark; split <;> rfl
@[simp] theorem Ev.markIf_supply (e : Ev) (c : Bool) (k : NoticeKey) : (e.markIf c k).supply = e.supply := by cases c <;> simp [Ev.markIf]
@[simp] theorem Ev.mark_link (e : Ev) (k : NoticeKey) : (e.mark k).link = e.link := by unfold Ev.mark; split <;> rfl
@[simp] theorem Ev.markIf_link (e : Ev) (c : Bool) (k : NoticeKey) : (e.markIf c k).link = e.link := by cases c <;> simp [Ev.markIf]
@[simp] theorem Ev.mark_grades (e : Ev) (k : NoticeKey) : (e.mark k).grades = e.grades := by unfold Ev.mark; split <;> rfl
@[simp] theorem Ev.markIf_grades (e : Ev) (c : Bool) (k : NoticeKey) : (e.markIf c k).grades = e.grades := by cases c <;> simp [Ev.markIf]
@[simp] theorem Ev.mark_shut (e : Ev) (k : NoticeKey) : (e.mark k).shut = e.shut := by unfold Ev.mark; split <;> rfl
@[simp] theorem Ev.markIf_shut (e : Ev) (c : Bool) (k : NoticeKey) : (e.markIf c k).shut = e.shut := by cases c <;> simp [Ev.markIf]
@[simp] theorem Ev.mark_reports (e : Ev) (k : NoticeKey) : (e.mark k).reports = e.reports := by unfold Ev.mark; split <;> rfl
@[simp] theorem Ev.markIf_reports (e : Ev) (c : Bool) (k : NoticeKey) : (e.markIf c k).reports = e.reports := by cases c <;> simp [Ev.markIf]
@[simp] theorem Ev.mark_undecided (e : Ev) (k : NoticeKey) : (e.mark k).undecided = e.undecided := by unfold Ev.mark; split <;> rfl
@[simp] theorem Ev.markIf_undecided (e : Ev) (c : Bool) (k : NoticeKey) : (e.markIf c k).undecided = e.undecided := by cases c <;> simp [Ev.markIf]
@[simp] theorem Ev.modChan_pending (e : Ev) (c : ChanId) (f : Channel → Channel) : (e.modChan c f).pending = e.pending := by cases c <;> rfl
@[simp] theorem Ev.modChan_now (e : Ev) (c : ChanId) (f : Channel → Channel) : (e.modChan c f).now = e.now := by cases c <;> rfl
@[simp] theorem Ev.modChan_freeCtr (e : Ev) (c : ChanId) (f : Channel → Channel) : (e.modChan c f).freeCtr = e.freeCtr := by cases c <;> rfl
@[simp] theorem Ev.modChan_rx (e : Ev) (c : ChanId) (f : Channel → Channel) : (e.modChan c f).rx = e.rx := by cases c <;> rfl
@[simp] theorem Ev.modChan_buf1 (e : Ev) (c : ChanId) (f : Channel → Channel) : (e.modChan c f).buf1 = e.buf1 := by cases c <;> rfl
@[simp] theorem Ev.modChan_buf2 (e : Ev) (c : ChanId) (f : Channel → Channel) : (e.modChan c f).buf2 = e.buf2 := by cases c <;> rfl
@[simp] theorem Ev.modChan_waitOrder (e : Ev) (c : ChanId) (f : Channel → Channel) : (e.modChan c f).waitOrder = e.waitOrder := by cases c <;> rfl
@[simp] theorem Ev.modChan_overrun (e : Ev) (c : ChanId) (f : Channel → Channel) : (e.modChan c f).overrun = e.overrun := by cases c <;> rfl
@[simp] theorem Ev.modChan_replyOrder (e : Ev) (c : ChanId) (f : Channel → Channel) : (e.modChan c f).replyOrder = e.replyOrder := by cases c <;> rfl
@[simp] theorem Ev.modChan_tx (e : Ev) (c : ChanId) (f : Channel → Channel) : (e.modChan c f).tx = e.tx := by cases c <;> rfl
@[simp] theorem Ev.modChan_notices (e : Ev) (c : ChanId) (f : Channel → Channel) : (e.modChan c f).notices = e.notices := by cases c <;> rfl
@[simp] theorem Ev.modChan_restart (e : Ev) (c : ChanId) (f : Channel → Channel) : (e.modChan c f).restart = e.restart := by cases c <;> rfl
@[simp] theorem Ev.modChan_restartEsd (e : Ev) (c : ChanId) (f : Channel → Channel) : (e.modChan c f).restartEsd = e.restartEsd := by cases c <;> rfl
@[simp] theorem Ev.modChan_lines (e : Ev) (c : ChanId) (f : Channel → Channel) : (e.modChan c f).lines = e.lines := by cases c <;> rfl
@[simp] theorem Ev.modChan_lists (e : Ev) (c : ChanId) (f : Channel → Channel) : (e.modChan c f).lists = e.lists := by cases c <;> rfl
@[simp] theorem Ev.modChan_tanks (e : Ev) (c : ChanId) (f : Channel → Channel) : (e.modChan c f).tanks = e.tanks := by cases c <;> rfl
@[simp] theorem Ev.modChan_preds (e : Ev) (c : ChanId) (f : Channel → Channel) : (e.modChan c f).preds = e.preds := by cases c <;> rfl
@[simp] theorem Ev.modChan_closes (e : Ev) (c : ChanId) (f : Channel → Channel) : (e.modChan c f).closes = e.closes := by cases c <;> rfl
@[simp] theorem Ev.modChan_flows (e : Ev) (c : ChanId) (f : Channel → Channel) : (e.modChan c f).flows = e.flows := by cases c <;> rfl
@[simp] theorem Ev.modChan_valves (e : Ev) (c : ChanId) (f : Channel → Channel) : (e.modChan c f).valves = e.valves := by cases c <;> rfl
@[simp] theorem Ev.modChan_supply (e : Ev) (c : ChanId) (f : Channel → Channel) : (e.modChan c f).supply = e.supply := by cases c <;> rfl
@[simp] theorem Ev.modChan_link (e : Ev) (c : ChanId) (f : Channel → Channel) : (e.modChan c f).link = e.link := by cases c <;> rfl
@[simp] theorem Ev.modChan_grades (e : Ev) (c : ChanId) (f : Channel → Channel) : (e.modChan c f).grades = e.grades := by cases c <;> rfl
@[simp] theorem Ev.modChan_shut (e : Ev) (c : ChanId) (f : Channel → Channel) : (e.modChan c f).shut = e.shut := by cases c <;> rfl
@[simp] theorem Ev.modChan_dirty (e : Ev) (c : ChanId) (f : Channel → Channel) : (e.modChan c f).dirty = e.dirty := by cases c <;> rfl
@[simp] theorem Ev.modChan_reports (e : Ev) (c : ChanId) (f : Channel → Channel) : (e.modChan c f).reports = e.reports := by cases c <;> rfl
@[simp] theorem Ev.modChan_undecided (e : Ev) (c : ChanId) (f : Channel → Channel) : (e.modChan c f).undecided = e.undecided := by cases c <;> rfl

/-! ### What each update makes of the field it changes -/

@[simp] theorem Ev.modLine_lines (e : Ev) (l : LineId) (f : LineRec → LineRec) : (e.modLine l f).lines = e.lines.set l (f (e.lines.get l)) := rfl
@[simp] theorem Ev.setList_lists (e : Ev) (l : LineId) (ks : List TankId) : (e.setList l ks).lists = e.lists.set l ks := rfl
@[simp] theorem Ev.modPred_preds (e : Ev) (l : LineId) (f : Predictor → Predictor) : (e.modPred l f).preds = e.preds.set l (f (e.preds.get l)) := rfl
@[simp] theorem Ev.setClose_closes (e : Ev) (l : LineId) (c : Option CloseRec) : (e.setClose l c).closes = e.closes.set l c := rfl
@[simp] theorem Ev.modClose_closes (e : Ev) (l : LineId) (f : CloseRec → CloseRec) : (e.modClose l f).closes = e.closes.set l ((e.closes.get l).map f) := rfl
@[simp] theorem Ev.modFlow_flows (e : Ev) (l : LineId) (f : Flow → Flow) : (e.modFlow l f).flows = e.flows.set l (f (e.flows.get l)) := rfl
@[simp] theorem Ev.modValve_valves (e : Ev) (l : LineId) (f : Valve → Valve) : (e.modValve l f).valves = e.valves.set l (f (e.valves.get l)) := rfl
@[simp] theorem Ev.modTank_tanks (e : Ev) (k : TankId) (f : Tank → Tank) : (e.modTank k f).tanks = e.tanks.set k (f (e.tanks.get k)) := rfl
@[simp] theorem Ev.modGrade_grades (e : Ev) (g : GradeId) (f : Grade → Grade) : (e.modGrade g f).grades = e.grades.set g (f (e.grades.get g)) := rfl
@[simp] theorem Ev.modLink_link (e : Ev) (f : Link → Link) : (e.modLink f).link = f e.link := rfl
@[simp] theorem Ev.modShut_shut (e : Ev) (f : Shutdown → Shutdown) : (e.modShut f).shut = f e.shut := rfl
@[simp] theorem Ev.modSupply_supply (e : Ev) (f : Supply → Supply) : (e.modSupply f).supply = f e.supply := rfl
@[simp] theorem Ev.report_reports (e : Ev) (r : Report) : (e.report r).reports = e.reports ++ [r] := rfl


end Sys2Proof.Machine
end

