-- ==== Sys2Proof/Laws/Ground.lean ====
section
/-! SUPPORT. The ground of a state: everything that no operation of the Line Sequencer, the Close Planner, the Stroke Arbiter
or the Shutdown Unit changes, and one lemma for each of their operations saying so. What a command does to the ground is
then what the command itself does before those operations run. -/

set_option linter.unusedSimpArgs false
set_option linter.unusedVariables false
set_option linter.unusedTactic false
set_option linter.unreachableTactic false

namespace Sys2Proof.Machine

/-- The inputs of a valve and what only an input or a profile changes. -/
structure ValveInputs where
  sample : Option Nat
  learnedRate : Option Nat
  feedbackFault : Bool
  closedSwitch : Bool
  openSwitch : Bool

/-- The meter and pressure figures of a line that only pulses, gate ends and samples change. -/
structure MeterFigures where
  gatePulses : Nat
  lastPulses : Nat
  rate : Nat
  prevRate : Nat
  pressure : Nat
  pressureFault : Bool
  sampleSum : Nat
  sampleCount : Nat

/-- What a tank's record holds from the ship link alone. -/
structure TankReading where
  decl : Option Declaration
  health : Health
  refusal : Option RefusalReason
  toggle : Option Bool
  latest : Option Half
  missCount : Nat
  lastNew : Time
  highAlarm : Bool
  overfill : Bool
  marks : Mark

/-- The Console Port but for the notices an event notes: what only console events and requests change. -/
structure PortView where
  pending : List Instr
  now : Time
  rx : Rx
  buf1 : Buffer
  buf2 : Buffer
  waitOrder : List BufId
  overrun : Option Byte
  replyOrder : List ReplySource
  tx : Option TxFrame
  notices : List Notice
  restart : RestartWait

abbrev Valve.inputs (v : Valve) : ValveInputs :=
  { sample := v.sample, learnedRate := v.learnedRate, feedbackFault := v.feedbackFault, closedSwitch := v.closedSwitch,
    openSwitch := v.openSwitch }

abbrev Flow.meter (x : Flow) : MeterFigures :=
  { gatePulses := x.gatePulses, lastPulses := x.lastPulses, rate := x.rate, prevRate := x.prevRate,
    pressure := x.pressure, pressureFault := x.pressureFault, sampleSum := x.sampleSum, sampleCount := x.sampleCount }

abbrev Tank.reading (x : Tank) : TankReading :=
  { decl := x.decl, health := x.health, refusal := x.refusal, toggle := x.toggle, latest := x.latest,
    missCount := x.missCount, lastNew := x.lastNew, highAlarm := x.highAlarm, overfill := x.overfill, marks := x.marks }

def State.portView (s : State) : PortView :=
  { pending := s.pending, now := s.now, rx := s.rx, buf1 := s.buf1, buf2 := s.buf2, waitOrder := s.waitOrder,
    overrun := s.overrun, replyOrder := s.replyOrder, tx := s.tx, notices := s.notices, restart := s.restart }

/-- The ground of a state. -/
structure Ground where
  port : PortView
  freeCtr : Nat
  link : Link
  grades : Grades
  profiles : LineId → Option LineProfile
  inputs : LineId → ValveInputs
  meters : LineId → MeterFigures
  readings : TankId → TankReading
  supply : HpuProfile × Nat × Bool × Band
  loop : LoopState
  shipRun : Nat

def State.ground (s : State) : Ground :=
  { port := s.portView, freeCtr := s.freeCtr, link := s.link, grades := s.grades,
    profiles := fun l => (s.lines.get l).profile, inputs := fun l => (s.valves.get l).inputs,
    meters := fun l => (s.flows.get l).meter, readings := fun k => (s.tanks.get k).reading,
    supply := (s.supply.profile, s.supply.pressure, s.supply.fault, s.supply.band), loop := s.shut.loop,
    shipRun := s.shut.shipRun }

/-! ### The updates -/

theorem Ev.modLine_ground (e : Ev) (l : LineId) (f : LineRec → LineRec) (h : ∀ x, (f x).profile = x.profile) :
    (e.modLine l f).ground = e.ground := by
  simp only [State.ground, State.portView, Ev.modLine, Quad.get_set]
  congr; funext m; split <;> simp_all

theorem Ev.modTank_ground (e : Ev) (k : TankId) (f : Tank → Tank) (h : ∀ x, (f x).reading = x.reading) :
    (e.modTank k f).ground = e.ground := by
  simp only [State.ground, State.portView, Ev.modTank, Tanks.get_set]
  congr; funext m; split <;> simp_all

theorem Ev.modFlow_ground (e : Ev) (l : LineId) (f : Flow → Flow) (h : ∀ x, (f x).meter = x.meter) :
    (e.modFlow l f).ground = e.ground := by
  simp only [State.ground, State.portView, Ev.modFlow, Quad.get_set]
  congr; funext m; split <;> simp_all

theorem Ev.modValve_ground (e : Ev) (l : LineId) (f : Valve → Valve) (h : ∀ x, (f x).inputs = x.inputs) :
    (e.modValve l f).ground = e.ground := by
  simp only [State.ground, State.portView, Ev.modValve, Quad.get_set]
  congr; funext m; split <;> simp_all

theorem Ev.modSupply_ground (e : Ev) (f : Supply → Supply)
    (h : ∀ x, ((f x).profile, (f x).pressure, (f x).fault, (f x).band) = (x.profile, x.pressure, x.fault, x.band)) :
    (e.modSupply f).ground = e.ground := by
  have := h e.supply
  simp only [Prod.mk.injEq] at this
  obtain ⟨h1, h2, h3, h4⟩ := this
  simp [State.ground, State.portView, Ev.modSupply, h1, h2, h3, h4]

theorem Ev.modShut_ground (e : Ev) (f : Shutdown → Shutdown)
    (h : ∀ x, (f x).loop = x.loop ∧ (f x).shipRun = x.shipRun) : (e.modShut f).ground = e.ground := by
  simp [State.ground, State.portView, Ev.modShut, (h e.shut).1, (h e.shut).2]

@[simp] theorem Ev.setList_ground (e : Ev) (l : LineId) (ks : List TankId) : (e.setList l ks).ground = e.ground := rfl
@[simp] theorem Ev.modPred_ground (e : Ev) (l : LineId) (f : Predictor → Predictor) :
    (e.modPred l f).ground = e.ground := rfl
@[simp] theorem Ev.setClose_ground (e : Ev) (l : LineId) (c : Option CloseRec) : (e.setClose l c).ground = e.ground := rfl
@[simp] theorem Ev.modClose_ground (e : Ev) (l : LineId) (f : CloseRec → CloseRec) :
    (e.modClose l f).ground = e.ground := rfl
@[simp] theorem Ev.report_ground (e : Ev) (r : Report) : (e.report r).ground = e.ground := rfl
@[simp] theorem Ev.mark_ground (e : Ev) (k : NoticeKey) : (e.mark k).ground = e.ground := by
  unfold Ev.mark; split <;> rfl
@[simp] theorem Ev.markIf_ground (e : Ev) (c : Bool) (k : NoticeKey) : (e.markIf c k).ground = e.ground := by
  cases c <;> simp [Ev.markIf]
@[simp] theorem Ev.modChan_ground (e : Ev) (c : ChanId) (f : Channel → Channel) : (e.modChan c f).ground = e.ground := by
  cases c <;> rfl

theorem Ev.eachLine_ground (e : Ev) (f : LineId → Ev → Ev) (h : ∀ l x, (f l x).ground = x.ground) :
    (e.eachLine f).ground = e.ground := by
  simp [Ev.eachLine, allLines, h]

theorem Ev.eachTank_ground (ks : List TankId) (e : Ev) (f : TankId → Ev → Ev) (h : ∀ k x, (f k x).ground = x.ground) :
    (e.eachTank ks f).ground = e.ground := by
  unfold Ev.eachTank
  induction ks generalizing e with
  | nil => rfl
  | cons k ks ih => simp [ih, h]

@[simp] theorem Ev.setReports_ground (e : Ev) (rs : List Report) : State.ground ({ e with reports := rs } : Ev).toState = e.ground := rfl

/-! ### The operations -/

@[simp] theorem Ev.setUse_ground (e : Ev) (k : TankId) (u : TankUse) : (e.setUse k u).ground = e.ground := by
  simp only [Ev.setUse]; (repeat' split) <;> try simp [Ev.modLine_ground, Ev.modTank_ground, Ev.modFlow_ground, Ev.modValve_ground, Ev.modSupply_ground, Ev.modShut_ground, Ev.eachLine_ground, Ev.eachTank_ground]
@[simp] theorem Ev.credit_ground (e : Ev) (k : TankId) (litres : Nat) : (e.credit k litres).ground = e.ground := by
  simp only [Ev.credit]; (repeat' split) <;> try simp [Ev.modLine_ground, Ev.modTank_ground, Ev.modFlow_ground, Ev.modValve_ground, Ev.modSupply_ground, Ev.modShut_ground, Ev.eachLine_ground, Ev.eachTank_ground]
@[simp] theorem Ev.zeroAccount_ground (e : Ev) (l : LineId) : (e.zeroAccount l).ground = e.ground := by
  simp only [Ev.zeroAccount]; (repeat' split) <;> try simp [Ev.modLine_ground, Ev.modTank_ground, Ev.modFlow_ground, Ev.modValve_ground, Ev.modSupply_ground, Ev.modShut_ground, Ev.eachLine_ground, Ev.eachTank_ground]
@[simp] theorem Ev.settleComplete_ground (e : Ev) (l : LineId) : (e.settleComplete l).ground = e.ground := by
  simp only [Ev.settleComplete]; (repeat' split) <;> try simp [Ev.modLine_ground, Ev.modTank_ground, Ev.modFlow_ground, Ev.modValve_ground, Ev.modSupply_ground, Ev.modShut_ground, Ev.eachLine_ground, Ev.eachTank_ground]
@[simp] theorem Ev.settleCleared_ground (e : Ev) (l : LineId) : (e.settleCleared l).ground = e.ground := by
  simp only [Ev.settleCleared]; (repeat' split) <;> try simp [Ev.modLine_ground, Ev.modTank_ground, Ev.modFlow_ground, Ev.modValve_ground, Ev.modSupply_ground, Ev.modShut_ground, Ev.eachLine_ground, Ev.eachTank_ground]
theorem Shutdown.setPermit_loop (x : Shutdown) (p : PumpId) (b : Bool) :
    (x.setPermit p b).loop = x.loop ∧ (x.setPermit p b).shipRun = x.shipRun := by cases p <;> exact ⟨rfl, rfl⟩

@[simp] theorem Ev.evalPermit_ground (e : Ev) (p : PumpId) : (e.evalPermit p).ground = e.ground := by
  simp only [Ev.evalPermit, Ev.markIf_ground]
  rw [Ev.modShut_ground]
  exact fun x => Shutdown.setPermit_loop x p _
@[simp] theorem Ev.evalPermitOf_ground (e : Ev) (l : LineId) : (e.evalPermitOf l).ground = e.ground := by
  simp only [Ev.evalPermitOf]; (repeat' split) <;> try simp [Ev.modLine_ground, Ev.modTank_ground, Ev.modFlow_ground, Ev.modValve_ground, Ev.modSupply_ground, Ev.modShut_ground, Ev.eachLine_ground, Ev.eachTank_ground]
@[simp] theorem Ev.setState_ground (e : Ev) (l : LineId) (st : LineState) : (e.setState l st).ground = e.ground := by
  simp only [Ev.setState]; (repeat' split) <;> try simp [Ev.modLine_ground, Ev.modTank_ground, Ev.modFlow_ground, Ev.modValve_ground, Ev.modSupply_ground, Ev.modShut_ground, Ev.eachLine_ground, Ev.eachTank_ground]
@[simp] theorem Ev.setSurge_ground (e : Ev) (l : LineId) (b : Bool) : (e.setSurge l b).ground = e.ground := by
  simp only [Ev.setSurge]; (repeat' split) <;> try simp [Ev.modLine_ground, Ev.modTank_ground, Ev.modFlow_ground, Ev.modValve_ground, Ev.modSupply_ground, Ev.modShut_ground, Ev.eachLine_ground, Ev.eachTank_ground]
@[simp] theorem Ev.setLate_ground (e : Ev) (l : LineId) (b : Bool) : (e.setLate l b).ground = e.ground := by
  simp only [Ev.setLate]; (repeat' split) <;> try simp [Ev.modLine_ground, Ev.modTank_ground, Ev.modFlow_ground, Ev.modValve_ground, Ev.modSupply_ground, Ev.modShut_ground, Ev.eachLine_ground, Ev.eachTank_ground]
@[simp] theorem Ev.setQuiet_ground (e : Ev) (l : LineId) (b : Bool) : (e.setQuiet l b).ground = e.ground := by
  simp only [Ev.setQuiet]; (repeat' split) <;> try simp [Ev.modLine_ground, Ev.modTank_ground, Ev.modFlow_ground, Ev.modValve_ground, Ev.modSupply_ground, Ev.modShut_ground, Ev.eachLine_ground, Ev.eachTank_ground]
@[simp] theorem Ev.updatePump_ground (e : Ev) : (e.updatePump ).ground = e.ground := by
  simp only [Ev.updatePump]; (repeat' split) <;> try simp [Ev.modLine_ground, Ev.modTank_ground, Ev.modFlow_ground, Ev.modValve_ground, Ev.modSupply_ground, Ev.modShut_ground, Ev.eachLine_ground, Ev.eachTank_ground]
@[simp] theorem Ev.freeChannel_ground (e : Ev) (l : LineId) : (e.freeChannel l).ground = e.ground := by
  simp only [Ev.freeChannel, Ev.updatePump_ground]
  rfl
@[simp] theorem Ev.grant_ground (e : Ev) (l : LineId) (r : StrokeReq) (c : ChanId) : (e.grant l r c).ground = e.ground := by
  simp only [Ev.grant]; (repeat' split) <;> try simp [Ev.modLine_ground, Ev.modTank_ground, Ev.modFlow_ground, Ev.modValve_ground, Ev.modSupply_ground, Ev.modShut_ground, Ev.eachLine_ground, Ev.eachTank_ground]
@[simp] theorem Ev.grantUpTo_ground (n : Nat) (e : Ev) : (Ev.grantUpTo n e).ground = e.ground := by
  induction n generalizing e with
  | zero => rfl
  | succ n ih => unfold Ev.grantUpTo; (repeat' split) <;> simp [ih]

@[simp] theorem Ev.considerGrants_ground (e : Ev) : e.considerGrants.ground = e.ground := by simp [Ev.considerGrants]

@[simp] theorem Ev.endStroke_ground (e : Ev) (l : LineId) (o : StrokeOutcome) : (e.endStroke l o).ground = e.ground := by
  simp only [Ev.endStroke]; (repeat' split) <;> try simp [Ev.modLine_ground, Ev.modTank_ground, Ev.modFlow_ground, Ev.modValve_ground, Ev.modSupply_ground, Ev.modShut_ground, Ev.eachLine_ground, Ev.eachTank_ground]
@[simp] theorem Ev.dropWork_ground (e : Ev) (l : LineId) : (e.dropWork l).ground = e.ground := by
  simp only [Ev.dropWork]; (repeat' split) <;> try simp [Ev.modLine_ground, Ev.modTank_ground, Ev.modFlow_ground, Ev.modValve_ground, Ev.modSupply_ground, Ev.modShut_ground, Ev.eachLine_ground, Ev.eachTank_ground]
@[simp] theorem Ev.cancelWork_ground (e : Ev) (l : LineId) : (e.cancelWork l).ground = e.ground := by
  simp only [Ev.cancelWork]; (repeat' split) <;> try simp [Ev.modLine_ground, Ev.modTank_ground, Ev.modFlow_ground, Ev.modValve_ground, Ev.modSupply_ground, Ev.modShut_ground, Ev.eachLine_ground, Ev.eachTank_ground]
@[simp] theorem Ev.cancelAllWork_ground (e : Ev) : (e.cancelAllWork ).ground = e.ground := by
  simp only [Ev.cancelAllWork]; (repeat' split) <;> try simp [Ev.modLine_ground, Ev.modTank_ground, Ev.modFlow_ground, Ev.modValve_ground, Ev.modSupply_ground, Ev.modShut_ground, Ev.eachLine_ground, Ev.eachTank_ground]
@[simp] theorem Ev.failStroke_ground (e : Ev) (l : LineId) (o : StrokeOutcome) : (e.failStroke l o).ground = e.ground := by
  simp only [Ev.failStroke]; (repeat' split) <;> try simp [Ev.modLine_ground, Ev.modTank_ground, Ev.modFlow_ground, Ev.modValve_ground, Ev.modSupply_ground, Ev.modShut_ground, Ev.eachLine_ground, Ev.eachTank_ground]
@[simp] theorem Ev.enqueue_ground (e : Ev) (l : LineId) (r : StrokeReq) : (e.enqueue l r).ground = e.ground := by
  simp only [Ev.enqueue]; (repeat' split) <;> try simp [Ev.modLine_ground, Ev.modTank_ground, Ev.modFlow_ground, Ev.modValve_ground, Ev.modSupply_ground, Ev.modShut_ground, Ev.eachLine_ground, Ev.eachTank_ground]
@[simp] theorem Ev.requestStroke_ground (e : Ev) (l : LineId) (cls : StrokeClass) (target : Nat) (retry : Bool) : (e.requestStroke l cls target retry).ground = e.ground := by
  simp only [Ev.requestStroke]; (repeat' split) <;> try simp [Ev.modLine_ground, Ev.modTank_ground, Ev.modFlow_ground, Ev.modValve_ground, Ev.modSupply_ground, Ev.modShut_ground, Ev.eachLine_ground, Ev.eachTank_ground]
@[simp] theorem Ev.pauseAll_ground (e : Ev) (paused : Bool) : (e.pauseAll paused).ground = e.ground := by
  simp only [Ev.pauseAll]; (repeat' split) <;> try simp [Ev.modLine_ground, Ev.modTank_ground, Ev.modFlow_ground, Ev.modValve_ground, Ev.modSupply_ground, Ev.modShut_ground, Ev.eachLine_ground, Ev.eachTank_ground]
@[simp] theorem Ev.setChans_ground (e : Ev) (c d : Channel) :
    State.ground ({ e with chan1 := c, chan2 := d } : Ev).toState = e.ground := rfl

@[simp] theorem Ev.beginTravel_ground (e : Ev) (l : LineId) (k : Stroke) : (e.beginTravel l k).ground = e.ground := by
  simp only [Ev.beginTravel]
  exact (Ev.setChans_ground _ _ _).trans (Ev.modValve_ground e l _ (fun _ => rfl))
@[simp] theorem Ev.arrive_ground (e : Ev) (l : LineId) (k : Stroke) (target : Nat) : (e.arrive l k target).ground = e.ground := by
  simp only [Ev.arrive]; (repeat' split) <;> try simp [Ev.modLine_ground, Ev.modTank_ground, Ev.modFlow_ground, Ev.modValve_ground, Ev.modSupply_ground, Ev.modShut_ground, Ev.eachLine_ground, Ev.eachTank_ground]
@[simp] theorem Ev.closedActive_ground (e : Ev) (l : LineId) : (e.closedActive l).ground = e.ground := by
  simp only [Ev.closedActive]; (repeat' split) <;> try simp [Ev.modLine_ground, Ev.modTank_ground, Ev.modFlow_ground, Ev.modValve_ground, Ev.modSupply_ground, Ev.modShut_ground, Ev.eachLine_ground, Ev.eachTank_ground]
@[simp] theorem Ev.openActive_ground (e : Ev) (l : LineId) : (e.openActive l).ground = e.ground := by
  simp only [Ev.openActive]; (repeat' split) <;> try simp [Ev.modLine_ground, Ev.modTank_ground, Ev.modFlow_ground, Ev.modValve_ground, Ev.modSupply_ground, Ev.modShut_ground, Ev.eachLine_ground, Ev.eachTank_ground]
@[simp] theorem Ev.clearPred_ground (e : Ev) (l : LineId) : (e.clearPred l).ground = e.ground := by
  simp only [Ev.clearPred]; (repeat' split) <;> try simp [Ev.modLine_ground, Ev.modTank_ground, Ev.modFlow_ground, Ev.modValve_ground, Ev.modSupply_ground, Ev.modShut_ground, Ev.eachLine_ground, Ev.eachTank_ground]
@[simp] theorem Ev.settleArrival_ground (e : Ev) (l : LineId) (target : Nat) : (e.settleArrival l target).ground = e.ground := by
  simp only [Ev.settleArrival]; (repeat' split) <;> try simp [Ev.modLine_ground, Ev.modTank_ground, Ev.modFlow_ground, Ev.modValve_ground, Ev.modSupply_ground, Ev.modShut_ground, Ev.eachLine_ground, Ev.eachTank_ground]
@[simp] theorem Ev.writeTrip_ground (e : Ev) (l : LineId) (cause : TripCause) : (e.writeTrip l cause).ground = e.ground := by
  simp only [Ev.writeTrip]; (repeat' split) <;> try simp [Ev.modLine_ground, Ev.modTank_ground, Ev.modFlow_ground, Ev.modValve_ground, Ev.modSupply_ground, Ev.modShut_ground, Ev.eachLine_ground, Ev.eachTank_ground]
@[simp] theorem Ev.changeoverExit_ground (e : Ev) (l : LineId) (reason : CloseReason) : (e.changeoverExit l reason).ground = e.ground := by
  simp only [Ev.changeoverExit]; (repeat' split) <;> try simp [Ev.modLine_ground, Ev.modTank_ground, Ev.modFlow_ground, Ev.modValve_ground, Ev.modSupply_ground, Ev.modShut_ground, Ev.eachLine_ground, Ev.eachTank_ground]
@[simp] theorem Ev.closeEntry_ground (e : Ev) (l : LineId) (reason : CloseReason) (hold : Option HoldReason) (cause : Option TripCause) : (e.closeEntry l reason hold cause).ground = e.ground := by
  simp only [Ev.closeEntry]; (repeat' split) <;> try simp [Ev.modLine_ground, Ev.modTank_ground, Ev.modFlow_ground, Ev.modValve_ground, Ev.modSupply_ground, Ev.modShut_ground, Ev.eachLine_ground, Ev.eachTank_ground]
@[simp] theorem Ev.retripClosing_ground (e : Ev) (l : LineId) (reason : CloseReason) (cause : TripCause) : (e.retripClosing l reason cause).ground = e.ground := by
  simp only [Ev.retripClosing]; (repeat' split) <;> try simp [Ev.modLine_ground, Ev.modTank_ground, Ev.modFlow_ground, Ev.modValve_ground, Ev.modSupply_ground, Ev.modShut_ground, Ev.eachLine_ground, Ev.eachTank_ground]
@[simp] theorem Ev.trip_ground (e : Ev) (l : LineId) (cause : TripCause) : (e.trip l cause).ground = e.ground := by
  simp only [Ev.trip]; (repeat' split) <;> try simp [Ev.modLine_ground, Ev.modTank_ground, Ev.modFlow_ground, Ev.modValve_ground, Ev.modSupply_ground, Ev.modShut_ground, Ev.eachLine_ground, Ev.eachTank_ground]
@[simp] theorem Ev.tripHolder_ground (e : Ev) (k : TankId) (cause : TripCause) : (e.tripHolder k cause).ground = e.ground := by
  simp only [Ev.tripHolder]; (repeat' split) <;> try simp [Ev.modLine_ground, Ev.modTank_ground, Ev.modFlow_ground, Ev.modValve_ground, Ev.modSupply_ground, Ev.modShut_ground, Ev.eachLine_ground, Ev.eachTank_ground]
@[simp] theorem Ev.dropClose_ground (e : Ev) (l : LineId) : (e.dropClose l).ground = e.ground := by
  simp only [Ev.dropClose]; (repeat' split) <;> try simp [Ev.modLine_ground, Ev.modTank_ground, Ev.modFlow_ground, Ev.modValve_ground, Ev.modSupply_ground, Ev.modShut_ground, Ev.eachLine_ground, Ev.eachTank_ground]
@[simp] theorem Ev.closeEnd_ground (e : Ev) (l : LineId) : (e.closeEnd l).ground = e.ground := by
  simp only [Ev.closeEnd]; (repeat' split) <;> try simp [Ev.modLine_ground, Ev.modTank_ground, Ev.modFlow_ground, Ev.modValve_ground, Ev.modSupply_ground, Ev.modShut_ground, Ev.eachLine_ground, Ev.eachTank_ground]
@[simp] theorem Ev.enterStarting_ground (e : Ev) (l : LineId) : (e.enterStarting l).ground = e.ground := by
  simp only [Ev.enterStarting]; (repeat' split) <;> try simp [Ev.modLine_ground, Ev.modTank_ground, Ev.modFlow_ground, Ev.modValve_ground, Ev.modSupply_ground, Ev.modShut_ground, Ev.eachLine_ground, Ev.eachTank_ground]
@[simp] theorem Ev.enterProving_ground (e : Ev) (l : LineId) : (e.enterProving l).ground = e.ground := by
  simp only [Ev.enterProving]; (repeat' split) <;> try simp [Ev.modLine_ground, Ev.modTank_ground, Ev.modFlow_ground, Ev.modValve_ground, Ev.modSupply_ground, Ev.modShut_ground, Ev.eachLine_ground, Ev.eachTank_ground]
@[simp] theorem Ev.throttleTo_ground (e : Ev) (l : LineId) (pos : Nat) : (e.throttleTo l pos).ground = e.ground := by
  simp only [Ev.throttleTo]; (repeat' split) <;> try simp [Ev.modLine_ground, Ev.modTank_ground, Ev.modFlow_ground, Ev.modValve_ground, Ev.modSupply_ground, Ev.modShut_ground, Ev.eachLine_ground, Ev.eachTank_ground]
@[simp] theorem Ev.closeStartTest_ground (e : Ev) (l : LineId) : (e.closeStartTest l).ground = e.ground := by
  simp only [Ev.closeStartTest]; (repeat' split) <;> try simp [Ev.modLine_ground, Ev.modTank_ground, Ev.modFlow_ground, Ev.modValve_ground, Ev.modSupply_ground, Ev.modShut_ground, Ev.eachLine_ground, Ev.eachTank_ground]
@[simp] theorem Ev.enterTopping_ground (e : Ev) (l : LineId) : (e.enterTopping l).ground = e.ground := by
  simp only [Ev.enterTopping]; (repeat' split) <;> try simp [Ev.modLine_ground, Ev.modTank_ground, Ev.modFlow_ground, Ev.modValve_ground, Ev.modSupply_ground, Ev.modShut_ground, Ev.eachLine_ground, Ev.eachTank_ground]
@[simp] theorem Ev.enterChangeover_ground (e : Ev) (l : LineId) (k : TankId) : (e.enterChangeover l k).ground = e.ground := by
  simp only [Ev.enterChangeover]; (repeat' split) <;> try simp [Ev.modLine_ground, Ev.modTank_ground, Ev.modFlow_ground, Ev.modValve_ground, Ev.modSupply_ground, Ev.modShut_ground, Ev.eachLine_ground, Ev.eachTank_ground]
@[simp] theorem Ev.evaluateMarks_ground (e : Ev) (l : LineId) : (e.evaluateMarks l).ground = e.ground := by
  simp only [Ev.evaluateMarks]; (repeat' split) <;> try simp [Ev.modLine_ground, Ev.modTank_ground, Ev.modFlow_ground, Ev.modValve_ground, Ev.modSupply_ground, Ev.modShut_ground, Ev.eachLine_ground, Ev.eachTank_ground]
@[simp] theorem Ev.overrunTest_ground (e : Ev) (l : LineId) : (e.overrunTest l).ground = e.ground := by
  simp only [Ev.overrunTest]; (repeat' split) <;> try simp [Ev.modLine_ground, Ev.modTank_ground, Ev.modFlow_ground, Ev.modValve_ground, Ev.modSupply_ground, Ev.modShut_ground, Ev.eachLine_ground, Ev.eachTank_ground]
@[simp] theorem Ev.changeoverSuccess_ground (e : Ev) (l : LineId) (old new : TankId) : (e.changeoverSuccess l old new).ground = e.ground := by
  simp only [Ev.changeoverSuccess]; (repeat' split) <;> try simp [Ev.modLine_ground, Ev.modTank_ground, Ev.modFlow_ground, Ev.modValve_ground, Ev.modSupply_ground, Ev.modShut_ground, Ev.eachLine_ground, Ev.eachTank_ground]
@[simp] theorem Ev.successTest_ground (e : Ev) (l : LineId) : (e.successTest l).ground = e.ground := by
  simp only [Ev.successTest]; (repeat' split) <;> try simp [Ev.modLine_ground, Ev.modTank_ground, Ev.modFlow_ground, Ev.modValve_ground, Ev.modSupply_ground, Ev.modShut_ground, Ev.eachLine_ground, Ev.eachTank_ground]
@[simp] theorem Ev.provingTest_ground (e : Ev) (l : LineId) (k : TankId) (level : Nat) : (e.provingTest l k level).ground = e.ground := by
  simp only [Ev.provingTest]; (repeat' split) <;> try simp [Ev.modLine_ground, Ev.modTank_ground, Ev.modFlow_ground, Ev.modValve_ground, Ev.modSupply_ground, Ev.modShut_ground, Ev.eachLine_ground, Ev.eachTank_ground]
@[simp] theorem Ev.esdToLine_ground (e : Ev) (l : LineId) : (e.esdToLine l).ground = e.ground := by
  simp only [Ev.esdToLine]; (repeat' split) <;> try simp [Ev.modLine_ground, Ev.modTank_ground, Ev.modFlow_ground, Ev.modValve_ground, Ev.modSupply_ground, Ev.modShut_ground, Ev.eachLine_ground, Ev.eachTank_ground]
@[simp] theorem Ev.raiseCause_ground (e : Ev) (c : EsdCause) : (e.raiseCause c).ground = e.ground := by
  simp only [Ev.raiseCause]
  split
  · rfl
  · simp only [Ev.mark_ground, Ev.evalPermit_ground, Ev.cancelAllWork_ground, Ev.esdToLine_ground,
      Ev.eachLine_ground, implies_true]
    exact Ev.modShut_ground e (fun x => { x with causes := x.causes.add c e.now }) (fun _ => ⟨rfl, rfl⟩)
@[simp] theorem Ev.raiseValve_ground (e : Ev) (l : LineId) : (e.raiseValve l).ground = e.ground := by
  simp only [Ev.raiseValve]; (repeat' split) <;> try simp [Ev.modLine_ground, Ev.modTank_ground, Ev.modFlow_ground, Ev.modValve_ground, Ev.modSupply_ground, Ev.modShut_ground, Ev.eachLine_ground, Ev.eachTank_ground]
@[simp] theorem Ev.requestStage_ground (e : Ev) (l : LineId) (k : Nat) : (e.requestStage l k).ground = e.ground := by
  simp only [Ev.requestStage]; (repeat' split) <;> try simp [Ev.modLine_ground, Ev.modTank_ground, Ev.modFlow_ground, Ev.modValve_ground, Ev.modSupply_ground, Ev.modShut_ground, Ev.eachLine_ground, Ev.eachTank_ground]
@[simp] theorem Ev.startPlan_ground (e : Ev) (l : LineId) : (e.startPlan l).ground = e.ground := by
  simp only [Ev.startPlan]; (repeat' split) <;> try simp [Ev.modLine_ground, Ev.modTank_ground, Ev.modFlow_ground, Ev.modValve_ground, Ev.modSupply_ground, Ev.modShut_ground, Ev.eachLine_ground, Ev.eachTank_ground]
@[simp] theorem Ev.endRunDown_ground (e : Ev) (l : LineId) (cause : RunDownEnd) : (e.endRunDown l cause).ground = e.ground := by
  simp only [Ev.endRunDown]; (repeat' split) <;> try simp [Ev.modLine_ground, Ev.modTank_ground, Ev.modFlow_ground, Ev.modValve_ground, Ev.modSupply_ground, Ev.modShut_ground, Ev.eachLine_ground, Ev.eachTank_ground]
@[simp] theorem Ev.decideClose_ground (e : Ev) (l : LineId) : (e.decideClose l).ground = e.ground := by
  simp only [Ev.decideClose]; (repeat' split) <;> try simp [Ev.modLine_ground, Ev.modTank_ground, Ev.modFlow_ground, Ev.modValve_ground, Ev.modSupply_ground, Ev.modShut_ground, Ev.eachLine_ground, Ev.eachTank_ground]
@[simp] theorem Ev.plannerArrived_ground (e : Ev) (l : LineId) (target : Nat) : (e.plannerArrived l target).ground = e.ground := by
  simp only [Ev.plannerArrived]; (repeat' split) <;> try simp [Ev.modLine_ground, Ev.modTank_ground, Ev.modFlow_ground, Ev.modValve_ground, Ev.modSupply_ground, Ev.modShut_ground, Ev.eachLine_ground, Ev.eachTank_ground]
@[simp] theorem Ev.nextStage_ground (e : Ev) (l : LineId) : (e.nextStage l).ground = e.ground := by
  simp only [Ev.nextStage]; (repeat' split) <;> try simp [Ev.modLine_ground, Ev.modTank_ground, Ev.modFlow_ground, Ev.modValve_ground, Ev.modSupply_ground, Ev.modShut_ground, Ev.eachLine_ground, Ev.eachTank_ground]
@[simp] theorem Ev.plannerEnded_ground (e : Ev) (l : LineId) : (e.plannerEnded l).ground = e.ground := by
  simp only [Ev.plannerEnded]; (repeat' split) <;> try simp [Ev.modLine_ground, Ev.modTank_ground, Ev.modFlow_ground, Ev.modValve_ground, Ev.modSupply_ground, Ev.modShut_ground, Ev.eachLine_ground, Ev.eachTank_ground]
@[simp] theorem Ev.retryStage_ground (e : Ev) (l : LineId) : (e.retryStage l).ground = e.ground := by
  simp only [Ev.retryStage]; (repeat' split) <;> try simp [Ev.modLine_ground, Ev.modTank_ground, Ev.modFlow_ground, Ev.modValve_ground, Ev.modSupply_ground, Ev.modShut_ground, Ev.eachLine_ground, Ev.eachTank_ground]
@[simp] theorem Ev.abandonClose_ground (e : Ev) (l : LineId) : (e.abandonClose l).ground = e.ground := by
  simp only [Ev.abandonClose]; (repeat' split) <;> try simp [Ev.modLine_ground, Ev.modTank_ground, Ev.modFlow_ground, Ev.modValve_ground, Ev.modSupply_ground, Ev.modShut_ground, Ev.eachLine_ground, Ev.eachTank_ground]
@[simp] theorem Ev.plannerFailed_ground (e : Ev) (l : LineId) : (e.plannerFailed l).ground = e.ground := by
  simp only [Ev.plannerFailed]; (repeat' split) <;> try simp [Ev.modLine_ground, Ev.modTank_ground, Ev.modFlow_ground, Ev.modValve_ground, Ev.modSupply_ground, Ev.modShut_ground, Ev.eachLine_ground, Ev.eachTank_ground]
@[simp] theorem Ev.plannerSeated_ground (e : Ev) (l : LineId) : (e.plannerSeated l).ground = e.ground := by
  simp only [Ev.plannerSeated]; (repeat' split) <;> try simp [Ev.modLine_ground, Ev.modTank_ground, Ev.modFlow_ground, Ev.modValve_ground, Ev.modSupply_ground, Ev.modShut_ground, Ev.eachLine_ground, Ev.eachTank_ground]
@[simp] theorem Ev.retryWaiting_ground (e : Ev) (l : LineId) : (e.retryWaiting l).ground = e.ground := by
  simp only [Ev.retryWaiting]; (repeat' split) <;> try simp [Ev.modLine_ground, Ev.modTank_ground, Ev.modFlow_ground, Ev.modValve_ground, Ev.modSupply_ground, Ev.modShut_ground, Ev.eachLine_ground, Ev.eachTank_ground]

/-! ### The end of an event -/

@[simp] theorem Ev.setUndecided_ground (e : Ev) (ls : List LineId) : State.ground ({ e with undecided := ls } : Ev).toState = e.ground := rfl

@[simp] theorem Ev.handleReport_ground (e : Ev) (r : Report) : (e.handleReport r).ground = e.ground := by
  unfold Ev.handleReport; (repeat' split) <;> simp

@[simp] theorem Ev.drainUpTo_ground (n : Nat) (e : Ev) : (Ev.drainUpTo n e).ground = e.ground := by
  induction n generalizing e with
  | zero => rfl
  | succ n ih =>
    unfold Ev.drainUpTo
    split
    · rw [ih, Ev.handleReport_ground]
    · rw [ih, Ev.decideClose_ground]
    · rfl

@[simp] theorem Ev.drain_ground (e : Ev) : e.drain.ground = e.ground := by simp [Ev.drain]


end Sys2Proof.Machine
end

