-- ==== Sys2Proof/Laws/Lane.lean ====
section
/-! SUPPORT. The lane of a line: its records in the Line Sequencer, the fill order lists, the Close Predictor, the Close
Planner and the Flow Monitor. No operation of the Stroke Arbiter changes any lane, and an operation on one line changes no
other line's lane. -/

set_option linter.unusedSimpArgs false
set_option linter.unusedVariables false
set_option linter.unusedTactic false
set_option linter.unreachableTactic false

namespace Sys2Proof.Machine

/-- The records of one line outside the Stroke Arbiter. -/
def State.lane (s : State) (m : LineId) : LineRec × List TankId × Predictor × Option CloseRec × Flow :=
  (s.lines.get m, s.lists.get m, s.preds.get m, s.closes.get m, s.flows.get m)

/-! ### The updates -/

@[simp] theorem Ev.modValve_lane (e : Ev) (l : LineId) (f : Valve → Valve) (m : LineId) : (e.modValve l f).lane m = e.lane m := id rfl
@[simp] theorem Ev.modTank_lane (e : Ev) (k : TankId) (f : Tank → Tank) (m : LineId) : (e.modTank k f).lane m = e.lane m := id rfl
@[simp] theorem Ev.modGrade_lane (e : Ev) (g : GradeId) (f : Grade → Grade) (m : LineId) : (e.modGrade g f).lane m = e.lane m := id rfl
@[simp] theorem Ev.modLink_lane (e : Ev) (f : Link → Link) (m : LineId) : (e.modLink f).lane m = e.lane m := id rfl
@[simp] theorem Ev.modShut_lane (e : Ev) (f : Shutdown → Shutdown) (m : LineId) : (e.modShut f).lane m = e.lane m := id rfl
@[simp] theorem Ev.modSupply_lane (e : Ev) (f : Supply → Supply) (m : LineId) : (e.modSupply f).lane m = e.lane m := id rfl
@[simp] theorem Ev.report_lane (e : Ev) (r : Report) (m : LineId) : (e.report r).lane m = e.lane m := id rfl
@[simp] theorem Ev.mark_lane (e : Ev) (k : NoticeKey) (m : LineId) : (e.mark k).lane m = e.lane m := by
  unfold Ev.mark; split <;> rfl
@[simp] theorem Ev.markIf_lane (e : Ev) (c : Bool) (k : NoticeKey) (m : LineId) : (e.markIf c k).lane m = e.lane m := by
  cases c <;> simp [Ev.markIf]
@[simp] theorem Ev.modChan_lane (e : Ev) (c : ChanId) (f : Channel → Channel) (m : LineId) :
    (e.modChan c f).lane m = e.lane m := by
  cases c <;> rfl
@[simp] theorem Ev.setChans_lane (e : Ev) (c d : Channel) (m : LineId) :
    State.lane ({ e with chan1 := c, chan2 := d } : Ev).toState m = e.lane m := rfl
@[simp] theorem Ev.setUndecided_lane (e : Ev) (ls : List LineId) (m : LineId) :
    State.lane ({ e with undecided := ls } : Ev).toState m = e.lane m := rfl
@[simp] theorem Ev.setReports_lane (e : Ev) (rs : List Report) (m : LineId) :
    State.lane ({ e with reports := rs } : Ev).toState m = e.lane m := rfl

theorem Ev.eachLine_lane (e : Ev) (f : LineId → Ev → Ev) (m : LineId) (h : ∀ l x, (f l x).lane m = x.lane m) :
    (e.eachLine f).lane m = e.lane m := by
  simp [Ev.eachLine, allLines, h]

theorem Ev.eachTank_lane (ks : List TankId) (e : Ev) (f : TankId → Ev → Ev) (m : LineId)
    (h : ∀ k x, (f k x).lane m = x.lane m) : (e.eachTank ks f).lane m = e.lane m := by
  unfold Ev.eachTank
  induction ks generalizing e with
  | nil => rfl
  | cons k ks ih => simp [ih, h]

@[simp] theorem Ev.modLine_lane (e : Ev) (l : LineId) (f : LineRec → LineRec) {m : LineId} (h : m ≠ l) :
    (e.modLine l f).lane m = e.lane m := by
  simp [State.lane, Ev.modLine, Quad.get_set, h]
@[simp] theorem Ev.setList_lane (e : Ev) (l : LineId) (ks : List TankId) {m : LineId} (h : m ≠ l) :
    (e.setList l ks).lane m = e.lane m := by
  simp [State.lane, Ev.setList, Quad.get_set, h]
@[simp] theorem Ev.modPred_lane (e : Ev) (l : LineId) (f : Predictor → Predictor) {m : LineId} (h : m ≠ l) :
    (e.modPred l f).lane m = e.lane m := by
  simp [State.lane, Ev.modPred, Quad.get_set, h]
@[simp] theorem Ev.setClose_lane (e : Ev) (l : LineId) (c : Option CloseRec) {m : LineId} (h : m ≠ l) :
    (e.setClose l c).lane m = e.lane m := by
  simp [State.lane, Ev.setClose, Quad.get_set, h]
@[simp] theorem Ev.modClose_lane (e : Ev) (l : LineId) (f : CloseRec → CloseRec) {m : LineId} (h : m ≠ l) :
    (e.modClose l f).lane m = e.lane m := by
  simp [State.lane, Ev.modClose, Quad.get_set, h]
@[simp] theorem Ev.modFlow_lane (e : Ev) (l : LineId) (f : Flow → Flow) {m : LineId} (h : m ≠ l) :
    (e.modFlow l f).lane m = e.lane m := by
  simp [State.lane, Ev.modFlow, Quad.get_set, h]

/-! ### The operations that touch no lane -/

@[simp] theorem Ev.setUse_lane (e : Ev) (k : TankId) (u : TankUse) (m : LineId) : (e.setUse k u).lane m = e.lane m := by
  simp only [Ev.setUse]; (repeat' split) <;> try simp [Ev.eachLine_lane, Ev.eachTank_lane]
@[simp] theorem Ev.setHealth_lane (e : Ev) (k : TankId) (h : Health) (r : Option RefusalReason) (m : LineId) : (e.setHealth k h r).lane m = e.lane m := by
  simp only [Ev.setHealth]; (repeat' split) <;> try simp [Ev.eachLine_lane, Ev.eachTank_lane]
@[simp] theorem Ev.credit_lane (e : Ev) (k : TankId) (litres : Nat) (m : LineId) : (e.credit k litres).lane m = e.lane m := by
  simp only [Ev.credit]; (repeat' split) <;> try simp [Ev.eachLine_lane, Ev.eachTank_lane]
@[simp] theorem Ev.evalPermit_lane (e : Ev) (p : PumpId) (m : LineId) : (e.evalPermit p).lane m = e.lane m := by
  simp only [Ev.evalPermit]; (repeat' split) <;> try simp [Ev.eachLine_lane, Ev.eachTank_lane]
@[simp] theorem Ev.evalPermitOf_lane (e : Ev) (l : LineId) (m : LineId) : (e.evalPermitOf l).lane m = e.lane m := by
  simp only [Ev.evalPermitOf]; (repeat' split) <;> try simp [Ev.eachLine_lane, Ev.eachTank_lane]
@[simp] theorem Ev.setFeedbackFault_lane (e : Ev) (l : LineId) (b : Bool) (m : LineId) : (e.setFeedbackFault l b).lane m = e.lane m := by
  simp only [Ev.setFeedbackFault]; (repeat' split) <;> try simp [Ev.eachLine_lane, Ev.eachTank_lane]
@[simp] theorem Ev.updatePump_lane (e : Ev) (m : LineId) : (e.updatePump ).lane m = e.lane m := by
  simp only [Ev.updatePump]; (repeat' split) <;> try simp [Ev.eachLine_lane, Ev.eachTank_lane]
@[simp] theorem Ev.freeChannel_lane (e : Ev) (l m : LineId) : (e.freeChannel l).lane m = e.lane m := by
  simp only [Ev.freeChannel, Ev.updatePump_lane]
  rfl
@[simp] theorem Ev.grant_lane (e : Ev) (l : LineId) (r : StrokeReq) (c : ChanId) (m : LineId) : (e.grant l r c).lane m = e.lane m := by
  simp only [Ev.grant]; (repeat' split) <;> try simp [Ev.eachLine_lane, Ev.eachTank_lane]
@[simp] theorem Ev.grantUpTo_lane (n : Nat) (e : Ev) (m : LineId) : (Ev.grantUpTo n e).lane m = e.lane m := by
  induction n generalizing e with
  | zero => rfl
  | succ n ih => unfold Ev.grantUpTo; (repeat' split) <;> simp [ih]

@[simp] theorem Ev.considerGrants_lane (e : Ev) (m : LineId) : e.considerGrants.lane m = e.lane m := by
  simp [Ev.considerGrants]
@[simp] theorem Ev.endStroke_lane (e : Ev) (l : LineId) (o : StrokeOutcome) (m : LineId) : (e.endStroke l o).lane m = e.lane m := by
  simp only [Ev.endStroke]; (repeat' split) <;> try simp [Ev.eachLine_lane, Ev.eachTank_lane]
@[simp] theorem Ev.dropWork_lane (e : Ev) (l : LineId) (m : LineId) : (e.dropWork l).lane m = e.lane m := by
  simp only [Ev.dropWork]; (repeat' split) <;> try simp [Ev.eachLine_lane, Ev.eachTank_lane]
@[simp] theorem Ev.cancelWork_lane (e : Ev) (l : LineId) (m : LineId) : (e.cancelWork l).lane m = e.lane m := by
  simp only [Ev.cancelWork]; (repeat' split) <;> try simp [Ev.eachLine_lane, Ev.eachTank_lane]
@[simp] theorem Ev.cancelAllWork_lane (e : Ev) (m : LineId) : (e.cancelAllWork ).lane m = e.lane m := by
  simp only [Ev.cancelAllWork]; (repeat' split) <;> try simp [Ev.eachLine_lane, Ev.eachTank_lane]
@[simp] theorem Ev.failStroke_lane (e : Ev) (l : LineId) (o : StrokeOutcome) (m : LineId) : (e.failStroke l o).lane m = e.lane m := by
  simp only [Ev.failStroke]; (repeat' split) <;> try simp [Ev.eachLine_lane, Ev.eachTank_lane]
@[simp] theorem Ev.enqueue_lane (e : Ev) (l : LineId) (r : StrokeReq) (m : LineId) : (e.enqueue l r).lane m = e.lane m := by
  simp only [Ev.enqueue]; (repeat' split) <;> try simp [Ev.eachLine_lane, Ev.eachTank_lane]
@[simp] theorem Ev.requestStroke_lane (e : Ev) (l : LineId) (cls : StrokeClass) (target : Nat) (retry : Bool) (m : LineId) : (e.requestStroke l cls target retry).lane m = e.lane m := by
  simp only [Ev.requestStroke]; (repeat' split) <;> try simp [Ev.eachLine_lane, Ev.eachTank_lane]
@[simp] theorem Ev.pauseAll_lane (e : Ev) (paused : Bool) (m : LineId) : (e.pauseAll paused).lane m = e.lane m := by
  simp only [Ev.pauseAll]; (repeat' split) <;> try simp [Ev.eachLine_lane, Ev.eachTank_lane]
@[simp] theorem Ev.beginTravel_lane (e : Ev) (l : LineId) (k : Stroke) (m : LineId) :
    (e.beginTravel l k).lane m = e.lane m := by
  simp only [Ev.beginTravel]
  exact (Ev.setChans_lane _ _ _ m).trans (Ev.modValve_lane e l _ m)
@[simp] theorem Ev.arrive_lane (e : Ev) (l : LineId) (k : Stroke) (target : Nat) (m : LineId) : (e.arrive l k target).lane m = e.lane m := by
  simp only [Ev.arrive]; (repeat' split) <;> try simp [Ev.eachLine_lane, Ev.eachTank_lane]
@[simp] theorem Ev.takeSample_lane (e : Ev) (l : LineId) (pos : Nat) (m : LineId) : (e.takeSample l pos).lane m = e.lane m := by
  simp only [Ev.takeSample]; (repeat' split) <;> try simp [Ev.eachLine_lane, Ev.eachTank_lane]
@[simp] theorem Ev.closedActive_lane (e : Ev) (l : LineId) (m : LineId) : (e.closedActive l).lane m = e.lane m := by
  simp only [Ev.closedActive]; (repeat' split) <;> try simp [Ev.eachLine_lane, Ev.eachTank_lane]
@[simp] theorem Ev.openActive_lane (e : Ev) (l : LineId) (m : LineId) : (e.openActive l).lane m = e.lane m := by
  simp only [Ev.openActive]; (repeat' split) <;> try simp [Ev.eachLine_lane, Ev.eachTank_lane]
@[simp] theorem Ev.setBand_lane (e : Ev) (m : LineId) : (e.setBand ).lane m = e.lane m := by
  simp only [Ev.setBand]; (repeat' split) <;> try simp [Ev.eachLine_lane, Ev.eachTank_lane]

/-! ### The operations on one line -/

@[simp] theorem Ev.zeroAccount_lane (e : Ev) (l : LineId) {m : LineId} (h : m ≠ l) :
    (e.zeroAccount l).lane m = e.lane m := by
  simp only [Ev.zeroAccount]; (repeat' split) <;> try simp [Ev.eachLine_lane, Ev.eachTank_lane, h]
@[simp] theorem Ev.settleComplete_lane (e : Ev) (l : LineId) {m : LineId} (h : m ≠ l) :
    (e.settleComplete l).lane m = e.lane m := by
  simp only [Ev.settleComplete]; (repeat' split) <;> try simp [Ev.eachLine_lane, Ev.eachTank_lane, h]
@[simp] theorem Ev.settleCleared_lane (e : Ev) (l : LineId) {m : LineId} (h : m ≠ l) :
    (e.settleCleared l).lane m = e.lane m := by
  simp only [Ev.settleCleared]; (repeat' split) <;> try simp [Ev.eachLine_lane, Ev.eachTank_lane, h]
@[simp] theorem Ev.setState_lane (e : Ev) (l : LineId) (st : LineState) {m : LineId} (h : m ≠ l) :
    (e.setState l st).lane m = e.lane m := by
  simp only [Ev.setState]; (repeat' split) <;> try simp [Ev.eachLine_lane, Ev.eachTank_lane, h]
@[simp] theorem Ev.setSurge_lane (e : Ev) (l : LineId) (b : Bool) {m : LineId} (h : m ≠ l) :
    (e.setSurge l b).lane m = e.lane m := by
  simp only [Ev.setSurge]; (repeat' split) <;> try simp [Ev.eachLine_lane, Ev.eachTank_lane, h]
@[simp] theorem Ev.setLate_lane (e : Ev) (l : LineId) (b : Bool) {m : LineId} (h : m ≠ l) :
    (e.setLate l b).lane m = e.lane m := by
  simp only [Ev.setLate]; (repeat' split) <;> try simp [Ev.eachLine_lane, Ev.eachTank_lane, h]
@[simp] theorem Ev.setQuiet_lane (e : Ev) (l : LineId) (b : Bool) {m : LineId} (h : m ≠ l) :
    (e.setQuiet l b).lane m = e.lane m := by
  simp only [Ev.setQuiet]; (repeat' split) <;> try simp [Ev.eachLine_lane, Ev.eachTank_lane, h]
@[simp] theorem Ev.setPressureFault_lane (e : Ev) (l : LineId) (b : Bool) {m : LineId} (h : m ≠ l) :
    (e.setPressureFault l b).lane m = e.lane m := by
  simp only [Ev.setPressureFault]; (repeat' split) <;> try simp [Ev.eachLine_lane, Ev.eachTank_lane, h]
@[simp] theorem Ev.clearPred_lane (e : Ev) (l : LineId) {m : LineId} (h : m ≠ l) :
    (e.clearPred l).lane m = e.lane m := by
  simp only [Ev.clearPred]; (repeat' split) <;> try simp [Ev.eachLine_lane, Ev.eachTank_lane, h]
@[simp] theorem Ev.settleArrival_lane (e : Ev) (l : LineId) (target : Nat) {m : LineId} (h : m ≠ l) :
    (e.settleArrival l target).lane m = e.lane m := by
  simp only [Ev.settleArrival]; (repeat' split) <;> try simp [Ev.eachLine_lane, Ev.eachTank_lane, h]
@[simp] theorem Ev.writeTrip_lane (e : Ev) (l : LineId) (cause : TripCause) {m : LineId} (h : m ≠ l) :
    (e.writeTrip l cause).lane m = e.lane m := by
  simp only [Ev.writeTrip]; (repeat' split) <;> try simp [Ev.eachLine_lane, Ev.eachTank_lane, h]
@[simp] theorem Ev.changeoverExit_lane (e : Ev) (l : LineId) (reason : CloseReason) {m : LineId} (h : m ≠ l) :
    (e.changeoverExit l reason).lane m = e.lane m := by
  simp only [Ev.changeoverExit]; (repeat' split) <;> try simp [Ev.eachLine_lane, Ev.eachTank_lane, h]
@[simp] theorem Ev.closeEntry_lane (e : Ev) (l : LineId) (reason : CloseReason) (hold : Option HoldReason) (cause : Option TripCause) {m : LineId} (h : m ≠ l) :
    (e.closeEntry l reason hold cause).lane m = e.lane m := by
  simp only [Ev.closeEntry]; (repeat' split) <;> try simp [Ev.eachLine_lane, Ev.eachTank_lane, h]
@[simp] theorem Ev.retripClosing_lane (e : Ev) (l : LineId) (reason : CloseReason) (cause : TripCause) {m : LineId} (h : m ≠ l) :
    (e.retripClosing l reason cause).lane m = e.lane m := by
  simp only [Ev.retripClosing]; (repeat' split) <;> try simp [Ev.eachLine_lane, Ev.eachTank_lane, h]
@[simp] theorem Ev.trip_lane (e : Ev) (l : LineId) (cause : TripCause) {m : LineId} (h : m ≠ l) :
    (e.trip l cause).lane m = e.lane m := by
  simp only [Ev.trip]; (repeat' split) <;> try simp [Ev.eachLine_lane, Ev.eachTank_lane, h]
@[simp] theorem Ev.esdToLine_lane (e : Ev) (l : LineId) {m : LineId} (h : m ≠ l) : (e.esdToLine l).lane m = e.lane m := by
  simp only [Ev.esdToLine]; (repeat' split) <;> try simp [h]
@[simp] theorem Ev.dropClose_lane (e : Ev) (l : LineId) {m : LineId} (h : m ≠ l) :
    (e.dropClose l).lane m = e.lane m := by
  simp only [Ev.dropClose]; (repeat' split) <;> try simp [Ev.eachLine_lane, Ev.eachTank_lane, h]
@[simp] theorem Ev.closeEnd_lane (e : Ev) (l : LineId) {m : LineId} (h : m ≠ l) :
    (e.closeEnd l).lane m = e.lane m := by
  simp only [Ev.closeEnd]; (repeat' split) <;> try simp [Ev.eachLine_lane, Ev.eachTank_lane, h]
@[simp] theorem Ev.enterStarting_lane (e : Ev) (l : LineId) {m : LineId} (h : m ≠ l) :
    (e.enterStarting l).lane m = e.lane m := by
  simp only [Ev.enterStarting]; (repeat' split) <;> try simp [Ev.eachLine_lane, Ev.eachTank_lane, h]
@[simp] theorem Ev.enterProving_lane (e : Ev) (l : LineId) {m : LineId} (h : m ≠ l) :
    (e.enterProving l).lane m = e.lane m := by
  simp only [Ev.enterProving]; (repeat' split) <;> try simp [Ev.eachLine_lane, Ev.eachTank_lane, h]
@[simp] theorem Ev.throttleTo_lane (e : Ev) (l : LineId) (pos : Nat) {m : LineId} (h : m ≠ l) :
    (e.throttleTo l pos).lane m = e.lane m := by
  simp only [Ev.throttleTo]; (repeat' split) <;> try simp [Ev.eachLine_lane, Ev.eachTank_lane, h]
@[simp] theorem Ev.closeStartTest_lane (e : Ev) (l : LineId) {m : LineId} (h : m ≠ l) :
    (e.closeStartTest l).lane m = e.lane m := by
  simp only [Ev.closeStartTest]; (repeat' split) <;> try simp [Ev.eachLine_lane, Ev.eachTank_lane, h]
@[simp] theorem Ev.enterTopping_lane (e : Ev) (l : LineId) {m : LineId} (h : m ≠ l) :
    (e.enterTopping l).lane m = e.lane m := by
  simp only [Ev.enterTopping]; (repeat' split) <;> try simp [Ev.eachLine_lane, Ev.eachTank_lane, h]
@[simp] theorem Ev.enterChangeover_lane (e : Ev) (l : LineId) (k : TankId) {m : LineId} (h : m ≠ l) :
    (e.enterChangeover l k).lane m = e.lane m := by
  simp only [Ev.enterChangeover]; (repeat' split) <;> try simp [Ev.eachLine_lane, Ev.eachTank_lane, h]
@[simp] theorem Ev.evaluateMarks_lane (e : Ev) (l : LineId) {m : LineId} (h : m ≠ l) :
    (e.evaluateMarks l).lane m = e.lane m := by
  simp only [Ev.evaluateMarks]; (repeat' split) <;> try simp [Ev.eachLine_lane, Ev.eachTank_lane, h]
@[simp] theorem Ev.overrunTest_lane (e : Ev) (l : LineId) {m : LineId} (h : m ≠ l) :
    (e.overrunTest l).lane m = e.lane m := by
  simp only [Ev.overrunTest]; (repeat' split) <;> try simp [Ev.eachLine_lane, Ev.eachTank_lane, h]
@[simp] theorem Ev.changeoverSuccess_lane (e : Ev) (l : LineId) (old new : TankId) {m : LineId} (h : m ≠ l) :
    (e.changeoverSuccess l old new).lane m = e.lane m := by
  simp only [Ev.changeoverSuccess]; (repeat' split) <;> try simp [Ev.eachLine_lane, Ev.eachTank_lane, h]
@[simp] theorem Ev.successTest_lane (e : Ev) (l : LineId) {m : LineId} (h : m ≠ l) :
    (e.successTest l).lane m = e.lane m := by
  simp only [Ev.successTest]; (repeat' split) <;> try simp [Ev.eachLine_lane, Ev.eachTank_lane, h]
@[simp] theorem Ev.provingTest_lane (e : Ev) (l : LineId) (k : TankId) (level : Nat) {m : LineId} (h : m ≠ l) :
    (e.provingTest l k level).lane m = e.lane m := by
  simp only [Ev.provingTest]; (repeat' split) <;> try simp [Ev.eachLine_lane, Ev.eachTank_lane, h]
@[simp] theorem Ev.requestStage_lane (e : Ev) (l : LineId) (k : Nat) {m : LineId} (h : m ≠ l) :
    (e.requestStage l k).lane m = e.lane m := by
  simp only [Ev.requestStage]; (repeat' split) <;> try simp [Ev.eachLine_lane, Ev.eachTank_lane, h]
@[simp] theorem Ev.startPlan_lane (e : Ev) (l : LineId) {m : LineId} (h : m ≠ l) :
    (e.startPlan l).lane m = e.lane m := by
  simp only [Ev.startPlan]; (repeat' split) <;> try simp [Ev.eachLine_lane, Ev.eachTank_lane, h]
@[simp] theorem Ev.endRunDown_lane (e : Ev) (l : LineId) (cause : RunDownEnd) {m : LineId} (h : m ≠ l) :
    (e.endRunDown l cause).lane m = e.lane m := by
  simp only [Ev.endRunDown]; (repeat' split) <;> try simp [Ev.eachLine_lane, Ev.eachTank_lane, h]
@[simp] theorem Ev.decideClose_lane (e : Ev) (l : LineId) {m : LineId} (h : m ≠ l) :
    (e.decideClose l).lane m = e.lane m := by
  simp only [Ev.decideClose]; (repeat' split) <;> try simp [Ev.eachLine_lane, Ev.eachTank_lane, h]
@[simp] theorem Ev.plannerArrived_lane (e : Ev) (l : LineId) (target : Nat) {m : LineId} (h : m ≠ l) :
    (e.plannerArrived l target).lane m = e.lane m := by
  simp only [Ev.plannerArrived]; (repeat' split) <;> try simp [Ev.eachLine_lane, Ev.eachTank_lane, h]
@[simp] theorem Ev.nextStage_lane (e : Ev) (l : LineId) {m : LineId} (h : m ≠ l) :
    (e.nextStage l).lane m = e.lane m := by
  simp only [Ev.nextStage]; (repeat' split) <;> try simp [Ev.eachLine_lane, Ev.eachTank_lane, h]
@[simp] theorem Ev.plannerEnded_lane (e : Ev) (l : LineId) {m : LineId} (h : m ≠ l) :
    (e.plannerEnded l).lane m = e.lane m := by
  simp only [Ev.plannerEnded]; (repeat' split) <;> try simp [Ev.eachLine_lane, Ev.eachTank_lane, h]
@[simp] theorem Ev.retryStage_lane (e : Ev) (l : LineId) {m : LineId} (h : m ≠ l) :
    (e.retryStage l).lane m = e.lane m := by
  simp only [Ev.retryStage]; (repeat' split) <;> try simp [Ev.eachLine_lane, Ev.eachTank_lane, h]
@[simp] theorem Ev.plannerSeated_lane (e : Ev) (l : LineId) {m : LineId} (h : m ≠ l) :
    (e.plannerSeated l).lane m = e.lane m := by
  simp only [Ev.plannerSeated]; (repeat' split) <;> try simp [Ev.eachLine_lane, Ev.eachTank_lane, h]
@[simp] theorem Ev.retryWaiting_lane (e : Ev) (l : LineId) {m : LineId} (h : m ≠ l) :
    (e.retryWaiting l).lane m = e.lane m := by
  simp only [Ev.retryWaiting]; (repeat' split) <;> try simp [Ev.eachLine_lane, Ev.eachTank_lane, h]

end Sys2Proof.Machine
end

