-- ==== Sys2Proof/Laws/Drain.lean ====
section
/-! SUPPORT. The drain at the end of an event: its induction principle, and the calm of the reports it works on. Outside the
limit switches and the failures of strokes, every report of the arbiter is calm: an arrival, at the closed end only on an active
closed limit switch, or the end of a hold. Every operation keeps the reports calm. -/

set_option linter.unusedSimpArgs false
set_option linter.unusedVariables false
set_option linter.unusedTactic false
set_option linter.unreachableTactic false

namespace Sys2Proof.Machine

/-- A report that a grant makes: no failure, no switch, and an arrival at 0 only on the closed limit switch. -/
def Report.calm (g : Ground) : Report → Prop
  | .arrived l _ target => target = 0 → (g.inputs l).closedSwitch = true
  | .ended _ _ => True
  | .failed _ _ _ => False
  | .seated _ => False

/-- The ground is `g` and every report not yet handed on is calm. -/
def Ev.calm (g : Ground) (e : Ev) : Prop := e.ground = g ∧ ∀ r ∈ e.reports, r.calm g

theorem Ev.calm_of (g : Ground) (e : Ev) (h : e.ground = g) (hr : e.reports = []) : e.calm g := ⟨h, by simp [hr]⟩

/-- Work that changes neither ground nor reports keeps the calm. -/
theorem Ev.calm_congr {g : Ground} {e x : Ev} (h : e.calm g) (hg : x.ground = e.ground) (hr : x.reports = e.reports) :
    x.calm g := ⟨hg.trans h.1, by rw [hr]; exact h.2⟩

/-! ### The induction principle -/

/-- What holds at the end of an event's own work, and is kept by each report handed on and each close decided, holds after the
drain. -/
theorem Ev.drain_induction {P : Ev → Prop}
    (hr : ∀ (e : Ev) (r : Report) (rs : List Report), P e → e.reports = r :: rs →
      P (Ev.handleReport { e with reports := rs } r))
    (hd : ∀ (e : Ev) (l : LineId) (ls : List LineId), P e → e.reports = [] → e.undecided = l :: ls →
      P (Ev.decideClose { e with undecided := ls } l))
    (e : Ev) (h : P e) : P e.drain := by
  have key : ∀ (n : Nat) (e : Ev), P e → P (Ev.drainUpTo n e) := by
    intro n
    induction n with
    | zero => intro e h; exact h
    | succ n ih =>
      intro e h
      unfold Ev.drainUpTo
      split
      · exact ih _ (hr e _ _ h (by assumption))
      · exact ih _ (hd e _ _ h (by assumption) (by assumption))
      · exact h
  exact key 64 e h

/-- With nothing to hand on and nothing to decide the drain does nothing. -/
theorem Ev.drain_idle (e : Ev) (hr : e.reports = []) (hu : e.undecided = []) : e.drain = e := by
  unfold Ev.drain Ev.drainUpTo
  split <;> simp_all

/-! ### The updates -/

theorem Ev.modLine_calm {g : Ground} {e : Ev} (l : LineId) (f : LineRec → LineRec) (hf : ∀ x, (f x).profile = x.profile) (h : e.calm g) : (e.modLine l f).calm g :=
  Ev.calm_congr h (Ev.modLine_ground e l f hf) rfl
theorem Ev.modTank_calm {g : Ground} {e : Ev} (k : TankId) (f : Tank → Tank) (hf : ∀ x, (f x).reading = x.reading) (h : e.calm g) : (e.modTank k f).calm g :=
  Ev.calm_congr h (Ev.modTank_ground e k f hf) rfl
theorem Ev.modFlow_calm {g : Ground} {e : Ev} (l : LineId) (f : Flow → Flow) (hf : ∀ x, (f x).meter = x.meter) (h : e.calm g) : (e.modFlow l f).calm g :=
  Ev.calm_congr h (Ev.modFlow_ground e l f hf) rfl
theorem Ev.modValve_calm {g : Ground} {e : Ev} (l : LineId) (f : Valve → Valve) (hf : ∀ x, (f x).inputs = x.inputs) (h : e.calm g) : (e.modValve l f).calm g :=
  Ev.calm_congr h (Ev.modValve_ground e l f hf) rfl
theorem Ev.modSupply_calm {g : Ground} {e : Ev} (f : Supply → Supply) (hf : ∀ x, ((f x).profile, (f x).pressure, (f x).fault, (f x).band) = (x.profile, x.pressure, x.fault, x.band)) (h : e.calm g) : (e.modSupply f).calm g :=
  Ev.calm_congr h (Ev.modSupply_ground e f hf) rfl
theorem Ev.modShut_calm {g : Ground} {e : Ev} (f : Shutdown → Shutdown) (hf : ∀ x, (f x).loop = x.loop ∧ (f x).shipRun = x.shipRun) (h : e.calm g) : (e.modShut f).calm g :=
  Ev.calm_congr h (Ev.modShut_ground e f hf) rfl
theorem Ev.setList_calm {g : Ground} {e : Ev} (l : LineId) (ks : List TankId) (h : e.calm g) : (e.setList l ks).calm g := Ev.calm_congr h rfl rfl
theorem Ev.modPred_calm {g : Ground} {e : Ev} (l : LineId) (f : Predictor → Predictor) (h : e.calm g) : (e.modPred l f).calm g := Ev.calm_congr h rfl rfl
theorem Ev.setClose_calm {g : Ground} {e : Ev} (l : LineId) (c : Option CloseRec) (h : e.calm g) : (e.setClose l c).calm g := Ev.calm_congr h rfl rfl
theorem Ev.modClose_calm {g : Ground} {e : Ev} (l : LineId) (f : CloseRec → CloseRec) (h : e.calm g) : (e.modClose l f).calm g := Ev.calm_congr h rfl rfl
theorem Ev.mark_calm {g : Ground} {e : Ev} (k : NoticeKey) (h : e.calm g) : (e.mark k).calm g :=
  Ev.calm_congr h (by simp) (by simp)
theorem Ev.markIf_calm {g : Ground} {e : Ev} (c : Bool) (k : NoticeKey) (h : e.calm g) : (e.markIf c k).calm g :=
  Ev.calm_congr h (by simp) (by simp)
theorem Ev.modChan_calm {g : Ground} {e : Ev} (c : ChanId) (f : Channel → Channel) (h : e.calm g) :
    (e.modChan c f).calm g := Ev.calm_congr h (by simp) (by simp)
theorem Ev.setUndecided_calm {g : Ground} {e : Ev} (ls : List LineId) (h : e.calm g) :
    Ev.calm g ({ e with undecided := ls } : Ev) := Ev.calm_congr h rfl rfl
theorem Ev.setReports_calm {g : Ground} {e : Ev} {r : Report} {rs : List Report} (h : e.calm g)
    (hr : e.reports = r :: rs) : Ev.calm g ({ e with reports := rs } : Ev) :=
  ⟨h.1, fun x hx => h.2 x (by rw [hr]; exact List.mem_cons_of_mem _ hx)⟩
theorem Ev.report_calm {g : Ground} {e : Ev} (r : Report) (hc : r.calm g) (h : e.calm g) : (e.report r).calm g :=
  ⟨h.1, fun x hx => by
    rcases List.mem_append.mp hx with hx | hx
    · exact h.2 x hx
    · rw [List.mem_singleton.mp hx]; exact hc⟩
theorem Ev.eachLine_calm {g : Ground} {e : Ev} (f : LineId → Ev → Ev) (hf : ∀ l x, x.calm g → (f l x).calm g)
    (h : e.calm g) : (e.eachLine f).calm g := by
  simp only [Ev.eachLine, allLines, List.foldl]
  exact hf _ _ (hf _ _ (hf _ _ (hf _ _ h)))
theorem Ev.eachTank_calm {g : Ground} (ks : List TankId) {e : Ev} (f : TankId → Ev → Ev)
    (hf : ∀ k x, x.calm g → (f k x).calm g) (h : e.calm g) : (e.eachTank ks f).calm g := by
  unfold Ev.eachTank
  induction ks generalizing e with
  | nil => exact h
  | cons k ks ih => exact ih (hf k e h)

/-! ### The operations -/

theorem Ev.setUse_calm {g : Ground} {e : Ev} (k : TankId) (u : TankUse) (h : e.calm g) : (e.setUse k u).calm g := by
  simp only [Ev.setUse]
  repeat' (first | with_reducible assumption | with_reducible apply Ev.modTank_calm | with_reducible apply Ev.markIf_calm | with_reducible intro _ | split | rfl | exact ⟨rfl, rfl⟩)
theorem Ev.credit_calm {g : Ground} {e : Ev} (k : TankId) (litres : Nat) (h : e.calm g) : (e.credit k litres).calm g := by
  simp only [Ev.credit]
  repeat' (first | with_reducible assumption | with_reducible apply Ev.modTank_calm | with_reducible intro _ | split | rfl | exact ⟨rfl, rfl⟩)
theorem Ev.zeroAccount_calm {g : Ground} {e : Ev} (l : LineId) (h : e.calm g) : (e.zeroAccount l).calm g := by
  simp only [Ev.zeroAccount]
  repeat' (first | with_reducible assumption | with_reducible apply Ev.modLine_calm | with_reducible apply Ev.modTank_calm | with_reducible apply Ev.modFlow_calm | with_reducible apply Ev.eachTank_calm | with_reducible intro _ | split | rfl | exact ⟨rfl, rfl⟩)
theorem Ev.settleComplete_calm {g : Ground} {e : Ev} (l : LineId) (h : e.calm g) : (e.settleComplete l).calm g := by
  simp only [Ev.settleComplete]
  repeat' (first | with_reducible assumption | with_reducible apply Ev.setList_calm | with_reducible apply Ev.eachTank_calm | with_reducible apply Ev.setUse_calm | with_reducible intro _ | split | rfl | exact ⟨rfl, rfl⟩)
theorem Ev.settleCleared_calm {g : Ground} {e : Ev} (l : LineId) (h : e.calm g) : (e.settleCleared l).calm g := by
  simp only [Ev.settleCleared]
  repeat' (first | with_reducible assumption | with_reducible apply Ev.setList_calm | with_reducible apply Ev.eachTank_calm | with_reducible apply Ev.setUse_calm | with_reducible intro _ | split | rfl | exact ⟨rfl, rfl⟩)
theorem Ev.evalPermit_calm {g : Ground} {e : Ev} (p : PumpId) (h : e.calm g) : (e.evalPermit p).calm g :=
  Ev.calm_congr h (by simp) (by simp [Ev.evalPermit])
theorem Ev.evalPermitOf_calm {g : Ground} {e : Ev} (l : LineId) (h : e.calm g) : (e.evalPermitOf l).calm g := by
  simp only [Ev.evalPermitOf]
  repeat' (first | with_reducible assumption | with_reducible apply Ev.evalPermit_calm | with_reducible intro _ | split | rfl | exact ⟨rfl, rfl⟩)
theorem Ev.setState_calm {g : Ground} {e : Ev} (l : LineId) (st : LineState) (h : e.calm g) : (e.setState l st).calm g := by
  simp only [Ev.setState]
  repeat' (first | with_reducible assumption | with_reducible apply Ev.modLine_calm | with_reducible apply Ev.mark_calm | with_reducible apply Ev.evalPermitOf_calm | with_reducible intro _ | split | rfl | exact ⟨rfl, rfl⟩)
theorem Ev.setSurge_calm {g : Ground} {e : Ev} (l : LineId) (b : Bool) (h : e.calm g) : (e.setSurge l b).calm g := by
  simp only [Ev.setSurge]
  repeat' (first | with_reducible assumption | with_reducible apply Ev.modLine_calm | with_reducible apply Ev.markIf_calm | with_reducible intro _ | split | rfl | exact ⟨rfl, rfl⟩)
theorem Ev.setLate_calm {g : Ground} {e : Ev} (l : LineId) (b : Bool) (h : e.calm g) : (e.setLate l b).calm g := by
  simp only [Ev.setLate]
  repeat' (first | with_reducible assumption | with_reducible apply Ev.modLine_calm | with_reducible apply Ev.markIf_calm | with_reducible intro _ | split | rfl | exact ⟨rfl, rfl⟩)
theorem Ev.setQuiet_calm {g : Ground} {e : Ev} (l : LineId) (b : Bool) (h : e.calm g) : (e.setQuiet l b).calm g := by
  simp only [Ev.setQuiet]
  repeat' (first | with_reducible assumption | with_reducible apply Ev.modLine_calm | with_reducible apply Ev.markIf_calm | with_reducible intro _ | split | rfl | exact ⟨rfl, rfl⟩)
theorem Ev.updatePump_calm {g : Ground} {e : Ev} (h : e.calm g) : (e.updatePump ).calm g := by
  simp only [Ev.updatePump]
  repeat' (first | with_reducible assumption | with_reducible apply Ev.modSupply_calm | with_reducible intro _ | split | rfl | exact ⟨rfl, rfl⟩)
theorem Ev.freeChannel_calm {g : Ground} {e : Ev} (l : LineId) (h : e.calm g) : (e.freeChannel l).calm g :=
  Ev.calm_congr h (by simp) (by simp [Ev.freeChannel, Ev.updatePump])
theorem Ev.grant_calm {g : Ground} {e : Ev} (l : LineId) (r : StrokeReq) (c : ChanId) (h : e.calm g) :
    (e.grant l r c).calm g := by
  simp only [Ev.grant]
  split
  · rename_i ht
    refine Ev.updatePump_calm (Ev.report_calm _ trivial (Ev.report_calm _ ?_ ?_))
    · intro h0
      rw [← h.1]
      simp only [State.atTarget, h0, if_true] at ht
      exact ht
    · exact Ev.modValve_calm l _ (fun _ => rfl) (Ev.modValve_calm l _ (fun _ => rfl) h)
  · exact Ev.modChan_calm c _ (Ev.modValve_calm l _ (fun _ => rfl) (Ev.modValve_calm l _ (fun _ => rfl) h))

theorem Ev.grantUpTo_calm {g : Ground} (n : Nat) {e : Ev} (h : e.calm g) : (Ev.grantUpTo n e).calm g := by
  induction n generalizing e with
  | zero => exact h
  | succ n ih =>
    unfold Ev.grantUpTo
    (repeat' split) <;> first | exact h | exact ih (Ev.grant_calm _ _ _ h)

theorem Ev.considerGrants_calm {g : Ground} {e : Ev} (h : e.calm g) : e.considerGrants.calm g := Ev.grantUpTo_calm 4 h
theorem Ev.endStroke_calm {g : Ground} {e : Ev} (l : LineId) (o : StrokeOutcome) (h : e.calm g) : (e.endStroke l o).calm g := by
  simp only [Ev.endStroke]
  repeat' (first | with_reducible assumption | with_reducible apply Ev.modValve_calm | with_reducible apply Ev.freeChannel_calm | with_reducible intro _ | split | rfl | exact ⟨rfl, rfl⟩)
theorem Ev.dropWork_calm {g : Ground} {e : Ev} (l : LineId) (h : e.calm g) : (e.dropWork l).calm g := by
  simp only [Ev.dropWork]
  repeat' (first | with_reducible assumption | with_reducible apply Ev.modValve_calm | with_reducible apply Ev.endStroke_calm | with_reducible intro _ | split | rfl | exact ⟨rfl, rfl⟩)
theorem Ev.cancelWork_calm {g : Ground} {e : Ev} (l : LineId) (h : e.calm g) : (e.cancelWork l).calm g := by
  simp only [Ev.cancelWork]
  repeat' (first | with_reducible assumption | with_reducible apply Ev.considerGrants_calm | with_reducible apply Ev.dropWork_calm | with_reducible intro _ | split | rfl | exact ⟨rfl, rfl⟩)
theorem Ev.cancelAllWork_calm {g : Ground} {e : Ev} (h : e.calm g) : (e.cancelAllWork ).calm g := by
  simp only [Ev.cancelAllWork]
  repeat' (first | with_reducible assumption | with_reducible apply Ev.eachLine_calm | with_reducible apply Ev.considerGrants_calm | with_reducible apply Ev.dropWork_calm | with_reducible intro _ | split | rfl | exact ⟨rfl, rfl⟩)
theorem Ev.enqueue_calm {g : Ground} {e : Ev} (l : LineId) (r : StrokeReq) (h : e.calm g) : (e.enqueue l r).calm g := by
  simp only [Ev.enqueue]
  repeat' (first | with_reducible assumption | with_reducible apply Ev.modValve_calm | with_reducible apply Ev.considerGrants_calm | with_reducible intro _ | split | rfl | exact ⟨rfl, rfl⟩)
theorem Ev.requestStroke_calm {g : Ground} {e : Ev} (l : LineId) (cls : StrokeClass) (target : Nat) (retry : Bool) (h : e.calm g) : (e.requestStroke l cls target retry).calm g := by
  simp only [Ev.requestStroke]
  repeat' (first | with_reducible assumption | with_reducible apply Ev.modValve_calm | with_reducible apply Ev.endStroke_calm | with_reducible apply Ev.enqueue_calm | with_reducible intro _ | split | rfl | exact ⟨rfl, rfl⟩)
theorem Ev.beginTravel_calm {g : Ground} {e : Ev} (l : LineId) (k : Stroke) (h : e.calm g) : (e.beginTravel l k).calm g :=
  Ev.calm_congr h (by simp) (by simp [Ev.beginTravel])
theorem Ev.clearPred_calm {g : Ground} {e : Ev} (l : LineId) (h : e.calm g) : (e.clearPred l).calm g := by
  simp only [Ev.clearPred]
  repeat' (first | with_reducible assumption | with_reducible apply Ev.modPred_calm | with_reducible intro _ | split | rfl | exact ⟨rfl, rfl⟩)
theorem Ev.settleArrival_calm {g : Ground} {e : Ev} (l : LineId) (target : Nat) (h : e.calm g) : (e.settleArrival l target).calm g := by
  simp only [Ev.settleArrival]
  repeat' (first | with_reducible assumption | with_reducible apply Ev.modPred_calm | with_reducible intro _ | split | rfl | exact ⟨rfl, rfl⟩)
theorem Ev.writeTrip_calm {g : Ground} {e : Ev} (l : LineId) (cause : TripCause) (h : e.calm g) : (e.writeTrip l cause).calm g := by
  simp only [Ev.writeTrip]
  repeat' (first | with_reducible assumption | with_reducible apply Ev.modLine_calm | with_reducible apply Ev.mark_calm | with_reducible intro _ | split | rfl | exact ⟨rfl, rfl⟩)
theorem Ev.changeoverExit_calm {g : Ground} {e : Ev} (l : LineId) (reason : CloseReason) (h : e.calm g) : (e.changeoverExit l reason).calm g := by
  simp only [Ev.changeoverExit]
  repeat' (first | with_reducible assumption | with_reducible apply Ev.modLine_calm | with_reducible apply Ev.modTank_calm | with_reducible apply Ev.modFlow_calm | with_reducible apply Ev.setUse_calm | with_reducible apply Ev.credit_calm | with_reducible intro _ | split | rfl | exact ⟨rfl, rfl⟩)
theorem Ev.closeEntry_calm {g : Ground} {e : Ev} (l : LineId) (reason : CloseReason) (hold : Option HoldReason) (cause : Option TripCause) (h : e.calm g) : (e.closeEntry l reason hold cause).calm g := by
  simp only [Ev.closeEntry]; refine Ev.setUndecided_calm _ ?_
  repeat' (first | with_reducible assumption | with_reducible apply Ev.modLine_calm | with_reducible apply Ev.modFlow_calm | with_reducible apply Ev.setClose_calm | with_reducible apply Ev.mark_calm | with_reducible apply Ev.evalPermitOf_calm | with_reducible apply Ev.cancelWork_calm | with_reducible apply Ev.clearPred_calm | with_reducible apply Ev.writeTrip_calm | with_reducible apply Ev.changeoverExit_calm | with_reducible intro _ | split | rfl | exact ⟨rfl, rfl⟩)
theorem Ev.retripClosing_calm {g : Ground} {e : Ev} (l : LineId) (reason : CloseReason) (cause : TripCause) (h : e.calm g) : (e.retripClosing l reason cause).calm g := by
  simp only [Ev.retripClosing]
  repeat' (first | with_reducible assumption | with_reducible apply Ev.modLine_calm | with_reducible apply Ev.modFlow_calm | with_reducible apply Ev.markIf_calm | with_reducible apply Ev.writeTrip_calm | with_reducible intro _ | split | rfl | exact ⟨rfl, rfl⟩)
theorem Ev.trip_calm {g : Ground} {e : Ev} (l : LineId) (cause : TripCause) (h : e.calm g) : (e.trip l cause).calm g := by
  simp only [Ev.trip]
  repeat' (first | with_reducible assumption | with_reducible apply Ev.modLine_calm | with_reducible apply Ev.setState_calm | with_reducible apply Ev.writeTrip_calm | with_reducible apply Ev.closeEntry_calm | with_reducible apply Ev.retripClosing_calm | with_reducible intro _ | split | rfl | exact ⟨rfl, rfl⟩)
theorem Ev.tripHolder_calm {g : Ground} {e : Ev} (k : TankId) (cause : TripCause) (h : e.calm g) : (e.tripHolder k cause).calm g := by
  simp only [Ev.tripHolder]
  repeat' (first | with_reducible assumption | with_reducible apply Ev.trip_calm | with_reducible intro _ | split | rfl | exact ⟨rfl, rfl⟩)
theorem Ev.dropClose_calm {g : Ground} {e : Ev} (l : LineId) (h : e.calm g) : (e.dropClose l).calm g := by
  simp only [Ev.dropClose]
  repeat' (first | with_reducible assumption | with_reducible apply Ev.modLine_calm | with_reducible apply Ev.modFlow_calm | with_reducible apply Ev.setClose_calm | with_reducible intro _ | split | rfl | exact ⟨rfl, rfl⟩)
theorem Ev.closeEnd_calm {g : Ground} {e : Ev} (l : LineId) (h : e.calm g) : (e.closeEnd l).calm g := by
  simp only [Ev.closeEnd]
  repeat' (first | with_reducible assumption | with_reducible apply Ev.modLine_calm | with_reducible apply Ev.setUse_calm | with_reducible apply Ev.settleComplete_calm | with_reducible apply Ev.setState_calm | with_reducible apply Ev.trip_calm | with_reducible apply Ev.dropClose_calm | with_reducible intro _ | split | rfl | exact ⟨rfl, rfl⟩)
theorem Ev.enterStarting_calm {g : Ground} {e : Ev} (l : LineId) (h : e.calm g) : (e.enterStarting l).calm g := by
  simp only [Ev.enterStarting]
  repeat' (first | with_reducible assumption | with_reducible apply Ev.modLine_calm | with_reducible apply Ev.modFlow_calm | with_reducible apply Ev.setUse_calm | with_reducible apply Ev.setState_calm | with_reducible apply Ev.setSurge_calm | with_reducible apply Ev.setLate_calm | with_reducible apply Ev.requestStroke_calm | with_reducible intro _ | split | rfl | exact ⟨rfl, rfl⟩)
theorem Ev.enterProving_calm {g : Ground} {e : Ev} (l : LineId) (h : e.calm g) : (e.enterProving l).calm g := by
  simp only [Ev.enterProving]
  repeat' (first | with_reducible assumption | with_reducible apply Ev.modLine_calm | with_reducible apply Ev.modFlow_calm | with_reducible apply Ev.setState_calm | with_reducible intro _ | split | rfl | exact ⟨rfl, rfl⟩)
theorem Ev.throttleTo_calm {g : Ground} {e : Ev} (l : LineId) (pos : Nat) (h : e.calm g) : (e.throttleTo l pos).calm g := by
  simp only [Ev.throttleTo]
  repeat' (first | with_reducible assumption | with_reducible apply Ev.modLine_calm | with_reducible apply Ev.modFlow_calm | with_reducible apply Ev.modPred_calm | with_reducible apply Ev.requestStroke_calm | with_reducible intro _ | split | rfl | exact ⟨rfl, rfl⟩)
theorem Ev.closeStartTest_calm {g : Ground} {e : Ev} (l : LineId) (h : e.calm g) : (e.closeStartTest l).calm g := by
  simp only [Ev.closeStartTest]
  repeat' (first | with_reducible assumption | with_reducible apply Ev.modPred_calm | with_reducible apply Ev.setLate_calm | with_reducible apply Ev.closeEntry_calm | with_reducible intro _ | split | rfl | exact ⟨rfl, rfl⟩)
theorem Ev.enterTopping_calm {g : Ground} {e : Ev} (l : LineId) (h : e.calm g) : (e.enterTopping l).calm g := by
  simp only [Ev.enterTopping]
  repeat' (first | with_reducible assumption | with_reducible apply Ev.modLine_calm | with_reducible apply Ev.setState_calm | with_reducible apply Ev.throttleTo_calm | with_reducible apply Ev.closeStartTest_calm | with_reducible intro _ | split | rfl | exact ⟨rfl, rfl⟩)
theorem Ev.enterChangeover_calm {g : Ground} {e : Ev} (l : LineId) (k : TankId) (h : e.calm g) : (e.enterChangeover l k).calm g := by
  simp only [Ev.enterChangeover]
  repeat' (first | with_reducible assumption | with_reducible apply Ev.modLine_calm | with_reducible apply Ev.modTank_calm | with_reducible apply Ev.modFlow_calm | with_reducible apply Ev.setUse_calm | with_reducible apply Ev.setState_calm | with_reducible apply Ev.throttleTo_calm | with_reducible intro _ | split | rfl | exact ⟨rfl, rfl⟩)
theorem Ev.evaluateMarks_calm {g : Ground} {e : Ev} (l : LineId) (h : e.calm g) : (e.evaluateMarks l).calm g := by
  simp only [Ev.evaluateMarks]
  repeat' (first | with_reducible assumption | with_reducible apply Ev.enterTopping_calm | with_reducible apply Ev.enterChangeover_calm | with_reducible intro _ | split | rfl | exact ⟨rfl, rfl⟩)
theorem Ev.overrunTest_calm {g : Ground} {e : Ev} (l : LineId) (h : e.calm g) : (e.overrunTest l).calm g := by
  simp only [Ev.overrunTest]
  repeat' (first | with_reducible assumption | with_reducible apply Ev.trip_calm | with_reducible intro _ | split | rfl | exact ⟨rfl, rfl⟩)
theorem Ev.changeoverSuccess_calm {g : Ground} {e : Ev} (l : LineId) (old new : TankId) (h : e.calm g) : (e.changeoverSuccess l old new).calm g := by
  simp only [Ev.changeoverSuccess]
  repeat' (first | with_reducible assumption | with_reducible apply Ev.modLine_calm | with_reducible apply Ev.modTank_calm | with_reducible apply Ev.modFlow_calm | with_reducible apply Ev.setList_calm | with_reducible apply Ev.setUse_calm | with_reducible apply Ev.credit_calm | with_reducible apply Ev.setState_calm | with_reducible apply Ev.requestStroke_calm | with_reducible apply Ev.clearPred_calm | with_reducible apply Ev.evaluateMarks_calm | with_reducible intro _ | split | rfl | exact ⟨rfl, rfl⟩)
theorem Ev.successTest_calm {g : Ground} {e : Ev} (l : LineId) (h : e.calm g) : (e.successTest l).calm g := by
  simp only [Ev.successTest]
  repeat' (first | with_reducible assumption | with_reducible apply Ev.changeoverSuccess_calm | with_reducible intro _ | split | rfl | exact ⟨rfl, rfl⟩)
theorem Ev.provingTest_calm {g : Ground} {e : Ev} (l : LineId) (k : TankId) (level : Nat) (h : e.calm g) : (e.provingTest l k level).calm g := by
  simp only [Ev.provingTest]
  repeat' (first | with_reducible assumption | with_reducible apply Ev.modLine_calm | with_reducible apply Ev.setState_calm | with_reducible apply Ev.requestStroke_calm | with_reducible apply Ev.evaluateMarks_calm | with_reducible intro _ | split | rfl | exact ⟨rfl, rfl⟩)
theorem Ev.esdToLine_calm {g : Ground} {e : Ev} (l : LineId) (h : e.calm g) : (e.esdToLine l).calm g := by
  simp only [Ev.esdToLine]
  repeat' (first | with_reducible assumption | with_reducible apply Ev.closeEntry_calm | with_reducible apply Ev.retripClosing_calm | with_reducible intro _ | split | rfl | exact ⟨rfl, rfl⟩)
theorem Ev.raiseCause_calm {g : Ground} {e : Ev} (c : EsdCause) (h : e.calm g) : (e.raiseCause c).calm g := by
  simp only [Ev.raiseCause]
  split
  · exact h
  · refine Ev.mark_calm _ (Ev.eachLine_calm _ (fun l x hx => Ev.esdToLine_calm l hx) (Ev.cancelAllWork_calm
      (Ev.evalPermit_calm _ (Ev.evalPermit_calm _ (Ev.calm_congr h ?_ rfl)))))
    exact Ev.modShut_ground e (fun x => { x with causes := x.causes.add c e.now }) (fun _ => ⟨rfl, rfl⟩)
theorem Ev.raiseValve_calm {g : Ground} {e : Ev} (l : LineId) (h : e.calm g) : (e.raiseValve l).calm g := by
  simp only [Ev.raiseValve]
  repeat' (first | with_reducible assumption | with_reducible apply Ev.modShut_calm | with_reducible apply Ev.mark_calm | with_reducible apply Ev.raiseCause_calm | with_reducible intro _ | split | rfl | exact ⟨rfl, rfl⟩)
theorem Ev.requestStage_calm {g : Ground} {e : Ev} (l : LineId) (k : Nat) (h : e.calm g) : (e.requestStage l k).calm g := by
  simp only [Ev.requestStage]
  repeat' (first | with_reducible assumption | with_reducible apply Ev.modClose_calm | with_reducible apply Ev.requestStroke_calm | with_reducible intro _ | split | rfl | exact ⟨rfl, rfl⟩)
theorem Ev.startPlan_calm {g : Ground} {e : Ev} (l : LineId) (h : e.calm g) : (e.startPlan l).calm g := by
  simp only [Ev.startPlan]
  repeat' (first | with_reducible assumption | with_reducible apply Ev.modClose_calm | with_reducible apply Ev.setSurge_calm | with_reducible apply Ev.requestStroke_calm | with_reducible apply Ev.closeEnd_calm | with_reducible apply Ev.requestStage_calm | with_reducible intro _ | split | rfl | exact ⟨rfl, rfl⟩)
theorem Ev.endRunDown_calm {g : Ground} {e : Ev} (l : LineId) (cause : RunDownEnd) (h : e.calm g) : (e.endRunDown l cause).calm g := by
  simp only [Ev.endRunDown]
  repeat' (first | with_reducible assumption | with_reducible apply Ev.modClose_calm | with_reducible apply Ev.startPlan_calm | with_reducible intro _ | split | rfl | exact ⟨rfl, rfl⟩)
theorem Ev.decideClose_calm {g : Ground} {e : Ev} (l : LineId) (h : e.calm g) : (e.decideClose l).calm g := by
  simp only [Ev.decideClose]
  repeat' (first | with_reducible assumption | with_reducible apply Ev.modClose_calm | with_reducible apply Ev.startPlan_calm | with_reducible apply Ev.endRunDown_calm | with_reducible intro _ | split | rfl | exact ⟨rfl, rfl⟩)
theorem Ev.plannerArrived_calm {g : Ground} {e : Ev} (l : LineId) (target : Nat) (h : e.calm g) : (e.plannerArrived l target).calm g := by
  simp only [Ev.plannerArrived]
  repeat' (first | with_reducible assumption | with_reducible apply Ev.modClose_calm | with_reducible apply Ev.closeEnd_calm | with_reducible intro _ | split | rfl | exact ⟨rfl, rfl⟩)
theorem Ev.nextStage_calm {g : Ground} {e : Ev} (l : LineId) (h : e.calm g) : (e.nextStage l).calm g := by
  simp only [Ev.nextStage]
  repeat' (first | with_reducible assumption | with_reducible apply Ev.requestStage_calm | with_reducible intro _ | split | rfl | exact ⟨rfl, rfl⟩)
theorem Ev.plannerEnded_calm {g : Ground} {e : Ev} (l : LineId) (h : e.calm g) : (e.plannerEnded l).calm g := by
  simp only [Ev.plannerEnded]
  repeat' (first | with_reducible assumption | with_reducible apply Ev.modClose_calm | with_reducible apply Ev.nextStage_calm | with_reducible intro _ | split | rfl | exact ⟨rfl, rfl⟩)
theorem Ev.retryStage_calm {g : Ground} {e : Ev} (l : LineId) (h : e.calm g) : (e.retryStage l).calm g := by
  simp only [Ev.retryStage]
  repeat' (first | with_reducible assumption | with_reducible apply Ev.modClose_calm | with_reducible apply Ev.requestStroke_calm | with_reducible intro _ | split | rfl | exact ⟨rfl, rfl⟩)
theorem Ev.abandonClose_calm {g : Ground} {e : Ev} (l : LineId) (h : e.calm g) : (e.abandonClose l).calm g := by
  simp only [Ev.abandonClose]
  repeat' (first | with_reducible assumption | with_reducible apply Ev.setState_calm | with_reducible apply Ev.retripClosing_calm | with_reducible apply Ev.trip_calm | with_reducible apply Ev.dropClose_calm | with_reducible apply Ev.raiseValve_calm | with_reducible intro _ | split | rfl | exact ⟨rfl, rfl⟩)
theorem Ev.plannerFailed_calm {g : Ground} {e : Ev} (l : LineId) (h : e.calm g) : (e.plannerFailed l).calm g := by
  simp only [Ev.plannerFailed]
  repeat' (first | with_reducible assumption | with_reducible apply Ev.modClose_calm | with_reducible apply Ev.retryStage_calm | with_reducible apply Ev.abandonClose_calm | with_reducible intro _ | split | rfl | exact ⟨rfl, rfl⟩)
theorem Ev.plannerSeated_calm {g : Ground} {e : Ev} (l : LineId) (h : e.calm g) : (e.plannerSeated l).calm g := by
  simp only [Ev.plannerSeated]
  repeat' (first | with_reducible assumption | with_reducible apply Ev.closeEnd_calm | with_reducible intro _ | split | rfl | exact ⟨rfl, rfl⟩)
theorem Ev.retryWaiting_calm {g : Ground} {e : Ev} (l : LineId) (h : e.calm g) : (e.retryWaiting l).calm g := by
  simp only [Ev.retryWaiting]
  repeat' (first | with_reducible assumption | with_reducible apply Ev.retryStage_calm | with_reducible intro _ | split | rfl | exact ⟨rfl, rfl⟩)

/-! ### The end of an event -/

/-- Handing on a calm report keeps the calm. -/
theorem Ev.handleReport_calm {g : Ground} {e : Ev} (r : Report) (hr : r.calm g) (h : e.calm g) :
    (e.handleReport r).calm g := by
  cases r with
  | arrived l cls target =>
    cases cls <;> simp only [Ev.handleReport]
    · exact Ev.plannerArrived_calm l target h
    · exact Ev.settleArrival_calm l target h
    · split
      · exact Ev.enterProving_calm l h
      · exact Ev.settleArrival_calm l target h
  | ended l cls =>
    cases cls <;> simp only [Ev.handleReport]
    · split
      · exact Ev.requestStroke_calm l _ _ _ h
      · exact Ev.plannerEnded_calm l h
    · exact h
    · exact h
  | failed l cls o => exact absurd hr id
  | seated l => exact absurd hr id

/-- The induction principle of the drain for calm events: reports are calm throughout. -/
theorem Ev.drain_calm_induction {g : Ground} {P : Ev → Prop}
    (hr : ∀ (e : Ev) (r : Report), e.calm g → r.calm g → P e → P (e.handleReport r))
    (hd : ∀ (e : Ev) (l : LineId), e.calm g → P e → P (e.decideClose l))
    (hrs : ∀ (e : Ev) (rs : List Report), P e → P ({ e with reports := rs } : Ev))
    (hus : ∀ (e : Ev) (ls : List LineId), P e → P ({ e with undecided := ls } : Ev))
    (e : Ev) (hc : e.calm g) (h : P e) : P e.drain := by
  refine (Ev.drain_induction (P := fun e => e.calm g ∧ P e) ?_ ?_ e ⟨hc, h⟩).2
  · intro e r rs h hrs'
    have hcr : r.calm g := h.1.2 r (by rw [hrs']; exact List.mem_cons_self)
    have hc' := Ev.setReports_calm h.1 hrs'
    exact ⟨Ev.handleReport_calm r hcr hc', hr _ r hc' hcr (hrs e rs h.2)⟩
  · intro e l ls h _ _
    have hc' := Ev.setUndecided_calm ls h.1
    exact ⟨Ev.decideClose_calm l hc', hd _ l hc' (hus e ls h.2)⟩

end Sys2Proof.Machine
end

