-- ==== Sys2Proof/Laws/Fixed.lean ====
section
/-! SUPPORT. Two more views that internal work leaves alone: the alarms (the ESD cause set and the valve list, changed only by
raising a cause and by ESD_RESET) and the fixtures (delivered litres and pulse total, known position and its source, changed
only by gate ends, samples, switches, simulated arrivals and the zeroing of an account). -/

set_option linter.unusedSimpArgs false
set_option linter.unusedVariables false
set_option linter.unusedTactic false
set_option linter.unreachableTactic false

namespace Sys2Proof.Machine

/-- The ESD cause set and the valve list. -/
abbrev State.alarms (s : State) : CauseSet × List LineId := (s.shut.causes, s.shut.valveList)

/-- Delivered litres, pulse total, known position and source of a line. -/
abbrev LineFixture := Nat × Nat × Nat × PositionSource

def State.fixture (s : State) (l : LineId) : LineFixture :=
  ((s.lines.get l).delivered, (s.flows.get l).pulseTotal, (s.valves.get l).position, (s.valves.get l).source)

/-! ### Alarms -/

theorem Ev.modLine_alarms {v : CauseSet × List LineId} {e : Ev} (l : LineId) (f : LineRec → LineRec) (hE : e.alarms = v) :
    (e.modLine l f).alarms = v := hE
theorem Ev.setList_alarms {v : CauseSet × List LineId} {e : Ev} (l : LineId) (ks : List TankId) (hE : e.alarms = v) :
    (e.setList l ks).alarms = v := hE
theorem Ev.modPred_alarms {v : CauseSet × List LineId} {e : Ev} (l : LineId) (f : Predictor → Predictor) (hE : e.alarms = v) :
    (e.modPred l f).alarms = v := hE
theorem Ev.setClose_alarms {v : CauseSet × List LineId} {e : Ev} (l : LineId) (c : Option CloseRec) (hE : e.alarms = v) :
    (e.setClose l c).alarms = v := hE
theorem Ev.modClose_alarms {v : CauseSet × List LineId} {e : Ev} (l : LineId) (f : CloseRec → CloseRec) (hE : e.alarms = v) :
    (e.modClose l f).alarms = v := hE
theorem Ev.modFlow_alarms {v : CauseSet × List LineId} {e : Ev} (l : LineId) (f : Flow → Flow) (hE : e.alarms = v) :
    (e.modFlow l f).alarms = v := hE
theorem Ev.modValve_alarms {v : CauseSet × List LineId} {e : Ev} (l : LineId) (f : Valve → Valve) (hE : e.alarms = v) :
    (e.modValve l f).alarms = v := hE
theorem Ev.modTank_alarms {v : CauseSet × List LineId} {e : Ev} (k : TankId) (f : Tank → Tank) (hE : e.alarms = v) :
    (e.modTank k f).alarms = v := hE
theorem Ev.modGrade_alarms {v : CauseSet × List LineId} {e : Ev} (g : GradeId) (f : Grade → Grade) (hE : e.alarms = v) :
    (e.modGrade g f).alarms = v := hE
theorem Ev.modLink_alarms {v : CauseSet × List LineId} {e : Ev} (f : Link → Link) (hE : e.alarms = v) :
    (e.modLink f).alarms = v := hE
theorem Ev.modShut_alarms {v : CauseSet × List LineId} {e : Ev} (f : Shutdown → Shutdown) (hf : ∀ x, (f x).causes = x.causes ∧ (f x).valveList = x.valveList) (hE : e.alarms = v) :
    (e.modShut f).alarms = v := by
  rw [← hE]; exact Prod.ext (hf e.shut).1 (hf e.shut).2
theorem Ev.modSupply_alarms {v : CauseSet × List LineId} {e : Ev} (f : Supply → Supply) (hE : e.alarms = v) :
    (e.modSupply f).alarms = v := hE
theorem Ev.report_alarms {v : CauseSet × List LineId} {e : Ev} (r : Report) (hE : e.alarms = v) :
    (e.report r).alarms = v := hE
theorem Ev.mark_alarms {v : CauseSet × List LineId} {e : Ev} (k : NoticeKey) (hE : e.alarms = v) :
    (e.mark k).alarms = v := by
  unfold Ev.mark; split <;> exact hE
theorem Ev.markIf_alarms {v : CauseSet × List LineId} {e : Ev} (c : Bool) (k : NoticeKey) (hE : e.alarms = v) :
    (e.markIf c k).alarms = v := by
  cases c <;> simp only [Ev.markIf] <;> first | exact hE | exact Ev.mark_alarms _ hE
theorem Ev.modChan_alarms {v : CauseSet × List LineId} {e : Ev} (c : ChanId) (f : Channel → Channel) (hE : e.alarms = v) :
    (e.modChan c f).alarms = v := by cases c <;> exact hE
theorem Ev.eachLine_alarms {v : CauseSet × List LineId} {e : Ev} (f : LineId → Ev → Ev) (hf : ∀ l x, x.alarms = v → (f l x).alarms = v)
    (hE : e.alarms = v) : (e.eachLine f).alarms = v := by
  simp only [Ev.eachLine, allLines, List.foldl]
  exact hf _ _ (hf _ _ (hf _ _ (hf _ _ hE)))
theorem Ev.eachTank_alarms {v : CauseSet × List LineId} (ks : List TankId) {e : Ev} (f : TankId → Ev → Ev)
    (hf : ∀ k x, x.alarms = v → (f k x).alarms = v) (hE : e.alarms = v) : (e.eachTank ks f).alarms = v := by
  unfold Ev.eachTank
  induction ks generalizing e with
  | nil => exact hE
  | cons k ks ih => exact ih (hf k e hE)
theorem Ev.setUse_alarms {v : CauseSet × List LineId} {e : Ev} (k : TankId) (u : TankUse) (hE : e.alarms = v) : (e.setUse k u).alarms = v := by
  simp only [Ev.setUse]
  repeat' (first | with_reducible assumption | with_reducible apply Ev.modTank_alarms | with_reducible apply Ev.markIf_alarms | with_reducible intro _ | split | rfl | exact ⟨rfl, rfl⟩ | exact ⟨rfl, rfl, rfl⟩)
theorem Ev.setHealth_alarms {v : CauseSet × List LineId} {e : Ev} (k : TankId) (h : Health) (r : Option RefusalReason) (hE : e.alarms = v) : (e.setHealth k h r).alarms = v := by
  simp only [Ev.setHealth]
  repeat' (first | with_reducible assumption | with_reducible apply Ev.modTank_alarms | with_reducible apply Ev.markIf_alarms | with_reducible intro _ | split | rfl | exact ⟨rfl, rfl⟩ | exact ⟨rfl, rfl, rfl⟩)
theorem Ev.credit_alarms {v : CauseSet × List LineId} {e : Ev} (k : TankId) (litres : Nat) (hE : e.alarms = v) : (e.credit k litres).alarms = v := by
  simp only [Ev.credit]
  repeat' (first | with_reducible assumption | with_reducible apply Ev.modTank_alarms | with_reducible intro _ | split | rfl | exact ⟨rfl, rfl⟩ | exact ⟨rfl, rfl, rfl⟩)
theorem Ev.zeroAccount_alarms {v : CauseSet × List LineId} {e : Ev} (l : LineId) (hE : e.alarms = v) : (e.zeroAccount l).alarms = v := by
  simp only [Ev.zeroAccount]
  repeat' (first | with_reducible assumption | with_reducible apply Ev.modLine_alarms | with_reducible apply Ev.modFlow_alarms | with_reducible apply Ev.modTank_alarms | with_reducible apply Ev.eachTank_alarms | with_reducible intro _ | split | rfl | exact ⟨rfl, rfl⟩ | exact ⟨rfl, rfl, rfl⟩)
theorem Ev.settleComplete_alarms {v : CauseSet × List LineId} {e : Ev} (l : LineId) (hE : e.alarms = v) : (e.settleComplete l).alarms = v := by
  simp only [Ev.settleComplete]
  repeat' (first | with_reducible assumption | with_reducible apply Ev.setList_alarms | with_reducible apply Ev.eachTank_alarms | with_reducible apply Ev.setUse_alarms | with_reducible intro _ | split | rfl | exact ⟨rfl, rfl⟩ | exact ⟨rfl, rfl, rfl⟩)
theorem Ev.settleCleared_alarms {v : CauseSet × List LineId} {e : Ev} (l : LineId) (hE : e.alarms = v) : (e.settleCleared l).alarms = v := by
  simp only [Ev.settleCleared]
  repeat' (first | with_reducible assumption | with_reducible apply Ev.setList_alarms | with_reducible apply Ev.eachTank_alarms | with_reducible apply Ev.setUse_alarms | with_reducible intro _ | split | rfl | exact ⟨rfl, rfl⟩ | exact ⟨rfl, rfl, rfl⟩)
theorem Ev.evalPermit_alarms {v : CauseSet × List LineId} {e : Ev} (p : PumpId) (h : e.alarms = v) : (e.evalPermit p).alarms = v := by
  refine Ev.markIf_alarms _ _ (Ev.modShut_alarms _ ?_ h)
  intro x; cases p <;> exact ⟨rfl, rfl⟩
theorem Ev.evalPermitOf_alarms {v : CauseSet × List LineId} {e : Ev} (l : LineId) (hE : e.alarms = v) : (e.evalPermitOf l).alarms = v := by
  simp only [Ev.evalPermitOf]
  repeat' (first | with_reducible assumption | with_reducible apply Ev.evalPermit_alarms | with_reducible intro _ | split | rfl | exact ⟨rfl, rfl⟩ | exact ⟨rfl, rfl, rfl⟩)
theorem Ev.setState_alarms {v : CauseSet × List LineId} {e : Ev} (l : LineId) (st : LineState) (hE : e.alarms = v) : (e.setState l st).alarms = v := by
  simp only [Ev.setState]
  repeat' (first | with_reducible assumption | with_reducible apply Ev.modLine_alarms | with_reducible apply Ev.mark_alarms | with_reducible apply Ev.evalPermitOf_alarms | with_reducible intro _ | split | rfl | exact ⟨rfl, rfl⟩ | exact ⟨rfl, rfl, rfl⟩)
theorem Ev.setSurge_alarms {v : CauseSet × List LineId} {e : Ev} (l : LineId) (b : Bool) (hE : e.alarms = v) : (e.setSurge l b).alarms = v := by
  simp only [Ev.setSurge]
  repeat' (first | with_reducible assumption | with_reducible apply Ev.modLine_alarms | with_reducible apply Ev.markIf_alarms | with_reducible intro _ | split | rfl | exact ⟨rfl, rfl⟩ | exact ⟨rfl, rfl, rfl⟩)
theorem Ev.setLate_alarms {v : CauseSet × List LineId} {e : Ev} (l : LineId) (b : Bool) (hE : e.alarms = v) : (e.setLate l b).alarms = v := by
  simp only [Ev.setLate]
  repeat' (first | with_reducible assumption | with_reducible apply Ev.modLine_alarms | with_reducible apply Ev.markIf_alarms | with_reducible intro _ | split | rfl | exact ⟨rfl, rfl⟩ | exact ⟨rfl, rfl, rfl⟩)
theorem Ev.setQuiet_alarms {v : CauseSet × List LineId} {e : Ev} (l : LineId) (b : Bool) (hE : e.alarms = v) : (e.setQuiet l b).alarms = v := by
  simp only [Ev.setQuiet]
  repeat' (first | with_reducible assumption | with_reducible apply Ev.modLine_alarms | with_reducible apply Ev.markIf_alarms | with_reducible intro _ | split | rfl | exact ⟨rfl, rfl⟩ | exact ⟨rfl, rfl, rfl⟩)
theorem Ev.setPressureFault_alarms {v : CauseSet × List LineId} {e : Ev} (l : LineId) (b : Bool) (hE : e.alarms = v) : (e.setPressureFault l b).alarms = v := by
  simp only [Ev.setPressureFault]
  repeat' (first | with_reducible assumption | with_reducible apply Ev.modFlow_alarms | with_reducible apply Ev.markIf_alarms | with_reducible intro _ | split | rfl | exact ⟨rfl, rfl⟩ | exact ⟨rfl, rfl, rfl⟩)
theorem Ev.setFeedbackFault_alarms {v : CauseSet × List LineId} {e : Ev} (l : LineId) (b : Bool) (hE : e.alarms = v) : (e.setFeedbackFault l b).alarms = v := by
  simp only [Ev.setFeedbackFault]
  repeat' (first | with_reducible assumption | with_reducible apply Ev.modValve_alarms | with_reducible apply Ev.markIf_alarms | with_reducible intro _ | split | rfl | exact ⟨rfl, rfl⟩ | exact ⟨rfl, rfl, rfl⟩)
theorem Ev.updatePump_alarms {v : CauseSet × List LineId} {e : Ev} (hE : e.alarms = v) : (e.updatePump ).alarms = v := by
  simp only [Ev.updatePump]
  repeat' (first | with_reducible assumption | with_reducible apply Ev.modSupply_alarms | with_reducible intro _ | split | rfl | exact ⟨rfl, rfl⟩ | exact ⟨rfl, rfl, rfl⟩)
theorem Ev.freeChannel_alarms {v : CauseSet × List LineId} {e : Ev} (l : LineId) (h : e.alarms = v) : (e.freeChannel l).alarms = v := h
theorem Ev.grant_alarms {v : CauseSet × List LineId} {e : Ev} (l : LineId) (r : StrokeReq) (c : ChanId) (hE : e.alarms = v) : (e.grant l r c).alarms = v := by
  simp only [Ev.grant]
  repeat' (first | with_reducible assumption | with_reducible apply Ev.modValve_alarms | with_reducible apply Ev.report_alarms | with_reducible apply Ev.modChan_alarms | with_reducible apply Ev.updatePump_alarms | with_reducible intro _ | split | rfl | exact ⟨rfl, rfl⟩ | exact ⟨rfl, rfl, rfl⟩)
theorem Ev.grantUpTo_alarms {v : CauseSet × List LineId} (n : Nat) {e : Ev} (hE : e.alarms = v) : (Ev.grantUpTo n e).alarms = v := by
  induction n generalizing e with
  | zero => exact hE
  | succ n ih =>
    unfold Ev.grantUpTo
    (repeat' split) <;> first | exact hE | exact ih (Ev.grant_alarms _ _ _ hE)
theorem Ev.considerGrants_alarms {v : CauseSet × List LineId} {e : Ev} (hE : e.alarms = v) : e.considerGrants.alarms = v :=
  Ev.grantUpTo_alarms 4 hE
theorem Ev.endStroke_alarms {v : CauseSet × List LineId} {e : Ev} (l : LineId) (o : StrokeOutcome) (hE : e.alarms = v) : (e.endStroke l o).alarms = v := by
  simp only [Ev.endStroke]
  repeat' (first | with_reducible assumption | with_reducible apply Ev.modValve_alarms | with_reducible apply Ev.freeChannel_alarms | with_reducible intro _ | split | rfl | exact ⟨rfl, rfl⟩ | exact ⟨rfl, rfl, rfl⟩)
theorem Ev.dropWork_alarms {v : CauseSet × List LineId} {e : Ev} (l : LineId) (hE : e.alarms = v) : (e.dropWork l).alarms = v := by
  simp only [Ev.dropWork]
  repeat' (first | with_reducible assumption | with_reducible apply Ev.modValve_alarms | with_reducible apply Ev.endStroke_alarms | with_reducible intro _ | split | rfl | exact ⟨rfl, rfl⟩ | exact ⟨rfl, rfl, rfl⟩)
theorem Ev.cancelWork_alarms {v : CauseSet × List LineId} {e : Ev} (l : LineId) (hE : e.alarms = v) : (e.cancelWork l).alarms = v := by
  simp only [Ev.cancelWork]
  repeat' (first | with_reducible assumption | with_reducible apply Ev.considerGrants_alarms | with_reducible apply Ev.dropWork_alarms | with_reducible intro _ | split | rfl | exact ⟨rfl, rfl⟩ | exact ⟨rfl, rfl, rfl⟩)
theorem Ev.cancelAllWork_alarms {v : CauseSet × List LineId} {e : Ev} (hE : e.alarms = v) : (e.cancelAllWork ).alarms = v := by
  simp only [Ev.cancelAllWork]
  repeat' (first | with_reducible assumption | with_reducible apply Ev.eachLine_alarms | with_reducible apply Ev.considerGrants_alarms | with_reducible apply Ev.dropWork_alarms | with_reducible intro _ | split | rfl | exact ⟨rfl, rfl⟩ | exact ⟨rfl, rfl, rfl⟩)
theorem Ev.failStroke_alarms {v : CauseSet × List LineId} {e : Ev} (l : LineId) (o : StrokeOutcome) (hE : e.alarms = v) : (e.failStroke l o).alarms = v := by
  simp only [Ev.failStroke]
  repeat' (first | with_reducible assumption | with_reducible apply Ev.report_alarms | with_reducible apply Ev.considerGrants_alarms | with_reducible apply Ev.endStroke_alarms | with_reducible intro _ | split | rfl | exact ⟨rfl, rfl⟩ | exact ⟨rfl, rfl, rfl⟩)
theorem Ev.enqueue_alarms {v : CauseSet × List LineId} {e : Ev} (l : LineId) (r : StrokeReq) (hE : e.alarms = v) : (e.enqueue l r).alarms = v := by
  simp only [Ev.enqueue]
  repeat' (first | with_reducible assumption | with_reducible apply Ev.modValve_alarms | with_reducible apply Ev.considerGrants_alarms | with_reducible intro _ | split | rfl | exact ⟨rfl, rfl⟩ | exact ⟨rfl, rfl, rfl⟩)
theorem Ev.requestStroke_alarms {v : CauseSet × List LineId} {e : Ev} (l : LineId) (cls : StrokeClass) (target : Nat) (retry : Bool) (hE : e.alarms = v) : (e.requestStroke l cls target retry).alarms = v := by
  simp only [Ev.requestStroke]
  repeat' (first | with_reducible assumption | with_reducible apply Ev.modValve_alarms | with_reducible apply Ev.endStroke_alarms | with_reducible apply Ev.enqueue_alarms | with_reducible intro _ | split | rfl | exact ⟨rfl, rfl⟩ | exact ⟨rfl, rfl, rfl⟩)
theorem Ev.pauseAll_alarms {v : CauseSet × List LineId} {e : Ev} (paused : Bool) (hE : e.alarms = v) : (e.pauseAll paused).alarms = v := by
  simp only [Ev.pauseAll]
  repeat' (first | with_reducible assumption | with_reducible apply Ev.modValve_alarms | with_reducible apply Ev.eachLine_alarms | with_reducible intro _ | split | rfl | exact ⟨rfl, rfl⟩ | exact ⟨rfl, rfl, rfl⟩)
theorem Ev.beginTravel_alarms {v : CauseSet × List LineId} {e : Ev} (l : LineId) (k : Stroke) (h : e.alarms = v) : (e.beginTravel l k).alarms = v := h
theorem Ev.arrive_alarms {v : CauseSet × List LineId} {e : Ev} (l : LineId) (k : Stroke) (target : Nat) (hE : e.alarms = v) : (e.arrive l k target).alarms = v := by
  simp only [Ev.arrive]
  repeat' (first | with_reducible assumption | with_reducible apply Ev.modValve_alarms | with_reducible apply Ev.report_alarms | with_reducible intro _ | split | rfl | exact ⟨rfl, rfl⟩ | exact ⟨rfl, rfl, rfl⟩)
theorem Ev.takeSample_alarms {v : CauseSet × List LineId} {e : Ev} (l : LineId) (pos : Nat) (hE : e.alarms = v) : (e.takeSample l pos).alarms = v := by
  simp only [Ev.takeSample]
  repeat' (first | with_reducible assumption | with_reducible apply Ev.modValve_alarms | with_reducible apply Ev.arrive_alarms | with_reducible intro _ | split | rfl | exact ⟨rfl, rfl⟩ | exact ⟨rfl, rfl, rfl⟩)
theorem Ev.closedActive_alarms {v : CauseSet × List LineId} {e : Ev} (l : LineId) (hE : e.alarms = v) : (e.closedActive l).alarms = v := by
  simp only [Ev.closedActive]
  repeat' (first | with_reducible assumption | with_reducible apply Ev.modValve_alarms | with_reducible apply Ev.report_alarms | with_reducible apply Ev.failStroke_alarms | with_reducible apply Ev.arrive_alarms | with_reducible intro _ | split | rfl | exact ⟨rfl, rfl⟩ | exact ⟨rfl, rfl, rfl⟩)
theorem Ev.openActive_alarms {v : CauseSet × List LineId} {e : Ev} (l : LineId) (hE : e.alarms = v) : (e.openActive l).alarms = v := by
  simp only [Ev.openActive]
  repeat' (first | with_reducible assumption | with_reducible apply Ev.modValve_alarms | with_reducible apply Ev.failStroke_alarms | with_reducible apply Ev.arrive_alarms | with_reducible intro _ | split | rfl | exact ⟨rfl, rfl⟩ | exact ⟨rfl, rfl, rfl⟩)
theorem Ev.setBand_alarms {v : CauseSet × List LineId} {e : Ev} (hE : e.alarms = v) : (e.setBand ).alarms = v := by
  simp only [Ev.setBand]
  repeat' (first | with_reducible assumption | with_reducible apply Ev.modSupply_alarms | with_reducible apply Ev.mark_alarms | with_reducible apply Ev.updatePump_alarms | with_reducible apply Ev.pauseAll_alarms | with_reducible intro _ | split | rfl | exact ⟨rfl, rfl⟩ | exact ⟨rfl, rfl, rfl⟩)
theorem Ev.clearPred_alarms {v : CauseSet × List LineId} {e : Ev} (l : LineId) (hE : e.alarms = v) : (e.clearPred l).alarms = v := by
  simp only [Ev.clearPred]
  repeat' (first | with_reducible assumption | with_reducible apply Ev.modPred_alarms | with_reducible intro _ | split | rfl | exact ⟨rfl, rfl⟩ | exact ⟨rfl, rfl, rfl⟩)
theorem Ev.settleArrival_alarms {v : CauseSet × List LineId} {e : Ev} (l : LineId) (target : Nat) (hE : e.alarms = v) : (e.settleArrival l target).alarms = v := by
  simp only [Ev.settleArrival]
  repeat' (first | with_reducible assumption | with_reducible apply Ev.modPred_alarms | with_reducible intro _ | split | rfl | exact ⟨rfl, rfl⟩ | exact ⟨rfl, rfl, rfl⟩)
theorem Ev.writeTrip_alarms {v : CauseSet × List LineId} {e : Ev} (l : LineId) (cause : TripCause) (hE : e.alarms = v) : (e.writeTrip l cause).alarms = v := by
  simp only [Ev.writeTrip]
  repeat' (first | with_reducible assumption | with_reducible apply Ev.modLine_alarms | with_reducible apply Ev.mark_alarms | with_reducible intro _ | split | rfl | exact ⟨rfl, rfl⟩ | exact ⟨rfl, rfl, rfl⟩)
theorem Ev.changeoverExit_alarms {v : CauseSet × List LineId} {e : Ev} (l : LineId) (reason : CloseReason) (hE : e.alarms = v) : (e.changeoverExit l reason).alarms = v := by
  simp only [Ev.changeoverExit]
  repeat' (first | with_reducible assumption | with_reducible apply Ev.modLine_alarms | with_reducible apply Ev.modFlow_alarms | with_reducible apply Ev.modTank_alarms | with_reducible apply Ev.setUse_alarms | with_reducible apply Ev.credit_alarms | with_reducible intro _ | split | rfl | exact ⟨rfl, rfl⟩ | exact ⟨rfl, rfl, rfl⟩)
theorem Ev.setUndecided_alarms {v : CauseSet × List LineId} {e : Ev} (ls : List LineId) (h : e.alarms = v) :
    State.alarms ({ e with undecided := ls } : Ev).toState = v := h
theorem Ev.closeEntry_alarms {v : CauseSet × List LineId} {e : Ev} (l : LineId) (reason : CloseReason)
    (hold : Option HoldReason) (cause : Option TripCause) (h : e.alarms = v) :
    (e.closeEntry l reason hold cause).alarms = v := by
  simp only [Ev.closeEntry]; change State.alarms (Ev.toState (Ev.evalPermitOf _ l)) = v
  repeat' (first | with_reducible assumption | with_reducible apply Ev.modLine_alarms | with_reducible apply Ev.setClose_alarms | with_reducible apply Ev.modFlow_alarms | with_reducible apply Ev.mark_alarms | with_reducible apply Ev.evalPermitOf_alarms | with_reducible apply Ev.cancelWork_alarms | with_reducible apply Ev.clearPred_alarms | with_reducible apply Ev.writeTrip_alarms | with_reducible apply Ev.changeoverExit_alarms | with_reducible intro _ | split | rfl | exact ⟨rfl, rfl⟩ | exact ⟨rfl, rfl, rfl⟩)
theorem Ev.retripClosing_alarms {v : CauseSet × List LineId} {e : Ev} (l : LineId) (reason : CloseReason) (cause : TripCause) (hE : e.alarms = v) : (e.retripClosing l reason cause).alarms = v := by
  simp only [Ev.retripClosing]
  repeat' (first | with_reducible assumption | with_reducible apply Ev.modLine_alarms | with_reducible apply Ev.modFlow_alarms | with_reducible apply Ev.markIf_alarms | with_reducible apply Ev.writeTrip_alarms | with_reducible intro _ | split | rfl | exact ⟨rfl, rfl⟩ | exact ⟨rfl, rfl, rfl⟩)
theorem Ev.trip_alarms {v : CauseSet × List LineId} {e : Ev} (l : LineId) (cause : TripCause) (hE : e.alarms = v) : (e.trip l cause).alarms = v := by
  simp only [Ev.trip]
  repeat' (first | with_reducible assumption | with_reducible apply Ev.modLine_alarms | with_reducible apply Ev.setState_alarms | with_reducible apply Ev.writeTrip_alarms | with_reducible apply Ev.closeEntry_alarms | with_reducible apply Ev.retripClosing_alarms | with_reducible intro _ | split | rfl | exact ⟨rfl, rfl⟩ | exact ⟨rfl, rfl, rfl⟩)
theorem Ev.tripHolder_alarms {v : CauseSet × List LineId} {e : Ev} (k : TankId) (cause : TripCause) (hE : e.alarms = v) : (e.tripHolder k cause).alarms = v := by
  simp only [Ev.tripHolder]
  repeat' (first | with_reducible assumption | with_reducible apply Ev.trip_alarms | with_reducible intro _ | split | rfl | exact ⟨rfl, rfl⟩ | exact ⟨rfl, rfl, rfl⟩)
theorem Ev.dropClose_alarms {v : CauseSet × List LineId} {e : Ev} (l : LineId) (hE : e.alarms = v) : (e.dropClose l).alarms = v := by
  simp only [Ev.dropClose]
  repeat' (first | with_reducible assumption | with_reducible apply Ev.modLine_alarms | with_reducible apply Ev.setClose_alarms | with_reducible apply Ev.modFlow_alarms | with_reducible intro _ | split | rfl | exact ⟨rfl, rfl⟩ | exact ⟨rfl, rfl, rfl⟩)
theorem Ev.closeEnd_alarms {v : CauseSet × List LineId} {e : Ev} (l : LineId) (hE : e.alarms = v) : (e.closeEnd l).alarms = v := by
  simp only [Ev.closeEnd]
  repeat' (first | with_reducible assumption | with_reducible apply Ev.modLine_alarms | with_reducible apply Ev.setUse_alarms | with_reducible apply Ev.settleComplete_alarms | with_reducible apply Ev.setState_alarms | with_reducible apply Ev.trip_alarms | with_reducible apply Ev.dropClose_alarms | with_reducible intro _ | split | rfl | exact ⟨rfl, rfl⟩ | exact ⟨rfl, rfl, rfl⟩)
theorem Ev.enterStarting_alarms {v : CauseSet × List LineId} {e : Ev} (l : LineId) (hE : e.alarms = v) : (e.enterStarting l).alarms = v := by
  simp only [Ev.enterStarting]
  repeat' (first | with_reducible assumption | with_reducible apply Ev.modLine_alarms | with_reducible apply Ev.modFlow_alarms | with_reducible apply Ev.setUse_alarms | with_reducible apply Ev.setState_alarms | with_reducible apply Ev.setSurge_alarms | with_reducible apply Ev.setLate_alarms | with_reducible apply Ev.requestStroke_alarms | with_reducible intro _ | split | rfl | exact ⟨rfl, rfl⟩ | exact ⟨rfl, rfl, rfl⟩)
theorem Ev.enterProving_alarms {v : CauseSet × List LineId} {e : Ev} (l : LineId) (hE : e.alarms = v) : (e.enterProving l).alarms = v := by
  simp only [Ev.enterProving]
  repeat' (first | with_reducible assumption | with_reducible apply Ev.modLine_alarms | with_reducible apply Ev.modFlow_alarms | with_reducible apply Ev.setState_alarms | with_reducible intro _ | split | rfl | exact ⟨rfl, rfl⟩ | exact ⟨rfl, rfl, rfl⟩)
theorem Ev.throttleTo_alarms {v : CauseSet × List LineId} {e : Ev} (l : LineId) (pos : Nat) (hE : e.alarms = v) : (e.throttleTo l pos).alarms = v := by
  simp only [Ev.throttleTo]
  repeat' (first | with_reducible assumption | with_reducible apply Ev.modLine_alarms | with_reducible apply Ev.modPred_alarms | with_reducible apply Ev.modFlow_alarms | with_reducible apply Ev.requestStroke_alarms | with_reducible intro _ | split | rfl | exact ⟨rfl, rfl⟩ | exact ⟨rfl, rfl, rfl⟩)
theorem Ev.closeStartTest_alarms {v : CauseSet × List LineId} {e : Ev} (l : LineId) (hE : e.alarms = v) : (e.closeStartTest l).alarms = v := by
  simp only [Ev.closeStartTest]
  repeat' (first | with_reducible assumption | with_reducible apply Ev.modPred_alarms | with_reducible apply Ev.setLate_alarms | with_reducible apply Ev.closeEntry_alarms | with_reducible intro _ | split | rfl | exact ⟨rfl, rfl⟩ | exact ⟨rfl, rfl, rfl⟩)
theorem Ev.enterTopping_alarms {v : CauseSet × List LineId} {e : Ev} (l : LineId) (hE : e.alarms = v) : (e.enterTopping l).alarms = v := by
  simp only [Ev.enterTopping]
  repeat' (first | with_reducible assumption | with_reducible apply Ev.modLine_alarms | with_reducible apply Ev.setState_alarms | with_reducible apply Ev.throttleTo_alarms | with_reducible apply Ev.closeStartTest_alarms | with_reducible intro _ | split | rfl | exact ⟨rfl, rfl⟩ | exact ⟨rfl, rfl, rfl⟩)
theorem Ev.enterChangeover_alarms {v : CauseSet × List LineId} {e : Ev} (l : LineId) (k : TankId) (hE : e.alarms = v) : (e.enterChangeover l k).alarms = v := by
  simp only [Ev.enterChangeover]
  repeat' (first | with_reducible assumption | with_reducible apply Ev.modLine_alarms | with_reducible apply Ev.modFlow_alarms | with_reducible apply Ev.modTank_alarms | with_reducible apply Ev.setUse_alarms | with_reducible apply Ev.setState_alarms | with_reducible apply Ev.throttleTo_alarms | with_reducible intro _ | split | rfl | exact ⟨rfl, rfl⟩ | exact ⟨rfl, rfl, rfl⟩)
theorem Ev.evaluateMarks_alarms {v : CauseSet × List LineId} {e : Ev} (l : LineId) (hE : e.alarms = v) : (e.evaluateMarks l).alarms = v := by
  simp only [Ev.evaluateMarks]
  repeat' (first | with_reducible assumption | with_reducible apply Ev.enterTopping_alarms | with_reducible apply Ev.enterChangeover_alarms | with_reducible intro _ | split | rfl | exact ⟨rfl, rfl⟩ | exact ⟨rfl, rfl, rfl⟩)
theorem Ev.overrunTest_alarms {v : CauseSet × List LineId} {e : Ev} (l : LineId) (hE : e.alarms = v) : (e.overrunTest l).alarms = v := by
  simp only [Ev.overrunTest]
  repeat' (first | with_reducible assumption | with_reducible apply Ev.trip_alarms | with_reducible intro _ | split | rfl | exact ⟨rfl, rfl⟩ | exact ⟨rfl, rfl, rfl⟩)
theorem Ev.changeoverSuccess_alarms {v : CauseSet × List LineId} {e : Ev} (l : LineId) (old new : TankId) (hE : e.alarms = v) : (e.changeoverSuccess l old new).alarms = v := by
  simp only [Ev.changeoverSuccess]
  repeat' (first | with_reducible assumption | with_reducible apply Ev.modLine_alarms | with_reducible apply Ev.setList_alarms | with_reducible apply Ev.modFlow_alarms | with_reducible apply Ev.modTank_alarms | with_reducible apply Ev.setUse_alarms | with_reducible apply Ev.credit_alarms | with_reducible apply Ev.setState_alarms | with_reducible apply Ev.requestStroke_alarms | with_reducible apply Ev.clearPred_alarms | with_reducible apply Ev.evaluateMarks_alarms | with_reducible intro _ | split | rfl | exact ⟨rfl, rfl⟩ | exact ⟨rfl, rfl, rfl⟩)
theorem Ev.successTest_alarms {v : CauseSet × List LineId} {e : Ev} (l : LineId) (hE : e.alarms = v) : (e.successTest l).alarms = v := by
  simp only [Ev.successTest]
  repeat' (first | with_reducible assumption | with_reducible apply Ev.changeoverSuccess_alarms | with_reducible intro _ | split | rfl | exact ⟨rfl, rfl⟩ | exact ⟨rfl, rfl, rfl⟩)
theorem Ev.provingTest_alarms {v : CauseSet × List LineId} {e : Ev} (l : LineId) (k : TankId) (level : Nat) (hE : e.alarms = v) : (e.provingTest l k level).alarms = v := by
  simp only [Ev.provingTest]
  repeat' (first | with_reducible assumption | with_reducible apply Ev.modLine_alarms | with_reducible apply Ev.setState_alarms | with_reducible apply Ev.requestStroke_alarms | with_reducible apply Ev.evaluateMarks_alarms | with_reducible intro _ | split | rfl | exact ⟨rfl, rfl⟩ | exact ⟨rfl, rfl, rfl⟩)
theorem Ev.requestStage_alarms {v : CauseSet × List LineId} {e : Ev} (l : LineId) (k : Nat) (hE : e.alarms = v) : (e.requestStage l k).alarms = v := by
  simp only [Ev.requestStage]
  repeat' (first | with_reducible assumption | with_reducible apply Ev.modClose_alarms | with_reducible apply Ev.requestStroke_alarms | with_reducible intro _ | split | rfl | exact ⟨rfl, rfl⟩ | exact ⟨rfl, rfl, rfl⟩)
theorem Ev.startPlan_alarms {v : CauseSet × List LineId} {e : Ev} (l : LineId) (hE : e.alarms = v) : (e.startPlan l).alarms = v := by
  simp only [Ev.startPlan]
  repeat' (first | with_reducible assumption | with_reducible apply Ev.modClose_alarms | with_reducible apply Ev.setSurge_alarms | with_reducible apply Ev.requestStroke_alarms | with_reducible apply Ev.closeEnd_alarms | with_reducible apply Ev.requestStage_alarms | with_reducible intro _ | split | rfl | exact ⟨rfl, rfl⟩ | exact ⟨rfl, rfl, rfl⟩)
theorem Ev.endRunDown_alarms {v : CauseSet × List LineId} {e : Ev} (l : LineId) (cause : RunDownEnd) (hE : e.alarms = v) : (e.endRunDown l cause).alarms = v := by
  simp only [Ev.endRunDown]
  repeat' (first | with_reducible assumption | with_reducible apply Ev.modClose_alarms | with_reducible apply Ev.startPlan_alarms | with_reducible intro _ | split | rfl | exact ⟨rfl, rfl⟩ | exact ⟨rfl, rfl, rfl⟩)
theorem Ev.decideClose_alarms {v : CauseSet × List LineId} {e : Ev} (l : LineId) (hE : e.alarms = v) : (e.decideClose l).alarms = v := by
  simp only [Ev.decideClose]
  repeat' (first | with_reducible assumption | with_reducible apply Ev.modClose_alarms | with_reducible apply Ev.startPlan_alarms | with_reducible apply Ev.endRunDown_alarms | with_reducible intro _ | split | rfl | exact ⟨rfl, rfl⟩ | exact ⟨rfl, rfl, rfl⟩)
theorem Ev.plannerArrived_alarms {v : CauseSet × List LineId} {e : Ev} (l : LineId) (target : Nat) (hE : e.alarms = v) : (e.plannerArrived l target).alarms = v := by
  simp only [Ev.plannerArrived]
  repeat' (first | with_reducible assumption | with_reducible apply Ev.modClose_alarms | with_reducible apply Ev.closeEnd_alarms | with_reducible intro _ | split | rfl | exact ⟨rfl, rfl⟩ | exact ⟨rfl, rfl, rfl⟩)
theorem Ev.nextStage_alarms {v : CauseSet × List LineId} {e : Ev} (l : LineId) (hE : e.alarms = v) : (e.nextStage l).alarms = v := by
  simp only [Ev.nextStage]
  repeat' (first | with_reducible assumption | with_reducible apply Ev.requestStage_alarms | with_reducible intro _ | split | rfl | exact ⟨rfl, rfl⟩ | exact ⟨rfl, rfl, rfl⟩)
theorem Ev.plannerEnded_alarms {v : CauseSet × List LineId} {e : Ev} (l : LineId) (hE : e.alarms = v) : (e.plannerEnded l).alarms = v := by
  simp only [Ev.plannerEnded]
  repeat' (first | with_reducible assumption | with_reducible apply Ev.modClose_alarms | with_reducible apply Ev.nextStage_alarms | with_reducible intro _ | split | rfl | exact ⟨rfl, rfl⟩ | exact ⟨rfl, rfl, rfl⟩)
theorem Ev.retryStage_alarms {v : CauseSet × List LineId} {e : Ev} (l : LineId) (hE : e.alarms = v) : (e.retryStage l).alarms = v := by
  simp only [Ev.retryStage]
  repeat' (first | with_reducible assumption | with_reducible apply Ev.modClose_alarms | with_reducible apply Ev.requestStroke_alarms | with_reducible intro _ | split | rfl | exact ⟨rfl, rfl⟩ | exact ⟨rfl, rfl, rfl⟩)
theorem Ev.plannerSeated_alarms {v : CauseSet × List LineId} {e : Ev} (l : LineId) (hE : e.alarms = v) : (e.plannerSeated l).alarms = v := by
  simp only [Ev.plannerSeated]
  repeat' (first | with_reducible assumption | with_reducible apply Ev.closeEnd_alarms | with_reducible intro _ | split | rfl | exact ⟨rfl, rfl⟩ | exact ⟨rfl, rfl, rfl⟩)
theorem Ev.retryWaiting_alarms {v : CauseSet × List LineId} {e : Ev} (l : LineId) (hE : e.alarms = v) : (e.retryWaiting l).alarms = v := by
  simp only [Ev.retryWaiting]
  repeat' (first | with_reducible assumption | with_reducible apply Ev.retryStage_alarms | with_reducible intro _ | split | rfl | exact ⟨rfl, rfl⟩ | exact ⟨rfl, rfl, rfl⟩)

/-! ### Fixtures -/

theorem Ev.modLine_fixture {v : LineFixture} {m : LineId} {e : Ev} (l : LineId) (f : LineRec → LineRec) (hf : ∀ x, (f x).delivered = x.delivered) (hE : e.fixture m = v) :
    (e.modLine l f).fixture m = v := by
  rw [← hE]; simp only [State.fixture, Ev.modLine, Quad.get_set]; split <;> simp_all
theorem Ev.setList_fixture {v : LineFixture} {m : LineId} {e : Ev} (l : LineId) (ks : List TankId) (hE : e.fixture m = v) :
    (e.setList l ks).fixture m = v := hE
theorem Ev.modPred_fixture {v : LineFixture} {m : LineId} {e : Ev} (l : LineId) (f : Predictor → Predictor) (hE : e.fixture m = v) :
    (e.modPred l f).fixture m = v := hE
theorem Ev.setClose_fixture {v : LineFixture} {m : LineId} {e : Ev} (l : LineId) (c : Option CloseRec) (hE : e.fixture m = v) :
    (e.setClose l c).fixture m = v := hE
theorem Ev.modClose_fixture {v : LineFixture} {m : LineId} {e : Ev} (l : LineId) (f : CloseRec → CloseRec) (hE : e.fixture m = v) :
    (e.modClose l f).fixture m = v := hE
theorem Ev.modFlow_fixture {v : LineFixture} {m : LineId} {e : Ev} (l : LineId) (f : Flow → Flow) (hf : ∀ x, (f x).pulseTotal = x.pulseTotal) (hE : e.fixture m = v) :
    (e.modFlow l f).fixture m = v := by
  rw [← hE]; simp only [State.fixture, Ev.modFlow, Quad.get_set]; split <;> simp_all
theorem Ev.modValve_fixture {v : LineFixture} {m : LineId} {e : Ev} (l : LineId) (f : Valve → Valve) (hf : ∀ x, (f x).position = x.position ∧ (f x).source = x.source) (hE : e.fixture m = v) :
    (e.modValve l f).fixture m = v := by
  rw [← hE]; simp only [State.fixture, Ev.modValve, Quad.get_set]; split <;> simp_all
theorem Ev.modTank_fixture {v : LineFixture} {m : LineId} {e : Ev} (k : TankId) (f : Tank → Tank) (hE : e.fixture m = v) :
    (e.modTank k f).fixture m = v := hE
theorem Ev.modGrade_fixture {v : LineFixture} {m : LineId} {e : Ev} (g : GradeId) (f : Grade → Grade) (hE : e.fixture m = v) :
    (e.modGrade g f).fixture m = v := hE
theorem Ev.modLink_fixture {v : LineFixture} {m : LineId} {e : Ev} (f : Link → Link) (hE : e.fixture m = v) :
    (e.modLink f).fixture m = v := hE
theorem Ev.modShut_fixture {v : LineFixture} {m : LineId} {e : Ev} (f : Shutdown → Shutdown) (hE : e.fixture m = v) :
    (e.modShut f).fixture m = v := hE
theorem Ev.modSupply_fixture {v : LineFixture} {m : LineId} {e : Ev} (f : Supply → Supply) (hE : e.fixture m = v) :
    (e.modSupply f).fixture m = v := hE
theorem Ev.report_fixture {v : LineFixture} {m : LineId} {e : Ev} (r : Report) (hE : e.fixture m = v) :
    (e.report r).fixture m = v := hE
theorem Ev.mark_fixture {v : LineFixture} {m : LineId} {e : Ev} (k : NoticeKey) (hE : e.fixture m = v) :
    (e.mark k).fixture m = v := by
  unfold Ev.mark; split <;> exact hE
theorem Ev.markIf_fixture {v : LineFixture} {m : LineId} {e : Ev} (c : Bool) (k : NoticeKey) (hE : e.fixture m = v) :
    (e.markIf c k).fixture m = v := by
  cases c <;> simp only [Ev.markIf] <;> first | exact hE | exact Ev.mark_fixture _ hE
theorem Ev.modChan_fixture {v : LineFixture} {m : LineId} {e : Ev} (c : ChanId) (f : Channel → Channel) (hE : e.fixture m = v) :
    (e.modChan c f).fixture m = v := by cases c <;> exact hE
theorem Ev.eachLine_fixture {v : LineFixture} {m : LineId} {e : Ev} (f : LineId → Ev → Ev) (hf : ∀ l x, x.fixture m = v → (f l x).fixture m = v)
    (hE : e.fixture m = v) : (e.eachLine f).fixture m = v := by
  simp only [Ev.eachLine, allLines, List.foldl]
  exact hf _ _ (hf _ _ (hf _ _ (hf _ _ hE)))
theorem Ev.eachTank_fixture {v : LineFixture} {m : LineId} (ks : List TankId) {e : Ev} (f : TankId → Ev → Ev)
    (hf : ∀ k x, x.fixture m = v → (f k x).fixture m = v) (hE : e.fixture m = v) : (e.eachTank ks f).fixture m = v := by
  unfold Ev.eachTank
  induction ks generalizing e with
  | nil => exact hE
  | cons k ks ih => exact ih (hf k e hE)
theorem Ev.setUse_fixture {v : LineFixture} {m : LineId} {e : Ev} (k : TankId) (u : TankUse) (hE : e.fixture m = v) : (e.setUse k u).fixture m = v := by
  simp only [Ev.setUse]
  repeat' (first | with_reducible assumption | with_reducible apply Ev.modTank_fixture | with_reducible apply Ev.markIf_fixture | with_reducible intro _ | split | rfl | exact ⟨rfl, rfl⟩ | exact ⟨rfl, rfl, rfl⟩)
theorem Ev.setHealth_fixture {v : LineFixture} {m : LineId} {e : Ev} (k : TankId) (h : Health) (r : Option RefusalReason) (hE : e.fixture m = v) : (e.setHealth k h r).fixture m = v := by
  simp only [Ev.setHealth]
  repeat' (first | with_reducible assumption | with_reducible apply Ev.modTank_fixture | with_reducible apply Ev.markIf_fixture | with_reducible intro _ | split | rfl | exact ⟨rfl, rfl⟩ | exact ⟨rfl, rfl, rfl⟩)
theorem Ev.credit_fixture {v : LineFixture} {m : LineId} {e : Ev} (k : TankId) (litres : Nat) (hE : e.fixture m = v) : (e.credit k litres).fixture m = v := by
  simp only [Ev.credit]
  repeat' (first | with_reducible assumption | with_reducible apply Ev.modTank_fixture | with_reducible intro _ | split | rfl | exact ⟨rfl, rfl⟩ | exact ⟨rfl, rfl, rfl⟩)
theorem Ev.settleComplete_fixture {v : LineFixture} {m : LineId} {e : Ev} (l : LineId) (hE : e.fixture m = v) : (e.settleComplete l).fixture m = v := by
  simp only [Ev.settleComplete]
  repeat' (first | with_reducible assumption | with_reducible apply Ev.setList_fixture | with_reducible apply Ev.eachTank_fixture | with_reducible apply Ev.setUse_fixture | with_reducible intro _ | split | rfl | exact ⟨rfl, rfl⟩ | exact ⟨rfl, rfl, rfl⟩)
theorem Ev.settleCleared_fixture {v : LineFixture} {m : LineId} {e : Ev} (l : LineId) (hE : e.fixture m = v) : (e.settleCleared l).fixture m = v := by
  simp only [Ev.settleCleared]
  repeat' (first | with_reducible assumption | with_reducible apply Ev.setList_fixture | with_reducible apply Ev.eachTank_fixture | with_reducible apply Ev.setUse_fixture | with_reducible intro _ | split | rfl | exact ⟨rfl, rfl⟩ | exact ⟨rfl, rfl, rfl⟩)
theorem Ev.evalPermit_fixture {v : LineFixture} {m : LineId} {e : Ev} (p : PumpId) (hE : e.fixture m = v) : (e.evalPermit p).fixture m = v := by
  simp only [Ev.evalPermit]
  repeat' (first | with_reducible assumption | with_reducible apply Ev.modShut_fixture | with_reducible apply Ev.markIf_fixture | with_reducible intro _ | split | rfl | exact ⟨rfl, rfl⟩ | exact ⟨rfl, rfl, rfl⟩)
theorem Ev.evalPermitOf_fixture {v : LineFixture} {m : LineId} {e : Ev} (l : LineId) (hE : e.fixture m = v) : (e.evalPermitOf l).fixture m = v := by
  simp only [Ev.evalPermitOf]
  repeat' (first | with_reducible assumption | with_reducible apply Ev.evalPermit_fixture | with_reducible intro _ | split | rfl | exact ⟨rfl, rfl⟩ | exact ⟨rfl, rfl, rfl⟩)
theorem Ev.setState_fixture {v : LineFixture} {m : LineId} {e : Ev} (l : LineId) (st : LineState) (hE : e.fixture m = v) : (e.setState l st).fixture m = v := by
  simp only [Ev.setState]
  repeat' (first | with_reducible assumption | with_reducible apply Ev.modLine_fixture | with_reducible apply Ev.mark_fixture | with_reducible apply Ev.evalPermitOf_fixture | with_reducible intro _ | split | rfl | exact ⟨rfl, rfl⟩ | exact ⟨rfl, rfl, rfl⟩)
theorem Ev.setSurge_fixture {v : LineFixture} {m : LineId} {e : Ev} (l : LineId) (b : Bool) (hE : e.fixture m = v) : (e.setSurge l b).fixture m = v := by
  simp only [Ev.setSurge]
  repeat' (first | with_reducible assumption | with_reducible apply Ev.modLine_fixture | with_reducible apply Ev.markIf_fixture | with_reducible intro _ | split | rfl | exact ⟨rfl, rfl⟩ | exact ⟨rfl, rfl, rfl⟩)
theorem Ev.setLate_fixture {v : LineFixture} {m : LineId} {e : Ev} (l : LineId) (b : Bool) (hE : e.fixture m = v) : (e.setLate l b).fixture m = v := by
  simp only [Ev.setLate]
  repeat' (first | with_reducible assumption | with_reducible apply Ev.modLine_fixture | with_reducible apply Ev.markIf_fixture | with_reducible intro _ | split | rfl | exact ⟨rfl, rfl⟩ | exact ⟨rfl, rfl, rfl⟩)
theorem Ev.setQuiet_fixture {v : LineFixture} {m : LineId} {e : Ev} (l : LineId) (b : Bool) (hE : e.fixture m = v) : (e.setQuiet l b).fixture m = v := by
  simp only [Ev.setQuiet]
  repeat' (first | with_reducible assumption | with_reducible apply Ev.modLine_fixture | with_reducible apply Ev.markIf_fixture | with_reducible intro _ | split | rfl | exact ⟨rfl, rfl⟩ | exact ⟨rfl, rfl, rfl⟩)
theorem Ev.setPressureFault_fixture {v : LineFixture} {m : LineId} {e : Ev} (l : LineId) (b : Bool) (hE : e.fixture m = v) : (e.setPressureFault l b).fixture m = v := by
  simp only [Ev.setPressureFault]
  repeat' (first | with_reducible assumption | with_reducible apply Ev.modFlow_fixture | with_reducible apply Ev.markIf_fixture | with_reducible intro _ | split | rfl | exact ⟨rfl, rfl⟩ | exact ⟨rfl, rfl, rfl⟩)
theorem Ev.setFeedbackFault_fixture {v : LineFixture} {m : LineId} {e : Ev} (l : LineId) (b : Bool) (hE : e.fixture m = v) : (e.setFeedbackFault l b).fixture m = v := by
  simp only [Ev.setFeedbackFault]
  repeat' (first | with_reducible assumption | with_reducible apply Ev.modValve_fixture | with_reducible apply Ev.markIf_fixture | with_reducible intro _ | split | rfl | exact ⟨rfl, rfl⟩ | exact ⟨rfl, rfl, rfl⟩)
theorem Ev.updatePump_fixture {v : LineFixture} {m : LineId} {e : Ev} (hE : e.fixture m = v) : (e.updatePump ).fixture m = v := by
  simp only [Ev.updatePump]
  repeat' (first | with_reducible assumption | with_reducible apply Ev.modSupply_fixture | with_reducible intro _ | split | rfl | exact ⟨rfl, rfl⟩ | exact ⟨rfl, rfl, rfl⟩)
theorem Ev.freeChannel_fixture {v : LineFixture} {m : LineId} {e : Ev} (l : LineId) (h : e.fixture m = v) : (e.freeChannel l).fixture m = v := h
theorem Ev.grant_fixture {v : LineFixture} {m : LineId} {e : Ev} (l : LineId) (r : StrokeReq) (c : ChanId) (hE : e.fixture m = v) : (e.grant l r c).fixture m = v := by
  simp only [Ev.grant]
  repeat' (first | with_reducible assumption | with_reducible apply Ev.modValve_fixture | with_reducible apply Ev.report_fixture | with_reducible apply Ev.modChan_fixture | with_reducible apply Ev.updatePump_fixture | with_reducible intro _ | split | rfl | exact ⟨rfl, rfl⟩ | exact ⟨rfl, rfl, rfl⟩)
theorem Ev.grantUpTo_fixture {v : LineFixture} {m : LineId} (n : Nat) {e : Ev} (hE : e.fixture m = v) : (Ev.grantUpTo n e).fixture m = v := by
  induction n generalizing e with
  | zero => exact hE
  | succ n ih =>
    unfold Ev.grantUpTo
    (repeat' split) <;> first | exact hE | exact ih (Ev.grant_fixture _ _ _ hE)
theorem Ev.considerGrants_fixture {v : LineFixture} {m : LineId} {e : Ev} (hE : e.fixture m = v) : e.considerGrants.fixture m = v :=
  Ev.grantUpTo_fixture 4 hE
theorem Ev.endStroke_fixture {v : LineFixture} {m : LineId} {e : Ev} (l : LineId) (o : StrokeOutcome) (hE : e.fixture m = v) : (e.endStroke l o).fixture m = v := by
  simp only [Ev.endStroke]
  repeat' (first | with_reducible assumption | with_reducible apply Ev.modValve_fixture | with_reducible apply Ev.freeChannel_fixture | with_reducible intro _ | split | rfl | exact ⟨rfl, rfl⟩ | exact ⟨rfl, rfl, rfl⟩)
theorem Ev.dropWork_fixture {v : LineFixture} {m : LineId} {e : Ev} (l : LineId) (hE : e.fixture m = v) : (e.dropWork l).fixture m = v := by
  simp only [Ev.dropWork]
  repeat' (first | with_reducible assumption | with_reducible apply Ev.modValve_fixture | with_reducible apply Ev.endStroke_fixture | with_reducible intro _ | split | rfl | exact ⟨rfl, rfl⟩ | exact ⟨rfl, rfl, rfl⟩)
theorem Ev.cancelWork_fixture {v : LineFixture} {m : LineId} {e : Ev} (l : LineId) (hE : e.fixture m = v) : (e.cancelWork l).fixture m = v := by
  simp only [Ev.cancelWork]
  repeat' (first | with_reducible assumption | with_reducible apply Ev.considerGrants_fixture | with_reducible apply Ev.dropWork_fixture | with_reducible intro _ | split | rfl | exact ⟨rfl, rfl⟩ | exact ⟨rfl, rfl, rfl⟩)
theorem Ev.cancelAllWork_fixture {v : LineFixture} {m : LineId} {e : Ev} (hE : e.fixture m = v) : (e.cancelAllWork ).fixture m = v := by
  simp only [Ev.cancelAllWork]
  repeat' (first | with_reducible assumption | with_reducible apply Ev.eachLine_fixture | with_reducible apply Ev.considerGrants_fixture | with_reducible apply Ev.dropWork_fixture | with_reducible intro _ | split | rfl | exact ⟨rfl, rfl⟩ | exact ⟨rfl, rfl, rfl⟩)
theorem Ev.failStroke_fixture {v : LineFixture} {m : LineId} {e : Ev} (l : LineId) (o : StrokeOutcome) (hE : e.fixture m = v) : (e.failStroke l o).fixture m = v := by
  simp only [Ev.failStroke]
  repeat' (first | with_reducible assumption | with_reducible apply Ev.report_fixture | with_reducible apply Ev.considerGrants_fixture | with_reducible apply Ev.endStroke_fixture | with_reducible intro _ | split | rfl | exact ⟨rfl, rfl⟩ | exact ⟨rfl, rfl, rfl⟩)
theorem Ev.enqueue_fixture {v : LineFixture} {m : LineId} {e : Ev} (l : LineId) (r : StrokeReq) (hE : e.fixture m = v) : (e.enqueue l r).fixture m = v := by
  simp only [Ev.enqueue]
  repeat' (first | with_reducible assumption | with_reducible apply Ev.modValve_fixture | with_reducible apply Ev.considerGrants_fixture | with_reducible intro _ | split | rfl | exact ⟨rfl, rfl⟩ | exact ⟨rfl, rfl, rfl⟩)
theorem Ev.requestStroke_fixture {v : LineFixture} {m : LineId} {e : Ev} (l : LineId) (cls : StrokeClass) (target : Nat) (retry : Bool) (hE : e.fixture m = v) : (e.requestStroke l cls target retry).fixture m = v := by
  simp only [Ev.requestStroke]
  repeat' (first | with_reducible assumption | with_reducible apply Ev.modValve_fixture | with_reducible apply Ev.endStroke_fixture | with_reducible apply Ev.enqueue_fixture | with_reducible intro _ | split | rfl | exact ⟨rfl, rfl⟩ | exact ⟨rfl, rfl, rfl⟩)
theorem Ev.pauseAll_fixture {v : LineFixture} {m : LineId} {e : Ev} (paused : Bool) (hE : e.fixture m = v) : (e.pauseAll paused).fixture m = v := by
  simp only [Ev.pauseAll]
  repeat' (first | with_reducible assumption | with_reducible apply Ev.modValve_fixture | with_reducible apply Ev.eachLine_fixture | with_reducible intro _ | split | rfl | exact ⟨rfl, rfl⟩ | exact ⟨rfl, rfl, rfl⟩)
theorem Ev.beginTravel_fixture {v : LineFixture} {m : LineId} {e : Ev} (l : LineId) (k : Stroke) (h : e.fixture m = v) :
    (e.beginTravel l k).fixture m = v := by
  rw [← h]
  simp only [Ev.beginTravel, State.fixture, Ev.modValve, Quad.get_set]
  split <;> simp_all
theorem Ev.arrive_fixture {v : LineFixture} {m : LineId} {e : Ev} (l : LineId) (k : Stroke) (target : Nat) (hE : e.fixture m = v) : (e.arrive l k target).fixture m = v := by
  simp only [Ev.arrive]
  repeat' (first | with_reducible assumption | with_reducible apply Ev.modValve_fixture | with_reducible apply Ev.report_fixture | with_reducible intro _ | split | rfl | exact ⟨rfl, rfl⟩ | exact ⟨rfl, rfl, rfl⟩)
theorem Ev.setBand_fixture {v : LineFixture} {m : LineId} {e : Ev} (hE : e.fixture m = v) : (e.setBand ).fixture m = v := by
  simp only [Ev.setBand]
  repeat' (first | with_reducible assumption | with_reducible apply Ev.modSupply_fixture | with_reducible apply Ev.mark_fixture | with_reducible apply Ev.updatePump_fixture | with_reducible apply Ev.pauseAll_fixture | with_reducible intro _ | split | rfl | exact ⟨rfl, rfl⟩ | exact ⟨rfl, rfl, rfl⟩)
theorem Ev.clearPred_fixture {v : LineFixture} {m : LineId} {e : Ev} (l : LineId) (hE : e.fixture m = v) : (e.clearPred l).fixture m = v := by
  simp only [Ev.clearPred]
  repeat' (first | with_reducible assumption | with_reducible apply Ev.modPred_fixture | with_reducible intro _ | split | rfl | exact ⟨rfl, rfl⟩ | exact ⟨rfl, rfl, rfl⟩)
theorem Ev.settleArrival_fixture {v : LineFixture} {m : LineId} {e : Ev} (l : LineId) (target : Nat) (hE : e.fixture m = v) : (e.settleArrival l target).fixture m = v := by
  simp only [Ev.settleArrival]
  repeat' (first | with_reducible assumption | with_reducible apply Ev.modPred_fixture | with_reducible intro _ | split | rfl | exact ⟨rfl, rfl⟩ | exact ⟨rfl, rfl, rfl⟩)
theorem Ev.writeTrip_fixture {v : LineFixture} {m : LineId} {e : Ev} (l : LineId) (cause : TripCause) (hE : e.fixture m = v) : (e.writeTrip l cause).fixture m = v := by
  simp only [Ev.writeTrip]
  repeat' (first | with_reducible assumption | with_reducible apply Ev.modLine_fixture | with_reducible apply Ev.mark_fixture | with_reducible intro _ | split | rfl | exact ⟨rfl, rfl⟩ | exact ⟨rfl, rfl, rfl⟩)
theorem Ev.changeoverExit_fixture {v : LineFixture} {m : LineId} {e : Ev} (l : LineId) (reason : CloseReason) (hE : e.fixture m = v) : (e.changeoverExit l reason).fixture m = v := by
  simp only [Ev.changeoverExit]
  repeat' (first | with_reducible assumption | with_reducible apply Ev.modLine_fixture | with_reducible apply Ev.modFlow_fixture | with_reducible apply Ev.modTank_fixture | with_reducible apply Ev.setUse_fixture | with_reducible apply Ev.credit_fixture | with_reducible intro _ | split | rfl | exact ⟨rfl, rfl⟩ | exact ⟨rfl, rfl, rfl⟩)
theorem Ev.setUndecided_fixture {v : LineFixture} {m : LineId} {e : Ev} (ls : List LineId) (h : e.fixture m = v) :
    State.fixture ({ e with undecided := ls } : Ev).toState m = v := h
theorem Ev.closeEntry_fixture {v : LineFixture} {m : LineId} {e : Ev} (l : LineId) (reason : CloseReason)
    (hold : Option HoldReason) (cause : Option TripCause) (h : e.fixture m = v) :
    (e.closeEntry l reason hold cause).fixture m = v := by
  simp only [Ev.closeEntry]; change State.fixture (Ev.toState (Ev.evalPermitOf _ l)) m = v
  repeat' (first | with_reducible assumption | with_reducible apply Ev.modLine_fixture | with_reducible apply Ev.setClose_fixture | with_reducible apply Ev.modFlow_fixture | with_reducible apply Ev.mark_fixture | with_reducible apply Ev.evalPermitOf_fixture | with_reducible apply Ev.cancelWork_fixture | with_reducible apply Ev.clearPred_fixture | with_reducible apply Ev.writeTrip_fixture | with_reducible apply Ev.changeoverExit_fixture | with_reducible intro _ | split | rfl | exact ⟨rfl, rfl⟩ | exact ⟨rfl, rfl, rfl⟩)
theorem Ev.retripClosing_fixture {v : LineFixture} {m : LineId} {e : Ev} (l : LineId) (reason : CloseReason) (cause : TripCause) (hE : e.fixture m = v) : (e.retripClosing l reason cause).fixture m = v := by
  simp only [Ev.retripClosing]
  repeat' (first | with_reducible assumption | with_reducible apply Ev.modLine_fixture | with_reducible apply Ev.modFlow_fixture | with_reducible apply Ev.markIf_fixture | with_reducible apply Ev.writeTrip_fixture | with_reducible intro _ | split | rfl | exact ⟨rfl, rfl⟩ | exact ⟨rfl, rfl, rfl⟩)
theorem Ev.trip_fixture {v : LineFixture} {m : LineId} {e : Ev} (l : LineId) (cause : TripCause) (hE : e.fixture m = v) : (e.trip l cause).fixture m = v := by
  simp only [Ev.trip]
  repeat' (first | with_reducible assumption | with_reducible apply Ev.modLine_fixture | with_reducible apply Ev.setState_fixture | with_reducible apply Ev.writeTrip_fixture | with_reducible apply Ev.closeEntry_fixture | with_reducible apply Ev.retripClosing_fixture | with_reducible intro _ | split | rfl | exact ⟨rfl, rfl⟩ | exact ⟨rfl, rfl, rfl⟩)
theorem Ev.tripHolder_fixture {v : LineFixture} {m : LineId} {e : Ev} (k : TankId) (cause : TripCause) (hE : e.fixture m = v) : (e.tripHolder k cause).fixture m = v := by
  simp only [Ev.tripHolder]
  repeat' (first | with_reducible assumption | with_reducible apply Ev.trip_fixture | with_reducible intro _ | split | rfl | exact ⟨rfl, rfl⟩ | exact ⟨rfl, rfl, rfl⟩)
theorem Ev.dropClose_fixture {v : LineFixture} {m : LineId} {e : Ev} (l : LineId) (hE : e.fixture m = v) : (e.dropClose l).fixture m = v := by
  simp only [Ev.dropClose]
  repeat' (first | with_reducible assumption | with_reducible apply Ev.modLine_fixture | with_reducible apply Ev.setClose_fixture | with_reducible apply Ev.modFlow_fixture | with_reducible intro _ | split | rfl | exact ⟨rfl, rfl⟩ | exact ⟨rfl, rfl, rfl⟩)
theorem Ev.closeEnd_fixture {v : LineFixture} {m : LineId} {e : Ev} (l : LineId) (hE : e.fixture m = v) : (e.closeEnd l).fixture m = v := by
  simp only [Ev.closeEnd]
  repeat' (first | with_reducible assumption | with_reducible apply Ev.modLine_fixture | with_reducible apply Ev.setUse_fixture | with_reducible apply Ev.settleComplete_fixture | with_reducible apply Ev.setState_fixture | with_reducible apply Ev.trip_fixture | with_reducible apply Ev.dropClose_fixture | with_reducible intro _ | split | rfl | exact ⟨rfl, rfl⟩ | exact ⟨rfl, rfl, rfl⟩)
theorem Ev.enterStarting_fixture {v : LineFixture} {m : LineId} {e : Ev} (l : LineId) (hE : e.fixture m = v) : (e.enterStarting l).fixture m = v := by
  simp only [Ev.enterStarting]
  repeat' (first | with_reducible assumption | with_reducible apply Ev.modLine_fixture | with_reducible apply Ev.modFlow_fixture | with_reducible apply Ev.setUse_fixture | with_reducible apply Ev.setState_fixture | with_reducible apply Ev.setSurge_fixture | with_reducible apply Ev.setLate_fixture | with_reducible apply Ev.requestStroke_fixture | with_reducible intro _ | split | rfl | exact ⟨rfl, rfl⟩ | exact ⟨rfl, rfl, rfl⟩)
theorem Ev.enterProving_fixture {v : LineFixture} {m : LineId} {e : Ev} (l : LineId) (hE : e.fixture m = v) : (e.enterProving l).fixture m = v := by
  simp only [Ev.enterProving]
  repeat' (first | with_reducible assumption | with_reducible apply Ev.modLine_fixture | with_reducible apply Ev.modFlow_fixture | with_reducible apply Ev.setState_fixture | with_reducible intro _ | split | rfl | exact ⟨rfl, rfl⟩ | exact ⟨rfl, rfl, rfl⟩)
theorem Ev.throttleTo_fixture {v : LineFixture} {m : LineId} {e : Ev} (l : LineId) (pos : Nat) (hE : e.fixture m = v) : (e.throttleTo l pos).fixture m = v := by
  simp only [Ev.throttleTo]
  repeat' (first | with_reducible assumption | with_reducible apply Ev.modLine_fixture | with_reducible apply Ev.modPred_fixture | with_reducible apply Ev.modFlow_fixture | with_reducible apply Ev.requestStroke_fixture | with_reducible intro _ | split | rfl | exact ⟨rfl, rfl⟩ | exact ⟨rfl, rfl, rfl⟩)
theorem Ev.closeStartTest_fixture {v : LineFixture} {m : LineId} {e : Ev} (l : LineId) (hE : e.fixture m = v) : (e.closeStartTest l).fixture m = v := by
  simp only [Ev.closeStartTest]
  repeat' (first | with_reducible assumption | with_reducible apply Ev.modPred_fixture | with_reducible apply Ev.setLate_fixture | with_reducible apply Ev.closeEntry_fixture | with_reducible intro _ | split | rfl | exact ⟨rfl, rfl⟩ | exact ⟨rfl, rfl, rfl⟩)
theorem Ev.enterTopping_fixture {v : LineFixture} {m : LineId} {e : Ev} (l : LineId) (hE : e.fixture m = v) : (e.enterTopping l).fixture m = v := by
  simp only [Ev.enterTopping]
  repeat' (first | with_reducible assumption | with_reducible apply Ev.modLine_fixture | with_reducible apply Ev.setState_fixture | with_reducible apply Ev.throttleTo_fixture | with_reducible apply Ev.closeStartTest_fixture | with_reducible intro _ | split | rfl | exact ⟨rfl, rfl⟩ | exact ⟨rfl, rfl, rfl⟩)
theorem Ev.enterChangeover_fixture {v : LineFixture} {m : LineId} {e : Ev} (l : LineId) (k : TankId) (hE : e.fixture m = v) : (e.enterChangeover l k).fixture m = v := by
  simp only [Ev.enterChangeover]
  repeat' (first | with_reducible assumption | with_reducible apply Ev.modLine_fixture | with_reducible apply Ev.modFlow_fixture | with_reducible apply Ev.modTank_fixture | with_reducible apply Ev.setUse_fixture | with_reducible apply Ev.setState_fixture | with_reducible apply Ev.throttleTo_fixture | with_reducible intro _ | split | rfl | exact ⟨rfl, rfl⟩ | exact ⟨rfl, rfl, rfl⟩)
theorem Ev.evaluateMarks_fixture {v : LineFixture} {m : LineId} {e : Ev} (l : LineId) (hE : e.fixture m = v) : (e.evaluateMarks l).fixture m = v := by
  simp only [Ev.evaluateMarks]
  repeat' (first | with_reducible assumption | with_reducible apply Ev.enterTopping_fixture | with_reducible apply Ev.enterChangeover_fixture | with_reducible intro _ | split | rfl | exact ⟨rfl, rfl⟩ | exact ⟨rfl, rfl, rfl⟩)
theorem Ev.overrunTest_fixture {v : LineFixture} {m : LineId} {e : Ev} (l : LineId) (hE : e.fixture m = v) : (e.overrunTest l).fixture m = v := by
  simp only [Ev.overrunTest]
  repeat' (first | with_reducible assumption | with_reducible apply Ev.trip_fixture | with_reducible intro _ | split | rfl | exact ⟨rfl, rfl⟩ | exact ⟨rfl, rfl, rfl⟩)
theorem Ev.changeoverSuccess_fixture {v : LineFixture} {m : LineId} {e : Ev} (l : LineId) (old new : TankId) (hE : e.fixture m = v) : (e.changeoverSuccess l old new).fixture m = v := by
  simp only [Ev.changeoverSuccess]
  repeat' (first | with_reducible assumption | with_reducible apply Ev.modLine_fixture | with_reducible apply Ev.setList_fixture | with_reducible apply Ev.modFlow_fixture | with_reducible apply Ev.modTank_fixture | with_reducible apply Ev.setUse_fixture | with_reducible apply Ev.credit_fixture | with_reducible apply Ev.setState_fixture | with_reducible apply Ev.requestStroke_fixture | with_reducible apply Ev.clearPred_fixture | with_reducible apply Ev.evaluateMarks_fixture | with_reducible intro _ | split | rfl | exact ⟨rfl, rfl⟩ | exact ⟨rfl, rfl, rfl⟩)
theorem Ev.successTest_fixture {v : LineFixture} {m : LineId} {e : Ev} (l : LineId) (hE : e.fixture m = v) : (e.successTest l).fixture m = v := by
  simp only [Ev.successTest]
  repeat' (first | with_reducible assumption | with_reducible apply Ev.changeoverSuccess_fixture | with_reducible intro _ | split | rfl | exact ⟨rfl, rfl⟩ | exact ⟨rfl, rfl, rfl⟩)
theorem Ev.provingTest_fixture {v : LineFixture} {m : LineId} {e : Ev} (l : LineId) (k : TankId) (level : Nat) (hE : e.fixture m = v) : (e.provingTest l k level).fixture m = v := by
  simp only [Ev.provingTest]
  repeat' (first | with_reducible assumption | with_reducible apply Ev.modLine_fixture | with_reducible apply Ev.setState_fixture | with_reducible apply Ev.requestStroke_fixture | with_reducible apply Ev.evaluateMarks_fixture | with_reducible intro _ | split | rfl | exact ⟨rfl, rfl⟩ | exact ⟨rfl, rfl, rfl⟩)
theorem Ev.esdToLine_fixture {v : LineFixture} {m : LineId} {e : Ev} (l : LineId) (hE : e.fixture m = v) : (e.esdToLine l).fixture m = v := by
  simp only [Ev.esdToLine]
  repeat' (first | with_reducible assumption | with_reducible apply Ev.closeEntry_fixture | with_reducible apply Ev.retripClosing_fixture | with_reducible intro _ | split | rfl | exact ⟨rfl, rfl⟩ | exact ⟨rfl, rfl, rfl⟩)
theorem Ev.raiseCause_fixture {v : LineFixture} {m : LineId} {e : Ev} (c : EsdCause) (h : e.fixture m = v) : (e.raiseCause c).fixture m = v := by
  simp only [Ev.raiseCause]
  split
  · exact h
  · exact Ev.mark_fixture _ (Ev.eachLine_fixture _ (fun l x hx => Ev.esdToLine_fixture l hx) (Ev.cancelAllWork_fixture
      (Ev.evalPermit_fixture _ (Ev.evalPermit_fixture _ h))))
theorem Ev.raiseValve_fixture {v : LineFixture} {m : LineId} {e : Ev} (l : LineId) (hE : e.fixture m = v) : (e.raiseValve l).fixture m = v := by
  simp only [Ev.raiseValve]
  repeat' (first | with_reducible assumption | with_reducible apply Ev.modShut_fixture | with_reducible apply Ev.mark_fixture | with_reducible apply Ev.raiseCause_fixture | with_reducible intro _ | split | rfl | exact ⟨rfl, rfl⟩ | exact ⟨rfl, rfl, rfl⟩)
theorem Ev.requestStage_fixture {v : LineFixture} {m : LineId} {e : Ev} (l : LineId) (k : Nat) (hE : e.fixture m = v) : (e.requestStage l k).fixture m = v := by
  simp only [Ev.requestStage]
  repeat' (first | with_reducible assumption | with_reducible apply Ev.modClose_fixture | with_reducible apply Ev.requestStroke_fixture | with_reducible intro _ | split | rfl | exact ⟨rfl, rfl⟩ | exact ⟨rfl, rfl, rfl⟩)
theorem Ev.startPlan_fixture {v : LineFixture} {m : LineId} {e : Ev} (l : LineId) (hE : e.fixture m = v) : (e.startPlan l).fixture m = v := by
  simp only [Ev.startPlan]
  repeat' (first | with_reducible assumption | with_reducible apply Ev.modClose_fixture | with_reducible apply Ev.setSurge_fixture | with_reducible apply Ev.requestStroke_fixture | with_reducible apply Ev.closeEnd_fixture | with_reducible apply Ev.requestStage_fixture | with_reducible intro _ | split | rfl | exact ⟨rfl, rfl⟩ | exact ⟨rfl, rfl, rfl⟩)
theorem Ev.endRunDown_fixture {v : LineFixture} {m : LineId} {e : Ev} (l : LineId) (cause : RunDownEnd) (hE : e.fixture m = v) : (e.endRunDown l cause).fixture m = v := by
  simp only [Ev.endRunDown]
  repeat' (first | with_reducible assumption | with_reducible apply Ev.modClose_fixture | with_reducible apply Ev.startPlan_fixture | with_reducible intro _ | split | rfl | exact ⟨rfl, rfl⟩ | exact ⟨rfl, rfl, rfl⟩)
theorem Ev.decideClose_fixture {v : LineFixture} {m : LineId} {e : Ev} (l : LineId) (hE : e.fixture m = v) : (e.decideClose l).fixture m = v := by
  simp only [Ev.decideClose]
  repeat' (first | with_reducible assumption | with_reducible apply Ev.modClose_fixture | with_reducible apply Ev.startPlan_fixture | with_reducible apply Ev.endRunDown_fixture | with_reducible intro _ | split | rfl | exact ⟨rfl, rfl⟩ | exact ⟨rfl, rfl, rfl⟩)
theorem Ev.plannerArrived_fixture {v : LineFixture} {m : LineId} {e : Ev} (l : LineId) (target : Nat) (hE : e.fixture m = v) : (e.plannerArrived l target).fixture m = v := by
  simp only [Ev.plannerArrived]
  repeat' (first | with_reducible assumption | with_reducible apply Ev.modClose_fixture | with_reducible apply Ev.closeEnd_fixture | with_reducible intro _ | split | rfl | exact ⟨rfl, rfl⟩ | exact ⟨rfl, rfl, rfl⟩)
theorem Ev.nextStage_fixture {v : LineFixture} {m : LineId} {e : Ev} (l : LineId) (hE : e.fixture m = v) : (e.nextStage l).fixture m = v := by
  simp only [Ev.nextStage]
  repeat' (first | with_reducible assumption | with_reducible apply Ev.requestStage_fixture | with_reducible intro _ | split | rfl | exact ⟨rfl, rfl⟩ | exact ⟨rfl, rfl, rfl⟩)
theorem Ev.plannerEnded_fixture {v : LineFixture} {m : LineId} {e : Ev} (l : LineId) (hE : e.fixture m = v) : (e.plannerEnded l).fixture m = v := by
  simp only [Ev.plannerEnded]
  repeat' (first | with_reducible assumption | with_reducible apply Ev.modClose_fixture | with_reducible apply Ev.nextStage_fixture | with_reducible intro _ | split | rfl | exact ⟨rfl, rfl⟩ | exact ⟨rfl, rfl, rfl⟩)
theorem Ev.retryStage_fixture {v : LineFixture} {m : LineId} {e : Ev} (l : LineId) (hE : e.fixture m = v) : (e.retryStage l).fixture m = v := by
  simp only [Ev.retryStage]
  repeat' (first | with_reducible assumption | with_reducible apply Ev.modClose_fixture | with_reducible apply Ev.requestStroke_fixture | with_reducible intro _ | split | rfl | exact ⟨rfl, rfl⟩ | exact ⟨rfl, rfl, rfl⟩)
theorem Ev.abandonClose_fixture {v : LineFixture} {m : LineId} {e : Ev} (l : LineId) (hE : e.fixture m = v) : (e.abandonClose l).fixture m = v := by
  simp only [Ev.abandonClose]
  repeat' (first | with_reducible assumption | with_reducible apply Ev.setState_fixture | with_reducible apply Ev.retripClosing_fixture | with_reducible apply Ev.trip_fixture | with_reducible apply Ev.dropClose_fixture | with_reducible apply Ev.raiseValve_fixture | with_reducible intro _ | split | rfl | exact ⟨rfl, rfl⟩ | exact ⟨rfl, rfl, rfl⟩)
theorem Ev.plannerFailed_fixture {v : LineFixture} {m : LineId} {e : Ev} (l : LineId) (hE : e.fixture m = v) : (e.plannerFailed l).fixture m = v := by
  simp only [Ev.plannerFailed]
  repeat' (first | with_reducible assumption | with_reducible apply Ev.modClose_fixture | with_reducible apply Ev.retryStage_fixture | with_reducible apply Ev.abandonClose_fixture | with_reducible intro _ | split | rfl | exact ⟨rfl, rfl⟩ | exact ⟨rfl, rfl, rfl⟩)
theorem Ev.plannerSeated_fixture {v : LineFixture} {m : LineId} {e : Ev} (l : LineId) (hE : e.fixture m = v) : (e.plannerSeated l).fixture m = v := by
  simp only [Ev.plannerSeated]
  repeat' (first | with_reducible assumption | with_reducible apply Ev.closeEnd_fixture | with_reducible intro _ | split | rfl | exact ⟨rfl, rfl⟩ | exact ⟨rfl, rfl, rfl⟩)
theorem Ev.retryWaiting_fixture {v : LineFixture} {m : LineId} {e : Ev} (l : LineId) (hE : e.fixture m = v) : (e.retryWaiting l).fixture m = v := by
  simp only [Ev.retryWaiting]
  repeat' (first | with_reducible assumption | with_reducible apply Ev.retryStage_fixture | with_reducible intro _ | split | rfl | exact ⟨rfl, rfl⟩ | exact ⟨rfl, rfl, rfl⟩)
theorem Ev.bandEvent_fixture {v : LineFixture} {m : LineId} {e : Ev} (hE : e.fixture m = v) : (e.bandEvent ).fixture m = v := by
  simp only [Ev.bandEvent]
  repeat' (first | with_reducible assumption | with_reducible apply Ev.eachLine_fixture | with_reducible apply Ev.considerGrants_fixture | with_reducible apply Ev.setBand_fixture | with_reducible apply Ev.retryWaiting_fixture | with_reducible intro _ | split | rfl | exact ⟨rfl, rfl⟩ | exact ⟨rfl, rfl, rfl⟩)

/-! ### The end of an event -/

theorem Ev.handleReport_fixture {v : LineFixture} {m : LineId} {e : Ev} (r : Report) (h : e.fixture m = v) : (e.handleReport r).fixture m = v := by
  unfold Ev.handleReport
  repeat' (first | with_reducible assumption | with_reducible apply Ev.plannerArrived_fixture | with_reducible apply Ev.settleArrival_fixture | with_reducible apply Ev.enterProving_fixture | with_reducible apply Ev.plannerFailed_fixture | with_reducible apply Ev.trip_fixture | with_reducible apply Ev.requestStroke_fixture | with_reducible apply Ev.plannerEnded_fixture | with_reducible apply Ev.plannerSeated_fixture | with_reducible rfl | split)

/-- The drain leaves the fixtures alone. -/
theorem Ev.drain_fixture (e : Ev) (m : LineId) : e.drain.fixture m = e.fixture m :=
  Ev.drain_induction (P := fun x => x.fixture m = e.fixture m)
    (fun x r rs h _ => Ev.handleReport_fixture r (e := { x with reports := rs }) h)
    (fun x l ls h _ _ => Ev.decideClose_fixture l (e := { x with undecided := ls }) h) e rfl

theorem Ev.handleReport_alarms {g : Ground} {v : CauseSet × List LineId} {e : Ev} (r : Report) (hr : r.calm g)
    (h : e.alarms = v) : (e.handleReport r).alarms = v := by
  cases r with
  | arrived l cls target =>
    cases cls <;> simp only [Ev.handleReport]
    · exact Ev.plannerArrived_alarms l target h
    · exact Ev.settleArrival_alarms l target h
    · split
      · exact Ev.enterProving_alarms l h
      · exact Ev.settleArrival_alarms l target h
  | ended l cls =>
    cases cls <;> simp only [Ev.handleReport]
    · split
      · exact Ev.requestStroke_alarms l _ _ _ h
      · exact Ev.plannerEnded_alarms l h
    · exact h
    · exact h
  | failed l cls o => exact absurd hr id
  | seated l => exact absurd hr id

/-- A drain that begins calm raises no cause. -/
theorem Ev.drain_alarms {g : Ground} (e : Ev) (hc : e.calm g) : e.drain.alarms = e.alarms :=
  Ev.drain_calm_induction (P := fun x => x.alarms = e.alarms)
    (fun _ r _ hr h => Ev.handleReport_alarms r hr h) (fun _ l _ h => Ev.decideClose_alarms l h)
    (fun _ _ h => h) (fun _ _ h => h) e hc rfl

end Sys2Proof.Machine
end

