-- ==== Sys2Proof/Laws/Console.lean ====
section
/-! SUPPORT. The end of an event and the console port: what finish leaves of the event's state, what a notice and the transmit
arbiter change, and what the serving of a request does to the port, whatever the request does to the blocks. -/

namespace Sys2Proof.Machine

/-! ### The transmit arbiter and the queueing of notices -/

@[simp] theorem State.arbitrate_pending (s : State) : s.arbitrate.pending = s.pending := by
  unfold State.arbitrate; (repeat' split) <;> rfl
@[simp] theorem State.arbitrate_now (s : State) : s.arbitrate.now = s.now := by
  unfold State.arbitrate; (repeat' split) <;> rfl
@[simp] theorem State.arbitrate_freeCtr (s : State) : s.arbitrate.freeCtr = s.freeCtr := by
  unfold State.arbitrate; (repeat' split) <;> rfl
@[simp] theorem State.arbitrate_rx (s : State) : s.arbitrate.rx = s.rx := by
  unfold State.arbitrate; (repeat' split) <;> rfl
@[simp] theorem State.arbitrate_buf1 (s : State) : s.arbitrate.buf1 = s.buf1 := by
  unfold State.arbitrate; (repeat' split) <;> rfl
@[simp] theorem State.arbitrate_buf2 (s : State) : s.arbitrate.buf2 = s.buf2 := by
  unfold State.arbitrate; (repeat' split) <;> rfl
@[simp] theorem State.arbitrate_waitOrder (s : State) : s.arbitrate.waitOrder = s.waitOrder := by
  unfold State.arbitrate; (repeat' split) <;> rfl
@[simp] theorem State.arbitrate_overrun (s : State) : s.arbitrate.overrun = s.overrun := by
  unfold State.arbitrate; (repeat' split) <;> rfl
@[simp] theorem State.arbitrate_restart (s : State) : s.arbitrate.restart = s.restart := by
  unfold State.arbitrate; (repeat' split) <;> rfl
@[simp] theorem State.arbitrate_restartEsd (s : State) : s.arbitrate.restartEsd = s.restartEsd := by
  unfold State.arbitrate; (repeat' split) <;> rfl
@[simp] theorem State.arbitrate_lines (s : State) : s.arbitrate.lines = s.lines := by
  unfold State.arbitrate; (repeat' split) <;> rfl
@[simp] theorem State.arbitrate_lists (s : State) : s.arbitrate.lists = s.lists := by
  unfold State.arbitrate; (repeat' split) <;> rfl
@[simp] theorem State.arbitrate_tanks (s : State) : s.arbitrate.tanks = s.tanks := by
  unfold State.arbitrate; (repeat' split) <;> rfl
@[simp] theorem State.arbitrate_preds (s : State) : s.arbitrate.preds = s.preds := by
  unfold State.arbitrate; (repeat' split) <;> rfl
@[simp] theorem State.arbitrate_closes (s : State) : s.arbitrate.closes = s.closes := by
  unfold State.arbitrate; (repeat' split) <;> rfl
@[simp] theorem State.arbitrate_flows (s : State) : s.arbitrate.flows = s.flows := by
  unfold State.arbitrate; (repeat' split) <;> rfl
@[simp] theorem State.arbitrate_valves (s : State) : s.arbitrate.valves = s.valves := by
  unfold State.arbitrate; (repeat' split) <;> rfl
@[simp] theorem State.arbitrate_chan1 (s : State) : s.arbitrate.chan1 = s.chan1 := by
  unfold State.arbitrate; (repeat' split) <;> rfl
@[simp] theorem State.arbitrate_chan2 (s : State) : s.arbitrate.chan2 = s.chan2 := by
  unfold State.arbitrate; (repeat' split) <;> rfl
@[simp] theorem State.arbitrate_supply (s : State) : s.arbitrate.supply = s.supply := by
  unfold State.arbitrate; (repeat' split) <;> rfl
@[simp] theorem State.arbitrate_link (s : State) : s.arbitrate.link = s.link := by
  unfold State.arbitrate; (repeat' split) <;> rfl
@[simp] theorem State.arbitrate_grades (s : State) : s.arbitrate.grades = s.grades := by
  unfold State.arbitrate; (repeat' split) <;> rfl
@[simp] theorem State.arbitrate_shut (s : State) : s.arbitrate.shut = s.shut := by
  unfold State.arbitrate; (repeat' split) <;> rfl
@[simp] theorem Ev.queueNotices_pending (e : Ev) : e.queueNotices.pending = e.pending := rfl
@[simp] theorem Ev.queueNotices_now (e : Ev) : e.queueNotices.now = e.now := rfl
@[simp] theorem Ev.queueNotices_freeCtr (e : Ev) : e.queueNotices.freeCtr = e.freeCtr := rfl
@[simp] theorem Ev.queueNotices_rx (e : Ev) : e.queueNotices.rx = e.rx := rfl
@[simp] theorem Ev.queueNotices_buf1 (e : Ev) : e.queueNotices.buf1 = e.buf1 := rfl
@[simp] theorem Ev.queueNotices_buf2 (e : Ev) : e.queueNotices.buf2 = e.buf2 := rfl
@[simp] theorem Ev.queueNotices_waitOrder (e : Ev) : e.queueNotices.waitOrder = e.waitOrder := rfl
@[simp] theorem Ev.queueNotices_overrun (e : Ev) : e.queueNotices.overrun = e.overrun := rfl
@[simp] theorem Ev.queueNotices_restart (e : Ev) : e.queueNotices.restart = e.restart := rfl
@[simp] theorem Ev.queueNotices_restartEsd (e : Ev) : e.queueNotices.restartEsd = e.restartEsd := rfl
@[simp] theorem Ev.queueNotices_lines (e : Ev) : e.queueNotices.lines = e.lines := rfl
@[simp] theorem Ev.queueNotices_lists (e : Ev) : e.queueNotices.lists = e.lists := rfl
@[simp] theorem Ev.queueNotices_tanks (e : Ev) : e.queueNotices.tanks = e.tanks := rfl
@[simp] theorem Ev.queueNotices_preds (e : Ev) : e.queueNotices.preds = e.preds := rfl
@[simp] theorem Ev.queueNotices_closes (e : Ev) : e.queueNotices.closes = e.closes := rfl
@[simp] theorem Ev.queueNotices_flows (e : Ev) : e.queueNotices.flows = e.flows := rfl
@[simp] theorem Ev.queueNotices_valves (e : Ev) : e.queueNotices.valves = e.valves := rfl
@[simp] theorem Ev.queueNotices_chan1 (e : Ev) : e.queueNotices.chan1 = e.chan1 := rfl
@[simp] theorem Ev.queueNotices_chan2 (e : Ev) : e.queueNotices.chan2 = e.chan2 := rfl
@[simp] theorem Ev.queueNotices_supply (e : Ev) : e.queueNotices.supply = e.supply := rfl
@[simp] theorem Ev.queueNotices_link (e : Ev) : e.queueNotices.link = e.link := rfl
@[simp] theorem Ev.queueNotices_grades (e : Ev) : e.queueNotices.grades = e.grades := rfl
@[simp] theorem Ev.queueNotices_shut (e : Ev) : e.queueNotices.shut = e.shut := rfl
@[simp] theorem Ev.queueNotices_tx (e : Ev) : e.queueNotices.tx = e.tx := rfl
@[simp] theorem Ev.queueNotices_replyOrder (e : Ev) : e.queueNotices.replyOrder = e.replyOrder := rfl

@[simp] theorem State.arbitrate_content (s : State) (k : NoticeKey) : s.arbitrate.content k = s.content k := by
  unfold State.arbitrate; (repeat' split) <;> rfl

@[simp] theorem Ev.queueNotices_content (e : Ev) (k : NoticeKey) : e.queueNotices.content k = e.content k := rfl

/-- The keys of the queue after a notice is put in: the notice's own key is in, the others stay. -/
theorem putNotice_mem (q : List Notice) (n : Notice) : n ∈ putNotice q n := by
  induction q with
  | nil => simp [putNotice]
  | cons x xs ih => unfold putNotice; split <;> simp [ih]

theorem putNotice_keeps (q : List Notice) (n x : Notice) (hx : x ∈ q) (hk : x.key ≠ n.key) : x ∈ putNotice q n := by
  induction q with
  | nil => cases hx
  | cons y ys ih =>
    unfold putNotice
    rcases List.mem_cons.mp hx with h | h
    · subst h; simp [hk]
    · split <;> simp [h, ih h]

theorem putNotice_only (q : List Notice) (n x : Notice) (hx : x ∈ putNotice q n) : x = n ∨ x ∈ q := by
  induction q with
  | nil => left; simpa [putNotice] using hx
  | cons y ys ih =>
    unfold putNotice at hx
    split at hx
    · rcases List.mem_cons.mp hx with h | h
      · exact .inl h
      · exact .inr (List.mem_cons_of_mem _ h)
    · rcases List.mem_cons.mp hx with h | h
      · subst h; exact .inr List.mem_cons_self
      · rcases ih h with h | h
        · exact .inl h
        · exact .inr (List.mem_cons_of_mem _ h)

/-- Putting a notice keeps the keys of the queue distinct (R187). -/
theorem putNotice_nodup (q : List Notice) (n : Notice) (h : (q.map (fun x => x.key)).Nodup) :
    ((putNotice q n).map (fun x => x.key)).Nodup := by
  induction q with
  | nil => simp [putNotice]
  | cons y ys ih =>
    simp only [List.map_cons, List.nodup_cons] at h
    unfold putNotice
    split
    · rename_i hk
      simp only [List.map_cons, List.nodup_cons, ← hk]
      exact h
    · rename_i hk
      simp only [List.map_cons, List.nodup_cons]
      refine ⟨?_, ih h.2⟩
      intro hm
      obtain ⟨z, hz, hzk⟩ := List.mem_map.mp hm
      rcases putNotice_only ys n z hz with rfl | hz'
      · exact hk hzk.symm
      · exact h.1 (List.mem_map.mpr ⟨z, hz', hzk⟩)

/-- Every key the event noted has its notice in the queue, with the content and the time of the event's end. -/
theorem Ev.queueNotices_mem (e : Ev) (k : NoticeKey) (hk : k ∈ e.dirty) :
    { key := k, content := e.content k, stamp := e.now } ∈ e.queueNotices.notices := by
  have key : ∀ (ks : List NoticeKey) (q : List Notice),
      ({ key := k, content := e.content k, stamp := e.now } ∈ q ∨ k ∈ ks) →
      { key := k, content := e.content k, stamp := e.now } ∈
        ks.foldl (fun q k => putNotice q { key := k, content := e.content k, stamp := e.now }) q := by
    intro ks
    induction ks with
    | nil => intro q h; simpa using h
    | cons x xs ih =>
      intro q h
      simp only [List.foldl]
      apply ih
      by_cases hx : k = x
      · subst hx; exact .inl (putNotice_mem _ _)
      · rcases h with h | h
        · exact .inl (putNotice_keeps _ _ _ h hx)
        · rcases List.mem_cons.mp h with h | h
          · exact absurd h hx
          · exact .inr h
  exact key e.dirty e.notices (.inr hk)

/-- The arbiter takes the head of the queue or leaves it, so a queued notice stands in the queue or is in transmission. -/
theorem State.arbitrate_notice (s : State) (n : Notice) (h : n ∈ s.notices) :
    n ∈ s.arbitrate.notices ∨ s.arbitrate.tx = some (.notice n) := by
  unfold State.arbitrate
  split
  · exact .inl h
  · split
    · exact .inl h
    · rename_i m ms hr hn
      rw [hn] at h
      rcases List.mem_cons.mp h with h | h
      · right; simp [h]
      · left; exact h
    · exact .inl h

/-- A key the event noted is announced in the state the event leaves (R4, R187). -/
theorem announced_of_dirty (e : Ev) (k : NoticeKey) (hk : k ∈ e.dirty) : e.queueNotices.arbitrate.announced k := by
  have h := State.arbitrate_notice _ _ (Ev.queueNotices_mem e k hk)
  unfold State.announced
  simpa using h

/-! ### The end of an event -/

theorem finish_eq (e : Ev) : finish e = e.drain.queueNotices.arbitrate := rfl

/-- An event with no report and no close to decide: the drain does nothing. -/
theorem finish_idle (e : Ev) (hr : e.reports = []) (hu : e.undecided = []) : finish e = e.queueNotices.arbitrate := by
  rw [finish_eq, Ev.drain_idle e hr hu]

theorem finish_announced (e : Ev) (k : NoticeKey) (hk : k ∈ e.drain.dirty) : (finish e).announced k :=
  announced_of_dirty e.drain k hk

@[simp] theorem finish_pending (e : Ev) : (finish e).pending = e.pending := by
  have h := congrArg (fun g : Ground => g.port.pending) (Ev.drain_ground e)
  simp only [finish_eq, State.arbitrate_pending, Ev.queueNotices_pending]; exact h
@[simp] theorem finish_now (e : Ev) : (finish e).now = e.now := by
  have h := congrArg (fun g : Ground => g.port.now) (Ev.drain_ground e)
  simp only [finish_eq, State.arbitrate_now, Ev.queueNotices_now]; exact h
@[simp] theorem finish_rx (e : Ev) : (finish e).rx = e.rx := by
  have h := congrArg (fun g : Ground => g.port.rx) (Ev.drain_ground e)
  simp only [finish_eq, State.arbitrate_rx, Ev.queueNotices_rx]; exact h
@[simp] theorem finish_buf1 (e : Ev) : (finish e).buf1 = e.buf1 := by
  have h := congrArg (fun g : Ground => g.port.buf1) (Ev.drain_ground e)
  simp only [finish_eq, State.arbitrate_buf1, Ev.queueNotices_buf1]; exact h
@[simp] theorem finish_buf2 (e : Ev) : (finish e).buf2 = e.buf2 := by
  have h := congrArg (fun g : Ground => g.port.buf2) (Ev.drain_ground e)
  simp only [finish_eq, State.arbitrate_buf2, Ev.queueNotices_buf2]; exact h
@[simp] theorem finish_waitOrder (e : Ev) : (finish e).waitOrder = e.waitOrder := by
  have h := congrArg (fun g : Ground => g.port.waitOrder) (Ev.drain_ground e)
  simp only [finish_eq, State.arbitrate_waitOrder, Ev.queueNotices_waitOrder]; exact h
@[simp] theorem finish_overrun (e : Ev) : (finish e).overrun = e.overrun := by
  have h := congrArg (fun g : Ground => g.port.overrun) (Ev.drain_ground e)
  simp only [finish_eq, State.arbitrate_overrun, Ev.queueNotices_overrun]; exact h
@[simp] theorem finish_restart (e : Ev) : (finish e).restart = e.restart := by
  have h := congrArg (fun g : Ground => g.port.restart) (Ev.drain_ground e)
  simp only [finish_eq, State.arbitrate_restart, Ev.queueNotices_restart]; exact h
@[simp] theorem finish_link (e : Ev) : (finish e).link = e.link := by
  have h := congrArg (fun g : Ground => g.link) (Ev.drain_ground e)
  simp only [finish_eq, State.arbitrate_link, Ev.queueNotices_link]; exact h
@[simp] theorem finish_grades (e : Ev) : (finish e).grades = e.grades := by
  have h := congrArg (fun g : Ground => g.grades) (Ev.drain_ground e)
  simp only [finish_eq, State.arbitrate_grades, Ev.queueNotices_grades]; exact h
@[simp] theorem finish_freeCtr (e : Ev) : (finish e).freeCtr = e.freeCtr := by
  have h := congrArg (fun g : Ground => g.freeCtr) (Ev.drain_ground e)
  simp only [finish_eq, State.arbitrate_freeCtr, Ev.queueNotices_freeCtr]; exact h
theorem finish_lines (e : Ev) : (finish e).lines = e.drain.lines := by simp [finish_eq]
theorem finish_lists (e : Ev) : (finish e).lists = e.drain.lists := by simp [finish_eq]
theorem finish_tanks (e : Ev) : (finish e).tanks = e.drain.tanks := by simp [finish_eq]
theorem finish_preds (e : Ev) : (finish e).preds = e.drain.preds := by simp [finish_eq]
theorem finish_closes (e : Ev) : (finish e).closes = e.drain.closes := by simp [finish_eq]
theorem finish_flows (e : Ev) : (finish e).flows = e.drain.flows := by simp [finish_eq]
theorem finish_valves (e : Ev) : (finish e).valves = e.drain.valves := by simp [finish_eq]
theorem finish_chan1 (e : Ev) : (finish e).chan1 = e.drain.chan1 := by simp [finish_eq]
theorem finish_chan2 (e : Ev) : (finish e).chan2 = e.drain.chan2 := by simp [finish_eq]
theorem finish_supply (e : Ev) : (finish e).supply = e.drain.supply := by simp [finish_eq]
theorem finish_shut (e : Ev) : (finish e).shut = e.drain.shut := by simp [finish_eq]

/-- What finish leaves of the ground of each line and tank. -/
theorem finish_profile (e : Ev) (l : LineId) : ((finish e).line l).profile = (e.line l).profile := by
  have h := congrFun (congrArg Ground.profiles (Ev.drain_ground e)) l
  simp only [State.line, finish_lines]; exact h
theorem finish_inputs (e : Ev) (l : LineId) : ((finish e).valve l).inputs = (e.valve l).inputs := by
  have h := congrFun (congrArg Ground.inputs (Ev.drain_ground e)) l
  simp only [State.valve, finish_valves]; exact h
theorem finish_meter (e : Ev) (l : LineId) : ((finish e).flow l).meter = (e.flow l).meter := by
  have h := congrFun (congrArg Ground.meters (Ev.drain_ground e)) l
  simp only [State.flow, finish_flows]; exact h
theorem finish_reading (e : Ev) (k : TankId) : ((finish e).tank k).reading = (e.tank k).reading := by
  have h := congrFun (congrArg Ground.readings (Ev.drain_ground e)) k
  simp only [State.tank, finish_tanks]; exact h
theorem finish_supply_fixed (e : Ev) :
    ((finish e).supply.profile, (finish e).supply.pressure, (finish e).supply.fault, (finish e).supply.band) =
      (e.supply.profile, e.supply.pressure, e.supply.fault, e.supply.band) := by
  have h := congrArg Ground.supply (Ev.drain_ground e)
  simp only [finish_supply]; exact h
theorem finish_loop (e : Ev) : (finish e).shut.loop = e.shut.loop := by
  have h := congrArg Ground.loop (Ev.drain_ground e)
  simp only [finish_shut]; exact h
theorem finish_shipRun (e : Ev) : (finish e).shut.shipRun = e.shut.shipRun := by
  have h := congrArg Ground.shipRun (Ev.drain_ground e)
  simp only [finish_shut]; exact h
theorem finish_fixture (e : Ev) (l : LineId) : (finish e).fixture l = e.fixture l := by
  simpa [State.fixture, finish_lines, finish_flows, finish_valves] using Ev.drain_fixture e l
theorem finish_alarms {g : Ground} (e : Ev) (hc : e.calm g) :
    (finish e).shut.causes = e.shut.causes ∧ (finish e).shut.valveList = e.shut.valveList := by
  have h := Ev.drain_alarms e hc
  simp only [State.alarms, Prod.mk.injEq] at h
  simpa [finish_shut] using h

/-! ### Serving a request -/

/-- The event in which a request acts: nothing but the buffers and their order differs from the state before. -/
def takeEv (s : State) (t : Time) (x1 x2 : Buffer) (w : List BufId) : Ev :=
  { begin t s with buf1 := x1, buf2 := x2, waitOrder := w }

/-- An event with another port: buffers, order of the frames that wait, order of the replies. -/
def Ev.withPort (e : Ev) (x1 x2 : Buffer) (w : List BufId) (ro : List ReplySource) : Ev :=
  { e with buf1 := x1, buf2 := x2, waitOrder := w, replyOrder := ro }

theorem Ev.buf_setBuf (e : Ev) (b c : BufId) (x : Buffer) : (e.setBuf b x).buf c = if c = b then x else e.buf c := by
  cases b <;> cases c <;> rfl

/-- Answering the frames no block sees changes the port alone, and no buffer that is answered. -/
theorem Ev.answerUnread_spec (n : Nat) (e : Ev) :
    ∃ x1 x2 w ro, Ev.answerUnread n e = e.withPort x1 x2 w (e.replyOrder ++ ro) ∧
      ∀ b r, e.buf b = .answered r → (Ev.answerUnread n e).buf b = .answered r := by
  induction n generalizing e with
  | zero => exact ⟨e.buf1, e.buf2, e.waitOrder, [], by simp [Ev.answerUnread, Ev.withPort], fun b r h => h⟩
  | succ n ih =>
    have stay : ∃ x1 x2 w ro, e = e.withPort x1 x2 w (e.replyOrder ++ ro) ∧
        ∀ b r, e.buf b = .answered r → e.buf b = .answered r :=
      ⟨e.buf1, e.buf2, e.waitOrder, [], by simp [Ev.withPort], fun b r h => h⟩
    have go : ∀ (b : BufId) (tag : Byte) (res : Result), (∀ r, e.buf b ≠ .answered r) →
        ∃ x1 x2 w ro, Ev.answerUnread n (e.take b tag (fun x => x.answer res)) =
            e.withPort x1 x2 w (e.replyOrder ++ ro) ∧
          ∀ c r, e.buf c = .answered r →
            (Ev.answerUnread n (e.take b tag (fun x => x.answer res))).buf c = .answered r := by
      intro b tag res hb
      obtain ⟨x1, x2, w, ro, h1, h2⟩ := ih (e.take b tag (fun x => x.answer res))
      refine ⟨x1, x2, w, .buffer b :: ro, ?_, ?_⟩
      · rw [h1]; cases b <;> simp [Ev.take, Ev.withPort, Ev.answer, Ev.setBuf]
      · intro c r hc
        apply h2
        have hne : c ≠ b := fun h => hb r (h ▸ hc)
        have : (e.take b tag (fun x => x.answer res)).buf c = e.buf c := by
          cases b <;> cases c <;> first | rfl | exact absurd rfl hne
        rw [this]; exact hc
    unfold Ev.answerUnread
    split
    · exact stay
    · split
      · rename_i heq; exact go _ _ _ (by rw [heq]; intro r; simp)
      · rename_i heq; exact go _ _ _ (by rw [heq]; intro r; simp)
      · exact stay
      · exact stay
      · exact stay

theorem begin_awaits (s : State) (t : Time) (tag : Byte) (r : Request) :
    (begin t s).awaits tag r = s.awaits tag r := rfl

theorem receive_awaits (s : State) (t : Time) (tag : Byte) (r : Request) :
    ((begin t s).receive tag (.request r)).awaits tag r = ((begin s.now s).receive tag (.request r)).awaits tag r := by
  unfold Ev.receive
  have h : (begin t s).freeBuf = (begin s.now s).freeBuf := rfl
  rw [h]
  cases (begin s.now s).freeBuf with
  | none => rfl
  | some b => cases b <;> rfl

/-- What serving a request that is taken does: its action runs on the state as it stood, and then the port alone changes: the
buffer holds the reply, and the reply stands in the reply order. -/
theorem serve_taken {s : State} {tag : Byte} {r : Request} {b : BufId} (h : s.takesIn tag r = some b) (t : Time) :
    ∃ x1 x2 w, ∀ act : Ev → Taken, ∃ y1 y2 v ro,
      let y := act (takeEv s t x1 x2 w)
      let z := y.ev.withPort y1 y2 v (y.ev.replyOrder ++ ro)
      (begin t s).serve tag r act = z ∧ .buffer b ∈ ro ∧
      z.buf b = .answered { tag := tag, result := y.result, record := y.record,
                            restart := y.ev.restart == .replying && s.restart == .idle } := by
  have fin : ∀ (e0 : Ev) (x1 x2 : Buffer) (w : List BufId), e0 = { begin t s with buf1 := x1, buf2 := x2, waitOrder := w } →
      ∀ act : Ev → Taken, ∃ y1 y2 v ro,
        let y := act (takeEv s t x1 x2 (w.erase b))
        let z := y.ev.withPort y1 y2 v (y.ev.replyOrder ++ ro)
        (e0.take b tag act).answerUnread 2 = z ∧ .buffer b ∈ ro ∧
        z.buf b = .answered { tag := tag, result := y.result, record := y.record,
                              restart := y.ev.restart == .replying && s.restart == .idle } := by
    intro e0 x1 x2 w he act
    obtain ⟨y1, y2, v, ro, h1, h2⟩ := Ev.answerUnread_spec 2 (e0.take b tag act)
    refine ⟨y1, y2, v, .buffer b :: ro, ?_, List.mem_cons_self, ?_⟩
    · rw [h1]; subst he
      cases b <;> simp [Ev.take, Ev.withPort, Ev.setBuf, takeEv]
    · have hb : (e0.take b tag act).buf b = .answered
          { tag := tag, result := (act (takeEv s t x1 x2 (w.erase b))).result,
            record := (act (takeEv s t x1 x2 (w.erase b))).record,
            restart := (act (takeEv s t x1 x2 (w.erase b))).ev.restart == .replying && s.restart == .idle } := by
        subst he
        cases b <;> rfl
      have := h2 b _ hb
      rw [h1] at this
      cases b <;> exact this
  unfold State.takesIn at h
  cases ha : s.awaits tag r with
  | some c =>
    rw [ha] at h
    simp only [Option.some.injEq] at h
    subst h
    refine ⟨s.buf1, s.buf2, s.waitOrder.erase c, fun act => ?_⟩
    have hs : (begin t s).serve tag r act = ((begin t s).take c tag act).answerUnread 2 := by
      unfold Ev.serve; rw [begin_awaits, ha]
    rw [hs]
    exact fin (begin t s) s.buf1 s.buf2 s.waitOrder rfl act
  | none =>
    rw [ha] at h
    simp only at h
    have hr := (receive_awaits s t tag r).trans h
    have hs : ∀ act, (begin t s).serve tag r act =
        (((begin t s).receive tag (.request r)).take b tag act).answerUnread 2 := by
      intro act; unfold Ev.serve; rw [begin_awaits, ha]; simp only; rw [hr]
    cases hf : (begin t s).freeBuf with
    | none =>
      exfalso
      have : ((begin t s).receive tag (.request r)).awaits tag r = s.awaits tag r := by
        unfold Ev.receive; rw [hf]; rfl
      rw [this, ha] at hr
      cases hr
    | some c =>
      cases c with
      | b1 =>
        refine ⟨.waiting tag (.request r), s.buf2, List.erase (s.waitOrder ++ [BufId.b1]) b, fun act => ?_⟩
        rw [hs act]
        refine fin ((begin t s).receive tag (.request r)) (.waiting tag (.request r)) s.buf2
          (s.waitOrder ++ [BufId.b1]) ?_ act
        unfold Ev.receive; rw [hf]; rfl
      | b2 =>
        refine ⟨s.buf1, .waiting tag (.request r), List.erase (s.waitOrder ++ [BufId.b2]) b, fun act => ?_⟩
        rw [hs act]
        refine fin ((begin t s).receive tag (.request r)) s.buf1 (.waiting tag (.request r))
          (s.waitOrder ++ [BufId.b2]) ?_ act
        unfold Ev.receive; rw [hf]; rfl

/-- The port of an event changed: the fields of the blocks are the event's own. -/
theorem Ev.withPort_ground (e : Ev) (x1 x2 : Buffer) (w : List BufId) (ro : List ReplySource) :
    (e.withPort x1 x2 w ro).ground =
      { e.ground with port := { e.portView with buf1 := x1, buf2 := x2, waitOrder := w, replyOrder := ro } } := rfl

/-- A reply in the reply order waits or is being sent once the arbiter has chosen. -/
theorem State.arbitrate_reply (s : State) (b : BufId) (h : .buffer b ∈ s.replyOrder) : s.arbitrate.replyStands b := by
  unfold State.replyStands State.arbitrate
  split
  · exact .inr h
  · split
    · rename_i x xs _ hx
      rw [hx] at h
      rcases List.mem_cons.mp h with h | h
      · left; exact ⟨_, by rw [← h]⟩
      · right; exact h
    · exact .inr h
    · exact .inr h


theorem finish_reply (e : Ev) (b : BufId) (h : .buffer b ∈ e.replyOrder) : (finish e).replyStands b := by
  rw [finish_eq]
  refine State.arbitrate_reply _ b ?_
  have hg : e.drain.replyOrder = e.replyOrder := congrArg (fun g : Ground => g.port.replyOrder) (Ev.drain_ground e)
  rw [Ev.queueNotices_replyOrder, hg]
  exact h

/-- A command that serves a request answers it: what is left to show is the result of the request's action and what holds
once the event is finished. -/
theorem answers_of_serve {s : State} {c : Instr} {t : Time} {tag : Byte} {r : Request} {b : BufId} {act : Ev → Taken}
    {res : Result} {record : List Byte} {Q : State → Prop} (h : s.takesIn tag r = some b)
    (hc : exec c s = event t s (fun e => e.serve tag r act))
    (ha : ∀ x1 x2 w, let y := act (takeEv s t x1 x2 w)
      y.result = res ∧ y.record = record ∧ y.ev.pending = s.pending ∧ y.ev.now = t ∧ y.ev.restart = s.restart)
    (hQ : ∀ x1 x2 w y1 y2 v ro, Q (finish ((act (takeEv s t x1 x2 w)).ev.withPort y1 y2 v ro))) :
    Answers s c t b tag res record Q := by
  obtain ⟨x1, x2, w, hs⟩ := serve_taken h t
  obtain ⟨y1, y2, v, ro, h1, h2, h3⟩ := hs act
  obtain ⟨a1, a2, a3, a4, a5⟩ := ha x1 x2 w
  refine ⟨finish ((act (takeEv s t x1 x2 w)).ev.withPort y1 y2 v ((act (takeEv s t x1 x2 w)).ev.replyOrder ++ ro)),
    ?_, ?_, ?_, ?_, ?_, hQ _ _ _ _ _ _ _⟩
  · rw [hc]; exact congrArg (fun e => Host.Outcome.next (finish e)) h1
  · rw [finish_now]; exact a4
  · rw [finish_pending]; exact a3
  · have hb : ∀ e : Ev, (finish e).buf b = e.buf b := by
      intro e; cases b <;> simp [State.buf]
    rw [hb, h3, a1, a2, a5]
    cases s.restart <;> rfl
  · exact finish_reply _ b (List.mem_append_right _ h2)

/-- A request whose action is a mere answer changes no block, and queues no notice. -/
theorem answers_unchanged {s : State} {c : Instr} {t : Time} {tag : Byte} {r : Request} {b : BufId} {act : Ev → Taken}
    {res : Result} {record : List Byte} (h : s.takesIn tag r = some b)
    (hc : exec c s = event t s (fun e => e.serve tag r act))
    (ha : ∀ x1 x2 w, act (takeEv s t x1 x2 w) = { ev := takeEv s t x1 x2 w, result := res, record := record }) :
    Answers s c t b tag res record (fun u => s.sameBlocks u ∧ ∀ n ∈ u.notices, n ∈ s.notices) := by
  refine answers_of_serve h hc ?_ ?_
  · intro x1 x2 w; rw [ha]; exact ⟨rfl, rfl, rfl, rfl, rfl⟩
  · intro x1 x2 w y1 y2 v ro
    rw [ha, finish_idle _ rfl rfl]
    refine ⟨?_, ?_⟩
    · simp [State.sameBlocks, Ev.withPort, takeEv, begin]
    · intro n hn
      unfold State.arbitrate at hn
      split at hn
      · exact hn
      · split at hn
        · exact hn
        · rename_i m ms _ hm
          have : s.notices = m :: ms := hm
          rw [this]; exact List.mem_cons_of_mem _ hn
        · exact hn

theorem Answers.imp {s : State} {c : Instr} {t : Time} {tag : Byte} {b : BufId} {res : Result} {record : List Byte}
    {P Q : State → Prop} (h : Answers s c t b tag res record P) (hPQ : ∀ u, P u → Q u) :
    Answers s c t b tag res record Q := by
  obtain ⟨u, h1, h2, h3, h4, h5, h6⟩ := h
  exact ⟨u, h1, h2, h3, h4, h5, hPQ u h6⟩

/-- A command of one event completes at its time; what is left to show holds of the finished event. -/
theorem completes_of_event {s : State} {c : Instr} {t : Time} {op : Ev → Ev} {Q : State → Prop}
    (hc : exec c s = event t s op) (hp : (op (begin t s)).pending = s.pending) (hn : (op (begin t s)).now = t)
    (hQ : Q (finish (op (begin t s)))) : Completes s c t Q :=
  ⟨_, hc, by rw [finish_now]; exact hn, by rw [finish_pending]; exact hp, hQ⟩

end Sys2Proof.Machine
end

