-- ==== Sys2Proof/Laws/Events.lean ====
section
/-! SUPPORT. What the events outside the console leave alone: the settled part of the state (the console port, the link, the
grades, the profiles, the readings of the tanks), which no event of a line, a valve, a meter or the loop changes, and the
offline part (the console port, the profiles, the inputs, the meters, the supply, the loop, the barge terms), which no event of
the ship link changes. -/

set_option linter.unusedSimpArgs false
set_option linter.unusedVariables false
set_option linter.unusedTactic false
set_option linter.unreachableTactic false

namespace Sys2Proof.Machine

/-- What no event of a line, a valve, a meter or the loop changes. -/
abbrev SettledView :=
  PortView × Link × Grades × (LineId → Option LineProfile) × (TankId → TankReading) × HpuProfile × Nat

def State.settled (s : State) : SettledView :=
  (s.portView, s.link, s.grades, fun l => (s.lines.get l).profile, fun k => (s.tanks.get k).reading, s.supply.profile,
   s.freeCtr)

/-- What no event of the ship link changes. -/
abbrev OfflineView :=
  PortView × (LineId → Option LineProfile) × (LineId → ValveInputs) × (LineId → MeterFigures) ×
    (HpuProfile × Nat × Bool × Band) × LoopState × (GradeId → Option BargeTerms)

def State.offline (s : State) : OfflineView :=
  (s.portView, fun l => (s.lines.get l).profile, fun l => (s.valves.get l).inputs, fun l => (s.flows.get l).meter,
   (s.supply.profile, s.supply.pressure, s.supply.fault, s.supply.band), s.shut.loop,
   fun g => (s.grades.get g).barge)

theorem settled_of_ground {s u : State} (h : u.ground = s.ground) : u.settled = s.settled := by
  have h1 := congrArg Ground.port h
  have h2 := congrArg Ground.link h
  have h3 := congrArg Ground.grades h
  have h4 := congrArg Ground.profiles h
  have h5 := congrArg Ground.readings h
  have h6 := congrArg (fun g : Ground => g.supply.1) h
  have h7 := congrArg Ground.freeCtr h
  simp only [State.ground] at h1 h2 h3 h4 h5 h6 h7
  simp only [State.settled]
  rw [h1, h2, h3, h4, h5, h6, h7]

theorem offline_of_ground {s u : State} (h : u.ground = s.ground) : u.offline = s.offline := by
  have h1 := congrArg Ground.port h
  have h2 := congrArg Ground.grades h
  have h3 := congrArg Ground.profiles h
  have h4 := congrArg Ground.inputs h
  have h5 := congrArg Ground.meters h
  have h6 := congrArg Ground.supply h
  have h7 := congrArg Ground.loop h
  simp only [State.ground] at h1 h2 h3 h4 h5 h6 h7
  simp only [State.offline]
  rw [h1, h2, h3, h4, h5, h6, h7]

/-! ### The settled part -/

theorem Ev.modLine_settled {v : SettledView} {e : Ev} (l : LineId) (f : LineRec → LineRec) (hf : ∀ x, (f x).profile = x.profile) (hE : e.settled = v) :
    (e.modLine l f).settled = v := by
  rw [← hE]; simp only [State.settled, State.portView, Ev.modLine, Quad.get_set]; congr; funext m; split <;> simp_all
theorem Ev.setList_settled {v : SettledView} {e : Ev} (l : LineId) (ks : List TankId) (hE : e.settled = v) :
    (e.setList l ks).settled = v := hE
theorem Ev.modPred_settled {v : SettledView} {e : Ev} (l : LineId) (f : Predictor → Predictor) (hE : e.settled = v) :
    (e.modPred l f).settled = v := hE
theorem Ev.setClose_settled {v : SettledView} {e : Ev} (l : LineId) (c : Option CloseRec) (hE : e.settled = v) :
    (e.setClose l c).settled = v := hE
theorem Ev.modClose_settled {v : SettledView} {e : Ev} (l : LineId) (f : CloseRec → CloseRec) (hE : e.settled = v) :
    (e.modClose l f).settled = v := hE
theorem Ev.modFlow_settled {v : SettledView} {e : Ev} (l : LineId) (f : Flow → Flow) (hE : e.settled = v) :
    (e.modFlow l f).settled = v := hE
theorem Ev.modValve_settled {v : SettledView} {e : Ev} (l : LineId) (f : Valve → Valve) (hE : e.settled = v) :
    (e.modValve l f).settled = v := hE
theorem Ev.modTank_settled {v : SettledView} {e : Ev} (k : TankId) (f : Tank → Tank) (hf : ∀ x, (f x).reading = x.reading) (hE : e.settled = v) :
    (e.modTank k f).settled = v := by
  rw [← hE]; simp only [State.settled, State.portView, Ev.modTank, Tanks.get_set]; congr; funext m; split <;> simp_all
theorem Ev.modShut_settled {v : SettledView} {e : Ev} (f : Shutdown → Shutdown) (hE : e.settled = v) :
    (e.modShut f).settled = v := hE
theorem Ev.modSupply_settled {v : SettledView} {e : Ev} (f : Supply → Supply) (hf : ∀ x, (f x).profile = x.profile) (hE : e.settled = v) :
    (e.modSupply f).settled = v := by
  rw [← hE]; simp only [State.settled, State.portView, Ev.modSupply, hf]
theorem Ev.report_settled {v : SettledView} {e : Ev} (r : Report) (hE : e.settled = v) :
    (e.report r).settled = v := hE
theorem Ev.mark_settled {v : SettledView} {e : Ev} (k : NoticeKey) (hE : e.settled = v) :
    (e.mark k).settled = v := by
  unfold Ev.mark; split <;> exact hE
theorem Ev.markIf_settled {v : SettledView} {e : Ev} (c : Bool) (k : NoticeKey) (hE : e.settled = v) :
    (e.markIf c k).settled = v := by
  cases c <;> simp only [Ev.markIf] <;> first | exact hE | exact Ev.mark_settled _ hE
theorem Ev.modChan_settled {v : SettledView} {e : Ev} (c : ChanId) (f : Channel → Channel) (hE : e.settled = v) :
    (e.modChan c f).settled = v := by cases c <;> exact hE
theorem Ev.eachLine_settled {v : SettledView} {e : Ev} (f : LineId → Ev → Ev) (hf : ∀ l x, x.settled = v → (f l x).settled = v)
    (hE : e.settled = v) : (e.eachLine f).settled = v := by
  simp only [Ev.eachLine, allLines, List.foldl]
  exact hf _ _ (hf _ _ (hf _ _ (hf _ _ hE)))
theorem Ev.eachTank_settled {v : SettledView} (ks : List TankId) {e : Ev} (f : TankId → Ev → Ev)
    (hf : ∀ k x, x.settled = v → (f k x).settled = v) (hE : e.settled = v) : (e.eachTank ks f).settled = v := by
  unfold Ev.eachTank
  induction ks generalizing e with
  | nil => exact hE
  | cons k ks ih => exact ih (hf k e hE)
theorem Ev.considerGrants_settled {v : SettledView} {e : Ev} (hE : e.settled = v) : e.considerGrants.settled = v :=
  (settled_of_ground (Ev.considerGrants_ground e)).trans hE
theorem Ev.setUse_settled {v : SettledView} {e : Ev} (k : TankId) (u : TankUse) (hE : e.settled = v) : (e.setUse k u).settled = v := (settled_of_ground (Ev.setUse_ground _ k u)).trans hE
theorem Ev.credit_settled {v : SettledView} {e : Ev} (k : TankId) (litres : Nat) (hE : e.settled = v) : (e.credit k litres).settled = v := (settled_of_ground (Ev.credit_ground _ k litres)).trans hE
theorem Ev.zeroAccount_settled {v : SettledView} {e : Ev} (l : LineId) (hE : e.settled = v) : (e.zeroAccount l).settled = v := (settled_of_ground (Ev.zeroAccount_ground _ l)).trans hE
theorem Ev.settleComplete_settled {v : SettledView} {e : Ev} (l : LineId) (hE : e.settled = v) : (e.settleComplete l).settled = v := (settled_of_ground (Ev.settleComplete_ground _ l)).trans hE
theorem Ev.settleCleared_settled {v : SettledView} {e : Ev} (l : LineId) (hE : e.settled = v) : (e.settleCleared l).settled = v := (settled_of_ground (Ev.settleCleared_ground _ l)).trans hE
theorem Ev.evalPermit_settled {v : SettledView} {e : Ev} (p : PumpId) (hE : e.settled = v) : (e.evalPermit p).settled = v := (settled_of_ground (Ev.evalPermit_ground _ p)).trans hE
theorem Ev.evalPermitOf_settled {v : SettledView} {e : Ev} (l : LineId) (hE : e.settled = v) : (e.evalPermitOf l).settled = v := (settled_of_ground (Ev.evalPermitOf_ground _ l)).trans hE
theorem Ev.setState_settled {v : SettledView} {e : Ev} (l : LineId) (st : LineState) (hE : e.settled = v) : (e.setState l st).settled = v := (settled_of_ground (Ev.setState_ground _ l st)).trans hE
theorem Ev.setSurge_settled {v : SettledView} {e : Ev} (l : LineId) (b : Bool) (hE : e.settled = v) : (e.setSurge l b).settled = v := (settled_of_ground (Ev.setSurge_ground _ l b)).trans hE
theorem Ev.setLate_settled {v : SettledView} {e : Ev} (l : LineId) (b : Bool) (hE : e.settled = v) : (e.setLate l b).settled = v := (settled_of_ground (Ev.setLate_ground _ l b)).trans hE
theorem Ev.setQuiet_settled {v : SettledView} {e : Ev} (l : LineId) (b : Bool) (hE : e.settled = v) : (e.setQuiet l b).settled = v := (settled_of_ground (Ev.setQuiet_ground _ l b)).trans hE
theorem Ev.setPressureFault_settled {v : SettledView} {e : Ev} (l : LineId) (b : Bool) (hE : e.settled = v) : (e.setPressureFault l b).settled = v := by
  simp only [Ev.setPressureFault]
  repeat' (first | with_reducible assumption | with_reducible apply Ev.modFlow_settled | with_reducible apply Ev.markIf_settled | with_reducible intro _ | split | rfl | exact ⟨rfl, rfl⟩ | exact ⟨rfl, rfl, rfl⟩)
theorem Ev.setFeedbackFault_settled {v : SettledView} {e : Ev} (l : LineId) (b : Bool) (hE : e.settled = v) : (e.setFeedbackFault l b).settled = v := by
  simp only [Ev.setFeedbackFault]
  repeat' (first | with_reducible assumption | with_reducible apply Ev.modValve_settled | with_reducible apply Ev.markIf_settled | with_reducible intro _ | split | rfl | exact ⟨rfl, rfl⟩ | exact ⟨rfl, rfl, rfl⟩)
theorem Ev.updatePump_settled {v : SettledView} {e : Ev} (hE : e.settled = v) : (e.updatePump ).settled = v := (settled_of_ground (Ev.updatePump_ground _ )).trans hE
theorem Ev.freeChannel_settled {v : SettledView} {e : Ev} (l : LineId) (hE : e.settled = v) : (e.freeChannel l).settled = v := (settled_of_ground (Ev.freeChannel_ground _ l)).trans hE
theorem Ev.grant_settled {v : SettledView} {e : Ev} (l : LineId) (r : StrokeReq) (c : ChanId) (hE : e.settled = v) : (e.grant l r c).settled = v := (settled_of_ground (Ev.grant_ground _ l r c)).trans hE

theorem Ev.endStroke_settled {v : SettledView} {e : Ev} (l : LineId) (o : StrokeOutcome) (hE : e.settled = v) : (e.endStroke l o).settled = v := (settled_of_ground (Ev.endStroke_ground _ l o)).trans hE
theorem Ev.dropWork_settled {v : SettledView} {e : Ev} (l : LineId) (hE : e.settled = v) : (e.dropWork l).settled = v := (settled_of_ground (Ev.dropWork_ground _ l)).trans hE
theorem Ev.cancelWork_settled {v : SettledView} {e : Ev} (l : LineId) (hE : e.settled = v) : (e.cancelWork l).settled = v := (settled_of_ground (Ev.cancelWork_ground _ l)).trans hE
theorem Ev.cancelAllWork_settled {v : SettledView} {e : Ev} (hE : e.settled = v) : (e.cancelAllWork ).settled = v := (settled_of_ground (Ev.cancelAllWork_ground _ )).trans hE
theorem Ev.failStroke_settled {v : SettledView} {e : Ev} (l : LineId) (o : StrokeOutcome) (hE : e.settled = v) : (e.failStroke l o).settled = v := (settled_of_ground (Ev.failStroke_ground _ l o)).trans hE
theorem Ev.enqueue_settled {v : SettledView} {e : Ev} (l : LineId) (r : StrokeReq) (hE : e.settled = v) : (e.enqueue l r).settled = v := (settled_of_ground (Ev.enqueue_ground _ l r)).trans hE
theorem Ev.requestStroke_settled {v : SettledView} {e : Ev} (l : LineId) (cls : StrokeClass) (target : Nat) (retry : Bool) (hE : e.settled = v) : (e.requestStroke l cls target retry).settled = v := (settled_of_ground (Ev.requestStroke_ground _ l cls target retry)).trans hE
theorem Ev.pauseAll_settled {v : SettledView} {e : Ev} (paused : Bool) (hE : e.settled = v) : (e.pauseAll paused).settled = v := (settled_of_ground (Ev.pauseAll_ground _ paused)).trans hE
theorem Ev.beginTravel_settled {v : SettledView} {e : Ev} (l : LineId) (k : Stroke) (hE : e.settled = v) : (e.beginTravel l k).settled = v := (settled_of_ground (Ev.beginTravel_ground _ l k)).trans hE
theorem Ev.arrive_settled {v : SettledView} {e : Ev} (l : LineId) (k : Stroke) (target : Nat) (hE : e.settled = v) : (e.arrive l k target).settled = v := (settled_of_ground (Ev.arrive_ground _ l k target)).trans hE
theorem Ev.takeSample_settled {v : SettledView} {e : Ev} (l : LineId) (pos : Nat) (hE : e.settled = v) : (e.takeSample l pos).settled = v := by
  simp only [Ev.takeSample]
  repeat' (first | with_reducible assumption | with_reducible apply Ev.modValve_settled | with_reducible apply Ev.arrive_settled | with_reducible intro _ | split | rfl | exact ⟨rfl, rfl⟩ | exact ⟨rfl, rfl, rfl⟩)
theorem Ev.closedActive_settled {v : SettledView} {e : Ev} (l : LineId) (hE : e.settled = v) : (e.closedActive l).settled = v := (settled_of_ground (Ev.closedActive_ground _ l)).trans hE
theorem Ev.openActive_settled {v : SettledView} {e : Ev} (l : LineId) (hE : e.settled = v) : (e.openActive l).settled = v := (settled_of_ground (Ev.openActive_ground _ l)).trans hE
theorem Ev.setBand_settled {v : SettledView} {e : Ev} (hE : e.settled = v) : (e.setBand ).settled = v := by
  simp only [Ev.setBand]
  repeat' (first | with_reducible assumption | with_reducible apply Ev.modSupply_settled | with_reducible apply Ev.mark_settled | with_reducible apply Ev.updatePump_settled | with_reducible apply Ev.pauseAll_settled | with_reducible intro _ | split | rfl | exact ⟨rfl, rfl⟩ | exact ⟨rfl, rfl, rfl⟩)
theorem Ev.clearPred_settled {v : SettledView} {e : Ev} (l : LineId) (hE : e.settled = v) : (e.clearPred l).settled = v := (settled_of_ground (Ev.clearPred_ground _ l)).trans hE
theorem Ev.settleArrival_settled {v : SettledView} {e : Ev} (l : LineId) (target : Nat) (hE : e.settled = v) : (e.settleArrival l target).settled = v := (settled_of_ground (Ev.settleArrival_ground _ l target)).trans hE
theorem Ev.writeTrip_settled {v : SettledView} {e : Ev} (l : LineId) (cause : TripCause) (hE : e.settled = v) : (e.writeTrip l cause).settled = v := (settled_of_ground (Ev.writeTrip_ground _ l cause)).trans hE
theorem Ev.changeoverExit_settled {v : SettledView} {e : Ev} (l : LineId) (reason : CloseReason) (hE : e.settled = v) : (e.changeoverExit l reason).settled = v := (settled_of_ground (Ev.changeoverExit_ground _ l reason)).trans hE
theorem Ev.closeEntry_settled {v : SettledView} {e : Ev} (l : LineId) (reason : CloseReason) (hold : Option HoldReason) (cause : Option TripCause) (hE : e.settled = v) : (e.closeEntry l reason hold cause).settled = v := (settled_of_ground (Ev.closeEntry_ground _ l reason hold cause)).trans hE
theorem Ev.retripClosing_settled {v : SettledView} {e : Ev} (l : LineId) (reason : CloseReason) (cause : TripCause) (hE : e.settled = v) : (e.retripClosing l reason cause).settled = v := (settled_of_ground (Ev.retripClosing_ground _ l reason cause)).trans hE
theorem Ev.trip_settled {v : SettledView} {e : Ev} (l : LineId) (cause : TripCause) (hE : e.settled = v) : (e.trip l cause).settled = v := (settled_of_ground (Ev.trip_ground _ l cause)).trans hE
theorem Ev.tripHolder_settled {v : SettledView} {e : Ev} (k : TankId) (cause : TripCause) (hE : e.settled = v) : (e.tripHolder k cause).settled = v := (settled_of_ground (Ev.tripHolder_ground _ k cause)).trans hE
theorem Ev.dropClose_settled {v : SettledView} {e : Ev} (l : LineId) (hE : e.settled = v) : (e.dropClose l).settled = v := (settled_of_ground (Ev.dropClose_ground _ l)).trans hE
theorem Ev.closeEnd_settled {v : SettledView} {e : Ev} (l : LineId) (hE : e.settled = v) : (e.closeEnd l).settled = v := (settled_of_ground (Ev.closeEnd_ground _ l)).trans hE
theorem Ev.enterStarting_settled {v : SettledView} {e : Ev} (l : LineId) (hE : e.settled = v) : (e.enterStarting l).settled = v := (settled_of_ground (Ev.enterStarting_ground _ l)).trans hE
theorem Ev.enterProving_settled {v : SettledView} {e : Ev} (l : LineId) (hE : e.settled = v) : (e.enterProving l).settled = v := (settled_of_ground (Ev.enterProving_ground _ l)).trans hE
theorem Ev.throttleTo_settled {v : SettledView} {e : Ev} (l : LineId) (pos : Nat) (hE : e.settled = v) : (e.throttleTo l pos).settled = v := (settled_of_ground (Ev.throttleTo_ground _ l pos)).trans hE
theorem Ev.closeStartTest_settled {v : SettledView} {e : Ev} (l : LineId) (hE : e.settled = v) : (e.closeStartTest l).settled = v := (settled_of_ground (Ev.closeStartTest_ground _ l)).trans hE
theorem Ev.enterTopping_settled {v : SettledView} {e : Ev} (l : LineId) (hE : e.settled = v) : (e.enterTopping l).settled = v := (settled_of_ground (Ev.enterTopping_ground _ l)).trans hE
theorem Ev.enterChangeover_settled {v : SettledView} {e : Ev} (l : LineId) (k : TankId) (hE : e.settled = v) : (e.enterChangeover l k).settled = v := (settled_of_ground (Ev.enterChangeover_ground _ l k)).trans hE
theorem Ev.evaluateMarks_settled {v : SettledView} {e : Ev} (l : LineId) (hE : e.settled = v) : (e.evaluateMarks l).settled = v := (settled_of_ground (Ev.evaluateMarks_ground _ l)).trans hE
theorem Ev.overrunTest_settled {v : SettledView} {e : Ev} (l : LineId) (hE : e.settled = v) : (e.overrunTest l).settled = v := (settled_of_ground (Ev.overrunTest_ground _ l)).trans hE
theorem Ev.changeoverSuccess_settled {v : SettledView} {e : Ev} (l : LineId) (old new : TankId) (hE : e.settled = v) : (e.changeoverSuccess l old new).settled = v := (settled_of_ground (Ev.changeoverSuccess_ground _ l old new)).trans hE
theorem Ev.successTest_settled {v : SettledView} {e : Ev} (l : LineId) (hE : e.settled = v) : (e.successTest l).settled = v := (settled_of_ground (Ev.successTest_ground _ l)).trans hE
theorem Ev.provingTest_settled {v : SettledView} {e : Ev} (l : LineId) (k : TankId) (level : Nat) (hE : e.settled = v) : (e.provingTest l k level).settled = v := (settled_of_ground (Ev.provingTest_ground _ l k level)).trans hE
theorem Ev.esdToLine_settled {v : SettledView} {e : Ev} (l : LineId) (hE : e.settled = v) : (e.esdToLine l).settled = v := (settled_of_ground (Ev.esdToLine_ground _ l)).trans hE
theorem Ev.raiseCause_settled {v : SettledView} {e : Ev} (c : EsdCause) (hE : e.settled = v) : (e.raiseCause c).settled = v := (settled_of_ground (Ev.raiseCause_ground _ c)).trans hE
theorem Ev.raiseValve_settled {v : SettledView} {e : Ev} (l : LineId) (hE : e.settled = v) : (e.raiseValve l).settled = v := (settled_of_ground (Ev.raiseValve_ground _ l)).trans hE
theorem Ev.requestStage_settled {v : SettledView} {e : Ev} (l : LineId) (k : Nat) (hE : e.settled = v) : (e.requestStage l k).settled = v := (settled_of_ground (Ev.requestStage_ground _ l k)).trans hE
theorem Ev.startPlan_settled {v : SettledView} {e : Ev} (l : LineId) (hE : e.settled = v) : (e.startPlan l).settled = v := (settled_of_ground (Ev.startPlan_ground _ l)).trans hE
theorem Ev.endRunDown_settled {v : SettledView} {e : Ev} (l : LineId) (cause : RunDownEnd) (hE : e.settled = v) : (e.endRunDown l cause).settled = v := (settled_of_ground (Ev.endRunDown_ground _ l cause)).trans hE
theorem Ev.decideClose_settled {v : SettledView} {e : Ev} (l : LineId) (hE : e.settled = v) : (e.decideClose l).settled = v := (settled_of_ground (Ev.decideClose_ground _ l)).trans hE
theorem Ev.plannerArrived_settled {v : SettledView} {e : Ev} (l : LineId) (target : Nat) (hE : e.settled = v) : (e.plannerArrived l target).settled = v := (settled_of_ground (Ev.plannerArrived_ground _ l target)).trans hE
theorem Ev.nextStage_settled {v : SettledView} {e : Ev} (l : LineId) (hE : e.settled = v) : (e.nextStage l).settled = v := (settled_of_ground (Ev.nextStage_ground _ l)).trans hE
theorem Ev.plannerEnded_settled {v : SettledView} {e : Ev} (l : LineId) (hE : e.settled = v) : (e.plannerEnded l).settled = v := (settled_of_ground (Ev.plannerEnded_ground _ l)).trans hE
theorem Ev.retryStage_settled {v : SettledView} {e : Ev} (l : LineId) (hE : e.settled = v) : (e.retryStage l).settled = v := (settled_of_ground (Ev.retryStage_ground _ l)).trans hE
theorem Ev.abandonClose_settled {v : SettledView} {e : Ev} (l : LineId) (hE : e.settled = v) : (e.abandonClose l).settled = v := (settled_of_ground (Ev.abandonClose_ground _ l)).trans hE
theorem Ev.plannerFailed_settled {v : SettledView} {e : Ev} (l : LineId) (hE : e.settled = v) : (e.plannerFailed l).settled = v := (settled_of_ground (Ev.plannerFailed_ground _ l)).trans hE
theorem Ev.plannerSeated_settled {v : SettledView} {e : Ev} (l : LineId) (hE : e.settled = v) : (e.plannerSeated l).settled = v := (settled_of_ground (Ev.plannerSeated_ground _ l)).trans hE
theorem Ev.retryWaiting_settled {v : SettledView} {e : Ev} (l : LineId) (hE : e.settled = v) : (e.retryWaiting l).settled = v := (settled_of_ground (Ev.retryWaiting_ground _ l)).trans hE
theorem Ev.bandEvent_settled {v : SettledView} {e : Ev} (hE : e.settled = v) : (e.bandEvent ).settled = v := by
  simp only [Ev.bandEvent]
  repeat' (first | with_reducible assumption | with_reducible apply Ev.eachLine_settled | with_reducible apply Ev.considerGrants_settled | with_reducible apply Ev.setBand_settled | with_reducible apply Ev.retryWaiting_settled | with_reducible intro _ | split | rfl | exact ⟨rfl, rfl⟩ | exact ⟨rfl, rfl, rfl⟩)
theorem Ev.gateCount_settled {v : SettledView} {e : Ev} (l : LineId) (hE : e.settled = v) : (e.gateCount l).settled = v := by
  simp only [Ev.gateCount]
  repeat' (first | with_reducible assumption | with_reducible apply Ev.modFlow_settled | with_reducible intro _ | split | rfl | exact ⟨rfl, rfl⟩ | exact ⟨rfl, rfl, rfl⟩)
theorem Ev.gateCredit_settled {v : SettledView} {e : Ev} (l : LineId) (hE : e.settled = v) : (e.gateCredit l).settled = v := by
  simp only [Ev.gateCredit]
  repeat' (first | with_reducible assumption | with_reducible apply Ev.modLine_settled | with_reducible apply Ev.modFlow_settled | with_reducible apply Ev.credit_settled | with_reducible intro _ | split | rfl | exact ⟨rfl, rfl⟩ | exact ⟨rfl, rfl, rfl⟩)
theorem Ev.gateQuiet_settled {v : SettledView} {e : Ev} (l : LineId) (hE : e.settled = v) : (e.gateQuiet l).settled = v := by
  simp only [Ev.gateQuiet]
  repeat' (first | with_reducible assumption | with_reducible apply Ev.modFlow_settled | with_reducible apply Ev.setQuiet_settled | with_reducible intro _ | split | rfl | exact ⟨rfl, rfl⟩ | exact ⟨rfl, rfl, rfl⟩)
theorem Ev.gateBalance_settled {v : SettledView} {e : Ev} (l : LineId) (hE : e.settled = v) : (e.gateBalance l).settled = v := by
  simp only [Ev.gateBalance]
  repeat' (first | with_reducible assumption | with_reducible apply Ev.modFlow_settled | with_reducible apply Ev.trip_settled | with_reducible intro _ | split | rfl | exact ⟨rfl, rfl⟩ | exact ⟨rfl, rfl, rfl⟩)
theorem Ev.gateBlind_settled {v : SettledView} {e : Ev} (l : LineId) (hE : e.settled = v) : (e.gateBlind l).settled = v := by
  simp only [Ev.gateBlind]
  repeat' (first | with_reducible assumption | with_reducible apply Ev.modFlow_settled | with_reducible apply Ev.setQuiet_settled | with_reducible apply Ev.trip_settled | with_reducible intro _ | split | rfl | exact ⟨rfl, rfl⟩ | exact ⟨rfl, rfl, rfl⟩)
theorem Ev.capAct_settled {v : SettledView} {e : Ev} (l : LineId) (hE : e.settled = v) : (e.capAct l).settled = v := by
  simp only [Ev.capAct]
  repeat' (first | with_reducible assumption | with_reducible apply Ev.trip_settled | with_reducible apply Ev.throttleTo_settled | with_reducible intro _ | split | rfl | exact ⟨rfl, rfl⟩ | exact ⟨rfl, rfl, rfl⟩)
theorem Ev.gateCaps_settled {v : SettledView} {e : Ev} (l : LineId) (avg : Option Nat) (hE : e.settled = v) : (e.gateCaps l avg).settled = v := by
  simp only [Ev.gateCaps]
  repeat' (first | with_reducible assumption | with_reducible apply Ev.modFlow_settled | with_reducible apply Ev.capAct_settled | with_reducible intro _ | split | rfl | exact ⟨rfl, rfl⟩ | exact ⟨rfl, rfl, rfl⟩)
theorem Ev.gateLine_settled {v : SettledView} {e : Ev} (l : LineId) (hE : e.settled = v) : (e.gateLine l).settled = v := by
  simp only [Ev.gateLine]
  repeat' (first | with_reducible assumption | with_reducible apply Ev.gateCount_settled | with_reducible apply Ev.gateCredit_settled | with_reducible apply Ev.gateQuiet_settled | with_reducible apply Ev.gateBalance_settled | with_reducible apply Ev.gateBlind_settled | with_reducible apply Ev.gateCaps_settled | with_reducible intro _ | split | rfl | exact ⟨rfl, rfl⟩ | exact ⟨rfl, rfl, rfl⟩)
theorem Ev.gateEnd_settled {v : SettledView} {e : Ev} (hE : e.settled = v) : (e.gateEnd ).settled = v := by
  simp only [Ev.gateEnd]
  repeat' (first | with_reducible assumption | with_reducible apply Ev.eachLine_settled | with_reducible apply Ev.gateLine_settled | with_reducible intro _ | split | rfl | exact ⟨rfl, rfl⟩ | exact ⟨rfl, rfl, rfl⟩)
theorem Ev.overWatch_settled {v : SettledView} {e : Ev} (l : LineId) (kPa : Nat) (hE : e.settled = v) : (e.overWatch l kPa).settled = v := by
  simp only [Ev.overWatch]
  repeat' (first | with_reducible assumption | with_reducible apply Ev.modFlow_settled | with_reducible apply Ev.trip_settled | with_reducible intro _ | split | rfl | exact ⟨rfl, rfl⟩ | exact ⟨rfl, rfl, rfl⟩)
theorem Ev.runDownSample_settled {v : SettledView} {e : Ev} (l : LineId) (hE : e.settled = v) : (e.runDownSample l).settled = v := by
  simp only [Ev.runDownSample]
  repeat' (first | with_reducible assumption | with_reducible apply Ev.endRunDown_settled | with_reducible intro _ | split | rfl | exact ⟨rfl, rfl⟩ | exact ⟨rfl, rfl, rfl⟩)
theorem Ev.pressureSample_settled {v : SettledView} {e : Ev} (l : LineId) (microamps : Nat) (hE : e.settled = v) : (e.pressureSample l microamps).settled = v := by
  simp only [Ev.pressureSample]
  repeat' (first | with_reducible assumption | with_reducible apply Ev.modFlow_settled | with_reducible apply Ev.setPressureFault_settled | with_reducible apply Ev.overWatch_settled | with_reducible apply Ev.runDownSample_settled | with_reducible intro _ | split | rfl | exact ⟨rfl, rfl⟩ | exact ⟨rfl, rfl, rfl⟩)
theorem Ev.positionSample_settled {v : SettledView} {e : Ev} (l : LineId) (microamps : Nat) (hE : e.settled = v) : (e.positionSample l microamps).settled = v := by
  simp only [Ev.positionSample]
  repeat' (first | with_reducible assumption | with_reducible apply Ev.modValve_settled | with_reducible apply Ev.setFeedbackFault_settled | with_reducible apply Ev.takeSample_settled | with_reducible intro _ | split | rfl | exact ⟨rfl, rfl⟩ | exact ⟨rfl, rfl, rfl⟩)
theorem Ev.accumulatorSample_settled {v : SettledView} {e : Ev} (microamps : Nat) (hE : e.settled = v) : (e.accumulatorSample microamps).settled = v := by
  simp only [Ev.accumulatorSample]
  repeat' (first | with_reducible assumption | with_reducible apply Ev.modSupply_settled | with_reducible apply Ev.bandEvent_settled | with_reducible intro _ | split | rfl | exact ⟨rfl, rfl⟩ | exact ⟨rfl, rfl, rfl⟩)
theorem Ev.provingTimeout_settled {v : SettledView} {e : Ev} (l : LineId) (hE : e.settled = v) : (e.provingTimeout l).settled = v := by
  simp only [Ev.provingTimeout]
  repeat' (first | with_reducible assumption | with_reducible apply Ev.trip_settled | with_reducible intro _ | split | rfl | exact ⟨rfl, rfl⟩ | exact ⟨rfl, rfl, rfl⟩)
theorem Ev.changeoverTimeout_settled {v : SettledView} {e : Ev} (l : LineId) (hE : e.settled = v) : (e.changeoverTimeout l).settled = v := by
  simp only [Ev.changeoverTimeout]
  repeat' (first | with_reducible assumption | with_reducible apply Ev.trip_settled | with_reducible intro _ | split | rfl | exact ⟨rfl, rfl⟩ | exact ⟨rfl, rfl, rfl⟩)
theorem Ev.settleDeadline_settled {v : SettledView} {e : Ev} (l : LineId) (hE : e.settled = v) : (e.settleDeadline l).settled = v := by
  simp only [Ev.settleDeadline]
  repeat' (first | with_reducible assumption | with_reducible apply Ev.modPred_settled | with_reducible intro _ | split | rfl | exact ⟨rfl, rfl⟩ | exact ⟨rfl, rfl, rfl⟩)
theorem Ev.runDownExpiry_settled {v : SettledView} {e : Ev} (l : LineId) (hE : e.settled = v) : (e.runDownExpiry l).settled = v := by
  simp only [Ev.runDownExpiry]
  repeat' (first | with_reducible assumption | with_reducible apply Ev.endRunDown_settled | with_reducible intro _ | split | rfl | exact ⟨rfl, rfl⟩ | exact ⟨rfl, rfl, rfl⟩)
theorem Ev.dwellOver_settled {v : SettledView} {e : Ev} (l : LineId) (hE : e.settled = v) : (e.dwellOver l).settled = v := by
  simp only [Ev.dwellOver]
  repeat' (first | with_reducible assumption | with_reducible apply Ev.modClose_settled | with_reducible apply Ev.nextStage_settled | with_reducible intro _ | split | rfl | exact ⟨rfl, rfl⟩ | exact ⟨rfl, rfl, rfl⟩)
theorem Ev.turnaroundEnd_settled {v : SettledView} {e : Ev} (l : LineId) (hE : e.settled = v) : (e.turnaroundEnd l).settled = v := by
  simp only [Ev.turnaroundEnd]
  repeat' (first | with_reducible assumption | with_reducible apply Ev.modValve_settled | with_reducible intro _ | split | rfl | exact ⟨rfl, rfl⟩ | exact ⟨rfl, rfl, rfl⟩)
theorem Ev.withdraw_settled {v : SettledView} {e : Ev} (l : LineId) (k : Stroke) (hE : e.settled = v) : (e.withdraw l k).settled = v := by
  simp only [Ev.withdraw]
  repeat' (first | with_reducible assumption | with_reducible apply Ev.modValve_settled | with_reducible apply Ev.considerGrants_settled | with_reducible apply Ev.freeChannel_settled | with_reducible intro _ | split | rfl | exact ⟨rfl, rfl⟩ | exact ⟨rfl, rfl, rfl⟩)
theorem Ev.setupEnd_settled {v : SettledView} {e : Ev} (l : LineId) (hE : e.settled = v) : (e.setupEnd l).settled = v := by
  simp only [Ev.setupEnd]
  repeat' (first | with_reducible assumption | with_reducible apply Ev.beginTravel_settled | with_reducible apply Ev.withdraw_settled | with_reducible intro _ | split | rfl | exact ⟨rfl, rfl⟩ | exact ⟨rfl, rfl, rfl⟩)
theorem Ev.blankingEnd_settled {v : SettledView} {e : Ev} (l : LineId) (hE : e.settled = v) : (e.blankingEnd l).settled = v := by
  simp only [Ev.blankingEnd]
  repeat' (first | with_reducible assumption | with_reducible apply Ev.modValve_settled | with_reducible apply Ev.closedActive_settled | with_reducible apply Ev.openActive_settled | with_reducible intro _ | split | rfl | exact ⟨rfl, rfl⟩ | exact ⟨rfl, rfl, rfl⟩)
theorem Ev.simulatedArrival_settled {v : SettledView} {e : Ev} (l : LineId) (hE : e.settled = v) : (e.simulatedArrival l).settled = v := by
  simp only [Ev.simulatedArrival]
  repeat' (first | with_reducible assumption | with_reducible apply Ev.modValve_settled | with_reducible apply Ev.arrive_settled | with_reducible intro _ | split | rfl | exact ⟨rfl, rfl⟩ | exact ⟨rfl, rfl, rfl⟩)
theorem Ev.travelTimeout_settled {v : SettledView} {e : Ev} (l : LineId) (hE : e.settled = v) : (e.travelTimeout l).settled = v := by
  simp only [Ev.travelTimeout]
  repeat' (first | with_reducible assumption | with_reducible apply Ev.failStroke_settled | with_reducible intro _ | split | rfl | exact ⟨rfl, rfl⟩ | exact ⟨rfl, rfl, rfl⟩)
theorem Ev.extensionExhausted_settled {v : SettledView} {e : Ev} (l : LineId) (hE : e.settled = v) : (e.extensionExhausted l).settled = v := by
  simp only [Ev.extensionExhausted]
  repeat' (first | with_reducible assumption | with_reducible apply Ev.failStroke_settled | with_reducible intro _ | split | rfl | exact ⟨rfl, rfl⟩ | exact ⟨rfl, rfl, rfl⟩)
theorem Ev.holdEnd_settled {v : SettledView} {e : Ev} (l : LineId) (hE : e.settled = v) : (e.holdEnd l).settled = v := by
  simp only [Ev.holdEnd]
  repeat' (first | with_reducible assumption | with_reducible apply Ev.modValve_settled | with_reducible apply Ev.report_settled | with_reducible apply Ev.considerGrants_settled | with_reducible apply Ev.freeChannel_settled | with_reducible apply Ev.enqueue_settled | with_reducible intro _ | split | rfl | exact ⟨rfl, rfl⟩ | exact ⟨rfl, rfl, rfl⟩)
theorem Ev.closedSwitch_settled {v : SettledView} {e : Ev} (l : LineId) (active : Bool) (hE : e.settled = v) : (e.closedSwitch l active).settled = v := by
  simp only [Ev.closedSwitch]
  repeat' (first | with_reducible assumption | with_reducible apply Ev.modValve_settled | with_reducible apply Ev.closedActive_settled | with_reducible intro _ | split | rfl | exact ⟨rfl, rfl⟩ | exact ⟨rfl, rfl, rfl⟩)
theorem Ev.openSwitch_settled {v : SettledView} {e : Ev} (l : LineId) (active : Bool) (hE : e.settled = v) : (e.openSwitch l active).settled = v := by
  simp only [Ev.openSwitch]
  repeat' (first | with_reducible assumption | with_reducible apply Ev.modValve_settled | with_reducible apply Ev.openActive_settled | with_reducible intro _ | split | rfl | exact ⟨rfl, rfl⟩ | exact ⟨rfl, rfl, rfl⟩)
theorem Ev.loopOpens_settled {v : SettledView} {e : Ev} (hE : e.settled = v) : (e.loopOpens ).settled = v := by
  simp only [Ev.loopOpens]
  repeat' (first | with_reducible assumption | with_reducible apply Ev.modShut_settled | with_reducible intro _ | split | rfl | exact ⟨rfl, rfl⟩ | exact ⟨rfl, rfl, rfl⟩)
theorem Ev.loopCloses_settled {v : SettledView} {e : Ev} (hE : e.settled = v) : (e.loopCloses ).settled = v := by
  simp only [Ev.loopCloses]
  repeat' (first | with_reducible assumption | with_reducible apply Ev.modShut_settled | with_reducible intro _ | split | rfl | exact ⟨rfl, rfl⟩ | exact ⟨rfl, rfl, rfl⟩)
theorem Ev.debounceExpires_settled {v : SettledView} {e : Ev} (hE : e.settled = v) : (e.debounceExpires ).settled = v := by
  simp only [Ev.debounceExpires]
  repeat' (first | with_reducible assumption | with_reducible apply Ev.modShut_settled | with_reducible apply Ev.raiseCause_settled | with_reducible intro _ | split | rfl | exact ⟨rfl, rfl⟩ | exact ⟨rfl, rfl, rfl⟩)

/-! ### The offline part -/

theorem Ev.modLine_offline {v : OfflineView} {e : Ev} (l : LineId) (f : LineRec → LineRec) (hf : ∀ x, (f x).profile = x.profile) (hE : e.offline = v) :
    (e.modLine l f).offline = v := by
  rw [← hE]; simp only [State.offline, State.portView, Ev.modLine, Quad.get_set]; congr; funext m; split <;> simp_all
theorem Ev.setList_offline {v : OfflineView} {e : Ev} (l : LineId) (ks : List TankId) (hE : e.offline = v) :
    (e.setList l ks).offline = v := hE
theorem Ev.modPred_offline {v : OfflineView} {e : Ev} (l : LineId) (f : Predictor → Predictor) (hE : e.offline = v) :
    (e.modPred l f).offline = v := hE
theorem Ev.setClose_offline {v : OfflineView} {e : Ev} (l : LineId) (c : Option CloseRec) (hE : e.offline = v) :
    (e.setClose l c).offline = v := hE
theorem Ev.modClose_offline {v : OfflineView} {e : Ev} (l : LineId) (f : CloseRec → CloseRec) (hE : e.offline = v) :
    (e.modClose l f).offline = v := hE
theorem Ev.modFlow_offline {v : OfflineView} {e : Ev} (l : LineId) (f : Flow → Flow) (hf : ∀ x, (f x).meter = x.meter) (hE : e.offline = v) :
    (e.modFlow l f).offline = v := by
  rw [← hE]; simp only [State.offline, State.portView, Ev.modFlow, Quad.get_set]; congr; funext m; split <;> simp_all
theorem Ev.modValve_offline {v : OfflineView} {e : Ev} (l : LineId) (f : Valve → Valve) (hf : ∀ x, (f x).inputs = x.inputs) (hE : e.offline = v) :
    (e.modValve l f).offline = v := by
  rw [← hE]; simp only [State.offline, State.portView, Ev.modValve, Quad.get_set]; congr; funext m; split <;> simp_all
theorem Ev.modTank_offline {v : OfflineView} {e : Ev} (k : TankId) (f : Tank → Tank) (hE : e.offline = v) :
    (e.modTank k f).offline = v := hE
theorem Ev.modGrade_offline {v : OfflineView} {e : Ev} (g : GradeId) (f : Grade → Grade) (hf : ∀ x, (f x).barge = x.barge) (hE : e.offline = v) :
    (e.modGrade g f).offline = v := by
  rw [← hE]; simp only [State.offline, State.portView, Ev.modGrade, Grades.get_set]; congr; funext m; split <;> simp_all
theorem Ev.modLink_offline {v : OfflineView} {e : Ev} (f : Link → Link) (hE : e.offline = v) :
    (e.modLink f).offline = v := hE
theorem Ev.modShut_offline {v : OfflineView} {e : Ev} (f : Shutdown → Shutdown) (hf : ∀ x, (f x).loop = x.loop) (hE : e.offline = v) :
    (e.modShut f).offline = v := by
  rw [← hE]; simp only [State.offline, State.portView, Ev.modShut, hf]
theorem Ev.report_offline {v : OfflineView} {e : Ev} (r : Report) (hE : e.offline = v) :
    (e.report r).offline = v := hE
theorem Ev.mark_offline {v : OfflineView} {e : Ev} (k : NoticeKey) (hE : e.offline = v) :
    (e.mark k).offline = v := by
  unfold Ev.mark; split <;> exact hE
theorem Ev.markIf_offline {v : OfflineView} {e : Ev} (c : Bool) (k : NoticeKey) (hE : e.offline = v) :
    (e.markIf c k).offline = v := by
  cases c <;> simp only [Ev.markIf] <;> first | exact hE | exact Ev.mark_offline _ hE
theorem Ev.modChan_offline {v : OfflineView} {e : Ev} (c : ChanId) (f : Channel → Channel) (hE : e.offline = v) :
    (e.modChan c f).offline = v := by cases c <;> exact hE
theorem Ev.eachLine_offline {v : OfflineView} {e : Ev} (f : LineId → Ev → Ev) (hf : ∀ l x, x.offline = v → (f l x).offline = v)
    (hE : e.offline = v) : (e.eachLine f).offline = v := by
  simp only [Ev.eachLine, allLines, List.foldl]
  exact hf _ _ (hf _ _ (hf _ _ (hf _ _ hE)))
theorem Ev.eachTank_offline {v : OfflineView} (ks : List TankId) {e : Ev} (f : TankId → Ev → Ev)
    (hf : ∀ k x, x.offline = v → (f k x).offline = v) (hE : e.offline = v) : (e.eachTank ks f).offline = v := by
  unfold Ev.eachTank
  induction ks generalizing e with
  | nil => exact hE
  | cons k ks ih => exact ih (hf k e hE)
theorem Ev.considerGrants_offline {v : OfflineView} {e : Ev} (hE : e.offline = v) : e.considerGrants.offline = v :=
  (offline_of_ground (Ev.considerGrants_ground e)).trans hE
theorem Ev.setUse_offline {v : OfflineView} {e : Ev} (k : TankId) (u : TankUse) (hE : e.offline = v) : (e.setUse k u).offline = v := (offline_of_ground (Ev.setUse_ground _ k u)).trans hE
theorem Ev.setHealth_offline {v : OfflineView} {e : Ev} (k : TankId) (h : Health) (r : Option RefusalReason) (hE : e.offline = v) : (e.setHealth k h r).offline = v := by
  simp only [Ev.setHealth]
  repeat' (first | with_reducible assumption | with_reducible apply Ev.modTank_offline | with_reducible apply Ev.markIf_offline | with_reducible intro _ | split | rfl | exact ⟨rfl, rfl⟩ | exact ⟨rfl, rfl, rfl⟩)
theorem Ev.credit_offline {v : OfflineView} {e : Ev} (k : TankId) (litres : Nat) (hE : e.offline = v) : (e.credit k litres).offline = v := (offline_of_ground (Ev.credit_ground _ k litres)).trans hE
theorem Ev.zeroAccount_offline {v : OfflineView} {e : Ev} (l : LineId) (hE : e.offline = v) : (e.zeroAccount l).offline = v := (offline_of_ground (Ev.zeroAccount_ground _ l)).trans hE
theorem Ev.settleComplete_offline {v : OfflineView} {e : Ev} (l : LineId) (hE : e.offline = v) : (e.settleComplete l).offline = v := (offline_of_ground (Ev.settleComplete_ground _ l)).trans hE
theorem Ev.settleCleared_offline {v : OfflineView} {e : Ev} (l : LineId) (hE : e.offline = v) : (e.settleCleared l).offline = v := (offline_of_ground (Ev.settleCleared_ground _ l)).trans hE
theorem Ev.evalPermit_offline {v : OfflineView} {e : Ev} (p : PumpId) (hE : e.offline = v) : (e.evalPermit p).offline = v := (offline_of_ground (Ev.evalPermit_ground _ p)).trans hE
theorem Ev.evalPermitOf_offline {v : OfflineView} {e : Ev} (l : LineId) (hE : e.offline = v) : (e.evalPermitOf l).offline = v := (offline_of_ground (Ev.evalPermitOf_ground _ l)).trans hE
theorem Ev.setState_offline {v : OfflineView} {e : Ev} (l : LineId) (st : LineState) (hE : e.offline = v) : (e.setState l st).offline = v := (offline_of_ground (Ev.setState_ground _ l st)).trans hE
theorem Ev.setSurge_offline {v : OfflineView} {e : Ev} (l : LineId) (b : Bool) (hE : e.offline = v) : (e.setSurge l b).offline = v := (offline_of_ground (Ev.setSurge_ground _ l b)).trans hE
theorem Ev.setLate_offline {v : OfflineView} {e : Ev} (l : LineId) (b : Bool) (hE : e.offline = v) : (e.setLate l b).offline = v := (offline_of_ground (Ev.setLate_ground _ l b)).trans hE
theorem Ev.setQuiet_offline {v : OfflineView} {e : Ev} (l : LineId) (b : Bool) (hE : e.offline = v) : (e.setQuiet l b).offline = v := (offline_of_ground (Ev.setQuiet_ground _ l b)).trans hE
theorem Ev.updatePump_offline {v : OfflineView} {e : Ev} (hE : e.offline = v) : (e.updatePump ).offline = v := (offline_of_ground (Ev.updatePump_ground _ )).trans hE
theorem Ev.freeChannel_offline {v : OfflineView} {e : Ev} (l : LineId) (hE : e.offline = v) : (e.freeChannel l).offline = v := (offline_of_ground (Ev.freeChannel_ground _ l)).trans hE
theorem Ev.grant_offline {v : OfflineView} {e : Ev} (l : LineId) (r : StrokeReq) (c : ChanId) (hE : e.offline = v) : (e.grant l r c).offline = v := (offline_of_ground (Ev.grant_ground _ l r c)).trans hE

theorem Ev.endStroke_offline {v : OfflineView} {e : Ev} (l : LineId) (o : StrokeOutcome) (hE : e.offline = v) : (e.endStroke l o).offline = v := (offline_of_ground (Ev.endStroke_ground _ l o)).trans hE
theorem Ev.dropWork_offline {v : OfflineView} {e : Ev} (l : LineId) (hE : e.offline = v) : (e.dropWork l).offline = v := (offline_of_ground (Ev.dropWork_ground _ l)).trans hE
theorem Ev.cancelWork_offline {v : OfflineView} {e : Ev} (l : LineId) (hE : e.offline = v) : (e.cancelWork l).offline = v := (offline_of_ground (Ev.cancelWork_ground _ l)).trans hE
theorem Ev.cancelAllWork_offline {v : OfflineView} {e : Ev} (hE : e.offline = v) : (e.cancelAllWork ).offline = v := (offline_of_ground (Ev.cancelAllWork_ground _ )).trans hE
theorem Ev.failStroke_offline {v : OfflineView} {e : Ev} (l : LineId) (o : StrokeOutcome) (hE : e.offline = v) : (e.failStroke l o).offline = v := (offline_of_ground (Ev.failStroke_ground _ l o)).trans hE
theorem Ev.enqueue_offline {v : OfflineView} {e : Ev} (l : LineId) (r : StrokeReq) (hE : e.offline = v) : (e.enqueue l r).offline = v := (offline_of_ground (Ev.enqueue_ground _ l r)).trans hE
theorem Ev.requestStroke_offline {v : OfflineView} {e : Ev} (l : LineId) (cls : StrokeClass) (target : Nat) (retry : Bool) (hE : e.offline = v) : (e.requestStroke l cls target retry).offline = v := (offline_of_ground (Ev.requestStroke_ground _ l cls target retry)).trans hE
theorem Ev.pauseAll_offline {v : OfflineView} {e : Ev} (paused : Bool) (hE : e.offline = v) : (e.pauseAll paused).offline = v := (offline_of_ground (Ev.pauseAll_ground _ paused)).trans hE
theorem Ev.beginTravel_offline {v : OfflineView} {e : Ev} (l : LineId) (k : Stroke) (hE : e.offline = v) : (e.beginTravel l k).offline = v := (offline_of_ground (Ev.beginTravel_ground _ l k)).trans hE
theorem Ev.arrive_offline {v : OfflineView} {e : Ev} (l : LineId) (k : Stroke) (target : Nat) (hE : e.offline = v) : (e.arrive l k target).offline = v := (offline_of_ground (Ev.arrive_ground _ l k target)).trans hE
theorem Ev.closedActive_offline {v : OfflineView} {e : Ev} (l : LineId) (hE : e.offline = v) : (e.closedActive l).offline = v := (offline_of_ground (Ev.closedActive_ground _ l)).trans hE
theorem Ev.openActive_offline {v : OfflineView} {e : Ev} (l : LineId) (hE : e.offline = v) : (e.openActive l).offline = v := (offline_of_ground (Ev.openActive_ground _ l)).trans hE
theorem Ev.clearPred_offline {v : OfflineView} {e : Ev} (l : LineId) (hE : e.offline = v) : (e.clearPred l).offline = v := (offline_of_ground (Ev.clearPred_ground _ l)).trans hE
theorem Ev.settleArrival_offline {v : OfflineView} {e : Ev} (l : LineId) (target : Nat) (hE : e.offline = v) : (e.settleArrival l target).offline = v := (offline_of_ground (Ev.settleArrival_ground _ l target)).trans hE
theorem Ev.writeTrip_offline {v : OfflineView} {e : Ev} (l : LineId) (cause : TripCause) (hE : e.offline = v) : (e.writeTrip l cause).offline = v := (offline_of_ground (Ev.writeTrip_ground _ l cause)).trans hE
theorem Ev.changeoverExit_offline {v : OfflineView} {e : Ev} (l : LineId) (reason : CloseReason) (hE : e.offline = v) : (e.changeoverExit l reason).offline = v := (offline_of_ground (Ev.changeoverExit_ground _ l reason)).trans hE
theorem Ev.closeEntry_offline {v : OfflineView} {e : Ev} (l : LineId) (reason : CloseReason) (hold : Option HoldReason) (cause : Option TripCause) (hE : e.offline = v) : (e.closeEntry l reason hold cause).offline = v := (offline_of_ground (Ev.closeEntry_ground _ l reason hold cause)).trans hE
theorem Ev.retripClosing_offline {v : OfflineView} {e : Ev} (l : LineId) (reason : CloseReason) (cause : TripCause) (hE : e.offline = v) : (e.retripClosing l reason cause).offline = v := (offline_of_ground (Ev.retripClosing_ground _ l reason cause)).trans hE
theorem Ev.trip_offline {v : OfflineView} {e : Ev} (l : LineId) (cause : TripCause) (hE : e.offline = v) : (e.trip l cause).offline = v := (offline_of_ground (Ev.trip_ground _ l cause)).trans hE
theorem Ev.tripHolder_offline {v : OfflineView} {e : Ev} (k : TankId) (cause : TripCause) (hE : e.offline = v) : (e.tripHolder k cause).offline = v := (offline_of_ground (Ev.tripHolder_ground _ k cause)).trans hE
theorem Ev.dropClose_offline {v : OfflineView} {e : Ev} (l : LineId) (hE : e.offline = v) : (e.dropClose l).offline = v := (offline_of_ground (Ev.dropClose_ground _ l)).trans hE
theorem Ev.closeEnd_offline {v : OfflineView} {e : Ev} (l : LineId) (hE : e.offline = v) : (e.closeEnd l).offline = v := (offline_of_ground (Ev.closeEnd_ground _ l)).trans hE
theorem Ev.enterStarting_offline {v : OfflineView} {e : Ev} (l : LineId) (hE : e.offline = v) : (e.enterStarting l).offline = v := (offline_of_ground (Ev.enterStarting_ground _ l)).trans hE
theorem Ev.enterProving_offline {v : OfflineView} {e : Ev} (l : LineId) (hE : e.offline = v) : (e.enterProving l).offline = v := (offline_of_ground (Ev.enterProving_ground _ l)).trans hE
theorem Ev.throttleTo_offline {v : OfflineView} {e : Ev} (l : LineId) (pos : Nat) (hE : e.offline = v) : (e.throttleTo l pos).offline = v := (offline_of_ground (Ev.throttleTo_ground _ l pos)).trans hE
theorem Ev.closeStartTest_offline {v : OfflineView} {e : Ev} (l : LineId) (hE : e.offline = v) : (e.closeStartTest l).offline = v := (offline_of_ground (Ev.closeStartTest_ground _ l)).trans hE
theorem Ev.enterTopping_offline {v : OfflineView} {e : Ev} (l : LineId) (hE : e.offline = v) : (e.enterTopping l).offline = v := (offline_of_ground (Ev.enterTopping_ground _ l)).trans hE
theorem Ev.enterChangeover_offline {v : OfflineView} {e : Ev} (l : LineId) (k : TankId) (hE : e.offline = v) : (e.enterChangeover l k).offline = v := (offline_of_ground (Ev.enterChangeover_ground _ l k)).trans hE
theorem Ev.evaluateMarks_offline {v : OfflineView} {e : Ev} (l : LineId) (hE : e.offline = v) : (e.evaluateMarks l).offline = v := (offline_of_ground (Ev.evaluateMarks_ground _ l)).trans hE
theorem Ev.overrunTest_offline {v : OfflineView} {e : Ev} (l : LineId) (hE : e.offline = v) : (e.overrunTest l).offline = v := (offline_of_ground (Ev.overrunTest_ground _ l)).trans hE
theorem Ev.changeoverSuccess_offline {v : OfflineView} {e : Ev} (l : LineId) (old new : TankId) (hE : e.offline = v) : (e.changeoverSuccess l old new).offline = v := (offline_of_ground (Ev.changeoverSuccess_ground _ l old new)).trans hE
theorem Ev.successTest_offline {v : OfflineView} {e : Ev} (l : LineId) (hE : e.offline = v) : (e.successTest l).offline = v := (offline_of_ground (Ev.successTest_ground _ l)).trans hE
theorem Ev.provingTest_offline {v : OfflineView} {e : Ev} (l : LineId) (k : TankId) (level : Nat) (hE : e.offline = v) : (e.provingTest l k level).offline = v := (offline_of_ground (Ev.provingTest_ground _ l k level)).trans hE
theorem Ev.esdToLine_offline {v : OfflineView} {e : Ev} (l : LineId) (hE : e.offline = v) : (e.esdToLine l).offline = v := (offline_of_ground (Ev.esdToLine_ground _ l)).trans hE
theorem Ev.raiseCause_offline {v : OfflineView} {e : Ev} (c : EsdCause) (hE : e.offline = v) : (e.raiseCause c).offline = v := (offline_of_ground (Ev.raiseCause_ground _ c)).trans hE
theorem Ev.raiseValve_offline {v : OfflineView} {e : Ev} (l : LineId) (hE : e.offline = v) : (e.raiseValve l).offline = v := (offline_of_ground (Ev.raiseValve_ground _ l)).trans hE
theorem Ev.requestStage_offline {v : OfflineView} {e : Ev} (l : LineId) (k : Nat) (hE : e.offline = v) : (e.requestStage l k).offline = v := (offline_of_ground (Ev.requestStage_ground _ l k)).trans hE
theorem Ev.startPlan_offline {v : OfflineView} {e : Ev} (l : LineId) (hE : e.offline = v) : (e.startPlan l).offline = v := (offline_of_ground (Ev.startPlan_ground _ l)).trans hE
theorem Ev.endRunDown_offline {v : OfflineView} {e : Ev} (l : LineId) (cause : RunDownEnd) (hE : e.offline = v) : (e.endRunDown l cause).offline = v := (offline_of_ground (Ev.endRunDown_ground _ l cause)).trans hE
theorem Ev.decideClose_offline {v : OfflineView} {e : Ev} (l : LineId) (hE : e.offline = v) : (e.decideClose l).offline = v := (offline_of_ground (Ev.decideClose_ground _ l)).trans hE
theorem Ev.plannerArrived_offline {v : OfflineView} {e : Ev} (l : LineId) (target : Nat) (hE : e.offline = v) : (e.plannerArrived l target).offline = v := (offline_of_ground (Ev.plannerArrived_ground _ l target)).trans hE
theorem Ev.nextStage_offline {v : OfflineView} {e : Ev} (l : LineId) (hE : e.offline = v) : (e.nextStage l).offline = v := (offline_of_ground (Ev.nextStage_ground _ l)).trans hE
theorem Ev.plannerEnded_offline {v : OfflineView} {e : Ev} (l : LineId) (hE : e.offline = v) : (e.plannerEnded l).offline = v := (offline_of_ground (Ev.plannerEnded_ground _ l)).trans hE
theorem Ev.retryStage_offline {v : OfflineView} {e : Ev} (l : LineId) (hE : e.offline = v) : (e.retryStage l).offline = v := (offline_of_ground (Ev.retryStage_ground _ l)).trans hE
theorem Ev.abandonClose_offline {v : OfflineView} {e : Ev} (l : LineId) (hE : e.offline = v) : (e.abandonClose l).offline = v := (offline_of_ground (Ev.abandonClose_ground _ l)).trans hE
theorem Ev.plannerFailed_offline {v : OfflineView} {e : Ev} (l : LineId) (hE : e.offline = v) : (e.plannerFailed l).offline = v := (offline_of_ground (Ev.plannerFailed_ground _ l)).trans hE
theorem Ev.plannerSeated_offline {v : OfflineView} {e : Ev} (l : LineId) (hE : e.offline = v) : (e.plannerSeated l).offline = v := (offline_of_ground (Ev.plannerSeated_ground _ l)).trans hE
theorem Ev.retryWaiting_offline {v : OfflineView} {e : Ev} (l : LineId) (hE : e.offline = v) : (e.retryWaiting l).offline = v := (offline_of_ground (Ev.retryWaiting_ground _ l)).trans hE
theorem Grade.take_barge (x : Grade) (w : ShipWord) : (x.take w).barge = x.barge := by
  simp only [Grade.take, Grade.offeringStep, Grade.ackingStep, Grade.reoffer]
  (repeat' split) <;> rfl
theorem Ev.takeWord_offline {v : OfflineView} {e : Ev} (g : GradeId) (w : ShipWord) (hE : e.offline = v) :
    (e.takeWord g w).offline = v :=
  Ev.markIf_offline _ _ (Ev.modGrade_offline g _ (fun x => Grade.take_barge x w) hE)
theorem Ev.gradeWaiting_offline {v : OfflineView} {e : Ev} (g : GradeId) (hE : e.offline = v) : (e.gradeWaiting g).offline = v := by
  simp only [Ev.gradeWaiting]
  repeat' (first | with_reducible assumption | with_reducible apply Ev.modGrade_offline | with_reducible apply Ev.markIf_offline | with_reducible intro _ | split | rfl | exact ⟨rfl, rfl⟩ | exact ⟨rfl, rfl, rfl⟩)
theorem Ev.gradeOffering_offline {v : OfflineView} {e : Ev} (g : GradeId) (hE : e.offline = v) : (e.gradeOffering g).offline = v := by
  simp only [Ev.gradeOffering]
  repeat' (first | with_reducible assumption | with_reducible apply Ev.modGrade_offline | with_reducible apply Ev.mark_offline | with_reducible intro _ | split | rfl | exact ⟨rfl, rfl⟩ | exact ⟨rfl, rfl, rfl⟩)
theorem Ev.enterSilent_offline {v : OfflineView} {e : Ev} (hE : e.offline = v) : (e.enterSilent ).offline = v := by
  simp only [Ev.enterSilent]
  repeat' (first | with_reducible assumption | with_reducible apply Ev.modLink_offline | with_reducible apply Ev.modShut_offline | with_reducible apply Ev.mark_offline | with_reducible apply Ev.gradeWaiting_offline | with_reducible intro _ | split | rfl | exact ⟨rfl, rfl⟩ | exact ⟨rfl, rfl, rfl⟩)
theorem Ev.lineLinkLost_offline {v : OfflineView} {e : Ev} (l : LineId) (hE : e.offline = v) : (e.lineLinkLost l).offline = v := by
  simp only [Ev.lineLinkLost]
  repeat' (first | with_reducible assumption | with_reducible apply Ev.trip_offline | with_reducible intro _ | split | rfl | exact ⟨rfl, rfl⟩ | exact ⟨rfl, rfl, rfl⟩)
theorem Ev.linkDown_offline {v : OfflineView} {e : Ev} (hE : e.offline = v) : (e.linkDown ).offline = v := by
  simp only [Ev.linkDown]
  repeat' (first | with_reducible assumption | with_reducible apply Ev.modLink_offline | with_reducible apply Ev.modShut_offline | with_reducible apply Ev.mark_offline | with_reducible apply Ev.eachLine_offline | with_reducible apply Ev.gradeWaiting_offline | with_reducible apply Ev.lineLinkLost_offline | with_reducible intro _ | split | rfl | exact ⟨rfl, rfl⟩ | exact ⟨rfl, rfl, rfl⟩)
theorem Ev.panelMiss_offline {v : OfflineView} {e : Ev} (hE : e.offline = v) : (e.panelMiss ).offline = v := by
  simp only [Ev.panelMiss]
  repeat' (first | with_reducible assumption | with_reducible apply Ev.modLink_offline | with_reducible apply Ev.linkDown_offline | with_reducible intro _ | split | rfl | exact ⟨rfl, rfl⟩ | exact ⟨rfl, rfl, rfl⟩)
theorem Ev.silenceEnds_offline {v : OfflineView} {e : Ev} (hE : e.offline = v) : (e.silenceEnds ).offline = v := by
  simp only [Ev.silenceEnds]
  repeat' (first | with_reducible assumption | with_reducible apply Ev.modLink_offline | with_reducible apply Ev.mark_offline | with_reducible apply Ev.gradeOffering_offline | with_reducible intro _ | split | rfl | exact ⟨rfl, rfl⟩ | exact ⟨rfl, rfl, rfl⟩)
theorem Ev.holdLine_offline {v : OfflineView} {e : Ev} (l : LineId) (why : HoldReason) (hE : e.offline = v) : (e.holdLine l why).offline = v := by
  simp only [Ev.holdLine]
  repeat' (first | with_reducible assumption | with_reducible apply Ev.closeEntry_offline | with_reducible intro _ | split | rfl | exact ⟨rfl, rfl⟩ | exact ⟨rfl, rfl, rfl⟩)
theorem Ev.holdGrade_offline {v : OfflineView} {e : Ev} (g : GradeId) (hE : e.offline = v) : (e.holdGrade g).offline = v := by
  simp only [Ev.holdGrade]
  repeat' (first | with_reducible assumption | with_reducible apply Ev.eachLine_offline | with_reducible apply Ev.holdLine_offline | with_reducible intro _ | split | rfl | exact ⟨rfl, rfl⟩ | exact ⟨rfl, rfl, rfl⟩)
theorem Ev.panelAct_offline {v : OfflineView} {e : Ev} (gs : List GradeId) (a : PanelAct) (hE : e.offline = v) :
    (e.panelAct gs a).offline = v := by
  cases a with
  | esd => exact Ev.raiseCause_offline _ hE
  | stop => exact Ev.eachLine_offline _ (fun l x hx => Ev.holdLine_offline l _ hx) hE
  | terms =>
    simp only [Ev.panelAct]
    induction gs generalizing e with
    | nil => exact hE
    | cons g gs ih => exact ih (Ev.holdGrade_offline g hE)
theorem Ev.panelActs_offline {v : OfflineView} {e : Ev} (gs : List GradeId) (acts : List PanelAct) (hE : e.offline = v) :
    (acts.foldl (fun x a => x.panelAct gs a) e).offline = v := by
  induction acts generalizing e with
  | nil => exact hE
  | cons a as ih => exact ih (Ev.panelAct_offline gs a hE)
theorem Ev.panelActsDo_offline {v : OfflineView} {e : Ev} (acts : List PanelAct) (gs : List GradeId) (hE : e.offline = v) :
    (e.panelActsDo acts gs).offline = v := by
  unfold Ev.panelActsDo
  split
  · exact Ev.panelActs_offline gs _ hE
  · exact Ev.panelActs_offline gs _ hE
theorem Ev.panelReply_offline {v : OfflineView} {e : Ev} (p : PanelReply) (hE : e.offline = v) : (e.panelReply p).offline = v := by
  simp only [Ev.panelReply]
  repeat' (first | with_reducible assumption | with_reducible apply Ev.modLink_offline | with_reducible apply Ev.modShut_offline | with_reducible apply Ev.markIf_offline | with_reducible apply Ev.takeWord_offline | with_reducible apply Ev.enterSilent_offline | with_reducible apply Ev.panelActsDo_offline | with_reducible intro _ | split | rfl | exact ⟨rfl, rfl⟩ | exact ⟨rfl, rfl, rfl⟩)
theorem Ev.makeSchedule_offline {v : OfflineView} {e : Ev} (hE : e.offline = v) : (e.makeSchedule ).offline = v := by
  simp only [Ev.makeSchedule]
  repeat' (first | with_reducible assumption | with_reducible apply Ev.modLink_offline | with_reducible intro _ | split | rfl | exact ⟨rfl, rfl⟩ | exact ⟨rfl, rfl, rfl⟩)
theorem Ev.loseTank_offline {v : OfflineView} {e : Ev} (k : TankId) (hE : e.offline = v) : (e.loseTank k).offline = v := by
  simp only [Ev.loseTank]
  repeat' (first | with_reducible assumption | with_reducible apply Ev.setHealth_offline | with_reducible apply Ev.tripHolder_offline | with_reducible intro _ | split | rfl | exact ⟨rfl, rfl⟩ | exact ⟨rfl, rfl, rfl⟩)
theorem Ev.tankMiss_offline {v : OfflineView} {e : Ev} (k : TankId) (hE : e.offline = v) : (e.tankMiss k).offline = v := by
  simp only [Ev.tankMiss]
  repeat' (first | with_reducible assumption | with_reducible apply Ev.modTank_offline | with_reducible apply Ev.setHealth_offline | with_reducible apply Ev.loseTank_offline | with_reducible intro _ | split | rfl | exact ⟨rfl, rfl⟩ | exact ⟨rfl, rfl, rfl⟩)
theorem Ev.thresholds_offline {v : OfflineView} {e : Ev} (k : TankId) (hE : e.offline = v) : (e.thresholds k).offline = v := by
  simp only [Ev.thresholds]
  repeat' (first | with_reducible assumption | with_reducible apply Ev.setHealth_offline | with_reducible apply Ev.loseTank_offline | with_reducible intro _ | split | rfl | exact ⟨rfl, rfl⟩ | exact ⟨rfl, rfl, rfl⟩)
theorem Ev.setOutcome_offline {v : OfflineView} {e : Ev} (slot : Nat) (o : SlotOutcome) (hE : e.offline = v) : (e.setOutcome slot o).offline = v := by
  simp only [Ev.setOutcome]
  repeat' (first | with_reducible assumption | with_reducible apply Ev.modLink_offline | with_reducible intro _ | split | rfl | exact ⟨rfl, rfl⟩ | exact ⟨rfl, rfl, rfl⟩)
theorem Ev.closePoll_offline {v : OfflineView} {e : Ev} (p : Poll) (o : SlotOutcome) (hE : e.offline = v) : (e.closePoll p o).offline = v := by
  simp only [Ev.closePoll]
  repeat' (first | with_reducible assumption | with_reducible apply Ev.modLink_offline | with_reducible apply Ev.setOutcome_offline | with_reducible intro _ | split | rfl | exact ⟨rfl, rfl⟩ | exact ⟨rfl, rfl, rfl⟩)
theorem Ev.missPoll_offline {v : OfflineView} {e : Ev} (p : Poll) (o : SlotOutcome) (hE : e.offline = v) : (e.missPoll p o).offline = v := by
  simp only [Ev.missPoll]
  repeat' (first | with_reducible assumption | with_reducible apply Ev.panelMiss_offline | with_reducible apply Ev.tankMiss_offline | with_reducible apply Ev.closePoll_offline | with_reducible intro _ | split | rfl | exact ⟨rfl, rfl⟩ | exact ⟨rfl, rfl, rfl⟩)
theorem Ev.badFrame_offline {v : OfflineView} {e : Ev} (o : SlotOutcome) (hE : e.offline = v) : (e.badFrame o).offline = v := by
  simp only [Ev.badFrame]
  repeat' (first | with_reducible assumption | with_reducible apply Ev.missPoll_offline | with_reducible intro _ | split | rfl | exact ⟨rfl, rfl⟩ | exact ⟨rfl, rfl, rfl⟩)
theorem Ev.replyTimeout_offline {v : OfflineView} {e : Ev} (panel : Bool) (hE : e.offline = v) : (e.replyTimeout panel).offline = v := by
  simp only [Ev.replyTimeout]
  repeat' (first | with_reducible assumption | with_reducible apply Ev.missPoll_offline | with_reducible intro _ | split | rfl | exact ⟨rfl, rfl⟩ | exact ⟨rfl, rfl, rfl⟩)
theorem Ev.tankFrame_offline {v : OfflineView} {e : Ev} (k : TankId) (onRead onDeclare : Poll → Ev → Ev)
    (h1 : ∀ p x, x.offline = v → (onRead p x).offline = v) (h2 : ∀ p x, x.offline = v → (onDeclare p x).offline = v)
    (hE : e.offline = v) : (e.tankFrame k onRead onDeclare).offline = v := by
  unfold Ev.tankFrame
  (repeat' split) <;> first | exact hE | exact h1 _ _ hE | exact h2 _ _ hE | exact Ev.missPoll_offline _ _ hE
theorem Ev.panelFrame_offline {v : OfflineView} {e : Ev} (p : PanelReply) (hE : e.offline = v) : (e.panelFrame p).offline = v := by
  simp only [Ev.panelFrame]
  repeat' (first | with_reducible assumption | with_reducible apply Ev.panelReply_offline | with_reducible apply Ev.closePoll_offline | with_reducible apply Ev.missPoll_offline | with_reducible intro _ | split | rfl | exact ⟨rfl, rfl⟩ | exact ⟨rfl, rfl, rfl⟩)
theorem Ev.storeDeclaration_offline {v : OfflineView} {e : Ev} (k : TankId) (d : Option Declaration) (hE : e.offline = v) : (e.storeDeclaration k d).offline = v := by
  simp only [Ev.storeDeclaration]
  repeat' (first | with_reducible assumption | with_reducible apply Ev.modPred_offline | with_reducible apply Ev.modTank_offline | with_reducible apply Ev.setHealth_offline | with_reducible intro _ | split | rfl | exact ⟨rfl, rfl⟩ | exact ⟨rfl, rfl, rfl⟩)
theorem Ev.declared_offline {v : OfflineView} {e : Ev} (k : TankId) (d : WireDeclaration) (hE : e.offline = v) : (e.declared k d).offline = v := by
  simp only [Ev.declared]
  repeat' (first | with_reducible assumption | with_reducible apply Ev.tripHolder_offline | with_reducible apply Ev.storeDeclaration_offline | with_reducible intro _ | split | rfl | exact ⟨rfl, rfl⟩ | exact ⟨rfl, rfl, rfl⟩)
theorem Ev.redeclared_offline {v : OfflineView} {e : Ev} (k : TankId) (d : WireDeclaration) (hE : e.offline = v) : (e.redeclared k d).offline = v := by
  simp only [Ev.redeclared]
  repeat' (first | with_reducible assumption | with_reducible apply Ev.modTank_offline | with_reducible apply Ev.tripHolder_offline | with_reducible apply Ev.storeDeclaration_offline | with_reducible intro _ | split | rfl | exact ⟨rfl, rfl⟩ | exact ⟨rfl, rfl, rfl⟩)
theorem Ev.declarationFrame_offline {v : OfflineView} {e : Ev} (k : TankId) (d : WireDeclaration) (hE : e.offline = v) : (e.declarationFrame k d).offline = v := by
  simp only [Ev.declarationFrame]
  repeat' (first | with_reducible assumption | with_reducible apply Ev.closePoll_offline | with_reducible apply Ev.tankFrame_offline | with_reducible apply Ev.declared_offline | with_reducible apply Ev.redeclared_offline | with_reducible intro _ | split | rfl | exact ⟨rfl, rfl⟩ | exact ⟨rfl, rfl, rfl⟩)
theorem Ev.refused_offline {v : OfflineView} {e : Ev} (k : TankId) (hE : e.offline = v) : (e.refused k).offline = v := by
  simp only [Ev.refused]
  repeat' (first | with_reducible assumption | with_reducible apply Ev.setHealth_offline | with_reducible apply Ev.tripHolder_offline | with_reducible intro _ | split | rfl | exact ⟨rfl, rfl⟩ | exact ⟨rfl, rfl, rfl⟩)
theorem Ev.changeoverTests_offline {v : OfflineView} {e : Ev} (l : LineId) (hE : e.offline = v) : (e.changeoverTests l).offline = v := by
  simp only [Ev.changeoverTests]
  repeat' (first | with_reducible assumption | with_reducible apply Ev.overrunTest_offline | with_reducible apply Ev.successTest_offline | with_reducible intro _ | split | rfl | exact ⟨rfl, rfl⟩ | exact ⟨rfl, rfl, rfl⟩)
theorem Ev.handOn_offline {v : OfflineView} {e : Ev} (k : TankId) (l : LineId) (level : Nat) (advance : Bool) (hE : e.offline = v) : (e.handOn k l level advance).offline = v := by
  simp only [Ev.handOn]
  repeat' (first | with_reducible assumption | with_reducible apply Ev.modPred_offline | with_reducible apply Ev.modFlow_offline | with_reducible apply Ev.modTank_offline | with_reducible apply Ev.closeStartTest_offline | with_reducible apply Ev.evaluateMarks_offline | with_reducible apply Ev.provingTest_offline | with_reducible apply Ev.changeoverTests_offline | with_reducible intro _ | split | rfl | exact ⟨rfl, rfl⟩ | exact ⟨rfl, rfl, rfl⟩)
theorem Ev.highAlarmActs_offline {v : OfflineView} {e : Ev} (k : TankId) (was : Bool) (hE : e.offline = v) : (e.highAlarmActs k was).offline = v := by
  simp only [Ev.highAlarmActs]
  repeat' (first | with_reducible assumption | with_reducible apply Ev.trip_offline | with_reducible intro _ | split | rfl | exact ⟨rfl, rfl⟩ | exact ⟨rfl, rfl, rfl⟩)
theorem Ev.takeReading_offline {v : OfflineView} {e : Ev} (p : Poll) (k : TankId) (toggle high overfull fault : Bool) (level : Nat) (hE : e.offline = v) : (e.takeReading p k toggle high overfull fault level).offline = v := by
  simp only [Ev.takeReading]
  repeat' (first | with_reducible assumption | with_reducible apply Ev.modTank_offline | with_reducible apply Ev.markIf_offline | with_reducible apply Ev.raiseCause_offline | with_reducible apply Ev.tankMiss_offline | with_reducible apply Ev.closePoll_offline | with_reducible apply Ev.handOn_offline | with_reducible apply Ev.highAlarmActs_offline | with_reducible intro _ | split | rfl | exact ⟨rfl, rfl⟩ | exact ⟨rfl, rfl, rfl⟩)
theorem Ev.readingFrame_offline {v : OfflineView} {e : Ev} (k : TankId) (toggle : Nat) (flags : Byte) (level : Nat) (hE : e.offline = v) : (e.readingFrame k toggle flags level).offline = v := by
  simp only [Ev.readingFrame]
  repeat' (first | with_reducible assumption | with_reducible apply Ev.raiseCause_offline | with_reducible apply Ev.closePoll_offline | with_reducible apply Ev.missPoll_offline | with_reducible apply Ev.tankFrame_offline | with_reducible apply Ev.takeReading_offline | with_reducible intro _ | split | rfl | exact ⟨rfl, rfl⟩ | exact ⟨rfl, rfl, rfl⟩)
theorem Ev.sendPanelPoll_offline {v : OfflineView} {e : Ev} (hE : e.offline = v) : (e.sendPanelPoll ).offline = v := by
  simp only [Ev.sendPanelPoll]
  repeat' (first | with_reducible assumption | with_reducible apply Ev.modLink_offline | with_reducible intro _ | split | rfl | exact ⟨rfl, rfl⟩ | exact ⟨rfl, rfl, rfl⟩)
theorem Ev.sendTankPoll_offline {v : OfflineView} {e : Ev} (slot : Nat) (hE : e.offline = v) : (e.sendTankPoll slot).offline = v := by
  simp only [Ev.sendTankPoll]
  repeat' (first | with_reducible assumption | with_reducible apply Ev.modLink_offline | with_reducible intro _ | split | rfl | exact ⟨rfl, rfl⟩ | exact ⟨rfl, rfl, rfl⟩)
theorem Ev.markerLine_offline {v : OfflineView} {e : Ev} (l : LineId) (hE : e.offline = v) : (e.markerLine l).offline = v := by
  simp only [Ev.markerLine]
  repeat' (first | with_reducible assumption | with_reducible apply Ev.closeStartTest_offline | with_reducible apply Ev.evaluateMarks_offline | with_reducible apply Ev.overrunTest_offline | with_reducible intro _ | split | rfl | exact ⟨rfl, rfl⟩ | exact ⟨rfl, rfl, rfl⟩)
theorem Ev.marker_offline {v : OfflineView} {e : Ev} (hE : e.offline = v) : (e.marker ).offline = v := by
  simp only [Ev.marker]
  repeat' (first | with_reducible assumption | with_reducible apply Ev.modLink_offline | with_reducible apply Ev.eachLine_offline | with_reducible apply Ev.eachTank_offline | with_reducible apply Ev.makeSchedule_offline | with_reducible apply Ev.thresholds_offline | with_reducible apply Ev.markerLine_offline | with_reducible intro _ | split | rfl | exact ⟨rfl, rfl⟩ | exact ⟨rfl, rfl, rfl⟩)

/-! ### The queue of commands under the requests -/

theorem Ev.modLine_pending' {v : List Instr} {e : Ev} (l : LineId) (f : LineRec → LineRec) (hE : e.pending = v) :
    (e.modLine l f).pending = v := hE
theorem Ev.setList_pending' {v : List Instr} {e : Ev} (l : LineId) (ks : List TankId) (hE : e.pending = v) :
    (e.setList l ks).pending = v := hE
theorem Ev.modPred_pending' {v : List Instr} {e : Ev} (l : LineId) (f : Predictor → Predictor) (hE : e.pending = v) :
    (e.modPred l f).pending = v := hE
theorem Ev.setClose_pending' {v : List Instr} {e : Ev} (l : LineId) (c : Option CloseRec) (hE : e.pending = v) :
    (e.setClose l c).pending = v := hE
theorem Ev.modClose_pending' {v : List Instr} {e : Ev} (l : LineId) (f : CloseRec → CloseRec) (hE : e.pending = v) :
    (e.modClose l f).pending = v := hE
theorem Ev.modFlow_pending' {v : List Instr} {e : Ev} (l : LineId) (f : Flow → Flow) (hE : e.pending = v) :
    (e.modFlow l f).pending = v := hE
theorem Ev.modValve_pending' {v : List Instr} {e : Ev} (l : LineId) (f : Valve → Valve) (hE : e.pending = v) :
    (e.modValve l f).pending = v := hE
theorem Ev.modTank_pending' {v : List Instr} {e : Ev} (k : TankId) (f : Tank → Tank) (hE : e.pending = v) :
    (e.modTank k f).pending = v := hE
theorem Ev.modGrade_pending' {v : List Instr} {e : Ev} (g : GradeId) (f : Grade → Grade) (hE : e.pending = v) :
    (e.modGrade g f).pending = v := hE
theorem Ev.modLink_pending' {v : List Instr} {e : Ev} (f : Link → Link) (hE : e.pending = v) :
    (e.modLink f).pending = v := hE
theorem Ev.modShut_pending' {v : List Instr} {e : Ev} (f : Shutdown → Shutdown) (hE : e.pending = v) :
    (e.modShut f).pending = v := hE
theorem Ev.modSupply_pending' {v : List Instr} {e : Ev} (f : Supply → Supply) (hE : e.pending = v) :
    (e.modSupply f).pending = v := hE
theorem Ev.report_pending' {v : List Instr} {e : Ev} (r : Report) (hE : e.pending = v) :
    (e.report r).pending = v := hE
theorem Ev.mark_pending' {v : List Instr} {e : Ev} (k : NoticeKey) (hE : e.pending = v) :
    (e.mark k).pending = v := by
  unfold Ev.mark; split <;> exact hE
theorem Ev.markIf_pending' {v : List Instr} {e : Ev} (c : Bool) (k : NoticeKey) (hE : e.pending = v) :
    (e.markIf c k).pending = v := by
  cases c <;> simp only [Ev.markIf] <;> first | exact hE | exact Ev.mark_pending' _ hE
theorem Ev.modChan_pending' {v : List Instr} {e : Ev} (c : ChanId) (f : Channel → Channel) (hE : e.pending = v) :
    (e.modChan c f).pending = v := by cases c <;> exact hE
theorem Ev.eachLine_pending' {v : List Instr} {e : Ev} (f : LineId → Ev → Ev) (hf : ∀ l x, x.pending = v → (f l x).pending = v)
    (hE : e.pending = v) : (e.eachLine f).pending = v := by
  simp only [Ev.eachLine, allLines, List.foldl]
  exact hf _ _ (hf _ _ (hf _ _ (hf _ _ hE)))
theorem Ev.eachTank_pending' {v : List Instr} (ks : List TankId) {e : Ev} (f : TankId → Ev → Ev)
    (hf : ∀ k x, x.pending = v → (f k x).pending = v) (hE : e.pending = v) : (e.eachTank ks f).pending = v := by
  unfold Ev.eachTank
  induction ks generalizing e with
  | nil => exact hE
  | cons k ks ih => exact ih (hf k e hE)
theorem Ev.considerGrants_pending' {v : List Instr} {e : Ev} (hE : e.pending = v) : e.considerGrants.pending = v :=
  (congrArg (fun g : Ground => g.port.pending) (Ev.considerGrants_ground e)).trans hE
theorem Ev.setUse_pending' {v : List Instr} {e : Ev} (k : TankId) (u : TankUse) (hE : e.pending = v) : (e.setUse k u).pending = v := (congrArg (fun g : Ground => g.port.pending) (Ev.setUse_ground _ k u)).trans hE
theorem Ev.credit_pending' {v : List Instr} {e : Ev} (k : TankId) (litres : Nat) (hE : e.pending = v) : (e.credit k litres).pending = v := (congrArg (fun g : Ground => g.port.pending) (Ev.credit_ground _ k litres)).trans hE
theorem Ev.zeroAccount_pending' {v : List Instr} {e : Ev} (l : LineId) (hE : e.pending = v) : (e.zeroAccount l).pending = v := (congrArg (fun g : Ground => g.port.pending) (Ev.zeroAccount_ground _ l)).trans hE
theorem Ev.settleComplete_pending' {v : List Instr} {e : Ev} (l : LineId) (hE : e.pending = v) : (e.settleComplete l).pending = v := (congrArg (fun g : Ground => g.port.pending) (Ev.settleComplete_ground _ l)).trans hE
theorem Ev.settleCleared_pending' {v : List Instr} {e : Ev} (l : LineId) (hE : e.pending = v) : (e.settleCleared l).pending = v := (congrArg (fun g : Ground => g.port.pending) (Ev.settleCleared_ground _ l)).trans hE
theorem Ev.evalPermit_pending' {v : List Instr} {e : Ev} (p : PumpId) (hE : e.pending = v) : (e.evalPermit p).pending = v := (congrArg (fun g : Ground => g.port.pending) (Ev.evalPermit_ground _ p)).trans hE
theorem Ev.evalPermitOf_pending' {v : List Instr} {e : Ev} (l : LineId) (hE : e.pending = v) : (e.evalPermitOf l).pending = v := (congrArg (fun g : Ground => g.port.pending) (Ev.evalPermitOf_ground _ l)).trans hE
theorem Ev.setState_pending' {v : List Instr} {e : Ev} (l : LineId) (st : LineState) (hE : e.pending = v) : (e.setState l st).pending = v := (congrArg (fun g : Ground => g.port.pending) (Ev.setState_ground _ l st)).trans hE
theorem Ev.setSurge_pending' {v : List Instr} {e : Ev} (l : LineId) (b : Bool) (hE : e.pending = v) : (e.setSurge l b).pending = v := (congrArg (fun g : Ground => g.port.pending) (Ev.setSurge_ground _ l b)).trans hE
theorem Ev.setLate_pending' {v : List Instr} {e : Ev} (l : LineId) (b : Bool) (hE : e.pending = v) : (e.setLate l b).pending = v := (congrArg (fun g : Ground => g.port.pending) (Ev.setLate_ground _ l b)).trans hE
theorem Ev.setQuiet_pending' {v : List Instr} {e : Ev} (l : LineId) (b : Bool) (hE : e.pending = v) : (e.setQuiet l b).pending = v := (congrArg (fun g : Ground => g.port.pending) (Ev.setQuiet_ground _ l b)).trans hE
theorem Ev.setPressureFault_pending' {v : List Instr} {e : Ev} (l : LineId) (b : Bool) (hE : e.pending = v) : (e.setPressureFault l b).pending = v := by
  simp only [Ev.setPressureFault]
  repeat' (first | with_reducible assumption | with_reducible apply Ev.modFlow_pending' | with_reducible apply Ev.markIf_pending' | with_reducible intro _ | split | rfl | exact ⟨rfl, rfl⟩ | exact ⟨rfl, rfl, rfl⟩)
theorem Ev.setFeedbackFault_pending' {v : List Instr} {e : Ev} (l : LineId) (b : Bool) (hE : e.pending = v) : (e.setFeedbackFault l b).pending = v := by
  simp only [Ev.setFeedbackFault]
  repeat' (first | with_reducible assumption | with_reducible apply Ev.modValve_pending' | with_reducible apply Ev.markIf_pending' | with_reducible intro _ | split | rfl | exact ⟨rfl, rfl⟩ | exact ⟨rfl, rfl, rfl⟩)
theorem Ev.updatePump_pending' {v : List Instr} {e : Ev} (hE : e.pending = v) : (e.updatePump ).pending = v := (congrArg (fun g : Ground => g.port.pending) (Ev.updatePump_ground _ )).trans hE
theorem Ev.freeChannel_pending' {v : List Instr} {e : Ev} (l : LineId) (hE : e.pending = v) : (e.freeChannel l).pending = v := (congrArg (fun g : Ground => g.port.pending) (Ev.freeChannel_ground _ l)).trans hE
theorem Ev.grant_pending' {v : List Instr} {e : Ev} (l : LineId) (r : StrokeReq) (c : ChanId) (hE : e.pending = v) : (e.grant l r c).pending = v := (congrArg (fun g : Ground => g.port.pending) (Ev.grant_ground _ l r c)).trans hE

theorem Ev.endStroke_pending' {v : List Instr} {e : Ev} (l : LineId) (o : StrokeOutcome) (hE : e.pending = v) : (e.endStroke l o).pending = v := (congrArg (fun g : Ground => g.port.pending) (Ev.endStroke_ground _ l o)).trans hE
theorem Ev.dropWork_pending' {v : List Instr} {e : Ev} (l : LineId) (hE : e.pending = v) : (e.dropWork l).pending = v := (congrArg (fun g : Ground => g.port.pending) (Ev.dropWork_ground _ l)).trans hE
theorem Ev.cancelWork_pending' {v : List Instr} {e : Ev} (l : LineId) (hE : e.pending = v) : (e.cancelWork l).pending = v := (congrArg (fun g : Ground => g.port.pending) (Ev.cancelWork_ground _ l)).trans hE
theorem Ev.cancelAllWork_pending' {v : List Instr} {e : Ev} (hE : e.pending = v) : (e.cancelAllWork ).pending = v := (congrArg (fun g : Ground => g.port.pending) (Ev.cancelAllWork_ground _ )).trans hE
theorem Ev.failStroke_pending' {v : List Instr} {e : Ev} (l : LineId) (o : StrokeOutcome) (hE : e.pending = v) : (e.failStroke l o).pending = v := (congrArg (fun g : Ground => g.port.pending) (Ev.failStroke_ground _ l o)).trans hE
theorem Ev.enqueue_pending' {v : List Instr} {e : Ev} (l : LineId) (r : StrokeReq) (hE : e.pending = v) : (e.enqueue l r).pending = v := (congrArg (fun g : Ground => g.port.pending) (Ev.enqueue_ground _ l r)).trans hE
theorem Ev.requestStroke_pending' {v : List Instr} {e : Ev} (l : LineId) (cls : StrokeClass) (target : Nat) (retry : Bool) (hE : e.pending = v) : (e.requestStroke l cls target retry).pending = v := (congrArg (fun g : Ground => g.port.pending) (Ev.requestStroke_ground _ l cls target retry)).trans hE
theorem Ev.pauseAll_pending' {v : List Instr} {e : Ev} (paused : Bool) (hE : e.pending = v) : (e.pauseAll paused).pending = v := (congrArg (fun g : Ground => g.port.pending) (Ev.pauseAll_ground _ paused)).trans hE
theorem Ev.beginTravel_pending' {v : List Instr} {e : Ev} (l : LineId) (k : Stroke) (hE : e.pending = v) : (e.beginTravel l k).pending = v := (congrArg (fun g : Ground => g.port.pending) (Ev.beginTravel_ground _ l k)).trans hE
theorem Ev.arrive_pending' {v : List Instr} {e : Ev} (l : LineId) (k : Stroke) (target : Nat) (hE : e.pending = v) : (e.arrive l k target).pending = v := (congrArg (fun g : Ground => g.port.pending) (Ev.arrive_ground _ l k target)).trans hE
theorem Ev.takeSample_pending' {v : List Instr} {e : Ev} (l : LineId) (pos : Nat) (hE : e.pending = v) : (e.takeSample l pos).pending = v := by
  simp only [Ev.takeSample]
  repeat' (first | with_reducible assumption | with_reducible apply Ev.modValve_pending' | with_reducible apply Ev.arrive_pending' | with_reducible intro _ | split | rfl | exact ⟨rfl, rfl⟩ | exact ⟨rfl, rfl, rfl⟩)
theorem Ev.closedActive_pending' {v : List Instr} {e : Ev} (l : LineId) (hE : e.pending = v) : (e.closedActive l).pending = v := (congrArg (fun g : Ground => g.port.pending) (Ev.closedActive_ground _ l)).trans hE
theorem Ev.openActive_pending' {v : List Instr} {e : Ev} (l : LineId) (hE : e.pending = v) : (e.openActive l).pending = v := (congrArg (fun g : Ground => g.port.pending) (Ev.openActive_ground _ l)).trans hE
theorem Ev.setBand_pending' {v : List Instr} {e : Ev} (hE : e.pending = v) : (e.setBand ).pending = v := by
  simp only [Ev.setBand]
  repeat' (first | with_reducible assumption | with_reducible apply Ev.modSupply_pending' | with_reducible apply Ev.mark_pending' | with_reducible apply Ev.updatePump_pending' | with_reducible apply Ev.pauseAll_pending' | with_reducible intro _ | split | rfl | exact ⟨rfl, rfl⟩ | exact ⟨rfl, rfl, rfl⟩)
theorem Ev.clearPred_pending' {v : List Instr} {e : Ev} (l : LineId) (hE : e.pending = v) : (e.clearPred l).pending = v := (congrArg (fun g : Ground => g.port.pending) (Ev.clearPred_ground _ l)).trans hE
theorem Ev.settleArrival_pending' {v : List Instr} {e : Ev} (l : LineId) (target : Nat) (hE : e.pending = v) : (e.settleArrival l target).pending = v := (congrArg (fun g : Ground => g.port.pending) (Ev.settleArrival_ground _ l target)).trans hE
theorem Ev.writeTrip_pending' {v : List Instr} {e : Ev} (l : LineId) (cause : TripCause) (hE : e.pending = v) : (e.writeTrip l cause).pending = v := (congrArg (fun g : Ground => g.port.pending) (Ev.writeTrip_ground _ l cause)).trans hE
theorem Ev.changeoverExit_pending' {v : List Instr} {e : Ev} (l : LineId) (reason : CloseReason) (hE : e.pending = v) : (e.changeoverExit l reason).pending = v := (congrArg (fun g : Ground => g.port.pending) (Ev.changeoverExit_ground _ l reason)).trans hE
theorem Ev.closeEntry_pending' {v : List Instr} {e : Ev} (l : LineId) (reason : CloseReason) (hold : Option HoldReason) (cause : Option TripCause) (hE : e.pending = v) : (e.closeEntry l reason hold cause).pending = v := (congrArg (fun g : Ground => g.port.pending) (Ev.closeEntry_ground _ l reason hold cause)).trans hE
theorem Ev.retripClosing_pending' {v : List Instr} {e : Ev} (l : LineId) (reason : CloseReason) (cause : TripCause) (hE : e.pending = v) : (e.retripClosing l reason cause).pending = v := (congrArg (fun g : Ground => g.port.pending) (Ev.retripClosing_ground _ l reason cause)).trans hE
theorem Ev.trip_pending' {v : List Instr} {e : Ev} (l : LineId) (cause : TripCause) (hE : e.pending = v) : (e.trip l cause).pending = v := (congrArg (fun g : Ground => g.port.pending) (Ev.trip_ground _ l cause)).trans hE
theorem Ev.tripHolder_pending' {v : List Instr} {e : Ev} (k : TankId) (cause : TripCause) (hE : e.pending = v) : (e.tripHolder k cause).pending = v := (congrArg (fun g : Ground => g.port.pending) (Ev.tripHolder_ground _ k cause)).trans hE
theorem Ev.dropClose_pending' {v : List Instr} {e : Ev} (l : LineId) (hE : e.pending = v) : (e.dropClose l).pending = v := (congrArg (fun g : Ground => g.port.pending) (Ev.dropClose_ground _ l)).trans hE
theorem Ev.closeEnd_pending' {v : List Instr} {e : Ev} (l : LineId) (hE : e.pending = v) : (e.closeEnd l).pending = v := (congrArg (fun g : Ground => g.port.pending) (Ev.closeEnd_ground _ l)).trans hE
theorem Ev.enterStarting_pending' {v : List Instr} {e : Ev} (l : LineId) (hE : e.pending = v) : (e.enterStarting l).pending = v := (congrArg (fun g : Ground => g.port.pending) (Ev.enterStarting_ground _ l)).trans hE
theorem Ev.enterProving_pending' {v : List Instr} {e : Ev} (l : LineId) (hE : e.pending = v) : (e.enterProving l).pending = v := (congrArg (fun g : Ground => g.port.pending) (Ev.enterProving_ground _ l)).trans hE
theorem Ev.throttleTo_pending' {v : List Instr} {e : Ev} (l : LineId) (pos : Nat) (hE : e.pending = v) : (e.throttleTo l pos).pending = v := (congrArg (fun g : Ground => g.port.pending) (Ev.throttleTo_ground _ l pos)).trans hE
theorem Ev.closeStartTest_pending' {v : List Instr} {e : Ev} (l : LineId) (hE : e.pending = v) : (e.closeStartTest l).pending = v := (congrArg (fun g : Ground => g.port.pending) (Ev.closeStartTest_ground _ l)).trans hE
theorem Ev.enterTopping_pending' {v : List Instr} {e : Ev} (l : LineId) (hE : e.pending = v) : (e.enterTopping l).pending = v := (congrArg (fun g : Ground => g.port.pending) (Ev.enterTopping_ground _ l)).trans hE
theorem Ev.enterChangeover_pending' {v : List Instr} {e : Ev} (l : LineId) (k : TankId) (hE : e.pending = v) : (e.enterChangeover l k).pending = v := (congrArg (fun g : Ground => g.port.pending) (Ev.enterChangeover_ground _ l k)).trans hE
theorem Ev.evaluateMarks_pending' {v : List Instr} {e : Ev} (l : LineId) (hE : e.pending = v) : (e.evaluateMarks l).pending = v := (congrArg (fun g : Ground => g.port.pending) (Ev.evaluateMarks_ground _ l)).trans hE
theorem Ev.overrunTest_pending' {v : List Instr} {e : Ev} (l : LineId) (hE : e.pending = v) : (e.overrunTest l).pending = v := (congrArg (fun g : Ground => g.port.pending) (Ev.overrunTest_ground _ l)).trans hE
theorem Ev.changeoverSuccess_pending' {v : List Instr} {e : Ev} (l : LineId) (old new : TankId) (hE : e.pending = v) : (e.changeoverSuccess l old new).pending = v := (congrArg (fun g : Ground => g.port.pending) (Ev.changeoverSuccess_ground _ l old new)).trans hE
theorem Ev.successTest_pending' {v : List Instr} {e : Ev} (l : LineId) (hE : e.pending = v) : (e.successTest l).pending = v := (congrArg (fun g : Ground => g.port.pending) (Ev.successTest_ground _ l)).trans hE
theorem Ev.provingTest_pending' {v : List Instr} {e : Ev} (l : LineId) (k : TankId) (level : Nat) (hE : e.pending = v) : (e.provingTest l k level).pending = v := (congrArg (fun g : Ground => g.port.pending) (Ev.provingTest_ground _ l k level)).trans hE
theorem Ev.esdToLine_pending' {v : List Instr} {e : Ev} (l : LineId) (hE : e.pending = v) : (e.esdToLine l).pending = v := (congrArg (fun g : Ground => g.port.pending) (Ev.esdToLine_ground _ l)).trans hE
theorem Ev.raiseCause_pending' {v : List Instr} {e : Ev} (c : EsdCause) (hE : e.pending = v) : (e.raiseCause c).pending = v := (congrArg (fun g : Ground => g.port.pending) (Ev.raiseCause_ground _ c)).trans hE
theorem Ev.raiseValve_pending' {v : List Instr} {e : Ev} (l : LineId) (hE : e.pending = v) : (e.raiseValve l).pending = v := (congrArg (fun g : Ground => g.port.pending) (Ev.raiseValve_ground _ l)).trans hE
theorem Ev.requestStage_pending' {v : List Instr} {e : Ev} (l : LineId) (k : Nat) (hE : e.pending = v) : (e.requestStage l k).pending = v := (congrArg (fun g : Ground => g.port.pending) (Ev.requestStage_ground _ l k)).trans hE
theorem Ev.startPlan_pending' {v : List Instr} {e : Ev} (l : LineId) (hE : e.pending = v) : (e.startPlan l).pending = v := (congrArg (fun g : Ground => g.port.pending) (Ev.startPlan_ground _ l)).trans hE
theorem Ev.endRunDown_pending' {v : List Instr} {e : Ev} (l : LineId) (cause : RunDownEnd) (hE : e.pending = v) : (e.endRunDown l cause).pending = v := (congrArg (fun g : Ground => g.port.pending) (Ev.endRunDown_ground _ l cause)).trans hE
theorem Ev.decideClose_pending' {v : List Instr} {e : Ev} (l : LineId) (hE : e.pending = v) : (e.decideClose l).pending = v := (congrArg (fun g : Ground => g.port.pending) (Ev.decideClose_ground _ l)).trans hE
theorem Ev.plannerArrived_pending' {v : List Instr} {e : Ev} (l : LineId) (target : Nat) (hE : e.pending = v) : (e.plannerArrived l target).pending = v := (congrArg (fun g : Ground => g.port.pending) (Ev.plannerArrived_ground _ l target)).trans hE
theorem Ev.nextStage_pending' {v : List Instr} {e : Ev} (l : LineId) (hE : e.pending = v) : (e.nextStage l).pending = v := (congrArg (fun g : Ground => g.port.pending) (Ev.nextStage_ground _ l)).trans hE
theorem Ev.plannerEnded_pending' {v : List Instr} {e : Ev} (l : LineId) (hE : e.pending = v) : (e.plannerEnded l).pending = v := (congrArg (fun g : Ground => g.port.pending) (Ev.plannerEnded_ground _ l)).trans hE
theorem Ev.retryStage_pending' {v : List Instr} {e : Ev} (l : LineId) (hE : e.pending = v) : (e.retryStage l).pending = v := (congrArg (fun g : Ground => g.port.pending) (Ev.retryStage_ground _ l)).trans hE
theorem Ev.abandonClose_pending' {v : List Instr} {e : Ev} (l : LineId) (hE : e.pending = v) : (e.abandonClose l).pending = v := (congrArg (fun g : Ground => g.port.pending) (Ev.abandonClose_ground _ l)).trans hE
theorem Ev.plannerFailed_pending' {v : List Instr} {e : Ev} (l : LineId) (hE : e.pending = v) : (e.plannerFailed l).pending = v := (congrArg (fun g : Ground => g.port.pending) (Ev.plannerFailed_ground _ l)).trans hE
theorem Ev.plannerSeated_pending' {v : List Instr} {e : Ev} (l : LineId) (hE : e.pending = v) : (e.plannerSeated l).pending = v := (congrArg (fun g : Ground => g.port.pending) (Ev.plannerSeated_ground _ l)).trans hE
theorem Ev.retryWaiting_pending' {v : List Instr} {e : Ev} (l : LineId) (hE : e.pending = v) : (e.retryWaiting l).pending = v := (congrArg (fun g : Ground => g.port.pending) (Ev.retryWaiting_ground _ l)).trans hE
theorem Ev.bandEvent_pending' {v : List Instr} {e : Ev} (hE : e.pending = v) : (e.bandEvent ).pending = v := by
  simp only [Ev.bandEvent]
  repeat' (first | with_reducible assumption | with_reducible apply Ev.eachLine_pending' | with_reducible apply Ev.considerGrants_pending' | with_reducible apply Ev.setBand_pending' | with_reducible apply Ev.retryWaiting_pending' | with_reducible intro _ | split | rfl | exact ⟨rfl, rfl⟩ | exact ⟨rfl, rfl, rfl⟩)
theorem Ev.acceptProfile_pending' {v : List Instr} {e : Ev} (l : LineId) (p : LineProfile) (hE : e.pending = v) : (e.acceptProfile l p).pending = v := by
  simp only [Ev.acceptProfile]
  repeat' (first | with_reducible assumption | with_reducible apply Ev.modLine_pending' | with_reducible apply Ev.modValve_pending' | with_reducible apply Ev.zeroAccount_pending' | with_reducible apply Ev.setState_pending' | with_reducible apply Ev.closeEntry_pending' | with_reducible apply Ev.trip_pending' | with_reducible intro _ | split | rfl | exact ⟨rfl, rfl⟩ | exact ⟨rfl, rfl, rfl⟩)
theorem Ev.dropDoneFront_pending' {v : List Instr} {e : Ev} (l : LineId) (hE : e.pending = v) : (e.dropDoneFront l).pending = v := by
  simp only [Ev.dropDoneFront]
  repeat' (first | with_reducible assumption | with_reducible apply Ev.setList_pending' | with_reducible intro _ | split | rfl | exact ⟨rfl, rfl⟩ | exact ⟨rfl, rfl, rfl⟩)
theorem Ev.completeHeld_pending' {v : List Instr} {e : Ev} (l : LineId) (hE : e.pending = v) : (e.completeHeld l).pending = v := by
  simp only [Ev.completeHeld]
  repeat' (first | with_reducible assumption | with_reducible apply Ev.modLine_pending' | with_reducible apply Ev.settleComplete_pending' | with_reducible apply Ev.setState_pending' | with_reducible intro _ | split | rfl | exact ⟨rfl, rfl⟩ | exact ⟨rfl, rfl, rfl⟩)
theorem Ev.acceptOrder_pending' {v : List Instr} {e : Ev} (l : LineId) (ks : List TankId) (hE : e.pending = v) : (e.acceptOrder l ks).pending = v := by
  simp only [Ev.acceptOrder]
  repeat' (first | with_reducible assumption | with_reducible apply Ev.setList_pending' | with_reducible apply Ev.modTank_pending' | with_reducible apply Ev.eachTank_pending' | with_reducible apply Ev.setUse_pending' | with_reducible apply Ev.zeroAccount_pending' | with_reducible apply Ev.setState_pending' | with_reducible intro _ | split | rfl | exact ⟨rfl, rfl⟩ | exact ⟨rfl, rfl, rfl⟩)
theorem Ev.acceptGrade_pending' {v : List Instr} {e : Ev} (g : GradeId) (o : GradeOperands) (hE : e.pending = v) : (e.acceptGrade g o).pending = v := by
  simp only [Ev.acceptGrade]
  repeat' (first | with_reducible assumption | with_reducible apply Ev.modGrade_pending' | with_reducible apply Ev.mark_pending' | with_reducible intro _ | split | rfl | exact ⟨rfl, rfl⟩ | exact ⟨rfl, rfl, rfl⟩)
theorem Ev.acceptManual_pending' {v : List Instr} {e : Ev} (g : GradeId) (m : ManualOperands) (hE : e.pending = v) : (e.acceptManual g m).pending = v := by
  simp only [Ev.acceptManual]
  repeat' (first | with_reducible assumption | with_reducible apply Ev.modGrade_pending' | with_reducible apply Ev.mark_pending' | with_reducible intro _ | split | rfl | exact ⟨rfl, rfl⟩ | exact ⟨rfl, rfl, rfl⟩)
theorem Ev.resetLatch_pending' {v : List Instr} {e : Ev} (hE : e.pending = v) : (e.resetLatch ).pending = v := by
  simp only [Ev.resetLatch]
  repeat' (first | with_reducible assumption | with_reducible apply Ev.modShut_pending' | with_reducible apply Ev.mark_pending' | with_reducible apply Ev.evalPermit_pending' | with_reducible intro _ | split | rfl | exact ⟨rfl, rfl⟩ | exact ⟨rfl, rfl, rfl⟩)
theorem Ev.restartConsole_pending' {v : List Instr} {e : Ev} (hE : e.pending = v) : e.restartConsole.pending = v := hE
theorem Ev.restartLine_pending' {v : List Instr} {e : Ev} (l : LineId) (hE : e.pending = v) : (e.restartLine l).pending = v := by
  simp only [Ev.restartLine]
  repeat' (first | with_reducible assumption | with_reducible apply Ev.modLine_pending' | with_reducible apply Ev.setList_pending' | with_reducible apply Ev.setClose_pending' | with_reducible apply Ev.modFlow_pending' | with_reducible apply Ev.modValve_pending' | with_reducible apply Ev.zeroAccount_pending' | with_reducible apply Ev.setState_pending' | with_reducible apply Ev.setSurge_pending' | with_reducible apply Ev.setLate_pending' | with_reducible apply Ev.clearPred_pending' | with_reducible intro _ | split | rfl | exact ⟨rfl, rfl⟩ | exact ⟨rfl, rfl, rfl⟩)
theorem Ev.restartTank_pending' {v : List Instr} {e : Ev} (k : TankId) (hE : e.pending = v) : (e.restartTank k).pending = v := by
  simp only [Ev.restartTank]
  repeat' (first | with_reducible assumption | with_reducible apply Ev.modTank_pending' | with_reducible apply Ev.markIf_pending' | with_reducible intro _ | split | rfl | exact ⟨rfl, rfl⟩ | exact ⟨rfl, rfl, rfl⟩)
theorem Ev.gradeWaiting_pending' {v : List Instr} {e : Ev} (g : GradeId) (hE : e.pending = v) : (e.gradeWaiting g).pending = v := by
  unfold Ev.gradeWaiting; split <;> first | exact hE | exact Ev.markIf_pending' _ _ hE
theorem Ev.enterSilent_pending' {v : List Instr} {e : Ev} (hE : e.pending = v) : e.enterSilent.pending = v :=
  Ev.mark_pending' _ (Ev.gradeWaiting_pending' _ (Ev.gradeWaiting_pending' _ hE))
theorem Ev.restartLink_pending' {v : List Instr} {e : Ev} (hE : e.pending = v) : (e.restartLink ).pending = v := by
  simp only [Ev.restartLink]
  repeat' (first | with_reducible assumption | with_reducible apply Ev.modLink_pending' | with_reducible apply Ev.enterSilent_pending' | with_reducible intro _ | split | rfl | exact ⟨rfl, rfl⟩ | exact ⟨rfl, rfl, rfl⟩)
theorem Ev.restartGrade_pending' {v : List Instr} {e : Ev} (g : GradeId) (hE : e.pending = v) :
    (e.restartGrade g).pending = v := Ev.modGrade_pending' _ _ hE
theorem Ev.restartEffect_pending' {v : List Instr} {e : Ev} (hE : e.pending = v) : (e.restartEffect ).pending = v := by
  simp only [Ev.restartEffect]
  repeat' (first | with_reducible assumption | with_reducible apply Ev.markIf_pending' | with_reducible apply Ev.eachLine_pending' | with_reducible apply Ev.eachTank_pending' | with_reducible apply Ev.restartConsole_pending' | with_reducible apply Ev.restartLine_pending' | with_reducible apply Ev.restartTank_pending' | with_reducible apply Ev.restartLink_pending' | with_reducible apply Ev.restartGrade_pending' | with_reducible intro _ | split | rfl | exact ⟨rfl, rfl⟩ | exact ⟨rfl, rfl, rfl⟩)

end Sys2Proof.Machine
end

