-- ==== Sys2Proof/Laws/PerInstr.lean ====
section
/-! SUPPORT. What is true of every command as syntax, one lemma for each constructor: which commands are rows of requests, and
that such a row is well formed exactly when its request fits its payload. -/

namespace Sys2Proof

/-- The time, the tag and the request of a request's row; none for a command that is no request's row. -/
def Instr.request : Instr → Option (Time × Byte × Request)
  | .lineProfile t tag line p => some (t, tag, .lineProfile line p)
  | .gradeProfile t tag grade g => some (t, tag, .gradeProfile grade g)
  | .hpuProfile t tag h => some (t, tag, .hpuProfile h)
  | .fillOrder t tag line o => some (t, tag, .fillOrder line o)
  | .start t tag line => some (t, tag, .start line)
  | .hold t tag line => some (t, tag, .hold line)
  | .resume t tag line => some (t, tag, .resume line)
  | .stop t tag line => some (t, tag, .stop line)
  | .clearTrip t tag line => some (t, tag, .clearTrip line)
  | .esdStop t tag => some (t, tag, .esdStop)
  | .esdReset t tag => some (t, tag, .esdReset)
  | .renegotiate t tag => some (t, tag, .renegotiate)
  | .manualTerms t tag grade m => some (t, tag, .manualTerms grade m)
  | .restart t tag => some (t, tag, .restart)
  | .readLine t tag line => some (t, tag, .readLine line)
  | .readTrip t tag line => some (t, tag, .readTrip line)
  | .readTank t tag tank => some (t, tag, .readTank tank)
  | .readLink t tag => some (t, tag, .readLink)
  | .readHpu t tag => some (t, tag, .readHpu)
  | .readEsd t tag => some (t, tag, .readEsd)
  | .powerOn _ => none
  | .consoleFrameReceived _ _ _ _ => none
  | .consoleGapTimeout _ => none
  | .consoleFramingError _ => none
  | .transmitFrameEnd _ => none
  | .restartEffect _ => none
  | .marker _ => none
  | .panelSlotStart _ => none
  | .tankSlotStart _ _ => none
  | .panelReply _ _ _ _ => none
  | .panelReplyTimeout _ => none
  | .reading _ _ _ _ _ => none
  | .declaration _ _ _ => none
  | .declarationOnRead _ _ _ => none
  | .wait _ _ => none
  | .refuse _ _ => none
  | .shipBadCheck _ => none
  | .shipReplyUnlisted _ => none
  | .shipFrameError _ => none
  | .tankReplyTimeout _ => none
  | .silenceExpiry _ => none
  | .provingTimeout _ _ => none
  | .changeoverTimeout _ _ => none
  | .settleDeadline _ _ => none
  | .runDownExpiry _ _ => none
  | .dwellEnd _ _ => none
  | .gateEnd _ => none
  | .meterPulse _ _ => none
  | .pressureSample _ _ _ => none
  | .positionSample _ _ _ => none
  | .turnaroundEnd _ _ => none
  | .setupEnd _ _ => none
  | .blankingEnd _ _ => none
  | .simulatedArrival _ _ => none
  | .travelTimeout _ _ => none
  | .extensionExhausted _ _ => none
  | .holdEnd _ _ => none
  | .closedLimitSwitch _ _ _ => none
  | .openLimitSwitch _ _ _ => none
  | .accumulatorSample _ _ => none
  | .esdLoopOpen _ => none
  | .esdLoopClosed _ => none
  | .loopDebounceExpiry _ => none
  | .consoleLengthMismatch _ => none
  | .consoleBadCheck _ => none
  | .shipFrameOtherAddress _ => none

namespace Laws

/-- A command is the row of a request exactly when its fields are read so, and it is then well formed exactly when the request
fits its payload (R180, R192). -/
def Fields.Statement (c : Instr) : Prop :=
  (∀ t tag r, c = Request.row t tag r ↔ c.request = some (t, tag, r)) ∧
  (∀ t tag r, c.request = some (t, tag, r) → WellFormed c = requestFits r)

/-- A command that no request's row equals has no request to be read. -/
theorem Fields.statement_of_none {c : Instr} (h : c.request = none) (hr : ∀ t tag r, c ≠ Request.row t tag r) :
    Fields.Statement c :=
  ⟨fun t tag r => ⟨fun e => absurd e (hr t tag r), fun e => by simp [h] at e⟩, fun t tag r e => by simp [h] at e⟩

/-- A request's row is read as its request. -/
theorem Fields.request_row (t : Time) (tag : Byte) (r : Request) : (Request.row t tag r).request = some (t, tag, r) := by
  cases r <;> rfl

/-- A row of a request meets the statement. -/
theorem Fields.statement_row (t : Time) (tag : Byte) (r : Request) : Fields.Statement (Request.row t tag r) := by
  constructor
  · intro u g q
    constructor
    · intro e; rw [e, Fields.request_row]
    · intro e; rw [Fields.request_row] at e; cases e; rfl
  · intro u g q e
    rw [Fields.request_row] at e; cases e
    cases r <;> rfl

theorem Fields.powerOn (inputs : PowerInputs) :
    Fields.Statement (.powerOn inputs) :=
  Fields.statement_of_none rfl (by intro t tag r; cases r <;> simp [Request.row])
theorem Fields.consoleFrameReceived (t : Time) (kind tag : Byte) (payload : List Byte) :
    Fields.Statement (.consoleFrameReceived t kind tag payload) :=
  Fields.statement_of_none rfl (by intro t tag r; cases r <;> simp [Request.row])
theorem Fields.consoleGapTimeout (t : Time) :
    Fields.Statement (.consoleGapTimeout t) :=
  Fields.statement_of_none rfl (by intro t tag r; cases r <;> simp [Request.row])
theorem Fields.consoleFramingError (t : Time) :
    Fields.Statement (.consoleFramingError t) :=
  Fields.statement_of_none rfl (by intro t tag r; cases r <;> simp [Request.row])
theorem Fields.transmitFrameEnd (t : Time) :
    Fields.Statement (.transmitFrameEnd t) :=
  Fields.statement_of_none rfl (by intro t tag r; cases r <;> simp [Request.row])
theorem Fields.lineProfile (t : Time) (tag : Byte) (line : Nat) (p : LineProfile) :
    Fields.Statement (.lineProfile t tag line p) :=
  Fields.statement_row t tag (.lineProfile line p)
theorem Fields.gradeProfile (t : Time) (tag : Byte) (grade : Nat) (g : GradeOperands) :
    Fields.Statement (.gradeProfile t tag grade g) :=
  Fields.statement_row t tag (.gradeProfile grade g)
theorem Fields.hpuProfile (t : Time) (tag : Byte) (h : HpuProfile) :
    Fields.Statement (.hpuProfile t tag h) :=
  Fields.statement_row t tag (.hpuProfile h)
theorem Fields.fillOrder (t : Time) (tag : Byte) (line : Nat) (o : OrderOperands) :
    Fields.Statement (.fillOrder t tag line o) :=
  Fields.statement_row t tag (.fillOrder line o)
theorem Fields.start (t : Time) (tag : Byte) (line : Nat) :
    Fields.Statement (.start t tag line) :=
  Fields.statement_row t tag (.start line)
theorem Fields.hold (t : Time) (tag : Byte) (line : Nat) :
    Fields.Statement (.hold t tag line) :=
  Fields.statement_row t tag (.hold line)
theorem Fields.resume (t : Time) (tag : Byte) (line : Nat) :
    Fields.Statement (.resume t tag line) :=
  Fields.statement_row t tag (.resume line)
theorem Fields.stop (t : Time) (tag : Byte) (line : Nat) :
    Fields.Statement (.stop t tag line) :=
  Fields.statement_row t tag (.stop line)
theorem Fields.clearTrip (t : Time) (tag : Byte) (line : Nat) :
    Fields.Statement (.clearTrip t tag line) :=
  Fields.statement_row t tag (.clearTrip line)
theorem Fields.esdStop (t : Time) (tag : Byte) :
    Fields.Statement (.esdStop t tag) :=
  Fields.statement_row t tag .esdStop
theorem Fields.esdReset (t : Time) (tag : Byte) :
    Fields.Statement (.esdReset t tag) :=
  Fields.statement_row t tag .esdReset
theorem Fields.renegotiate (t : Time) (tag : Byte) :
    Fields.Statement (.renegotiate t tag) :=
  Fields.statement_row t tag .renegotiate
theorem Fields.manualTerms (t : Time) (tag : Byte) (grade : Nat) (m : ManualOperands) :
    Fields.Statement (.manualTerms t tag grade m) :=
  Fields.statement_row t tag (.manualTerms grade m)
theorem Fields.restart (t : Time) (tag : Byte) :
    Fields.Statement (.restart t tag) :=
  Fields.statement_row t tag .restart
theorem Fields.restartEffect (t : Time) :
    Fields.Statement (.restartEffect t) :=
  Fields.statement_of_none rfl (by intro t tag r; cases r <;> simp [Request.row])
theorem Fields.readLine (t : Time) (tag : Byte) (line : Nat) :
    Fields.Statement (.readLine t tag line) :=
  Fields.statement_row t tag (.readLine line)
theorem Fields.readTrip (t : Time) (tag : Byte) (line : Nat) :
    Fields.Statement (.readTrip t tag line) :=
  Fields.statement_row t tag (.readTrip line)
theorem Fields.readTank (t : Time) (tag : Byte) (tank : Nat) :
    Fields.Statement (.readTank t tag tank) :=
  Fields.statement_row t tag (.readTank tank)
theorem Fields.readLink (t : Time) (tag : Byte) :
    Fields.Statement (.readLink t tag) :=
  Fields.statement_row t tag .readLink
theorem Fields.readHpu (t : Time) (tag : Byte) :
    Fields.Statement (.readHpu t tag) :=
  Fields.statement_row t tag .readHpu
theorem Fields.readEsd (t : Time) (tag : Byte) :
    Fields.Statement (.readEsd t tag) :=
  Fields.statement_row t tag .readEsd
theorem Fields.marker (t : Time) :
    Fields.Statement (.marker t) :=
  Fields.statement_of_none rfl (by intro t tag r; cases r <;> simp [Request.row])
theorem Fields.panelSlotStart (t : Time) :
    Fields.Statement (.panelSlotStart t) :=
  Fields.statement_of_none rfl (by intro t tag r; cases r <;> simp [Request.row])
theorem Fields.tankSlotStart (t : Time) (slot : Nat) :
    Fields.Statement (.tankSlotStart t slot) :=
  Fields.statement_of_none rfl (by intro t tag r; cases r <;> simp [Request.row])
theorem Fields.panelReply (t : Time) (flags : Byte) (w1 w2 : WireWord) :
    Fields.Statement (.panelReply t flags w1 w2) :=
  Fields.statement_of_none rfl (by intro t tag r; cases r <;> simp [Request.row])
theorem Fields.panelReplyTimeout (t : Time) :
    Fields.Statement (.panelReplyTimeout t) :=
  Fields.statement_of_none rfl (by intro t tag r; cases r <;> simp [Request.row])
theorem Fields.reading (t : Time) (tank : TankId) (toggle : Nat) (flags : Byte) (level : Nat) :
    Fields.Statement (.reading t tank toggle flags level) :=
  Fields.statement_of_none rfl (by intro t tag r; cases r <;> simp [Request.row])
theorem Fields.declaration (t : Time) (tank : TankId) (dec : WireDeclaration) :
    Fields.Statement (.declaration t tank dec) :=
  Fields.statement_of_none rfl (by intro t tag r; cases r <;> simp [Request.row])
theorem Fields.declarationOnRead (t : Time) (tank : TankId) (dec : WireDeclaration) :
    Fields.Statement (.declarationOnRead t tank dec) :=
  Fields.statement_of_none rfl (by intro t tag r; cases r <;> simp [Request.row])
theorem Fields.wait (t : Time) (tank : TankId) :
    Fields.Statement (.wait t tank) :=
  Fields.statement_of_none rfl (by intro t tag r; cases r <;> simp [Request.row])
theorem Fields.refuse (t : Time) (tank : TankId) :
    Fields.Statement (.refuse t tank) :=
  Fields.statement_of_none rfl (by intro t tag r; cases r <;> simp [Request.row])
theorem Fields.shipBadCheck (t : Time) :
    Fields.Statement (.shipBadCheck t) :=
  Fields.statement_of_none rfl (by intro t tag r; cases r <;> simp [Request.row])
theorem Fields.shipReplyUnlisted (t : Time) :
    Fields.Statement (.shipReplyUnlisted t) :=
  Fields.statement_of_none rfl (by intro t tag r; cases r <;> simp [Request.row])
theorem Fields.shipFrameError (t : Time) :
    Fields.Statement (.shipFrameError t) :=
  Fields.statement_of_none rfl (by intro t tag r; cases r <;> simp [Request.row])
theorem Fields.tankReplyTimeout (t : Time) :
    Fields.Statement (.tankReplyTimeout t) :=
  Fields.statement_of_none rfl (by intro t tag r; cases r <;> simp [Request.row])
theorem Fields.silenceExpiry (t : Time) :
    Fields.Statement (.silenceExpiry t) :=
  Fields.statement_of_none rfl (by intro t tag r; cases r <;> simp [Request.row])
theorem Fields.provingTimeout (t : Time) (line : LineId) :
    Fields.Statement (.provingTimeout t line) :=
  Fields.statement_of_none rfl (by intro t tag r; cases r <;> simp [Request.row])
theorem Fields.changeoverTimeout (t : Time) (line : LineId) :
    Fields.Statement (.changeoverTimeout t line) :=
  Fields.statement_of_none rfl (by intro t tag r; cases r <;> simp [Request.row])
theorem Fields.settleDeadline (t : Time) (line : LineId) :
    Fields.Statement (.settleDeadline t line) :=
  Fields.statement_of_none rfl (by intro t tag r; cases r <;> simp [Request.row])
theorem Fields.runDownExpiry (t : Time) (line : LineId) :
    Fields.Statement (.runDownExpiry t line) :=
  Fields.statement_of_none rfl (by intro t tag r; cases r <;> simp [Request.row])
theorem Fields.dwellEnd (t : Time) (line : LineId) :
    Fields.Statement (.dwellEnd t line) :=
  Fields.statement_of_none rfl (by intro t tag r; cases r <;> simp [Request.row])
theorem Fields.gateEnd (t : Time) :
    Fields.Statement (.gateEnd t) :=
  Fields.statement_of_none rfl (by intro t tag r; cases r <;> simp [Request.row])
theorem Fields.meterPulse (t : Time) (line : LineId) :
    Fields.Statement (.meterPulse t line) :=
  Fields.statement_of_none rfl (by intro t tag r; cases r <;> simp [Request.row])
theorem Fields.pressureSample (t : Time) (line : LineId) (microamps : Nat) :
    Fields.Statement (.pressureSample t line microamps) :=
  Fields.statement_of_none rfl (by intro t tag r; cases r <;> simp [Request.row])
theorem Fields.positionSample (t : Time) (line : LineId) (microamps : Nat) :
    Fields.Statement (.positionSample t line microamps) :=
  Fields.statement_of_none rfl (by intro t tag r; cases r <;> simp [Request.row])
theorem Fields.turnaroundEnd (t : Time) (line : LineId) :
    Fields.Statement (.turnaroundEnd t line) :=
  Fields.statement_of_none rfl (by intro t tag r; cases r <;> simp [Request.row])
theorem Fields.setupEnd (t : Time) (line : LineId) :
    Fields.Statement (.setupEnd t line) :=
  Fields.statement_of_none rfl (by intro t tag r; cases r <;> simp [Request.row])
theorem Fields.blankingEnd (t : Time) (line : LineId) :
    Fields.Statement (.blankingEnd t line) :=
  Fields.statement_of_none rfl (by intro t tag r; cases r <;> simp [Request.row])
theorem Fields.simulatedArrival (t : Time) (line : LineId) :
    Fields.Statement (.simulatedArrival t line) :=
  Fields.statement_of_none rfl (by intro t tag r; cases r <;> simp [Request.row])
theorem Fields.travelTimeout (t : Time) (line : LineId) :
    Fields.Statement (.travelTimeout t line) :=
  Fields.statement_of_none rfl (by intro t tag r; cases r <;> simp [Request.row])
theorem Fields.extensionExhausted (t : Time) (line : LineId) :
    Fields.Statement (.extensionExhausted t line) :=
  Fields.statement_of_none rfl (by intro t tag r; cases r <;> simp [Request.row])
theorem Fields.holdEnd (t : Time) (line : LineId) :
    Fields.Statement (.holdEnd t line) :=
  Fields.statement_of_none rfl (by intro t tag r; cases r <;> simp [Request.row])
theorem Fields.closedLimitSwitch (t : Time) (line : LineId) (active : Bool) :
    Fields.Statement (.closedLimitSwitch t line active) :=
  Fields.statement_of_none rfl (by intro t tag r; cases r <;> simp [Request.row])
theorem Fields.openLimitSwitch (t : Time) (line : LineId) (active : Bool) :
    Fields.Statement (.openLimitSwitch t line active) :=
  Fields.statement_of_none rfl (by intro t tag r; cases r <;> simp [Request.row])
theorem Fields.accumulatorSample (t : Time) (microamps : Nat) :
    Fields.Statement (.accumulatorSample t microamps) :=
  Fields.statement_of_none rfl (by intro t tag r; cases r <;> simp [Request.row])
theorem Fields.esdLoopOpen (t : Time) :
    Fields.Statement (.esdLoopOpen t) :=
  Fields.statement_of_none rfl (by intro t tag r; cases r <;> simp [Request.row])
theorem Fields.esdLoopClosed (t : Time) :
    Fields.Statement (.esdLoopClosed t) :=
  Fields.statement_of_none rfl (by intro t tag r; cases r <;> simp [Request.row])
theorem Fields.loopDebounceExpiry (t : Time) :
    Fields.Statement (.loopDebounceExpiry t) :=
  Fields.statement_of_none rfl (by intro t tag r; cases r <;> simp [Request.row])
theorem Fields.consoleLengthMismatch (t : Time) :
    Fields.Statement (.consoleLengthMismatch t) :=
  Fields.statement_of_none rfl (by intro t tag r; cases r <;> simp [Request.row])
theorem Fields.consoleBadCheck (t : Time) :
    Fields.Statement (.consoleBadCheck t) :=
  Fields.statement_of_none rfl (by intro t tag r; cases r <;> simp [Request.row])
theorem Fields.shipFrameOtherAddress (t : Time) :
    Fields.Statement (.shipFrameOtherAddress t) :=
  Fields.statement_of_none rfl (by intro t tag r; cases r <;> simp [Request.row])

end Laws

end Sys2Proof
end

