-- ==== Sys2Proof/Tests/Slice0.lean ====
section
/-! SUPPORT. Tests of this model on fixed values: a term that each check of WellFormed refuses, figures the spec itself works
out (each test names the section), one or two steps for each command, and, for each statement of the certificates that has
hypotheses, a state and operands that meet them. -/

set_option Elab.async false

open Sys2Proof Sys2Proof.Machine

namespace Sys2Proof.Tests

/-! ### Small states -/

/-- A line profile with the figures of sections 1.12 and 4.9. -/
def profile : LineProfile :=
  { grade := 2, pump := 2, boreMm := 150, lengthM := 120, waveSpeed := 1200, ratingKPa := 1500, surgeMarginKPa := 200,
    meterK := 100, startPos := 200, toppingPos := 400, bulkPos := 800, throttleStep := 150, closeStages := 4,
    closeMinMs := 8000, closeMaxMs := 90000, runDownMs := 800, runDownKPa := 300, settleMs := 20000, guardMs := 5000,
    proveMm := 20, proveWindowMs := 60000, changeoverWindowMs := 120000, stopConfirmMs := 10000, blindWeight := 64,
    blindMinMs := 20000, balanceTolL := 5000, nominalRate := 50, feedbackPresent := 1, simulatedArrival := 0,
    arrivalBand := 10 }

/-- The terms of section 8.8. -/
def shipTerms : TermsFields := { maxRate := 6000, maxPressure := 1400, changeoverOk := true }
def bargeTerms : BargeTerms := { density := 850, fields := { maxRate := 8000, maxPressure := 1200, changeoverOk := true } }

/-- Grade 2 agreed, and grade 2 offering. -/
def agreedGrade : Grade :=
  { barge := some bargeTerms, agreement := .agreed, lastWord := .usable shipTerms true, matchCount := 3,
    accepted := some shipTerms, console := none, agreed := some (agreedTerms bargeTerms shipTerms) }
def offeringGrade : Grade := { Grade.init with barge := some bargeTerms, agreement := .offering }

/-- A ship terms word of grade `g`, and a panel reply that is ready. -/
def word (g : Nat) (flags : Byte) : WireWord :=
  { grade := g, marking := 0, flags := flags, maxRate := 6000, maxPressure := 1400 }
def panel : PanelReply :=
  { ready := true, shipStop := false, shipEsd := false, termsCapable := true, word1 := word 1 0, word2 := word 2 3 }

/-- The declaration of section 2.9 for tank 3, as a record and as it stands in the tank. -/
def wireDecl : WireDeclaration :=
  { tankNumber := 3, grade := 2, presence := 1, litresPerMm := 40, topoffMm := 6800, finalMm := 7100, highMm := 7300,
    changeoverMm := 6500, maxFillLpm := 0 }
def decl : Declaration :=
  { grade := .g2, litresPerMm := 40, topoffMm := 6800, finalMm := 7100, highMm := 7300, changeoverMm := some 6500,
    maxFillLpm := none }
def liveTank (use : TankUse) : Tank :=
  { Tank.init with decl := some decl, health := .live, use := use, lastNew := 900, toggle := some false,
                   latest := some { level := 2000, time := 900 }, highWater := some 2000 }

/-- No cause latched, line A idle with tank 3 on its list, its valve on the closed limit switch, the link up, grade 2
agreed, the accumulator charged; the time is 1000. -/
def idle : State :=
  let r := State.reset
  { r with now := 1000,
           lines := r.lines.set .a { LineRec.init with profile := some profile, state := .idle },
           lists := r.lists.set .a [.k3], tanks := r.tanks.set .k3 (liveTank .queued),
           valves := r.valves.set .a { Valve.init true false with learnedRate := some 50 },
           supply := { Supply.init with pressure := 20000, band := .release, pump := false },
           link := { Link.init with state := .up, cycle := some 7, panel := some panel },
           grades := { r.grades with g2 := agreedGrade }, shut := { r.shut with causes := noCauses } }

/-- Change line A, its valve, its close record, tank 3, the link, the shutdown unit. -/
def setLine (s : State) (x : LineRec) : State := { s with lines := s.lines.set .a x }
def setValve (s : State) (x : Valve) : State := { s with valves := s.valves.set .a x }
def setClose (s : State) (x : Option CloseRec) : State := { s with closes := s.closes.set .a x }
def setTank (s : State) (x : Tank) : State := { s with tanks := s.tanks.set .k3 x }
def setPoll (s : State) (k : PollKind) (slot : Nat) : State :=
  { s with link := { s.link with poll := some { kind := k, slot := slot, start := 1000 } } }
def setCauses (s : State) (c : CauseSet) : State := { s with shut := { s.shut with causes := c } }

def setPred (s : State) (x : Predictor) : State := { s with preds := s.preds.set .a x }
def settling : Predictor :=
  { Predictor.init with settle := .settling, settleStart := some 1000, deadline := some 21000 }

/-- Line A in a state, its tank in its use, its valve at 800 off both switches. -/
def lineIn (st : LineState) (use : TankUse) : State :=
  let s := setTank (setLine idle { idle.line .a with state := st, throttle := 800, fedSet := [.k3], delivered := 50 })
    (liveTank use)
  setValve s { s.valve .a with position := 800, commanded := 800, closedSwitch := false }

/-- Line A in BULK with its permit asserted. -/
def bulk : State :=
  let s := lineIn .bulk .active
  { s with shut := { s.shut with permit2 := true }, flows := s.flows.set .a { Flow.init with meterFactor := some 100 } }

/-- Line A held: its valve closed, its tank fed. -/
def held : State := setValve (lineIn .held .queued) (idle.valve .a)

/-- A stroke of line A's valve. -/
def stroke (cls : StrokeClass) (target : Nat) (phase : StrokePhase) : Stroke :=
  { req := { cls := cls, target := target, time := 1000, retry := false }, phase := phase, since := 1000,
    travelStart := 1000, startPos := 800, expected := 100, used := 0, pauseUsed := 0, paused := false, mark := 1000,
    blanking := false }

/-- Give line A's valve a stroke on channel 1. -/
def withStroke (s : State) (k : Stroke) : State :=
  { (setValve s { s.valve .a with stroke := some k }) with chan1 := { holder := some .a, lastDir := some k.req.cls.dir } }

/-- Line A closing for reason `r` with the given close record. -/
def closeRec (phase : ClosePhase) : CloseRec :=
  { entry := 1000, phase := phase, runDownStart := some 1000, runDownEnd := none, plan := none, stage := none,
    dwellEnd := none, dwellOver := false, strokeEnded := true, retryUsed := false }
def closing (r : CloseReason) (c : CloseRec) : State :=
  let s := lineIn .closing .active
  setClose (setLine s { s.line .a with closeReason := some r, throttle := 0 }) (some c)

/-- The state a command leaves. -/
def after (c : Instr) (s : State) : State :=
  match exec c s with
  | .next u => u
  | .fault _ => s
  | .refused _ => s

/-- The result in buffer 1 after a command. -/
def resultOf (c : Instr) (s : State) : Option Result :=
  match (after c s).buf1 with
  | .answered r => some r.result
  | .empty => none
  | .waiting _ _ => none

/-! ### WellFormed refuses -/

theorem test_wf_payload_over_64 : WellFormed (.consoleFrameReceived 0 2 0 (List.replicate 65 0)) = false := by
  simp only [WellFormed, List.length_replicate]; rfl
theorem test_wf_profile_field_over_two_bytes :
    WellFormed (.lineProfile 0 0 1 { profile with closeMinMs := 2 ^ 32 }) = false := by decide
theorem test_wf_grade_density_over_two_bytes :
    WellFormed (.gradeProfile 0 0 1 { density := 65536, maxRate := 1, maxPressure := 1, changeoverOk := 0 }) = false := by
  decide
theorem test_wf_hpu_field_over_width :
    WellFormed (.hpuProfile 0 0 { defaultHpuProfile with setupMs := 2 ^ 32 }) = false := by decide
theorem test_wf_order_tank_over_byte :
    WellFormed (.fillOrder 0 0 1 { count := 1, pos1 := 256, pos2 := 0, pos3 := 0, pos4 := 0 }) = false := by decide
theorem test_wf_start_line_over_byte : WellFormed (.start 0 0 256) = false := by decide
theorem test_wf_hold_line_over_byte : WellFormed (.hold 0 0 256) = false := by decide
theorem test_wf_resume_line_over_byte : WellFormed (.resume 0 0 256) = false := by decide
theorem test_wf_stop_line_over_byte : WellFormed (.stop 0 0 256) = false := by decide
theorem test_wf_clear_trip_line_over_byte : WellFormed (.clearTrip 0 0 256) = false := by decide
theorem test_wf_manual_rate_over_two_bytes :
    WellFormed (.manualTerms 0 0 1 { maxRate := 65536, maxPressure := 1, changeoverOk := 0 }) = false := by decide
theorem test_wf_read_line_over_byte : WellFormed (.readLine 0 0 256) = false := by decide
theorem test_wf_read_trip_over_byte : WellFormed (.readTrip 0 0 256) = false := by decide
theorem test_wf_read_tank_over_byte : WellFormed (.readTank 0 0 256) = false := by decide
theorem test_wf_marker_off_the_quarter : WellFormed (.marker 251) = false := by decide
theorem test_wf_slot_zero : WellFormed (.tankSlotStart 0 0) = false := by decide
theorem test_wf_slot_six : WellFormed (.tankSlotStart 0 6) = false := by decide
theorem test_wf_panel_word_over_width :
    WellFormed (.panelReply 0 0 { word 1 0 with maxRate := 65536 } (word 2 0)) = false := by decide
theorem test_wf_reading_level_over_two_bytes : WellFormed (.reading 0 .k3 0 0 65536) = false := by decide
theorem test_wf_reading_toggle_over_byte : WellFormed (.reading 0 .k3 256 0 0) = false := by decide
theorem test_wf_declaration_over_width :
    WellFormed (.declaration 0 .k3 { wireDecl with finalMm := 65536 }) = false := by decide
theorem test_wf_declaration_on_read_over_width :
    WellFormed (.declarationOnRead 0 .k3 { wireDecl with grade := 256 }) = false := by decide
theorem test_wf_admits_the_profile : WellFormed (.lineProfile 0 0 1 profile) = true := by decide

/-! ### Figures the spec works out -/

/-- The CRC-16 of section 11 (its polynomial and first value are those of CRC-16/CCITT-FALSE): "123456789" gives 29B1, the
check value published for it. -/
theorem test_crc_check_value : crc16 [0x31, 0x32, 0x33, 0x34, 0x35, 0x36, 0x37, 0x38, 0x39] = 0x29B1#16 := by decide +kernel
/-- Section 11.4: the request frame of START for line B with tag 7, up to its CRC. -/
theorem test_frame_of_start_b :
    (consoleFrame (kindCode (.start 2)) 7 (requestPayload (.start 2))).take 5 = [0xA5, 0x03, 0x10, 0x07, 0x02] := by decide
/-- Section 11.4: the same frame with a second operand byte has the wrong length. -/
theorem test_frame_of_start_b_too_long : decodeRequest 0x10 [2, 0] = some none := by decide
/-- Section 4.9: velocity, headroom, surge close time and close time; then with the pressure at 1260 kPa. -/
theorem test_close_figures :
    closeFigures profile 991 5400 1180 false =
      { velocity := 5093, headroom := 120, tSurge := 10095, tClose := 10095, limited := false } := by decide
theorem test_close_figures_floor :
    closeFigures profile 991 5400 1260 false =
      { velocity := 5093, headroom := 50, tSurge := 24227, tClose := 24227, limited := true } := by decide
/-- Section 4.9: pipe period and stage targets; section 4.4: the repeated targets of P = 5 and N = 8. -/
theorem test_pipe_period : pipePeriod profile = 200 := by decide
theorem test_stage_targets : stageTargets 400 4 = [300, 200, 100, 0] := by decide
theorem test_stage_targets_repeat : (stageTargets 5 8).take 4 = [4, 3, 3, 2] := by decide
/-- Section 5.8: the gate rate of 180 pulses and the blind window it governs. -/
theorem test_gate_rate : gateRate 180 100 = 5400 := by decide
theorem test_blind_window : tankWindow 46 5400 64 20000 = 20000 ∧ tankWindow 46 5400 64 0 = 4088 := by decide
/-- Section 8.8: the agreed terms, and the manual terms at the end of the section. -/
theorem test_agreed_terms :
    agreedTerms bargeTerms shipTerms = { maxRate := 6000, maxPressure := 1200, changeoverOk := true } := by decide
theorem test_manual_terms :
    agreedTerms bargeTerms { maxRate := 7000, maxPressure := 1500, changeoverOk := true } =
      { maxRate := 7000, maxPressure := 1200, changeoverOk := true } := by decide
/-- 00_scope.md, Field connections: 3.6 and 21 mA are good, the microamp beyond is not. -/
theorem test_current_limits :
    goodCurrent 3600 = true ∧ goodCurrent 3599 = false ∧ goodCurrent 21000 = true ∧ goodCurrent 21001 = false := by decide
theorem test_declaration_valid : declarationOf .k3 wireDecl = some decl := by decide

/-! ### The step and the console line -/

theorem test_step_takes_the_front :
    step { idle with pending := [.esdLoopOpen 1000, .esdLoopClosed 1001] } =
      exec (.esdLoopOpen 1000) { idle with pending := [.esdLoopClosed 1001] } := rfl
theorem test_step_idles : step idle = .next idle := rfl
/-- R179: an unknown kind is answered UNKNOWN_REQUEST; R180: a START that arrives waits in buffer 1. -/
theorem test_unknown_kind :
    resultOf (.consoleFrameReceived 1000 0x7F 5 []) idle = some .unknownRequest := by decide +kernel
theorem test_frame_waits :
    (after (.consoleFrameReceived 1000 0x10 5 [1]) idle).buf1 = .waiting 5 (.request (.start 1)) := by decide +kernel
theorem test_gap_abandons :
    (after (.consoleGapTimeout 1000) { idle with rx := .body 3 [0x10] }).rx = .hunt := by decide +kernel
theorem test_framing_error_abandons :
    (after (.consoleFramingError 1000) { idle with rx := .length }).rx = .hunt := by decide +kernel
theorem test_length_mismatch_hunts :
    (after (.consoleLengthMismatch 1000) { idle with rx := .length }).rx = .hunt := by decide +kernel
theorem test_bad_check_hunts :
    (after (.consoleBadCheck 1000) { idle with rx := .body 3 [0x10] }).rx = .hunt := by decide +kernel
/-- R178: a length byte of 67 sends the receiver back to HUNT, one of 66 does not. -/
theorem test_length_byte_limits :
    rxByte .length 67 = (.hunt, .lengthMismatch) ∧ rxByte .length 66 = (.body 66 [], .nothing) := by decide
/-- R182: the reply's last byte empties its buffer. -/
theorem test_frame_end_empties_the_buffer :
    (after (.transmitFrameEnd 1001) (after (.readEsd 1000 5) idle)).buf1 = .empty := by decide +kernel

/-! ### Requests -/

/-- R3: the profile of a line on its closed limit switch leaves it IDLE; R1: pump 3 is field 2. -/
theorem test_line_profile_idle :
    ((after (.lineProfile 1000 5 2 profile) idle).line .b).state = .idle := by decide +kernel
theorem test_line_profile_range :
    resultOf (.lineProfile 1000 5 2 { profile with pump := 3 }) idle = some (.fieldRange 2) := by decide +kernel
/-- R155: with the link UP a new grade profile leaves the grade OFFERING. -/
theorem test_grade_profile_offers :
    ((after (.gradeProfile 1000 5 1 { density := 850, maxRate := 8000, maxPressure := 1200, changeoverOk := 1 }) idle).grade
      .g1).agreement = .offering := by decide +kernel
/-- R130: need_kPa not below release_kPa is field 2. -/
theorem test_hpu_profile_order :
    resultOf (.hpuProfile 1000 5 { defaultHpuProfile with needKPa := 18000 }) idle = some (.fieldRange 2) := by
  decide +kernel
/-- R127: under the default thresholds lowered to 9000, 12000 and 15000 kPa the pressure of 20000 kPa stays RELEASE. -/
theorem test_hpu_profile_band :
    (after (.hpuProfile 1000 5 { defaultHpuProfile with releaseKPa := 25000 }) idle).supply.band = .may := by
  decide +kernel
/-- R39: the order of tank 3 is taken; a count of 0 is field 1. -/
theorem test_fill_order_taken :
    (after (.fillOrder 1000 5 1 { count := 1, pos1 := 3, pos2 := 0, pos3 := 0, pos4 := 0 }) idle).list .a = [.k3] := by
  decide +kernel
theorem test_fill_order_count :
    resultOf (.fillOrder 1000 5 1 { count := 0, pos1 := 3, pos2 := 0, pos3 := 0, pos4 := 0 }) idle =
      some (.fieldRange 1) := by decide +kernel
/-- R6: the start makes tank 3 ACTIVE and the line STARTING; R174: with its pump's permit asserted. -/
theorem test_start_runs :
    ((after (.start 1000 5 1) idle).line .a).state = .starting ∧ ((after (.start 1000 5 1) idle).tank .k3).use = .active ∧
      (after (.start 1000 5 1) idle).shut.permit2 = true := by decide +kernel
theorem test_start_without_list :
    resultOf (.start 1000 5 1) { idle with lists := idle.lists.set .a [] } = some (.refused .noFillOrder) := by
  decide +kernel
/-- R17: HOLD closes a flowing line for reason HOLD; R6: RESUME of a held line is STARTING. -/
theorem test_hold_closes :
    ((after (.hold 1000 5 1) bulk).line .a).closeReason = some .hold := by decide +kernel
theorem test_resume_starts :
    ((after (.resume 1000 5 1) held).line .a).state = .starting := by decide +kernel
/-- R22 and R23: STOP of a held line completes it and its fed tank is DONE. -/
theorem test_stop_completes :
    ((after (.stop 1000 5 1) (lineIn .held .queued)).line .a).state = .complete ∧
      ((after (.stop 1000 5 1) (lineIn .held .queued)).tank .k3).use = .done := by decide +kernel
/-- R25: CLEAR_TRIP is refused while the closed limit switch is inactive. -/
theorem test_clear_trip_refused :
    resultOf (.clearTrip 1000 5 1) (lineIn .tripped .active) = some (.refused .valveNotClosed) := by decide +kernel
/-- R170: ESD_STOP withdraws the permit and closes the flowing line for reason ESD. -/
theorem test_esd_stop :
    (after (.esdStop 1000 5) bulk).shut.permit2 = false ∧
      ((after (.esdStop 1000 5) bulk).line .a).closeReason = some .esd := by decide +kernel
/-- R173: POWER_ON has no condition, so the reset after power-on clears the latch. -/
theorem test_esd_reset : (after (.esdReset 1000 5) State.reset).latch = false := by decide +kernel
theorem test_renegotiate :
    (after (.renegotiate 1000 5) idle).link.state = .silent := by decide +kernel
/-- Section 8.8: MANUAL_TERMS of 7000 L/min and 1500 kPa against 8000 and 1200. -/
theorem test_manual :
    ((after (.manualTerms 1000 5 2 { maxRate := 7000, maxPressure := 1500, changeoverOk := 1 })
      { idle with link := { idle.link with panel := some { panel with termsCapable := false } } }).grade .g2).agreed =
      some { maxRate := 7000, maxPressure := 1200, changeoverOk := true } := by decide +kernel
theorem test_restart_waits : (after (.restart 1000 5) idle).restart = .replying := by decide +kernel
theorem test_restart_effect :
    (after (.restartEffect 1000) { idle with restart := .due }).tank .k3 = Tank.init := by decide +kernel
/-- R183: reads answer OK with their record; a line number of 0 or 5 and a tank number of 9 are field 0. -/
theorem test_read_line_range :
    resultOf (.readLine 1000 5 5) idle = some (.fieldRange 0) ∧ resultOf (.readLine 1000 5 4) idle = some .ok := by
  decide +kernel
theorem test_read_trip_range :
    resultOf (.readTrip 1000 5 0) idle = some (.fieldRange 0) ∧ resultOf (.readTrip 1000 5 1) idle = some .ok := by
  decide +kernel
theorem test_read_tank_range :
    resultOf (.readTank 1000 5 9) idle = some (.fieldRange 0) ∧ resultOf (.readTank 1000 5 8) idle = some .ok := by
  decide +kernel
theorem test_read_rest :
    resultOf (.readLink 1000 5) idle = some .ok ∧ resultOf (.readHpu 1000 5) idle = some .ok ∧
      resultOf (.readEsd 1000 5) idle = some .ok := by decide +kernel

/-! ### The ship link -/

/-- Section 7.2, Example schedules, cycle 1: DECLARE to tanks 1 and 2, slot 5 idle, the pointer at tank 3. -/
theorem test_first_schedule :
    (after (.marker 0) State.reset).link.slots.map (fun x => x.plan) =
      [.declare .k1, .declareTail .k1, .declare .k2, .declareTail .k2, .idle] ∧
    (after (.marker 0) State.reset).link.pollPtr = .k3 := by decide +kernel
/-- Section 7.7: the first marker has cycle number 0. -/
theorem test_first_cycle : (after (.marker 0) State.reset).link.cycle = some 0 := by decide +kernel
theorem test_panel_poll :
    (after (.panelSlotStart 1000) idle).link.poll = some { kind := .panel, slot := 0, start := 1000 } := by decide +kernel
theorem test_tank_poll :
    (after (.tankSlotStart 1000 1)
      { idle with link := { idle.link with slots := [{ plan := .read .k3, begun := false, outcome := .pending }] } }).link.sent =
      some (.readPoll .k3 false) := by decide +kernel
/-- R141: the panel reply that ends DOWN starts the silence. -/
theorem test_panel_reply_enters_silent :
    (after (.panelReply 1010 9 (word 1 0) (word 2 0)) (setPoll State.reset .panel 0)).link.state = .silent := by
  decide +kernel
/-- R140: the fifth miss in a row takes the link down. -/
theorem test_fifth_panel_miss :
    (after (.panelReplyTimeout 1030)
      (setPoll { idle with link := { idle.link with missCount := 4 } } .panel 0)).link.state = .down := by decide +kernel
/-- R144: a new reading reaches the tank; one more than 200 mm above the level before it is a miss. -/
theorem test_reading :
    ((after (.reading 1010 .k3 1 0 2200) (setPoll idle (.read .k3) 1)).tank .k3).latest =
      some { level := 2200, time := 1010 } := by decide +kernel
theorem test_reading_jump :
    ((after (.reading 1010 .k3 1 0 2201) (setPoll idle (.read .k3) 1)).tank .k3).missCount = 1 := by decide +kernel
theorem test_declaration :
    ((after (.declaration 1010 .k3 wireDecl) (setPoll State.reset (.declare .k3) 1)).tank .k3).health = .live := by
  decide +kernel
/-- R34: another declaration for a tank that feeds a line trips the line. -/
theorem test_declaration_on_read :
    ((after (.declarationOnRead 1010 .k3 { wireDecl with litresPerMm := 41 }) (setPoll bulk (.read .k3) 1)).line .a).trip.map
      (fun r => r.cause) = some .tankChanged := by decide +kernel
theorem test_wait : (after (.wait 1010 .k3) (setPoll idle (.read .k3) 1)).tanks = idle.tanks := by decide +kernel
theorem test_refuse :
    ((after (.refuse 1010 .k3) (setPoll idle (.read .k3) 1)).tank .k3).refusal = some .refusedByUnit := by decide +kernel
/-- R146: the third miss makes a LIVE tank STALE, whatever the miss was. -/
theorem test_misses_make_stale :
    ([Instr.shipBadCheck 1010, .shipReplyUnlisted 1010, .shipFrameOtherAddress 1010, .tankReplyTimeout 1030].map (fun c =>
      ((after c (setPoll (setTank idle { liveTank .queued with missCount := 2 }) (.read .k3) 1)).tank .k3).health)) =
      [.stale, .stale, .stale, .stale] := by decide +kernel
theorem test_ship_frame_error :
    (after (.shipFrameError 1010) { idle with link := { idle.link with rx := .length 3 0x13 } }).link.rx = .hunt := by
  decide +kernel
/-- R194: bytes before the start byte are discarded, a length of 18 ends the frame, a wrong CRC is a bad check. -/
theorem test_ship_receiver :
    shipRxBytes .hunt [0x00, 0x5A, 0x03, 0x13, 18] = (.hunt, [.nothing, .nothing, .nothing, .nothing, .ended]) ∧
    shipRxBytes .hunt [0x5A, 0x03, 0x15, 0, 0, 0] =
      (.hunt, [.nothing, .nothing, .nothing, .nothing, .nothing, .badCheck]) ∧
    (shipRxBytes .hunt (shipFrame 3 0x13 [1, 1, 7, 208])).2.getLast? = some (.frame 3 0x13 [1, 1, 7, 208]) := by
  decide +kernel
/-- R194: the polled tank's READING, another address, and a toggle byte of 2; R134: the bad check. -/
theorem test_ship_frame_rows :
    (ShipHeard.frame 3 0x13 [1, 1, 7, 208]).row 1010 3 = some (.reading 1010 .k3 1 1 2000) ∧
    (ShipHeard.frame 3 0x13 [1, 1, 7, 208]).row 1010 4 = some (.shipFrameOtherAddress 1010) ∧
    (ShipHeard.frame 3 0x13 [2, 1, 7, 208]).row 1010 3 = some (.shipReplyUnlisted 1010) ∧
    ShipHeard.ended.row 1010 3 = some (.shipFrameError 1010) ∧
    ShipHeard.badCheck.row 1010 3 = some (.shipBadCheck 1010) := by decide +kernel
/-- R50: an incoming tank gone STALE holds back the rise that its level shows. -/
theorem test_stale_incoming_holds_back :
    ([Health.live, .stale].map (fun h => (setTank (lineIn .changeover .incoming)
      { liveTank .incoming with health := h, changeoverBase := some 1900 }).incomingRise .a)) = [true, false] := by
  decide +kernel
/-- R101: without a base a reading sets base and peak where the rule takes it; elsewhere it raises a peak alone. -/
theorem test_watch :
    ({ base := none, peak := none, peakTime := 1 } : Watch).take 7 5 = { base := some 7, peak := some 7, peakTime := 5 } ∧
    ({ base := none, peak := none, peakTime := 1 } : Watch).raise 7 5 = { base := none, peak := none, peakTime := 1 } := by
  decide
/-- R142: the silence ends after 3000 ms, and no earlier. -/
theorem test_silence_expiry :
    (after (.silenceExpiry 4000)
      { idle with link := { idle.link with state := .silent, silenceStart := some 1000 } }).link.state = .up ∧
    (after (.silenceExpiry 3999)
      { idle with link := { idle.link with state := .silent, silenceStart := some 1000 } }).link.state = .silent := by
  decide +kernel

/-! ### Timers, samples, strokes, the loop -/

/-- R12: the proving window of 60 s over, the line trips with NO_RISE. -/
theorem test_proving_timeout :
    ((after (.provingTimeout 61000 .a)
      (setLine bulk { bulk.line .a with state := .proving, provingStart := some 1000 })).line .a).trip.map
      (fun r => r.cause) = some .noRise := by decide +kernel
theorem test_changeover_timeout :
    ((after (.changeoverTimeout 121000 .a)
      (setLine bulk { bulk.line .a with state := .changeover, changeoverStart := some 1000 })).line .a).trip.map
      (fun r => r.cause) = some .changeoverTimeout := by decide +kernel
/-- R64: a settle deadline with no pair of its own leads to CARRY. -/
theorem test_settle_deadline :
    ((after (.settleDeadline 21000 .a) (setPred bulk settling)).pred .a).settle = .carry := by decide +kernel
/-- Section 4.9: the run-down over after 800 ms, the plan is made and the stroke of stage 1 granted. -/
theorem test_run_down_expiry :
    ((after (.runDownExpiry 1800 .a) (closing .ending (closeRec .runDown))).close .a).map (fun c => (c.phase, c.stage)) =
      some (.stage, some 1) := by decide +kernel
theorem test_dwell_end :
    ((after (.dwellEnd 1700 .a) (closing .ending
      { closeRec .dwell with dwellEnd := some 1699, stage := some 1, plan := some (bulk.makePlan .a) })).close .a).map
      (fun c => c.stage) = some (some 2) := by decide +kernel
/-- Section 5.8: 180 pulses in a gate are 5400 L/min; R94: and 180 litres. -/
theorem test_gate_end :
    ((after (.gateEnd 2000) { bulk with flows := bulk.flows.set .a { bulk.flow .a with gatePulses := 180 } }).flow .a).rate =
      5400 ∧
    ((after (.gateEnd 2000) { bulk with flows := bulk.flows.set .a { bulk.flow .a with gatePulses := 180 } }).line
      .a).delivered = 180 := by decide +kernel
theorem test_meter_pulse : ((after (.meterPulse 1000 .a) bulk).flow .a).gatePulses = 1 := by decide +kernel
/-- R97: the second sample in a row above 1300 kPa trips the line; 9.204 mA is 1301 kPa. -/
theorem test_overpressure :
    ((after (.pressureSample 1000 .a 9204) { bulk with flows := bulk.flows.set .a { bulk.flow .a with overCount := 1 } }).line
      .a).trip.map (fun r => r.cause) = some .overpressure ∧
    ((after (.pressureSample 1000 .a 9200) { bulk with flows := bulk.flows.set .a { bulk.flow .a with overCount := 1 } }).line
      .a).trip = none := by decide +kernel
theorem test_position_sample :
    ((after (.positionSample 1000 .a 12000) bulk).valve .a).position = 500 := by decide +kernel
/-- R127: 12.96 mA is 14000 kPa, the foot of MAY; below it the band is NEED. -/
theorem test_accumulator_sample :
    (after (.accumulatorSample 1000 12960) idle).supply.band = .may ∧
    (after (.accumulatorSample 1000 12959) idle).supply.band = .need := by decide +kernel
theorem test_turnaround_end :
    (((after (.turnaroundEnd 1300 .a) (withStroke bulk (stroke .opening 900 .turnaround))).valve .a).stroke.map
      (fun k => k.phase)) = some .setup := by decide +kernel
/-- R121: the travel of 100 per-mille at 50 per-mille/s is expected to take 2000 ms. -/
theorem test_setup_end :
    (((after (.setupEnd 1400 .a) (withStroke bulk (stroke .opening 900 .setup))).valve .a).stroke.map
      (fun k => (k.phase, k.expected))) = some (.travel, 2000) := by decide +kernel
theorem test_blanking_end :
    ((after (.blankingEnd 1300 .a)
      (withStroke (setValve bulk { bulk.valve .a with closedSwitch := true })
        { stroke .close 0 .travel with blanking := true })).valve .a).position = 0 := by decide +kernel
theorem test_simulated_arrival :
    (((after (.simulatedArrival 1100 .a)
      (withStroke (setLine bulk { bulk.line .a with profile := some { profile with simulatedArrival := 1 } })
        (stroke .opening 900 .travel))).valve .a).position,
     ((after (.simulatedArrival 1100 .a)
      (withStroke (setLine bulk { bulk.line .a with profile := some { profile with simulatedArrival := 1 } })
        (stroke .opening 900 .travel))).valve .a).source) = (900, .simulated) := by decide +kernel
theorem test_travel_timeout :
    ((after (.travelTimeout 3200 .a) (withStroke bulk (stroke .opening 900 .travel))).line .a).trip.map
      (fun r => r.cause) = some .strokeFailed := by decide +kernel
theorem test_extension_exhausted :
    ((after (.extensionExhausted 21000 .a) (withStroke bulk { stroke .opening 900 .travel with paused := true })).line
      .a).trip.map (fun r => r.cause) = some .strokeFailed := by decide +kernel
theorem test_hold_end :
    ((after (.holdEnd 1500 .a) (withStroke bulk (stroke .opening 900 .hold))).valve .a).stroke = none ∧
    (after (.holdEnd 1500 .a) (withStroke bulk (stroke .opening 900 .hold))).chan1.holder = none := by decide +kernel
/-- R86 and R20: the closed limit switch ends a close of reason END with the line COMPLETE. -/
theorem test_closed_switch_ends_the_close :
    ((after (.closedLimitSwitch 1000 .a true)
      (withStroke (closing .ending (closeRec .stage)) (stroke .close 0 .travel))).line .a).state = .complete := by
  decide +kernel
theorem test_open_switch :
    ((after (.openLimitSwitch 1000 .a true) bulk).valve .a).position = 1000 := by decide +kernel
/-- R168: the loop is judged open 50 ms after it opened, and a closing within that time raises nothing. -/
theorem test_loop :
    (after (.loopDebounceExpiry 1050) (after (.esdLoopOpen 1000) idle)).shut.causes.loop = some 1050 ∧
    (after (.loopDebounceExpiry 1050) (after (.esdLoopClosed 1049) (after (.esdLoopOpen 1000) idle))).latch = false := by
  decide +kernel
/-- R175: power-on latches POWER_ON alone. -/
theorem test_power_on :
    (after (.powerOn { loopOpen := true, closedSwitch := .all false, openSwitch := .all true }) idle).shut.causes.list =
      [.powerOn] := by decide +kernel

/-! ### States and operands that meet the hypotheses of each statement

Each theorem is named after its statement. A statement of several clauses has one conjunct for each clause, at a boundary of
its range where it has one. -/

/-- Both buffers hold a waiting request; the overrun slot is taken too; one buffer holds a waiting request. -/
def full : State :=
  { idle with buf1 := .waiting 1 (.request .readEsd), buf2 := .waiting 2 (.request .readHpu), waitOrder := [.b1, .b2] }
def overrun : State := { full with overrun := some 9, replyOrder := [.overrun] }
def oneWaits : State := { idle with buf1 := .waiting 1 (.request .readEsd), waitOrder := [.b1] }

theorem hyp_StepTakesTheFrontCommand : State.reset.pending = [] := rfl

theorem hyp_ReadsAndLineNumbers :
    (∀ r : Request, r = .start 1 ∨ r = .hold 4 ∨ r = .resume 0 ∨ r = .stop 5 ∨ r = .clearTrip 1 →
      State.reset.takesIn 5 r = some .b1) ∧
    lineOf 0 = none ∧ lineOf 5 = none ∧ lineOf 1 = some .a ∧ lineOf 4 = some .d ∧
    (State.reset.line .d).state = .undeclared ∧
    State.reset.takesIn 5 (.readLine 1) = some .b1 ∧ State.reset.takesIn 5 (.readTrip 5) = some .b1 ∧
    State.reset.takesIn 5 (.readTank 9) = some .b1 ∧ State.reset.takesIn 5 .readLink = some .b1 ∧
    State.reset.takesIn 5 .readHpu = some .b1 ∧ State.reset.takesIn 5 .readEsd = some .b1 ∧
    tankOf 0 = none ∧ tankOf 9 = none ∧ tankOf 1 = some .k1 ∧ tankOf 8 = some .k8 := by
  refine ⟨?_, by decide +kernel⟩
  rintro r (rfl | rfl | rfl | rfl | rfl) <;> decide +kernel

theorem hyp_RequestWaitsOrOverruns :
    full.takesIn 5 (.start 1) = none ∧ full.freeBuf = none ∧ full.overrun = none ∧
    overrun.takesIn 5 (.start 1) = none ∧ overrun.freeBuf = none ∧ overrun.overrun.isSome = true ∧
    oneWaits.takesIn 5 (.start 1) = none ∧ oneWaits.freeBuf = some .b2 := by decide +kernel

theorem hyp_ReceivedFrameIsBufferedOrAnswered :
    idle.freeBuf = some .b1 ∧ idle.waitOrder = [] ∧ idle.restart = .idle ∧ decodeRequest 0x7F [] = none ∧
    decodeRequest 0x10 [1, 2] = some none ∧ decodeRequest 0x10 [2] = some (some (.start 2)) := by decide +kernel
/-- Both buffers occupied; a frame behind a waiting request, and one in the wait of a RESTART; a state with a request waiting steps. -/
theorem hyp_ReceivedFrameIsBufferedOrAnswered_waits :
    full.unreadAnswered ∧ full.freeBuf = none ∧ overrun.unreadAnswered ∧ overrun.freeBuf = none ∧
    oneWaits.unreadAnswered ∧ oneWaits.freeBuf = some .b2 ∧ oneWaits.waitOrder.head? = some .b1 ∧
    oneWaits.buf .b1 ≠ .empty ∧ ({ idle with restart := .replying } : State).freeBuf = some .b1 ∧
    ({ idle with restart := .replying } : State).unreadAnswered ∧
    ∃ u, step { oneWaits with pending := [.consoleFrameReceived 1000 0x7F 6 []] } = .next u := by
  refine ⟨?_, by decide, ?_, by decide, ?_, by decide, by decide, by decide, by decide, ?_, _, rfl⟩
  · rintro - b g f h1 h2; cases h1; cases h2; exact ⟨_, rfl⟩
  · rintro - b g f h1 h2; cases h1; cases h2; exact ⟨_, rfl⟩
  · rintro - b g f h1 h2; cases h1; cases h2; exact ⟨_, rfl⟩
  · intro h; cases h

/-- A reply, a notice, the reply of an accepted RESTART in transmission; a reply and a notice waiting behind the line. -/
def reply (again : Bool) : Reply := { tag := 5, result := .ok, record := [], restart := again }
def sending (src : ReplySource) (again : Bool) : State :=
  { idle with buf1 := .answered (reply again), tx := some (.reply src (reply again)) }
def linkNotice : Notice := { key := .link, content := idle.content .link, stamp := 1000 }

theorem hyp_FrameEndFreesTheLine :
    (sending (.buffer .b1) true).tx = some (.reply (.buffer .b1) (reply true)) ∧
    (sending .overrun false).tx = some (.reply .overrun (reply false)) ∧
    (sending (.buffer .b1) false).restart = .idle ∧ (reply false).restart = false ∧
    ({ sending (.buffer .b1) false with replyOrder := [.overrun] } : State).replyOrder = [.overrun] ∧
    ({ sending (.buffer .b1) false with notices := [linkNotice] } : State).notices = [linkNotice] ∧
    (sending (.buffer .b1) false).replyOrder = [] ∧ (sending (.buffer .b1) false).notices = [] := by decide +kernel

/-- The next reply is the overrun slot's, or the other buffer's, and not the one that is being sent. -/
def nextReply (q : ReplySource) : State :=
  { sending (.buffer .b1) false with replyOrder := [q], overrun := some 9, buf2 := .answered (reply false) }
theorem hyp_FrameEndFreesTheLine_next :
    (nextReply .overrun).overrun = some 9 ∧ (nextReply (.buffer .b2)).buf .b2 = .answered (reply false) ∧
    (∀ x, (nextReply .overrun).tx ≠ some (.reply .overrun x)) ∧
    (∀ x, (nextReply (.buffer .b2)).tx ≠ some (.reply (.buffer .b2) x)) := by
  refine ⟨rfl, rfl, ?_, ?_⟩ <;> intro x <;> simp [nextReply, sending]

theorem hyp_ReceiverReadsEveryFrame : ([] : List Byte).length ≤ 64 ∧ (List.replicate 64 (0 : Byte)).length ≤ 64 := by simp
theorem hyp_RequestPayloadsDecode : requestFits (.lineProfile 255 profile) = true := by decide +kernel
theorem hyp_ShipRepliesDecode :
    shipReplyFits (.reading 1 0 65535) = true ∧ shipReplyFits (.panel 15 (word 1 0) (word 2 3)) = true ∧
    shipReplyFits (.declaration wireDecl) = true ∧ shipReplyFits .wait = true ∧ shipReplyFits .refuse = true := by
  decide +kernel

/-- A state in which only line A has a list, no tank twice on it, has no tank on two lists. -/
theorem apart_of_one (s : State) (ks : List TankId) (h : s.lists = { a := ks, b := [], c := [], d := [] })
    (hk : ks.Nodup) : s.listsApart := by
  intro l
  refine ⟨by cases l <;> simp [State.list, Quad.get, h, hk], ?_⟩
  intro m hm k
  cases l <;> cases m <;> simp_all [State.list, Quad.get]

/-- The invariants hold of a state that does something, and it steps. -/
def busy : State := { withStroke bulk (stroke .throttle 700 .setup) with pending := [.setupEnd 1400 .a] }
theorem hyp_invariants_of_a_step :
    busy.noticesDistinct ∧ busy.listsApart ∧ busy.countsBounded ∧ busy.permitsSound ∧ busy.ratesBounded ∧ busy.oneStroke ∧
    ∃ u, step busy = .next u := by
  refine ⟨?_, ?_, ?_, ?_, ?_, ?_, _, rfl⟩
  · unfold State.noticesDistinct; decide +kernel
  · intro l
    refine ⟨by cases l <;> decide +kernel, ?_⟩
    intro m; cases l <;> cases m <;> decide +kernel
  · refine ⟨?_, by decide +kernel⟩; intro k; cases k <;> decide +kernel
  · intro p; cases p <;> decide +kernel
  · intro l r h; cases l <;> simp_all [busy, withStroke, setValve, bulk, lineIn, setTank, setLine, idle, State.valve, Quad.get,
      Quad.set, State.reset, State.powerOn, Valve.init, Config.minRate, Config.maxRate]
    all_goals omega
  · intro l; cases l <;> decide +kernel

/-- The invariants of the valves hold of `busy`, of a valve with a follow-on and of a state with the latch set, and each steps. -/
def following : State :=
  let s := withStroke bulk (stroke .throttle 700 .hold)
  { setValve s { s.valve .a with followOn := some { cls := .throttle, target := 550, time := 1000, retry := false } } with
    pending := [.holdEnd 1500 .a] }
def latchedStep : State := { setCauses idle { noCauses with powerOn := some 0 } with pending := [.holdEnd 1500 .a] }
theorem hyp_ValvesStaySound :
    busy.oneStroke ∧ busy.channelsSound ∧ busy.targetsBounded ∧
    (∀ t tag n p, busy.pending.head? ≠ some (.lineProfile t tag n p)) ∧
    following.oneStroke ∧ following.followOnsSound ∧ (∃ u, step busy = .next u) ∧ ∃ u, step following = .next u := by
  refine ⟨?_, ?_, ?_, ?_, ?_, ?_, ⟨_, rfl⟩, _, rfl⟩
  · intro l; cases l <;> decide +kernel
  · intro l; cases l <;> decide +kernel
  · intro l
    have hp : (busy.valve l).pending = none := by cases l <;> rfl
    have hf : (busy.valve l).followOn = none := by cases l <;> rfl
    refine ⟨by cases l <;> decide +kernel, by simp [hp], ?_, by simp [hf]⟩
    intro k hk
    cases l
    · have : (busy.valve .a).stroke = some (stroke .throttle 700 .setup) := rfl
      rw [this] at hk; cases hk; decide +kernel
    all_goals cases hk
  · intro t tag n p; simp [busy]
  · intro l; cases l <;> decide +kernel
  · intro l r hr
    cases l
    · have : (following.valve .a).followOn = some { cls := .throttle, target := 550, time := 1000, retry := false } := rfl
      rw [this] at hr; cases hr
      exact ⟨by decide, stroke .throttle 700 .hold, rfl, by decide⟩
    all_goals cases hr
/-- A line closing in STAGE whose CLOSE is pending, each channel held by another valve's CLOSE stroke, one of which ends. -/
def waitingClose : State :=
  let s := closing .hold { closeRec .stage with stage := some 1 }
  let wait : Valve := { s.valve .a with pending := some { cls := .close, target := 0, time := 900, retry := false } }
  let busyAt (l : LineId) (p : StrokePhase) : Valve := { s.valve l with stroke := some (stroke .close 0 p) }
  { s with valves := ((s.valves.set .a wait).set .b (busyAt .b .hold)).set .c (busyAt .c .travel),
           chan1 := { holder := some .b, lastDir := some .closeward },
           chan2 := { holder := some .c, lastDir := some .closeward }, pending := [.holdEnd 1500 .b] }
theorem hyp_ValvesStaySound_closes :
    waitingClose.oneStroke ∧ waitingClose.followOnsSound ∧ waitingClose.pendingClosesSound ∧
    (waitingClose.valve .a).pending.isSome = true ∧ ∃ u, step waitingClose = .next u := by
  have hf : ∀ l, (waitingClose.valve l).followOn = none := by intro l; cases l <;> rfl
  refine ⟨by intro l; cases l <;> decide +kernel, by intro l; simp [hf], ?_, by decide +kernel, _, rfl⟩
  intro l r hr _
  cases l
  · exact .inl (by decide +kernel)
  all_goals cases hr
theorem hyp_PermitsStaySound :
    latchedStep.latch = true ∧ latchedStep.oneStroke ∧ latchedStep.followOnsSound ∧ latchedStep.latchQuiet ∧
    ∃ u, step latchedStep = .next u := by
  have hp : ∀ l, (latchedStep.valve l).pending = none := by intro l; cases l <;> rfl
  have hs : ∀ l, (latchedStep.valve l).stroke = none := by intro l; cases l <;> rfl
  have hf : ∀ l, (latchedStep.valve l).followOn = none := by intro l; cases l <;> rfl
  refine ⟨by decide +kernel, ?_, ?_, ?_, _, rfl⟩
  · intro l; simp [hs]
  · intro l; simp [hf]
  · intro _ l
    exact ⟨by cases l <;> decide +kernel, by simp [hp], by simp [hs], hf l⟩

/-- The commands of the frame statements: one that the statement's condition admits, and the state it leaves. -/
theorem hyp_OnlyTheirCommandsChangeLinkAndGrades :
    (Instr.start 1000 5 1).touchesLink = false ∧ (Instr.start 1000 5 1).touchesGrades = false ∧
    (Instr.manualTerms 1000 5 1 { maxRate := 1, maxPressure := 1, changeoverOk := 0 }).touchesLink = false ∧
    exec (.start 1000 5 1) idle = .next (after (.start 1000 5 1) idle) := ⟨rfl, rfl, rfl, rfl⟩
theorem hyp_OnlyProfilesChangeTheSettings :
    exec (.start 1000 5 1) idle = .next (after (.start 1000 5 1) idle) ∧
    (∀ i, Instr.start 1000 5 1 ≠ .powerOn i) ∧ (∀ t tag n p, Instr.start 1000 5 1 ≠ .lineProfile t tag n p) ∧
    (∀ t tag h, Instr.start 1000 5 1 ≠ .hpuProfile t tag h) ∧
    (∀ t tag n o, Instr.start 1000 5 1 ≠ .gradeProfile t tag n o) := by
  refine ⟨rfl, ?_, ?_, ?_, ?_⟩ <;> intros <;> simp
theorem hyp_OnlyInputsChangeInputs :
    exec (.holdEnd 1500 .a) bulk = .next (after (.holdEnd 1500 .a) bulk) ∧
    (∀ i, Instr.holdEnd 1500 .a ≠ .powerOn i) ∧ (∀ t a, Instr.holdEnd 1500 .a ≠ .closedLimitSwitch t .a a) ∧
    (∀ t a, Instr.holdEnd 1500 .a ≠ .openLimitSwitch t .a a) ∧ (∀ t x, Instr.holdEnd 1500 .a ≠ .positionSample t .a x) ∧
    (∀ t, Instr.holdEnd 1500 .a ≠ .gateEnd t) ∧ (∀ t, Instr.holdEnd 1500 .a ≠ .meterPulse t .a) ∧
    (∀ t x, Instr.holdEnd 1500 .a ≠ .pressureSample t .a x) ∧ (∀ t x, Instr.holdEnd 1500 .a ≠ .accumulatorSample t x) ∧
    (∀ t, Instr.holdEnd 1500 .a ≠ .esdLoopOpen t) ∧ (∀ t, Instr.holdEnd 1500 .a ≠ .esdLoopClosed t) ∧
    (∀ t, Instr.holdEnd 1500 .a ≠ .loopDebounceExpiry t) := by
  refine ⟨rfl, ?_, ?_, ?_, ?_, ?_, ?_, ?_, ?_, ?_, ?_, ?_⟩ <;> intros <;> simp
theorem hyp_OnlyTheShipLinkChangesTankReadings :
    exec (.start 1000 5 1) idle = .next (after (.start 1000 5 1) idle) ∧
    (Instr.start 1000 5 1).touchesReadings = false ∧ (Instr.renegotiate 1000 5).touchesReadings = false :=
  ⟨rfl, rfl, rfl⟩
theorem hyp_LatchedCausesAndTripRecordsPersist :
    let s := setLine (setCauses idle { noCauses with valve := some 900 })
      { idle.line .a with trip := some { cause := .esd, time := 900, stateAtTrip := .bulk, pressure := 0, rate := 0,
                                         delivered := 0, activeTank := none, esdCauses := some [.valve] } }
    s.shut.causes.get .valve = some 900 ∧ (s.line .a).trip.isSome = true ∧
    exec (.esdStop 1000 5) s = .next (after (.esdStop 1000 5) s) ∧ (∀ i, Instr.esdStop 1000 5 ≠ .powerOn i) ∧
    (∀ t tag, Instr.esdStop 1000 5 ≠ .esdReset t tag) := by
  refine ⟨rfl, rfl, rfl, ?_, ?_⟩ <;> intros <;> simp
theorem hyp_LineStateChangesAreAnnounced :
    exec (.start 1000 5 1) idle = .next (after (.start 1000 5 1) idle) ∧
    (∀ i, Instr.start 1000 5 1 ≠ .powerOn i) ∧
    ((after (.start 1000 5 1) idle).line .a).state ≠ (idle.line .a).state := by
  refine ⟨rfl, ?_, by decide +kernel⟩; intros; simp

/-! #### Requests for a line -/

/-- Line A's list empty, a cause latched, grade 2 offering, no panel reply, a panel that is not ready or asks to stop, tank 3
stale: of any state. -/
def noList (s : State) : State := { s with lists := s.lists.set .a [] }
def latched (s : State) : State := setCauses s { noCauses with powerOn := some 0 }
def offering (s : State) : State := { s with grades := { s.grades with g2 := offeringGrade } }
def withPanel (s : State) (p : Option PanelReply) : State := { s with link := { s.link with panel := p } }
def notReady (s : State) : State := withPanel s (some { panel with ready := false })
def stopping (s : State) : State := withPanel s (some { panel with shipStop := true })
def staleTank (s : State) : State := setTank s { s.tank .k3 with health := .stale }

theorem hyp_StartIsRefusedInOrder :
    lineOf 1 = some .a ∧
    bulk.takesIn 5 (.start 1) = some .b1 ∧ (bulk.line .a).state ≠ .idle ∧
    (noList idle).takesIn 5 (.start 1) = some .b1 ∧ (noList idle).list .a = [] ∧
    (latched idle).takesIn 5 (.start 1) = some .b1 ∧ (latched idle).list .a = [.k3] ∧ (latched idle).latch = true ∧
    (offering idle).takesIn 5 (.start 1) = some .b1 ∧ (offering idle).latch = false ∧
    (offering idle).termsAgreed .a = false ∧
    (withPanel idle none).termsAgreed .a = true ∧ (withPanel idle none).link.panel = none ∧
    (notReady idle).takesIn 5 (.start 1) = some .b1 ∧ (notReady idle).link.panel.map (fun p => p.ready) = some false ∧
    (stopping idle).takesIn 5 (.start 1) = some .b1 ∧
    (stopping idle).link.panel.map (fun p => (p.ready, p.shipStop)) = some (true, true) ∧
    (staleTank idle).takesIn 5 (.start 1) = some .b1 ∧ ((staleTank idle).tank .k3).health ≠ .live ∧
    (staleTank idle).termsAgreed .a = true ∧ ((staleTank idle).line .a).state = .idle := by decide +kernel

/-- Line A idle with the CLOSE stroke of its last close still holding its valve, and with its valve at start_pos already. -/
def stillHolding : State := withStroke idle (stroke .close 0 .hold)
def atStart : State := setValve idle { idle.valve .a with position := 200, closedSwitch := false }
theorem hyp_StartRunsTheLine :
    lineOf 1 = some .a ∧ idle.takesIn 5 (.start 1) = some .b1 ∧ (idle.line .a).state = .idle ∧ idle.list .a = [.k3] ∧
    idle.latch = false ∧ idle.termsAgreed .a = true ∧ idle.link.panel = some panel ∧ panel.ready = true ∧
    panel.shipStop = false ∧ (idle.tank .k3).health = .live ∧ idle.pumpOfLine .a = some .p2 ∧
    idle.atTarget .a (idle.startStroke .a 1000) = false ∧ (idle.valve .a).pending = none ∧
    (idle.valve .a).stroke = none ∧
    (stillHolding.valve .a).stroke = some (stroke .close 0 .hold) ∧ (stillHolding.line .a).state = .idle ∧
    stillHolding.termsAgreed .a = true ∧
    ((withStroke idle (stroke .opening 900 .setup)).valve .a).stroke = some (stroke .opening 900 .setup) ∧
    atStart.atTarget .a (atStart.startStroke .a 1000) = true ∧ (atStart.line .a).state = .idle := by decide +kernel

theorem hyp_StartRunsTheLine_apart : idle.listsApart ∧ stillHolding.listsApart ∧ atStart.listsApart :=
  ⟨apart_of_one _ [.k3] rfl (by decide), apart_of_one _ [.k3] rfl (by decide), apart_of_one _ [.k3] rfl (by decide)⟩

theorem hyp_ResumeGoesOnWithTheList_apart : held.listsApart := apart_of_one _ [.k3] rfl (by decide)
theorem hyp_ResumeGoesOnWithTheList :
    lineOf 1 = some .a ∧ idle.takesIn 5 (.resume 1) = some .b1 ∧ (idle.line .a).state ≠ .held ∧
    held.takesIn 5 (.resume 1) = some .b1 ∧ (held.line .a).state = .held ∧ held.list .a = [.k3] ∧
    (held.tank .k3).use ≠ .done ∧
    ((setTank held (liveTank .done)).tank .k3).use = .done ∧ ((setTank held (liveTank .done)).line .a).state = .held ∧
    (noList held).list .a = [] ∧ (latched held).latch = true ∧ (latched held).list .a = [.k3] ∧
    (offering held).latch = false ∧ (offering held).termsAgreed .a = false ∧ (withPanel held none).link.panel = none ∧
    (withPanel held none).termsAgreed .a = true ∧
    (stopping held).link.panel.map (fun p => (p.ready, p.shipStop)) = some (true, true) ∧
    held.link.panel = some panel ∧ ((staleTank held).tank .k3).health ≠ .live ∧ (held.tank .k3).health = .live := by decide +kernel

theorem hyp_HoldClosesAFlowingLine :
    lineOf 1 = some .a ∧ idle.takesIn 5 (.hold 1) = some .b1 ∧ idle.flowing .a = false ∧
    bulk.takesIn 5 (.hold 1) = some .b1 ∧ bulk.flowing .a = true ∧ (bulk.valve .a).closedSwitch = false := by
  decide +kernel
theorem hyp_StopEndsTheTransfer :
    lineOf 1 = some .a ∧ idle.takesIn 5 (.stop 1) = some .b1 ∧ idle.flowing .a = false ∧ (idle.line .a).state ≠ .held ∧
    bulk.takesIn 5 (.stop 1) = some .b1 ∧ bulk.flowing .a = true ∧ (bulk.valve .a).closedSwitch = false ∧
    held.takesIn 5 (.stop 1) = some .b1 ∧ (held.line .a).state = .held := by decide +kernel

/-- Line A tripped with its valve closed, with and without QUIET_PENDING. -/
def tripped (quiet : Bool) : State :=
  let s := setValve (lineIn .tripped .active) (idle.valve .a)
  setLine s { s.line .a with quietPending := quiet }
theorem hyp_ClearTripSettlesTheLine :
    lineOf 1 = some .a ∧ idle.takesIn 5 (.clearTrip 1) = some .b1 ∧ (idle.line .a).state ≠ .tripped ∧
    (lineIn .tripped .active).takesIn 5 (.clearTrip 1) = some .b1 ∧ ((lineIn .tripped .active).line .a).state = .tripped ∧
    ((lineIn .tripped .active).valve .a).closedSwitch = false ∧
    (tripped true).takesIn 5 (.clearTrip 1) = some .b1 ∧ ((tripped true).line .a).state = .tripped ∧
    ((tripped true).valve .a).closedSwitch = true ∧ ((tripped true).line .a).quietPending = true ∧
    (tripped false).takesIn 5 (.clearTrip 1) = some .b1 ∧ ((tripped false).line .a).quietPending = false ∧
    ((tripped false).list .a).Nodup := by decide +kernel

/-- Another line of line A's pump with the other grade. -/
def otherGrade : State :=
  { idle with lines := idle.lines.set .b { LineRec.init with profile := some { profile with grade := 1 }, state := .idle } }
theorem hyp_LineProfileIsTestedAndStored :
    lineOf 0 = none ∧ idle.takesIn 5 (.lineProfile 5 profile) = some .b1 ∧ lineOf 5 = none ∧ lineOf 1 = some .a ∧ bulk.takesIn 5 (.lineProfile 1 profile) = some .b1 ∧ (bulk.line .a).state = .bulk ∧
    idle.takesIn 5 (.lineProfile 1 profile) = some .b1 ∧ (idle.line .a).state = .idle ∧
    profileError { profile with grade := 3 } = some 1 ∧ profileError { profile with arrivalBand := 51 } = some 30 ∧
    profileError { profile with boreMm := 49 } = some 3 ∧ profileError { profile with boreMm := 50 } = none ∧
    profileError profile = none ∧ gradeOf profile.grade = some .g2 ∧ pumpOf profile.pump = some .p2 ∧
    (State.reset.grade .g2).agreement = .undeclared ∧ State.reset.takesIn 5 (.lineProfile 1 profile) = some .b1 ∧
    (idle.grade .g2).agreement ≠ .undeclared ∧
    (otherGrade.pumpOfLine .b = some .p2 ∧ otherGrade.gradeOfLine .b ≠ some .g2) ∧
    (idle.tank .k3).decl.map (fun d => d.grade) = some .g2 ∧
    (idle.line .a).profile.map (fun q => q.nominalRate) = some profile.nominalRate ∧
    (idle.line .b).profile.map (fun q => q.nominalRate) ≠ some profile.nominalRate ∧
    (idle.valve .a).pending = none ∧ clampProfile profile = profile ∧ clampProfile { profile with bulkPos := 150 } ≠ profile ∧
    (idle.valve .a).closedSwitch = true ∧
    ((lineIn .complete .done).line .a).state = .complete ∧ ((lineIn .tripped .active).line .a).state = .tripped ∧
    ((lineIn .tripped .active).valve .a).closedSwitch = false := by decide +kernel
theorem hyp_LineProfileIsTestedAndStored_lists :
    (∀ k d, k ∈ idle.list .a → (idle.tank k).decl = some d → d.grade = .g2) ∧
    (∀ m, m ≠ .a → idle.pumpOfLine m = some .p2 → idle.gradeOfLine m = some .g2) := by
  constructor
  · intro k d hk hd
    have : k = .k3 := by revert hk; cases k <;> decide +kernel
    subst this
    have : (idle.tank .k3).decl = some decl := rfl
    rw [this] at hd; cases hd; rfl
  · intro m; cases m <;> decide +kernel

/-- A fill order of `count` tanks; tank 3 listed and fed elsewhere. -/
def order (count pos1 pos2 : Nat) : OrderOperands := { count := count, pos1 := pos1, pos2 := pos2, pos3 := 0, pos4 := 0 }
def usedElsewhere : State := { idle with lists := (idle.lists.set .a []).set .b [.k3] }
def wrongGrade : State := setTank idle { liveTank .queued with decl := some { decl with grade := .g1 } }
theorem hyp_FillOrderReplacesTheList :
    lineOf 0 = none ∧ idle.takesIn 5 (.fillOrder 5 (order 1 3 0)) = some .b1 ∧ lineOf 5 = none ∧ lineOf 1 = some .a ∧ bulk.takesIn 5 (.fillOrder 1 (order 1 3 0)) = some .b1 ∧ (bulk.line .a).state = .bulk ∧
    idle.takesIn 5 (.fillOrder 1 (order 0 3 0)) = some .b1 ∧ (order 0 3 0).count < 1 ∧ 4 < (order 5 3 0).count ∧
    tankOf ((orderNumbers (order 2 3 9)).getD 1 0) = none ∧ (tankOf ((orderNumbers (order 2 3 9)).getD 0 0)).isSome = true ∧
    (∀ x ∈ orderNumbers (order 2 3 3), (tankOf x).isSome = true) ∧
    ¬ ((orderNumbers (order 2 3 3)).filterMap tankOf).Nodup ∧
    (orderNumbers (order 1 3 0)).filterMap tankOf = [.k3] ∧
    ((staleTank idle).tank .k3).health ≠ .live ∧ (idle.tank .k3).health = .live ∧
    (wrongGrade.tank .k3).decl.map (fun d => d.grade) ≠ wrongGrade.gradeOfLine .a ∧
    (idle.tank .k3).decl.map (fun d => d.grade) = idle.gradeOfLine .a ∧
    .k3 ∈ usedElsewhere.list .b ∧
    ((lineIn .complete .done).line .a).state = .complete ∧ (held.line .a).state = .held := by decide +kernel
theorem hyp_FillOrderReplacesTheList_elsewhere :
    ∀ m, m ≠ .a → .k3 ∉ idle.list m ∧ .k3 ∉ (idle.line m).fedSet := by
  intro m; cases m <;> decide +kernel

/-! #### Requests for a grade, the supply, the part -/

def grade850 : GradeOperands := { density := 850, maxRate := 8000, maxPressure := 1200, changeoverOk := 1 }
theorem hyp_GradeProfileRestartsTheAgreement :
    idle.takesIn 5 (.gradeProfile 2 grade850) = some .b1 ∧ gradeOf 0 = none ∧ gradeOf 3 = none ∧ gradeOf 2 = some .g2 ∧
    bulk.takesIn 5 (.gradeProfile 2 grade850) = some .b1 ∧ bulk.gradeOfLine .a = some .g2 ∧ bulk.flowing .a = true ∧
    gradeError { grade850 with density := 699 } = some 1 ∧ gradeError { grade850 with density := 700 } = none ∧
    gradeError { grade850 with changeoverOk := 2 } = some 4 ∧ gradeError grade850 = none ∧ idle.link.state = .up ∧
    State.reset.link.state ≠ .up := by decide +kernel
theorem hyp_GradeProfileRestartsTheAgreement_quiet :
    ∀ l, idle.gradeOfLine l = some .g2 → idle.flowing l = false ∧ idle.closing l = false := by
  intro l; cases l <;> decide +kernel

def manual7000 : ManualOperands := { maxRate := 7000, maxPressure := 1500, changeoverOk := 1 }
def incapable : State := withPanel idle (some { panel with termsCapable := false })
theorem hyp_ManualTermsAgreeTheStricterFigures :
    idle.takesIn 5 (.manualTerms 2 manual7000) = some .b1 ∧ gradeOf 0 = none ∧ gradeOf 2 = some .g2 ∧
    manualError { manual7000 with maxRate := 0 } = some 1 ∧ manualError { manual7000 with maxPressure := 4001 } = some 2 ∧
    manualError { manual7000 with maxPressure := 4000 } = none ∧ manualError manual7000 = none ∧
    (State.reset.grade .g2).agreement = .undeclared ∧ (idle.grade .g2).agreement ≠ .undeclared ∧
    ({ idle with link := { idle.link with state := .silent } } : State).link.state ≠ .up ∧ idle.link.state = .up ∧
    idle.link.panel = some panel ∧ panel.termsCapable = true ∧
    incapable.takesIn 5 (.manualTerms 2 manual7000) = some .b1 ∧
    incapable.link.panel = some { panel with termsCapable := false } ∧ (incapable.grade .g2).barge = some bargeTerms ∧
    (withPanel bulk (some { panel with termsCapable := false })).flowing .a = true ∧
    bulk.gradeOfLine .a = some .g2 := by decide +kernel
theorem hyp_ManualTermsAgreeTheStricterFigures_quiet :
    ∀ l, incapable.gradeOfLine l = some .g2 → incapable.flowing l = false ∧ incapable.closing l = false := by
  intro l; cases l <;> decide +kernel

theorem hyp_HpuProfileReworksTheBand :
    busy.takesIn 5 (.hpuProfile defaultHpuProfile) = some .b1 ∧ (busy.valve .a).stroke.isSome = true ∧
    idle.takesIn 5 (.hpuProfile defaultHpuProfile) = some .b1 ∧ hpuError { defaultHpuProfile with releaseKPa := 999 } = some 1 ∧
    hpuError { defaultHpuProfile with needKPa := 18000 } = some 2 ∧ hpuError { defaultHpuProfile with mustKPa := 14000 } = some 3 ∧
    hpuError { defaultHpuProfile with releaseKPa := 14001, mustKPa := 13999 } = none ∧ hpuError defaultHpuProfile = none := by
  decide +kernel
theorem hyp_HpuProfileReworksTheBand_idle : ∀ l, (idle.valve l).stroke = none := by intro l; cases l <;> rfl
/-- The settings that change the band of 20000 kPa from RELEASE to MAY, at its boundary, and those that keep it. -/
theorem hyp_HpuProfileReworksTheBand_pump :
    hpuError { defaultHpuProfile with releaseKPa := 20001 } = none ∧ idle.supply.band = .release ∧
    bandOf { defaultHpuProfile with releaseKPa := 20001 } idle.supply.pressure = .may ∧
    bandOf { defaultHpuProfile with releaseKPa := 20000 } idle.supply.pressure = .release ∧
    idle.supply.pump = false ∧ idle.bothFree = true := by decide +kernel

theorem hyp_EsdStopShutsDown :
    bulk.takesIn 5 .esdStop = some .b1 ∧ bulk.shut.causes.console = none ∧
    (setCauses idle { noCauses with console := some 900 }).takesIn 5 .esdStop = some .b1 ∧
    (setCauses idle { noCauses with console := some 900 }).shut.causes.console = some 900 := by decide +kernel

def overfull : State :=
  setTank (setCauses idle { noCauses with overfill := some 900 }) { liveTank .queued with overfill := true }
theorem hyp_EsdResetClearsTheLatch :
    overfull.takesIn 5 .esdReset = some .b1 ∧ (overfull.shut.causes.get .overfill).isSome = true ∧
    overfull.conditionHolds .overfill = true ∧
    (latched (closing .esd (closeRec .stage))).takesIn 5 .esdReset = some .b1 ∧
    (latched (closing .esd (closeRec .stage))).closing .a = true ∧
    idle.takesIn 5 .esdReset = some .b1 ∧ idle.latch = false ∧ (latched idle).takesIn 5 .esdReset = some .b1 ∧
    (latched idle).latch = true := by decide +kernel
theorem hyp_EsdResetClearsTheLatch_free :
    (∀ x, ((latched (closing .esd (closeRec .stage))).shut.causes.get x).isSome = true →
      (latched (closing .esd (closeRec .stage))).conditionHolds x = false) ∧
    (∀ x, ((latched idle).shut.causes.get x).isSome = true → (latched idle).conditionHolds x = false) ∧
    (∀ l, (latched idle).closing l = false) := by
  refine ⟨?_, ?_, ?_⟩
  · intro x; cases x <;> decide +kernel
  · intro x; cases x <;> decide +kernel
  · intro l; cases l <;> decide +kernel

theorem hyp_RenegotiateEntersSilence :
    bulk.takesIn 5 .renegotiate = some .b1 ∧ bulk.flowing .a = true ∧ State.reset.takesIn 5 .renegotiate = some .b1 ∧
    State.reset.link.state ≠ .up ∧ idle.takesIn 5 .renegotiate = some .b1 ∧ idle.link.state = .up ∧
    (idle.grade .g1).agreement = .undeclared ∧ (idle.grade .g2).agreement ≠ .undeclared := by decide +kernel
theorem hyp_RenegotiateEntersSilence_quiet :
    (∀ l, idle.flowing l = false ∧ idle.closing l = false) ∧
    (∀ l, State.reset.flowing l = false ∧ State.reset.closing l = false) := by
  constructor <;> intro l <;> cases l <;> decide +kernel

theorem hyp_RestartWaitsThenStartsAfresh :
    busy.takesIn 5 .restart = some .b1 ∧ busy.restart = .idle ∧ busy.flowing .a = true ∧
    idle.takesIn 5 .restart = some .b1 ∧ idle.restart = .idle ∧
    ({ oneWaits with restart := .due } : State).restart = .due ∧
    ({ oneWaits with restart := .due } : State).buf .b1 = .waiting 1 (.request .readEsd) ∧
    ({ sending (.buffer .b1) false with restart := .due } : State).buf .b1 = .answered (reply false) ∧
    (idle.grade .g2).agreement ≠ .undeclared := by decide +kernel
theorem hyp_RestartWaitsThenStartsAfresh_quiet :
    ∀ l, idle.flowing l = false ∧ idle.closing l = false ∧ (idle.valve l).stroke = none := by
  intro l; cases l <;> exact ⟨rfl, rfl, rfl⟩

/-! #### The ship link -/

/-- A schedule whose first slots are a READ of tank 3, a DECLARE of tank 1 with its tail, and idle slots. -/
def scheduled : State :=
  let given (p : SlotUse) : Slot := { plan := p, begun := false, outcome := .pending }
  { idle with link := { idle.link with slots :=
      [given (.read .k3), given (.declare .k1), given (.declareTail .k1), given .idle, given .idle] } }
theorem hyp_SlotsSendTheirPolls :
    (scheduled.link.slots.drop 0).head? = some { plan := .read .k3, begun := false, outcome := .pending } ∧
    (scheduled.link.slots.drop 1).head? = some { plan := .declare .k1, begun := false, outcome := .pending } ∧
    (scheduled.link.slots.drop 2).head?.map (fun x => x.plan) = some (.declareTail .k1) ∧
    (scheduled.link.slots.drop 4).head?.map (fun x => x.plan) = some .idle := by decide +kernel

/-- Line A in a state that delivers, its ACTIVE tank 3 read at `level` at 900; with tank 4 behind it in use `u`. -/
def levelled (st : LineState) (level : Nat) : State :=
  setTank (lineIn st .active) { liveTank .active with latest := some { level := level, time := 900 },
                                                      highWater := some level }
def paired (st : LineState) (u : TankUse) (level : Nat) : State :=
  let s := levelled st level
  { s with lists := s.lists.set .a [.k3, .k4],
           tanks := s.tanks.set .k4 { liveTank u with changeoverBase := some 1980 } }
/-- A HOLD and a STOP in CHANGEOVER. -/
theorem hyp_HoldClosesAFlowingLine_changeover :
    (paired .changeover .incoming 7000).takesIn 5 (.hold 1) = some .b1 ∧
    (paired .changeover .incoming 7000).flowing .a = true ∧
    ((paired .changeover .incoming 7000).line .a).state = .changeover ∧
    (paired .changeover .incoming 7000).activeTank .a = some .k3 ∧
    (paired .changeover .incoming 7000).incomingTank .a = some .k4 := by decide +kernel
theorem hyp_StopEndsTheTransfer_changeover :
    (paired .changeover .incoming 7000).takesIn 5 (.stop 1) = some .b1 ∧
    (paired .changeover .incoming 7000).flowing .a = true ∧
    ((paired .changeover .incoming 7000).valve .a).closedSwitch = false ∧
    ((paired .changeover .incoming 7000).line .a).state = .changeover ∧
    (paired .changeover .incoming 7000).activeTank .a = some .k3 ∧
    (paired .changeover .incoming 7000).incomingTank .a = some .k4 := by decide +kernel
theorem levelled_apart (st : LineState) (level : Nat) : (levelled st level).listsApart :=
  apart_of_one _ [.k3] rfl (by decide)
theorem paired_apart (st : LineState) (u : TankUse) (level : Nat) : (paired st u level).listsApart :=
  apart_of_one _ [.k3, .k4] rfl (by decide)
/-- The tanks at the two thresholds, and the mark tests at their marks and 1 mm below: topoff 6800, changeover 6500,
final 7100. -/
theorem hyp_MarkerOpensACycle :
    (idle.tank .k3).health = .live ∧ ((staleTank idle).tank .k3).health = .stale ∧
    elapsed 3899 (idle.tank .k3).lastNew < 3000 ∧ 3000 ≤ elapsed 3900 (idle.tank .k3).lastNew ∧
    elapsed 15899 (idle.tank .k3).lastNew < 15000 ∧ 15000 ≤ elapsed 15900 (idle.tank .k3).lastNew ∧
    (idle.tank .k1).health = .absent ∧
    (levelled .bulk 6800).activeTank .a = some .k3 ∧ ((levelled .bulk 6800).tank .k3).decl = some decl ∧
    ((levelled .bulk 6800).valve .a).closedSwitch = false ∧ ((levelled .bulk 6800).line .a).state = .bulk ∧
    ((levelled .bulk 6800).list .a).all (fun n => elapsed 1250 ((levelled .bulk 6800).tank n).lastNew < 15000) = true ∧
    (levelled .bulk 6800).levelReaches .a 6800 = true ∧ (levelled .bulk 6799).levelReaches .a 6800 = false ∧
    (levelled .bulk 6800).changeoverTarget .a = none ∧ (paired .bulk .queued 6500).changeoverTarget .a = some .k4 ∧
    elapsed 3899 ((paired .bulk .queued 6500).tank .k4).lastNew < 3000 ∧
    (paired .bulk .queued 6500).levelReaches .a 6500 = true ∧ (paired .bulk .queued 6499).levelReaches .a 6500 = false ∧
    ((levelled .changeover 7100).line .a).state = .changeover ∧ (levelled .changeover 7100).levelReaches .a 7100 = true ∧
    (levelled .changeover 7099).levelReaches .a 7100 = false ∧ ((levelled .topping 7100).line .a).state = .topping ∧
    (levelled .topping 7100).levelReaches .a 7100 = true ∧ (levelled .topping 7099).levelReaches .a 7100 = false ∧
    (levelled .bulk 2000).listLine .k3 = some .a ∧ (levelled .bulk 2000).flowing .a = true ∧
    ((levelled .bulk 2000).tank .k3).use = .active ∧ ((levelled .bulk 2000).tank .k3).health = .live ∧
    15000 ≤ elapsed 15900 ((levelled .bulk 2000).tank .k3).lastNew ∧
    ((levelled .topping 7099).evaluationNow .a 7100).leads = false := by decide +kernel

theorem hyp_PanelReplyIsStoredAndActs :
    idle.link.poll = none ∧ (setPoll idle .panel 0).link.poll = some { kind := .panel, slot := 0, start := 1000 } ∧
    elapsed 1029 1000 < 30 ∧ (panelReplyOf 4 (word 1 0) (word 2 0)).shipEsd = true ∧
    (panelReplyOf 2 (word 1 0) (word 2 0)).shipStop = true ∧ (panelReplyOf 11 (word 1 0) (word 2 0)).shipEsd = false ∧
    (setPoll bulk .panel 0).shut.causes.ship = none := by decide +kernel
/-- A flowing line with a reply that keeps its grade's agreement, one that ends it, and one whose grade ends none. -/
theorem hyp_PanelReplyIsStoredAndActs_lines :
    (setPoll bulk .panel 0).flowing .a = true ∧ ((setPoll bulk .panel 0).valve .a).closedSwitch = false ∧
    bulk.gradeOfLine .a = some .g2 ∧ bulk.link.state ≠ .down ∧ (bulk.grade .g2).agreement = .agreed ∧
    (bulk.grade .g2).keeps (judgeWord .g2 (word 2 0)) = false ∧ (bulk.grade .g2).keeps (judgeWord .g2 (word 2 3)) = true ∧
    bulk.gradeOfLine .a ≠ some .g1 ∧ (panelReplyOf 9 (word 1 0) (word 2 0)).shipStop = false ∧
    (panelReplyOf 9 (word 1 0) (word 2 0)).shipEsd = false := by decide +kernel

theorem hyp_PanelReplyIsStoredAndActs_closes : (setPoll bulk .panel 0).pendingClosesSound := by
  have hp : ∀ l, ((setPoll bulk .panel 0).valve l).pending = none := by intro l; cases l <;> rfl
  intro l; simp [hp]

theorem hyp_MissesCountToTheirLimits :
    (setPoll idle .panel 0).link.poll = some { kind := .panel, slot := 0, start := 1000 } ∧
    (setPoll idle (.read .k3) 1).link.poll = some { kind := .read .k3, slot := 1, start := 1000 } ∧
    (setPoll idle (.declare .k3) 1).link.poll = some { kind := .declare .k3, slot := 1, start := 1000 } ∧
    ({ kind := .panel, slot := 0, start := 1000 } : Poll).timeout = 30 ∧
    ({ kind := .read .k3, slot := 1, start := 1000 } : Poll).timeout = 30 ∧
    ({ kind := .declare .k3, slot := 1, start := 1000 } : Poll).timeout = 70 ∧
    elapsed 1029 1000 < 30 ∧ 30 ≤ elapsed 1030 1000 ∧ elapsed 1069 1000 < 70 ∧ 70 ≤ elapsed 1070 1000 ∧
    State.reset.link.state = .down ∧ idle.link.state ≠ .down ∧ idle.link.missCount + 1 < 5 ∧
    ({ bulk with link := { bulk.link with missCount := 4 } } : State).flowing .a = true ∧
    (bulk.valve .a).closedSwitch = false ∧ (idle.grade .g2).agreement ≠ .undeclared := by decide +kernel
/-- A READ miss of the ACTIVE tank of a flowing line: the 15th of a STALE one, and one before it. -/
theorem hyp_MissesCountToTheirLimits_lost (n : Nat) (hn : n = 14 ∨ n = 13) :
    let s := setPoll (setTank bulk { liveTank .active with health := .stale, missCount := n }) (.read .k3) 1
    s.link.poll = some { kind := .read .k3, slot := 1, start := 1000 } ∧ s.listLine .k3 = some .a ∧ s.flowing .a = true ∧
    (s.valve .a).closedSwitch = false ∧ (s.tank .k3).use = .active ∧ (s.tank .k3).health = .stale ∧
    ((s.tank .k3).missCount + 1 = 15 ↔ n = 14) := by
  rcases hn with rfl | rfl <;> decide +kernel

theorem hyp_ReadingsReachTheTank :
    (setPoll idle (.read .k3) 1).link.poll = some { kind := .read .k3, slot := 1, start := 1000 } ∧
    elapsed 1029 1000 < 30 ∧ (2 : Byte).getLsbD 1 = true ∧ (4 : Byte).getLsbD 2 = true ∧ (0 : Byte).getLsbD 2 = false ∧
    (idle.tank .k3).latest = some { level := 2000, time := 900 } ∧ (idle.tank .k3).toggle = some (0 == 1) := by
  decide +kernel
/-- HIGH_ALARM without OVERFILL from the ACTIVE tank of a flowing line, and of a closing one whose record has the flag clear and
set; OVERFILL with its cause not yet in the set. -/
theorem hyp_ReadingsReachTheTank_alarms :
    (1 : Byte).getLsbD 0 = true ∧ (1 : Byte).getLsbD 1 = false ∧ (1 : Byte).getLsbD 2 = false ∧
    (setPoll bulk (.read .k3) 1).link.poll = some { kind := .read .k3, slot := 1, start := 1000 } ∧
    bulk.listLine .k3 = some .a ∧ (bulk.tank .k3).use = .active ∧ bulk.flowing .a = true ∧
    (bulk.valve .a).closedSwitch = false ∧ bulk.shut.causes.overfill = none ∧
    (closing .hold (closeRec .runDown)).listLine .k3 = some .a ∧
    ((closing .hold (closeRec .runDown)).tank .k3).use = .active ∧ (closing .hold (closeRec .runDown)).closing .a = true ∧
    ((closing .hold (closeRec .runDown)).tank .k3).highAlarm = false ∧
    ((setTank (closing .hold (closeRec .runDown)) { liveTank .active with highAlarm := true }).tank .k3).highAlarm = true := by
  decide +kernel

/-- A line in PROVING with a baseline of the given level, and the readings that prove it and do not: prove_mm 20, 40 L per
mm, tolerance 5000 L. -/
def provingFrom (level : Option Nat) : State :=
  let s := levelled .proving 2000
  setLine s { s.line .a with baseline := some { level := level, litres := 50 } }
theorem hyp_ReadingsReachTheTank_lines :
    (setPoll (provingFrom none) (.read .k3) 1).link.poll = some { kind := .read .k3, slot := 1, start := 1000 } ∧
    ((provingFrom none).tank .k3).toggle ≠ some (1 == 1) ∧ (0 : Byte).getLsbD 0 = false ∧ (0 : Byte).getLsbD 1 = false ∧
    (provingFrom none).listLine .k3 = some .a ∧ (provingFrom none).activeTank .a = some .k3 ∧
    ((provingFrom none).valve .a).closedSwitch = false ∧ ((provingFrom none).line .a).state = .proving ∧
    ((provingFrom none).line .a).baseline = some { level := none, litres := 50 } ∧
    ((provingFrom (some 2000)).line .a).baseline = some { level := some 2000, litres := 50 } ∧
    (2000 + ((provingFrom none).profile .a).proveMm ≤ 2020 ∧
      ((((provingFrom none).line .a).delivered : Int) - 50 - ((2020 : Int) - 2000) * 40).natAbs ≤
        ((provingFrom none).profile .a).balanceTolL) ∧
    ¬ 2000 + ((provingFrom none).profile .a).proveMm ≤ 2019 ∧
    (paired .changeover .incoming 7000).list .a = [.k3, .k4] ∧
    ((paired .changeover .incoming 7000).tank .k3).use = .active ∧
    ((paired .changeover .incoming 7000).tank .k4).use = .incoming ∧
    (paired .changeover .incoming 7000).listLine .k4 = some .a ∧
    ((paired .changeover .incoming 7000).withReading .a .k4 true 2000 1020).incomingRise .a = true ∧
    ((paired .changeover .incoming 7000).withReading .a .k4 true 1999 1020).incomingRise .a = false ∧
    ((levelled .bulk 6700).withReading .a .k3 true 6800 1020).levelReaches .a 6800 = true ∧
    ((levelled .topping 7000).withReading .a .k3 true 7100 1020).levelReaches .a 7100 = true := by decide +kernel
theorem hyp_ReadingsReachTheTank_apart :
    (setPoll (provingFrom none) (.read .k3) 1).listsApart ∧
    (setPoll (paired .changeover .incoming 7000) (.read .k4) 1).listsApart :=
  ⟨apart_of_one _ [.k3] rfl (by decide), apart_of_one _ [.k3, .k4] rfl (by decide)⟩

theorem hyp_DeclarationsAreJudgedAndStored :
    (setPoll bulk (.read .k3) 1).link.poll = some { kind := .read .k3, slot := 1, start := 1000 } ∧
    elapsed 1029 1000 < ({ kind := .read .k3, slot := 1, start := 1000 } : Poll).timeout ∧
    elapsed 1069 1000 < ({ kind := .declare .k3, slot := 1, start := 1000 } : Poll).timeout ∧
    (bulk.tank .k3).decl = declarationOf .k3 wireDecl ∧ (declarationOf .k3 wireDecl).isSome = true ∧
    declarationOf .k3 { wireDecl with finalMm := 6800 } = none ∧
    declarationOf .k3 { wireDecl with litresPerMm := 41 } = some { decl with litresPerMm := 41 } ∧
    bulk.listLine .k3 = some .a ∧ (bulk.tank .k3).use = .active ∧ bulk.flowing .a = true ∧
    (bulk.valve .a).closedSwitch = false := by decide +kernel

/-- TANK_CHANGED: a changed declaration on either poll, with the line flowing, closing, idle, held, tripped and complete, the tank
queued, active and done. -/
theorem hyp_DeclarationsAreJudgedAndStored_lines :
    (setPoll bulk (.declare .k3) 1).link.poll = some { kind := .declare .k3, slot := 1, start := 1000 } ∧
    (bulk.tank .k3).decl = some decl ∧ declarationOf .k3 { wireDecl with litresPerMm := 41 } ≠ some decl ∧
    declarationOf .k3 wireDecl = some decl ∧ (bulk.tank .k3).use = .active ∧
    (closing .hold (closeRec .runDown)).listLine .k3 = some .a ∧ (closing .hold (closeRec .runDown)).closing .a = true ∧
    idle.listLine .k3 = some .a ∧ (idle.line .a).state = .idle ∧ (idle.tank .k3).use = .queued ∧
    (held.line .a).state = .held ∧ (held.tank .k3).use = .queued ∧ held.listLine .k3 = some .a ∧
    ((tripped false).line .a).state = .tripped ∧ (tripped false).listLine .k3 = some .a ∧
    ((lineIn .complete .done).line .a).state = .complete ∧ ((lineIn .complete .done).tank .k3).use = .done ∧
    (lineIn .complete .done).listLine .k3 = some .a := by decide +kernel

def silent : State := { idle with link := { idle.link with state := .silent, silenceStart := some 1000 } }
theorem hyp_WaitRefuseAndTheEndOfSilence :
    (setPoll idle (.read .k3) 1).link.poll = some { kind := .read .k3, slot := 1, start := 1000 } ∧
    elapsed 1029 1000 < ({ kind := .read .k3, slot := 1, start := 1000 } : Poll).timeout ∧
    (setPoll idle (.declare .k3) 1).link.poll = some { kind := .declare .k3, slot := 1, start := 1000 } ∧
    silent.link.state = .silent ∧ silent.link.silenceStart = some 1000 ∧ 3000 ≤ elapsed 4000 1000 ∧
    elapsed 3999 1000 < 3000 ∧ idle.link.state ≠ .silent ∧
    (setPoll bulk (.read .k3) 1).listLine .k3 = some .a ∧ bulk.flowing .a = true ∧ (bulk.valve .a).closedSwitch = false ∧
    (bulk.tank .k3).use = .active ∧ ((lineIn .bulk .queued).tank .k3).use = .queued := by decide +kernel

theorem hyp_ThreeEqualWordsThenThreeAcknowledged :
    offeringGrade.agreement = .offering ∧ offeringGrade.barge = some bargeTerms ∧
    (∀ a, offeringGrade.lastWord ≠ .usable shipTerms a) ∧
    ({ shipTerms with maxRate := 5000 } : TermsFields) ≠ shipTerms := by
  refine ⟨rfl, rfl, ?_, by decide⟩
  intro a; cases a <;> decide

/-! #### Timers, samples, strokes, the loop -/

def proving : State := setLine bulk { bulk.line .a with state := .proving, provingStart := some 1000 }
def changing : State := setLine bulk { bulk.line .a with state := .changeover, changeoverStart := some 1000 }
theorem hyp_ExpiredWindowsTripTheLine :
    (proving.line .a).state = .proving ∧ (proving.line .a).provingStart = some 1000 ∧
    (proving.profile .a).proveWindowMs ≤ elapsed 61000 1000 ∧ elapsed 60999 1000 < (proving.profile .a).proveWindowMs ∧
    (proving.valve .a).closedSwitch = false ∧ (bulk.line .a).state ≠ .proving ∧
    (changing.line .a).state = .changeover ∧ (changing.line .a).changeoverStart = some 1000 ∧
    (changing.profile .a).changeoverWindowMs ≤ elapsed 121000 1000 ∧
    elapsed 120999 1000 < (changing.profile .a).changeoverWindowMs ∧ (changing.valve .a).closedSwitch = false ∧
    (bulk.line .a).state ≠ .changeover := by decide +kernel

/-- Tank 3 with a rise pair later than the settle start, and with none. -/
def risen : State :=
  let earlier : Half := { level := 2000, time := 2000 }
  let last : Half := { level := 2001, time := 3000 }
  setPred (setTank bulk { liveTank .active with pairPrev := some earlier, pairLatest := some last }) settling
theorem hyp_SettleDeadlineAdoptsOrCarries :
    (risen.pred .a).settle = .settling ∧ (risen.pred .a).settleStart = some 1000 ∧ (risen.pred .a).deadline = some 21000 ∧
    reached 21000 21000 = true ∧ reached 20999 21000 = false ∧
    risen.activePair .a = some { prev := { level := 2000, time := 2000 }, latest := { level := 2001, time := 3000 } } ∧
    later 2000 1000 = true ∧ later 3000 1000 = true ∧ ((setPred bulk settling).pred .a).settle = .settling ∧
    (setPred bulk settling).activePair .a = none := by decide +kernel

def dwelling (ended : Bool) : CloseRec :=
  { closeRec .dwell with dwellEnd := some 1699, stage := some 1, plan := some (bulk.makePlan .a), strokeEnded := ended }
theorem hyp_CloseTimersMoveTheClose :
    ((closing .ending (closeRec .runDown)).line .a).state = .closing ∧
    (closing .ending (closeRec .runDown)).close .a = some (closeRec .runDown) ∧
    ((closing .ending (closeRec .runDown)).valve .a).closedSwitch = false ∧
    ((closing .ending (closeRec .runDown)).profile .a).runDownMs ≤ elapsed 1800 1000 ∧
    (closing .ending (dwelling true)).close .a = some (dwelling true) ∧
    (closing .ending (dwelling false)).close .a = some (dwelling false) ∧ reached 1699 1699 = true ∧
    (dwelling true).strokeEnded = true ∧ (dwelling false).strokeEnded = false ∧
    ((closing .ending (dwelling true)).valve .a).stroke = none ∧
    (bulk.makePlan .a).target 2 ≠ (bulk.makePlan .a).target 1 ∧
    ({ bulk.makePlan .a with targets := [300, 300, 0] } : Plan).target 2 =
      ({ bulk.makePlan .a with targets := [300, 300, 0] } : Plan).target 1 := by decide +kernel

theorem hyp_GateEndWorksRatesAndLitres :
    (State.reset.line .a).profile = none ∧ (bulk.line .a).profile = some profile ∧ bulk.flowing .a = true ∧
    (bulk.flow .a).meterFactor = some 100 ∧ idle.flowing .a = false ∧ idle.closing .a = false := by decide +kernel

/-- Line A in BULK at a gate end: `pulses` in the gate, tank 3 at `peak` above a base of 2000 since `peakTime`, the given throttle
position, rate count and quiet time. -/
def gated (pulses peak : Nat) (peakTime : Time) (throttle count quiet : Nat) : State :=
  let s := setLine bulk { bulk.line .a with baseline := some { level := some 2000, litres := 0 }, throttle := throttle,
                                            quietPending := quiet != 0 }
  { s with flows := s.flows.set .a { s.flow .a with
      gatePulses := pulses, rate := 100, rateCount := count, quiet := quiet,
      watchActive := some { base := some 2000, peak := some peak, peakTime := peakTime } } }
theorem hyp_GateEndWorksRatesAndLitres_watches :
    (closing .hold (closeRec .runDown)).closing .a = true ∧
    (closing .hold (closeRec .runDown)).activeTank .a = some .k3 ∧
    (setTank (closing .hold (closeRec .runDown)) (liveTank .queued)).activeTank .a = none ∧
    ((gated 0 2000 0 800 0 28000).line .a).quietPending = true ∧ 30000 ≤ 28000 + 2000 ∧ ¬ 30000 ≤ 27999 + 2000 ∧
    ((gated 0 2000 0 800 0 1).valve .a).closedSwitch = false ∧
    ((gated 5001 2000 60000 800 0 0).gateOpened .a 62000).balanceTrips .a = true ∧
    ((gated 5000 2000 60000 800 0 0).gateOpened .a 62000).balanceTrips .a = false ∧
    ((gated 180 2000 41000 800 0 0).gateOpened .a 62000).blindTrips .a = true ∧
    ((gated 180 2000 42000 800 0 0).gateOpened .a 62000).blindTrips .a = false ∧
    (bulk.line .a).state.delivering = true ∧ (bulk.pred .a).settling = false ∧ (settling.settling = true) ∧
    bulk.rateLimit .a = some 6000 ∧ capCount 2 (some 6001) (some 6000) = 3 ∧ capCount 2 (some 6000) (some 6000) = 0 ∧
    capCount 1 (some 6001) (some 6000) < 3 ∧ (bulk.line .a).throttle = 800 ∧ (bulk.profile .a).startPos = 200 := by
  decide +kernel
theorem hyp_GateEndWorksRatesAndLitres_apart (pulses peak : Nat) (peakTime : Time) (throttle count quiet : Nat) :
    (gated pulses peak peakTime throttle count quiet).listsApart := apart_of_one _ [.k3] rfl (by decide)

/-- A gate end in CHANGEOVER; and one of a line whose account balances, its 60 new pulses being 10 litres on its 50. -/
def balanced : State :=
  let s := gated 60 2000 0 800 0 0
  setLine (setTank s { liveTank .active with attributed := 50 }) { s.line .a with delivered := 50 }
theorem hyp_GateEndWorksRatesAndLitres_account :
    ((paired .changeover .incoming 7000).line .a).state = .changeover ∧
    (paired .changeover .incoming 7000).activeTank .a = some .k3 ∧
    balanced.listsApart ∧ balanced.fedSound ∧ balanced.accountBalances .a ∧
    (balanced.line .a).delivered ≤ ((after (.gateEnd 2000) balanced).line .a).delivered := by
  refine ⟨by decide +kernel, by decide +kernel, apart_of_one _ [.k3] rfl (by decide), ?_, ?_, by decide +kernel⟩
  · intro l
    refine ⟨by cases l <;> decide +kernel, ?_, ?_, by cases l <;> decide +kernel⟩
    · intro m; cases l <;> cases m <;> decide +kernel
    · intro n hn; revert hn; cases l <;> cases n <;> decide +kernel
  · unfold State.accountBalances; decide +kernel

def oneOver (n : Nat) : State := { bulk with flows := bulk.flows.set .a { bulk.flow .a with overCount := n } }
theorem hyp_PressureSamplesAreHeldAndWatched :
    (oneOver 1).flowing .a = true ∧ ((oneOver 1).flow .a).overCount = 1 ∧ ((oneOver 1).valve .a).closedSwitch = false ∧
    ((oneOver 1).profile .a).ratingKPa < min ((9204 - 4000) * 4000 / 16000) 4000 + ((oneOver 1).profile .a).surgeMarginKPa ∧
    ((oneOver 0).flow .a).overCount = 0 ∧ ¬ (3600 ≤ 3599 ∧ 3599 ≤ 21000) ∧ ¬ (3600 ≤ 21001 ∧ 21001 ≤ 21000) ∧
    (bulk.flow .a).pressureFault = false := by decide +kernel
/-- A closing line after its run-down, one sample at the limit of 1500 less 200 kPa and one above it, with no sample and one before
it; and a run-down, with a sample at run_down_kPa and one above it. -/
theorem hyp_PressureSamplesAreHeldAndWatched_closing :
    ((closing .hold (closeRec .dwell)).line .a).state = .closing ∧
    (closing .hold (closeRec .dwell)).close .a = some (closeRec .dwell) ∧ (closeRec .dwell).phase ≠ .runDown ∧
    ((closing .hold (closeRec .dwell)).line .a).closeReason = some .hold ∧
    ¬ profile.ratingKPa < min ((9200 - 4000) * 4000 / 16000) 4000 + profile.surgeMarginKPa ∧
    profile.ratingKPa < min ((9204 - 4000) * 4000 / 16000) 4000 + profile.surgeMarginKPa ∧
    1 ≤ ((oneOver 1).flow .a).overCount ∧ ¬ 1 ≤ ((oneOver 0).flow .a).overCount ∧
    (closing .ending (closeRec .runDown)).close .a = some (closeRec .runDown) ∧
    ((closing .ending (closeRec .runDown)).valve .a).closedSwitch = false ∧
    min ((5200 - 4000) * 4000 / 16000) 4000 ≤ profile.runDownKPa ∧
    profile.runDownKPa < min ((5204 - 4000) * 4000 / 16000) 4000 := by decide +kernel
theorem hyp_PositionAndAccumulatorSamples :
    (bulk.line .a).profile.map (fun p => p.feedbackPresent) = some 1 ∧
    (State.reset.line .a).profile.map (fun p => p.feedbackPresent) ≠ some 1 ∧ State.reset.supply.band ≠ .need ∧
    ¬ (3600 ≤ 3599 ∧ 3599 ≤ 21000) ∧ ¬ (3600 ≤ 21001 ∧ 21001 ≤ 21000) := by decide +kernel
/-- A stroke in TRAVEL to 900 with the transmitter in use, arrival_band 10: 18.24 mA reads 890, within it; 18.22 mA reads 888. -/
theorem hyp_PositionAndAccumulatorSamples_arrival :
    let s := withStroke bulk (stroke .opening 900 .travel)
    (s.valve .a).stroke = some (stroke .opening 900 .travel) ∧ (s.line .a).profile = some profile ∧
    profile.feedbackPresent = 1 ∧ min ((18240 - 4000) * 1000 / 16000) 1000 = 890 ∧ 900 ≤ 890 + profile.arrivalBand ∧
    min ((18220 - 4000) * 1000 / 16000) 1000 = 888 ∧ ¬ 900 ≤ 888 + profile.arrivalBand ∧
    (stroke .opening 900 .travel).usedAt 1000 = 0 ∧ (stroke .opening 900 .travel).usedAt 2800 = 1800 := by decide +kernel

def withPhase (cls : StrokeClass) (target : Nat) (p : StrokePhase) : State := withStroke bulk (stroke cls target p)
/-- Samples of 4 mA, 0 kPa, into MUST and of 15.52 mA, 18000 kPa, back to RELEASE, under a stroke in TRAVEL. -/
theorem hyp_PositionAndAccumulatorSamples_bands :
    let s := withPhase .close 0 .travel
    s.supply.band = .release ∧ bandOf s.supply.profile (min ((4000 - 4000) * 25000 / 16000) 25000) = .must ∧
    bandOf s.supply.profile (min ((15520 - 4000) * 25000 / 16000) 25000) = .release ∧
    (s.valve .a).stroke = some (stroke .close 0 .travel) ∧ (stroke .close 0 .travel).paused = false ∧ s.oneStroke := by
  refine ⟨by decide +kernel, by decide +kernel, by decide +kernel, rfl, rfl, ?_⟩
  intro l; cases l <;> decide +kernel
def lowBand : State :=
  { withPhase .opening 900 .setup with supply := { Supply.init with pressure := 12000, band := .need, pump := true } }
/-- Both channels held, and a CLOSE of line C waiting. -/
def crowded : State :=
  let s := withPhase .opening 900 .setup
  let waiting : StrokeReq := { cls := .close, target := 0, time := 1000, retry := false }
  { s with chan2 := { holder := some .b, lastDir := none },
           valves := (s.valves.set .b { s.valve .b with stroke := some (stroke .opening 900 .travel) }).set .c
             { s.valve .c with pending := some waiting, closedSwitch := false } }
theorem hyp_TurnaroundAndSetupEnd :
    ((withPhase .opening 900 .turnaround).valve .a).stroke = some (stroke .opening 900 .turnaround) ∧
    (withPhase .opening 900 .turnaround).supply.profile.turnaroundMs ≤ elapsed 1300 1000 ∧
    ((withPhase .opening 900 .setup).valve .a).stroke = some (stroke .opening 900 .setup) ∧
    (withPhase .opening 900 .setup).supply.profile.setupMs ≤ elapsed 1400 1000 ∧
    admitted (withPhase .opening 900 .setup).supply.band .opening = true ∧
    (withPhase .opening 900 .setup).chan2.holder = none ∧ (withPhase .opening 900 .setup).chan1.holder = some .a ∧
    (lowBand.valve .a).stroke = some (stroke .opening 900 .setup) ∧
    admitted lowBand.supply.band .opening = false ∧ (lowBand.valve .a).followOn = none ∧
    crowded.chan1.holder.isSome = true ∧ crowded.chan2.holder.isSome = true ∧
    (crowded.valve .c).pending.map (fun r => r.cls) = some .close ∧ (crowded.valve .a).followOn = none ∧
    crowded.atTarget .a (stroke .opening 900 .setup).req = false := by decide +kernel

def blanked (closedOn : Bool) : State :=
  withStroke (setValve bulk { bulk.valve .a with closedSwitch := closedOn }) { stroke .close 0 .travel with blanking := true }
theorem hyp_LimitSwitchesSetThePosition :
    (idle.valve .a).closedSwitch ≠ false ∧ (bulk.valve .a).closedSwitch ≠ true ∧ (blanked false).blanked .a = true ∧
    ((blanked false).valve .a).closedSwitch ≠ true ∧ ((blanked false).valve .a).openSwitch ≠ true ∧
    (bulk.valve .a).closedSwitch = false ∧ (bulk.valve .a).openSwitch = false ∧ bulk.blanked .a = false ∧
    ((blanked true).valve .a).stroke = some { stroke .close 0 .travel with blanking := true } ∧
    (blanked true).supply.profile.blankingMs ≤ elapsed 1300 1000 ∧ ((blanked true).valve .a).closedSwitch = true ∧
    ((blanked true).valve .a).openSwitch = false ∧ ((blanked false).valve .a).closedSwitch = false ∧
    ((setValve (blanked false) { (blanked false).valve .a with openSwitch := true }).valve .a).openSwitch = true := by
  decide +kernel

/-- Line A closing under a CLOSE stroke to 0 in TRAVEL. -/
def landing (r : CloseReason) (c : CloseRec) : State := withStroke (closing r c) (stroke .close 0 .travel)
theorem hyp_TheSwitchEndsTheClose :
    [CloseReason.ending, .tankEnd, .hold, .trip, .esd].all (fun r =>
      ((landing r (closeRec .seating)).line .a).closeReason == some r &&
      ((landing r (closeRec .seating)).line .a).state == .closing &&
      (landing r (closeRec .seating)).close .a == some (closeRec .seating) &&
      ((landing r (closeRec .seating)).valve .a).stroke == some (stroke .close 0 .travel)) = true ∧
    (stroke .close 0 .travel).blanking = false ∧ (stroke .close 0 .travel).req.target = 0 ∧
    ((landing .ending (closeRec .stage)).valve .a).closedSwitch = false := by decide +kernel

def simulated : State :=
  withStroke (setLine bulk { bulk.line .a with profile := some { profile with simulatedArrival := 1 } })
    (stroke .opening 900 .travel)
theorem hyp_TravelEndsInArrivalOrFailure :
    (simulated.valve .a).stroke = some (stroke .opening 900 .travel) ∧ (simulated.profile .a).simulatedArrival = 1 ∧
    (stroke .opening 900 .travel).expected ≤ (stroke .opening 900 .travel).usedAt 1100 ∧
    2 * (stroke .opening 900 .travel).expected + 2000 ≤ (stroke .opening 900 .travel).usedAt 3200 ∧
    simulated.flowing .a = true ∧ (simulated.valve .a).closedSwitch = false ∧
    ({ stroke .opening 900 .travel with paused := true } : Stroke).pauseAt 21000 = 20000 ∧
    simulated.supply.profile.extensionMaxMs = 20000 ∧
    ((landing .ending { closeRec .stage with retryUsed := true }).line .a).state = .closing ∧
    (landing .ending { closeRec .stage with retryUsed := true }).close .a = some { closeRec .stage with retryUsed := true } ∧
    2 * (stroke .close 0 .travel).expected + 2000 ≤ (stroke .close 0 .travel).usedAt 3200 ∧
    (landing .ending { closeRec .stage with retryUsed := true }).shut.causes.valve = none := by decide +kernel
/-- The first failure of a close, with the band at MUST and away from it. -/
theorem hyp_TravelEndsInArrivalOrFailure_retry :
    (landing .ending (closeRec .stage)).close .a = some (closeRec .stage) ∧ (closeRec .stage).retryUsed = false ∧
    ((landing .ending (closeRec .stage)).valve .a).closedSwitch = false ∧
    ((landing .ending (closeRec .stage)).valve .a).pending = none ∧
    (landing .ending (closeRec .stage)).supply.band ≠ .must ∧
    ({ landing .ending (closeRec .stage) with supply := Supply.init } : State).supply.band = .must := by decide +kernel

/-- A follow-on waiting behind the hold of a stroke. -/
def followed : State :=
  let s := withPhase .throttle 700 .hold
  setValve s { s.valve .a with followOn := some { cls := .throttle, target := 550, time := 1000, retry := false } }
theorem hyp_HoldEndReleasesTheValve :
    ((withPhase .opening 900 .hold).valve .a).stroke = some (stroke .opening 900 .hold) ∧
    elapsed 1499 1000 < (withPhase .opening 900 .hold).supply.profile.holdMs ∧
    (withPhase .opening 900 .hold).supply.profile.holdMs ≤ elapsed 1500 1000 ∧
    ((withPhase .opening 900 .hold).valve .a).pending = none ∧ ((withPhase .opening 900 .hold).valve .a).followOn = none ∧
    (followed.valve .a).stroke = some (stroke .throttle 700 .hold) ∧
    (followed.valve .a).followOn = some { cls := .throttle, target := 550, time := 1000, retry := false } ∧
    followed.atTarget .a { cls := .throttle, target := 550, time := 1000, retry := false } = false ∧
    (followed.valve .a).pending = none := by decide +kernel
/-- The hold of a CLOSE stroke ends on a line in STARTING, on one that is IDLE, and on a close in DWELL before and after its dwell
is over. -/
def holding (s : State) : State := withStroke s (stroke .close 300 .hold)
theorem hyp_HoldEndReleasesTheValve_close :
    [holding (lineIn .starting .active), holding idle, holding (closing .ending (dwelling false)),
      holding (closing .ending { dwelling false with dwellOver := true })].all (fun s =>
        (s.valve .a).stroke == some (stroke .close 300 .hold) && (s.valve .a).pending.isNone &&
        (s.valve .a).followOn.isNone && s.supply.profile.holdMs ≤ elapsed 1500 1000) = true ∧
    ((holding (lineIn .starting .active)).line .a).state = .starting ∧ ((holding idle).line .a).state = .idle ∧
    (holding (closing .ending (dwelling false))).close .a = some (dwelling false) ∧
    ((holding (closing .ending (dwelling false))).valve .a).closedSwitch = false ∧
    (dwelling false).dwellOver = false ∧ (dwelling false).stage = some 1 ∧
    (dwelling false).plan = some (bulk.makePlan .a) := by decide +kernel

/-- A hold ends with a CLOSE of line C waiting: that request ranks first and takes the freed channel 1, in each band. -/
def handsOver (b : Band) : State :=
  let s := withPhase .throttle 700 .hold
  let waiting : StrokeReq := { cls := .close, target := 0, time := 1000, retry := false }
  { s with supply := { s.supply with band := b },
           valves := s.valves.set .c { s.valve .c with pending := some waiting, closedSwitch := false } }
theorem hyp_HoldEndReleasesTheValve_grant (b : Band) :
    let r : StrokeReq := { cls := .close, target := 0, time := 1000, retry := false }
    let x := (handsOver b).released .a 1500
    ((handsOver b).valve .a).stroke = some (stroke .throttle 700 .hold) ∧
    (handsOver b).supply.profile.holdMs ≤ elapsed 1500 1000 ∧ (handsOver b).supply.band = b ∧ (handsOver b).oneStroke ∧
    x.ranksFirst .c r ∧ x.channelGiven r.cls.dir .c1 ∧ x.atTarget .c r = false := by
  refine ⟨rfl, by cases b <;> decide +kernel, rfl, ?_, ⟨rfl, by cases b <;> decide +kernel, ?_⟩,
    by cases b <;> (unfold State.channelGiven; decide +kernel), by cases b <;> decide +kernel⟩
  · intro l; cases b <;> cases l <;> decide +kernel
  · intro m q hm hq
    have h : (((handsOver b).released .a 1500).valve m).pending = none := by
      cases m
      · cases b <;> rfl
      · cases b <;> rfl
      · exact absurd rfl hm
      · cases b <;> rfl
    rw [h] at hq; cases hq

def debouncing : State := { idle with shut := { idle.shut with loop := .debounce 1000 } }
theorem hyp_TheLoopIsDebounced :
    idle.shut.loop = .closed ∧ debouncing.shut.loop = .debounce 1000 ∧ debouncing.shut.loop ≠ .closed ∧
    elapsed 1049 1000 < 50 ∧ 50 ≤ elapsed 1050 1000 ∧ debouncing.shut.causes.loop = none ∧
    (setCauses debouncing { noCauses with loop := some 900 }).shut.causes.loop = some 900 := by decide +kernel

theorem hyp_PipePeriodFloorsTheDwell :
    0 < profile.waveSpeed ∧ profileError profile = none ∧ (bulk.makePlan .a).targets ≠ [] := by decide +kernel
/-- The headroom at its floor and 1 kPa above it, the close time on either side of close_min_ms and above close_max_ms, and a plan
off the seat. -/
theorem hyp_ClosePlansFallToZero :
    profile.closeMinMs ≤ profile.closeMaxMs ∧ 0 < profile.closeStages ∧ 2 ≤ (bulk.profile .a).closeStages ∧
    profile.ratingKPa ≤ 1250 + profile.surgeMarginKPa + 50 ∧ 1249 + profile.surgeMarginKPa + 50 < profile.ratingKPa ∧
    (closeFigures profile 850 100 0 false).tSurge < profile.closeMinMs ∧
    profile.closeMinMs ≤ (closeFigures { profile with lengthM := 1000 } 850 5400 700 false).tSurge ∧
    profile.closeMaxMs < (closeFigures { profile with lengthM := 1000 } 850 5400 1250 false).tSurge ∧
    (bulk.valve .a).closedSwitch = false ∧ 0 < (bulk.valve .a).position ∧ (bulk.valve .a).learnedRate = some 50 := by
  decide +kernel
theorem hyp_ChangeoverDividesThePendingVolume :
    TankId.k1 ≠ .k3 ∧ (setTank bulk { liveTank .incoming with changeoverBase := some 1960 }).tank .k3 =
      { liveTank .incoming with changeoverBase := some 1960 } ∧
    (liveTank .incoming).latest = some { level := 2000, time := 900 } ∧ (liveTank .incoming).decl = some decl := by
  decide +kernel

end Sys2Proof.Tests
end

section
/-! CLEAR_TRIP (R25): what the settling of a list, the zeroing of an account and a change of a line's state make of an event,
each said once as an equation that names every field it writes, and the obligation assembled from them. -/

namespace Sys2Proof

theorem Quad.set_set {α : Type} (q : Quad α) (l : LineId) (x y : α) : (q.set l x).set l y = q.set l y := by
  cases l <;> rfl

end Sys2Proof

namespace Sys2Proof.Machine

/-! ### What a walk over tanks, an account and a line's state change -/

/-- A walk that puts `g` through each tank of a list writes the tank records and the noted notices alone, and puts `g` through
each listed tank once: the list holds no tank twice, or a second time changes nothing. -/
theorem Ev.eachTank_writes {f : TankId → Ev → Ev} {g : TankId → Tank → Tank}
    (hf : ∀ k x, ∃ d, f k x = { x.modTank k (g k) with dirty := d }) (ks : List TankId)
    (hg : ks.Nodup ∨ ∀ k y, g k (g k y) = g k y) (e : Ev) :
    ∃ tk d, e.eachTank ks f = { e with tanks := tk, dirty := d } ∧
      ∀ k, tk.get k = if k ∈ ks then g k (e.tanks.get k) else e.tanks.get k := by
  induction ks generalizing e with
  | nil => exact ⟨e.tanks, e.dirty, rfl, fun k => by simp⟩
  | cons j js ih =>
    obtain ⟨d, hd⟩ := hf j e
    have hg' : js.Nodup ∨ ∀ k y, g k (g k y) = g k y := hg.imp_left List.Nodup.of_cons
    obtain ⟨tk, d', hwalk, htk⟩ := ih hg' (f j e)
    refine ⟨tk, d', ?_, fun k => ?_⟩
    · calc e.eachTank (j :: js) f = (f j e).eachTank js f := rfl
        _ = { f j e with tanks := tk, dirty := d' } := hwalk
        _ = { e with tanks := tk, dirty := d' } := by rw [hd]; rfl
    · have hj : (f j e).tanks.get k = if k = j then g k (e.tanks.get k) else e.tanks.get k := by
        rw [hd, Ev.modTank_tanks, Tanks.get_set]
        split
        · next h => rw [h]
        · rfl
      rw [htk, hj]
      by_cases hkj : k = j
      · subst hkj
        by_cases hk : k ∈ js
        · rcases hg with hnd | hid
          · exact absurd hk (List.nodup_cons.mp hnd).1
          · simp [hk, hid]
        · simp [hk]
      · simp [hkj]

theorem Ev.setUse_writes (e : Ev) (k : TankId) (u : TankUse) :
    ∃ d, e.setUse k u = { e.modTank k (fun x => { x with use := u }) with dirty := d } := by
  unfold Ev.setUse Ev.markIf Ev.mark
  split
  · split
    · exact ⟨_, rfl⟩
    · exact ⟨_, rfl⟩
  · exact ⟨_, rfl⟩

/-- The use that the settling of a cleared trip gives a listed tank (R25). -/
def clearedUse (fed : List TankId) (k : TankId) (u : TankUse) : TankUse :=
  if u = .active then .done else if u = .incoming then .free else if k ∈ fed then .done else .free

theorem Ev.settleCleared_eq (e : Ev) (l : LineId) :
    e.settleCleared l = (e.eachTank (e.list l)
      (fun k x => x.setUse k (clearedUse (e.line l).fedSet k (x.tank k).use))).setList l [] := by
  simp only [Ev.settleCleared]
  refine congrArg (fun f => (e.eachTank (e.list l) f).setList l [])
    (funext fun k => funext fun x => congrArg (x.setUse k) ?_)
  cases (x.tank k).use <;> simp [clearedUse]

/-- Settling the list of a cleared trip empties it and gives its tanks their cleared uses. -/
theorem Ev.settleCleared_writes (e : Ev) (l : LineId) (hnd : (e.list l).Nodup) :
    ∃ tk d, e.settleCleared l = { e with tanks := tk, dirty := d, lists := e.lists.set l [] } ∧
      ∀ k, tk.get k = if k ∈ e.list l
        then { e.tanks.get k with use := clearedUse (e.line l).fedSet k (e.tanks.get k).use } else e.tanks.get k := by
  obtain ⟨tk, d, hwalk, htk⟩ := Ev.eachTank_writes
    (f := fun k x => x.setUse k (clearedUse (e.line l).fedSet k (x.tank k).use))
    (g := fun k y => { y with use := clearedUse (e.line l).fedSet k y.use })
    (fun k x => Ev.setUse_writes x k _) (e.list l) (.inl hnd) e
  exact ⟨tk, d, by rw [Ev.settleCleared_eq, hwalk]; rfl, htk⟩

/-- Zeroing an account writes the line's delivered figures, its pulse total and the attributions of its fed set (R26). -/
theorem Ev.zeroAccount_writes (e : Ev) (l : LineId) :
    ∃ tk d, e.zeroAccount l = { e with
        tanks := tk, dirty := d,
        lines := e.lines.set l { e.lines.get l with delivered := 0, pendingVol := 0, fedSet := [] },
        flows := e.flows.set l { e.flows.get l with pulseTotal := 0, meterFactor := none } } ∧
      ∀ k, tk.get k = if k ∈ (e.line l).fedSet then { e.tanks.get k with attributed := 0 } else e.tanks.get k := by
  obtain ⟨tk, d, hwalk, htk⟩ := Ev.eachTank_writes (f := fun k x => x.modTank k (fun y => { y with attributed := 0 }))
    (g := fun _ y => { y with attributed := 0 }) (fun _ x => ⟨x.dirty, rfl⟩) (e.line l).fedSet (.inr fun _ _ => rfl) e
  exact ⟨tk, d, by unfold Ev.zeroAccount; rw [hwalk]; rfl, htk⟩

/-- Evaluating a permit writes the permits and the noted notices; no ESD cause changes (R174). -/
theorem Ev.evalPermitOf_writes (e : Ev) (l : LineId) :
    ∃ sh d, e.evalPermitOf l = { e with shut := sh, dirty := d } ∧ sh.causes = e.shut.causes := by
  unfold Ev.evalPermitOf
  split
  · next p _ =>
    unfold Ev.evalPermit Ev.markIf Ev.mark
    have hcauses : ∀ b, (e.shut.setPermit p b).causes = e.shut.causes := fun b => by cases p <;> rfl
    split
    · split
      · exact ⟨_, _, rfl, hcauses _⟩
      · exact ⟨_, _, rfl, hcauses _⟩
    · exact ⟨_, _, rfl, hcauses _⟩
  · exact ⟨e.shut, e.dirty, rfl, rfl⟩

/-- A change of a line's state writes the line's state, the permits and the noted notices (R4). -/
theorem Ev.setState_writes (e : Ev) (l : LineId) (st : LineState) :
    ∃ sh d, e.setState l st = { e with
        shut := sh, dirty := d, lines := e.lines.set l { e.lines.get l with state := st } } ∧
      sh.causes = e.shut.causes := by
  obtain ⟨sh, d, hp, hc⟩ := Ev.evalPermitOf_writes ((e.modLine l (fun x => { x with state := st })).mark (.line l)) l
  refine ⟨sh, d, hp.trans ?_, by simpa using hc⟩
  unfold Ev.mark
  split
  · rfl
  · rfl

/-! ### The request -/

theorem Ev.onLine_of_lineOf {e : Ev} {n : Nat} {l : LineId} (h : lineOf n = some l) (f : LineId → Taken) :
    e.onLine n f = f l := by
  unfold Ev.onLine; rw [h]

theorem Ev.clearTripRequest_wrongState {e : Ev} {l : LineId} (h : (e.line l).state ≠ .tripped) :
    e.clearTripRequest l = e.answer .wrongState := if_pos h

theorem Ev.clearTripRequest_valveNotClosed {e : Ev} {l : LineId} (h : (e.line l).state = .tripped)
    (hv : (e.valve l).closedSwitch = false) : e.clearTripRequest l = e.answer (.refused .valveNotClosed) := by
  simp [Ev.clearTripRequest, h, hv]

theorem Ev.clearTripRequest_quietPending {e : Ev} {l : LineId} (h : (e.line l).state = .tripped)
    (hv : (e.valve l).closedSwitch = true) (hq : (e.line l).quietPending = true) :
    e.clearTripRequest l = e.answer (.refused .quietPending) := by
  simp [Ev.clearTripRequest, h, hv, hq]

theorem Ev.clearTripRequest_accepted {e : Ev} {l : LineId} (h : (e.line l).state = .tripped)
    (hv : (e.valve l).closedSwitch = true) (hq : (e.line l).quietPending = false) :
    e.clearTripRequest l = (((e.settleCleared l).zeroAccount l).setState l .idle).answer .ok := by
  simp [Ev.clearTripRequest, h, hv, hq]

/-- A tank's record after the list of its line has been settled and the account zeroed (R25, R26). -/
def clearedTank (listed fed : List TankId) (k : TankId) (x : Tank) : Tank :=
  { x with use := if k ∈ listed then clearedUse fed k x.use else x.use,
           attributed := if k ∈ fed then 0 else x.attributed }

theorem zeroed_settled_eq_clearedTank (listed fed : List TankId) (k : TankId) (x : Tank) :
    (let y := if k ∈ listed then { x with use := clearedUse fed k x.use } else x
     if k ∈ fed then { y with attributed := 0 } else y) = clearedTank listed fed k x := by
  by_cases hl : k ∈ listed <;> by_cases hf : k ∈ fed <;> simp [clearedTank, hl, hf]

/-- The effect of an accepted CLEAR_TRIP, every field it writes named: no report of the arbiter and no close is left over. -/
theorem Ev.clearTrip_writes (e : Ev) (l : LineId) (hnd : (e.list l).Nodup) :
    ∃ tk sh d, ((e.settleCleared l).zeroAccount l).setState l .idle = { e with
        tanks := tk, shut := sh, dirty := d, lists := e.lists.set l [],
        lines := e.lines.set l { e.line l with state := .idle, delivered := 0, pendingVol := 0, fedSet := [] },
        flows := e.flows.set l { e.flow l with pulseTotal := 0, meterFactor := none } } ∧
      sh.causes = e.shut.causes ∧
      ∀ k, tk.get k = clearedTank (e.list l) (e.line l).fedSet k (e.tank k) := by
  obtain ⟨tk₁, d₁, hsettle, htk₁⟩ := Ev.settleCleared_writes e l hnd
  rw [hsettle]
  obtain ⟨tk₂, d₂, hzero, htk₂⟩ :=
    Ev.zeroAccount_writes { e with tanks := tk₁, dirty := d₁, lists := e.lists.set l [] } l
  rw [hzero]
  obtain ⟨sh, d₃, hstate, hcauses⟩ := Ev.setState_writes { e with
    tanks := tk₂, dirty := d₂, lists := e.lists.set l [],
    lines := e.lines.set l { e.lines.get l with delivered := 0, pendingVol := 0, fedSet := [] },
    flows := e.flows.set l { e.flows.get l with pulseTotal := 0, meterFactor := none } } l .idle
  refine ⟨tk₂, sh, d₃, ?_, hcauses, fun k => ?_⟩
  · rw [hstate, Quad.set_set, Quad.get_set_same]; rfl
  · rw [htk₂, htk₁]
    exact zeroed_settled_eq_clearedTank (e.list l) (e.line l).fedSet k (e.tank k)

/-! ### The obligation -/

theorem exec_clearTrip_serves (s : State) (t : Time) (tag : Byte) {n : Nat} {l : LineId} (h : lineOf n = some l) :
    exec (.clearTrip t tag n) s = event t s (fun e => e.serve tag (.clearTrip n) (fun x => x.clearTripRequest l)) := by
  simp only [exec, execClearTrip, Ev.onLine_of_lineOf h]

/-- A CLEAR_TRIP whose request is a mere answer leaves every block alone. -/
theorem clearTrip_refused {s : State} {t : Time} {tag : Byte} {n : Nat} {l : LineId} {b : BufId} {res : Result}
    (hn : lineOf n = some l) (hb : s.takesIn tag (.clearTrip n) = some b)
    (h : ∀ x1 x2 w, (takeEv s t x1 x2 w).clearTripRequest l = (takeEv s t x1 x2 w).answer res) :
    Answers s (.clearTrip t tag n) t b tag res [] s.sameBlocks :=
  (answers_unchanged hb (exec_clearTrip_serves s t tag hn) h).imp fun _ hu => hu.1

/-- An accepted CLEAR_TRIP leaves no work for the end of the event, so the state it leaves is the request's own writes. -/
theorem clearTrip_answers_ok {s : State} {t : Time} {tag : Byte} {n : Nat} {l : LineId} {b : BufId}
    (hn : lineOf n = some l) (hb : s.takesIn tag (.clearTrip n) = some b) (hst : (s.line l).state = .tripped)
    (hv : (s.valve l).closedSwitch = true) (hq : (s.line l).quietPending = false) (hnd : (s.list l).Nodup) :
    Answers s (.clearTrip t tag n) t b tag .ok [] (fun v =>
      v.lines = s.lines.set l { s.line l with state := .idle, delivered := 0, pendingVol := 0, fedSet := [] } ∧
      v.lists = s.lists.set l [] ∧
      v.flows = s.flows.set l { s.flow l with pulseTotal := 0, meterFactor := none } ∧
      (∀ k, v.tank k = clearedTank (s.list l) (s.line l).fedSet k (s.tank k)) ∧
      v.valves = s.valves ∧ v.closes = s.closes ∧ v.preds = s.preds ∧ v.link = s.link ∧ v.grades = s.grades ∧
      v.supply = s.supply ∧ v.shut.causes = s.shut.causes) := by
  refine answers_of_serve hb (exec_clearTrip_serves s t tag hn) (fun x1 x2 w => ?_) (fun x1 x2 w y1 y2 v ro => ?_)
  · obtain ⟨tk, sh, d, heff, -, -⟩ := Ev.clearTrip_writes (takeEv s t x1 x2 w) l hnd
    rw [Ev.clearTripRequest_accepted hst hv hq, heff]
    exact ⟨rfl, rfl, rfl, rfl, rfl⟩
  · obtain ⟨tk, sh, d, heff, hcauses, htk⟩ := Ev.clearTrip_writes (takeEv s t x1 x2 w) l hnd
    rw [Ev.clearTripRequest_accepted hst hv hq, heff, finish_idle _ rfl rfl]
    simp only [State.tank, State.arbitrate_lines, State.arbitrate_lists, State.arbitrate_flows, State.arbitrate_tanks,
      State.arbitrate_valves, State.arbitrate_closes, State.arbitrate_preds, State.arbitrate_link,
      State.arbitrate_grades, State.arbitrate_supply, State.arbitrate_shut]
    exact ⟨rfl, rfl, rfl, htk, rfl, rfl, rfl, rfl, rfl, rfl, hcauses⟩

/-- Settles O27: each refusal is a mere answer, and the writes of the accepted request are read field by field. -/
theorem clearTripSettlesTheLine : Obligations.ClearTripSettlesTheLine := by
  intro s t tag n l b hn hb
  refine ⟨fun hst => ?wrongState, fun hst hv => ?valveNotClosed, fun hst hv hq => ?quietPending,
    fun hst hv hq hnd => ?accepted⟩
  case wrongState => exact clearTrip_refused hn hb fun _ _ _ => Ev.clearTripRequest_wrongState hst
  case valveNotClosed => exact clearTrip_refused hn hb fun _ _ _ => Ev.clearTripRequest_valveNotClosed hst hv
  case quietPending => exact clearTrip_refused hn hb fun _ _ _ => Ev.clearTripRequest_quietPending hst hv hq
  case accepted =>
    refine (clearTrip_answers_ok hn hb hst hv hq hnd).imp ?_
    rintro v ⟨hlines, hlists, hflows, htank, hrest⟩
    refine ⟨?_, ?_, fun k hk => ?_, fun k hk => ?_, fun k => ?_, ?_, fun m hm => ⟨?_, ?_, ?_⟩, hrest⟩
    · rw [State.line, hlines, Quad.get_set_same]
    · rw [State.list, hlists, Quad.get_set_same]
    · rw [htank]; simp only [clearedTank, clearedUse, if_pos hk]
    · rw [htank]; simp only [clearedTank, if_neg hk]
    · rw [htank]; rfl
    · rw [State.flow, hflows, Quad.get_set_same]
    · rw [State.line, hlines, Quad.get_set_ne _ _ hm]; rfl
    · rw [State.list, hlists, Quad.get_set_ne _ _ hm]; rfl
    · rw [State.flow, hflows, Quad.get_set_ne _ _ hm]; rfl

end Sys2Proof.Machine
end

section
/-! A successful changeover (R46): the litres attributed to the tanks and the pending volume of the line are followed through
it as one view, the books. The division writes the books; everything after it leaves them alone, because with nothing pending
even a changeover that ends again has nothing to credit. -/

namespace Sys2Proof.Machine

/-- The litres a changeover of line `l` divides: what each tank has been attributed, and the line's pending volume. -/
def State.books (s : State) (l : LineId) : (TankId → Nat) × Nat :=
  (fun k => (s.tank k).attributed, (s.line l).pendingVol)

/-! ### The updates -/

/-- A line's books are a view of its lane and the tank records. -/
theorem books_congr {s s' : State} {l : LineId} (ht : s'.tanks = s.tanks) (hl : s'.lane l = s.lane l) :
    s'.books l = s.books l := by
  have hline : s'.line l = s.line l := congrArg Prod.fst hl
  simp only [State.books, State.tank, ht, hline]

@[simp] theorem Ev.setList_books (e : Ev) (l : LineId) (ks : List TankId) : (e.setList l ks).books l = e.books l := rfl
@[simp] theorem Ev.setClose_books (e : Ev) (l : LineId) (c : Option CloseRec) : (e.setClose l c).books l = e.books l := rfl
@[simp] theorem Ev.modPred_books (e : Ev) (l : LineId) (f : Predictor → Predictor) :
    (e.modPred l f).books l = e.books l := rfl
@[simp] theorem Ev.modFlow_books (e : Ev) (l : LineId) (f : Flow → Flow) : (e.modFlow l f).books l = e.books l := rfl
@[simp] theorem Ev.clearPred_books (e : Ev) (l : LineId) : (e.clearPred l).books l = e.books l := rfl

@[simp] theorem Ev.mark_books (e : Ev) (key : NoticeKey) (l : LineId) : (e.mark key).books l = e.books l := by
  unfold Ev.mark
  split
  · rfl
  · rfl

@[simp] theorem Ev.markIf_books (e : Ev) (c : Bool) (key : NoticeKey) (l : LineId) :
    (e.markIf c key).books l = e.books l := by
  cases c <;> simp [Ev.markIf]

@[simp] theorem books_ite (c : Prop) [Decidable c] (x y : Ev) (l : LineId) :
    (if c then x else y).books l = if c then x.books l else y.books l :=
  apply_ite (fun z : Ev => z.books l) c x y

@[simp] theorem Ev.modLine_books {f : LineRec → LineRec} (hf : ∀ x, (f x).pendingVol = x.pendingVol) (e : Ev)
    (l : LineId) : (e.modLine l f).books l = e.books l := by
  simp [State.books, State.line, State.tank, Ev.modLine, hf]

@[simp] theorem Ev.modLine_books_cleared {f : LineRec → LineRec} (hf : ∀ x, (f x).pendingVol = 0) (e : Ev) (l : LineId) :
    (e.modLine l f).books l = ((e.books l).1, 0) := by
  simp [State.books, State.line, State.tank, Ev.modLine, hf]

@[simp] theorem Ev.modTank_books {f : Tank → Tank} (hf : ∀ x, (f x).attributed = x.attributed) (e : Ev) (k : TankId)
    (l : LineId) : (e.modTank k f).books l = e.books l := by
  refine Prod.ext (funext fun j => ?_) rfl
  simp only [State.books, State.tank, Ev.modTank_tanks, Tanks.get_set]
  split
  · next h => rw [hf, h]
  · rfl

/-- Crediting a tank adds to its litres alone (R52). -/
theorem Ev.credit_books (e : Ev) (k : TankId) (n : Nat) (l : LineId) :
    (e.credit k n).books l = (Function.update (e.books l).1 k ((e.books l).1 k + n), (e.books l).2) := by
  refine Prod.ext (funext fun j => ?_) rfl
  simp only [State.books, State.tank, Ev.credit, Ev.modTank_tanks, Tanks.get_set, Function.update_apply]
  split
  · rfl
  · rfl

@[simp] theorem Ev.credit_zero_books (e : Ev) (k : TankId) (l : LineId) : (e.credit k 0).books l = e.books l := by
  rw [Ev.credit_books]
  exact Prod.ext (Function.update_eq_self k (e.books l).1) rfl

/-! ### The Stroke Arbiter holds no tank -/

@[simp] theorem Ev.grant_tanks (e : Ev) (l : LineId) (r : StrokeReq) (c : ChanId) : (e.grant l r c).tanks = e.tanks := by
  unfold Ev.grant
  split
  · rfl
  · simp

@[simp] theorem Ev.grantUpTo_tanks (n : Nat) (e : Ev) : (Ev.grantUpTo n e).tanks = e.tanks := by
  induction n generalizing e with
  | zero => rfl
  | succ n ih =>
    unfold Ev.grantUpTo
    split
    · rfl
    · split
      · rfl
      · rw [ih, Ev.grant_tanks]

@[simp] theorem Ev.endStroke_tanks (e : Ev) (l : LineId) (o : StrokeOutcome) : (e.endStroke l o).tanks = e.tanks := rfl

theorem Ev.dropWork_tanks (e : Ev) (l : LineId) : (e.dropWork l).tanks = e.tanks := by
  simp only [Ev.dropWork]
  repeat' split
  all_goals rfl

theorem Ev.enqueue_tanks (e : Ev) (l : LineId) (r : StrokeReq) : (e.enqueue l r).tanks = e.tanks :=
  Ev.grantUpTo_tanks 4 _

theorem Ev.requestStroke_tanks (e : Ev) (l : LineId) (cls : StrokeClass) (target : Nat) (retry : Bool) :
    (e.requestStroke l cls target retry).tanks = e.tanks := by
  simp only [Ev.requestStroke]
  repeat' split
  all_goals simp [Ev.enqueue_tanks]

@[simp] theorem Ev.requestStroke_books (e : Ev) (m : LineId) (cls : StrokeClass) (target : Nat) (retry : Bool)
    (l : LineId) : (e.requestStroke m cls target retry).books l = e.books l :=
  books_congr (Ev.requestStroke_tanks e m cls target retry) (Ev.requestStroke_lane e m cls target retry l)

@[simp] theorem Ev.cancelWork_books (e : Ev) (m l : LineId) : (e.cancelWork m).books l = e.books l :=
  books_congr ((Ev.grantUpTo_tanks 4 _).trans (Ev.dropWork_tanks e m)) (Ev.cancelWork_lane e m l)

/-! ### Uses, states, permits and throttles -/

@[simp] theorem Ev.setUse_books (e : Ev) (k : TankId) (u : TankUse) (l : LineId) :
    (e.setUse k u).books l = e.books l := by
  rw [Ev.setUse, Ev.markIf_books, Ev.modTank_books]
  exact fun _ => rfl

@[simp] theorem Ev.evalPermitOf_books (e : Ev) (m l : LineId) : (e.evalPermitOf m).books l = e.books l := by
  obtain ⟨sh, d, h, -⟩ := Ev.evalPermitOf_writes e m
  rw [h]; rfl

@[simp] theorem Ev.setState_books (e : Ev) (l : LineId) (st : LineState) : (e.setState l st).books l = e.books l := by
  simp [Ev.setState]

@[simp] theorem Ev.setLate_books (e : Ev) (l : LineId) (b : Bool) : (e.setLate l b).books l = e.books l := by
  simp [Ev.setLate]

@[simp] theorem Ev.writeTrip_books (e : Ev) (l : LineId) (cause : TripCause) :
    (e.writeTrip l cause).books l = e.books l := by
  simp [Ev.writeTrip]

@[simp] theorem Ev.throttleTo_books (e : Ev) (l : LineId) (pos : Nat) : (e.throttleTo l pos).books l = e.books l := by
  simp only [Ev.throttleTo, Ev.requestStroke_books]
  cases (e.line l).state <;> simp

/-! ### With nothing pending, what follows the division leaves the books alone -/

theorem books_cleared {s : State} {l : LineId} (h : (s.books l).2 = 0) : ((s.books l).1, 0) = s.books l :=
  Prod.ext rfl h.symm

/-- A changeover that ends other than by success credits its whole pending volume (R51), which is 0 here. -/
theorem Ev.changeoverExit_books {e : Ev} {l : LineId} (h : (e.books l).2 = 0) (reason : CloseReason) :
    (e.changeoverExit l reason).books l = e.books l := by
  have hpending : (e.line l).pendingVol = 0 := h
  simp only [Ev.changeoverExit, hpending]
  cases e.incomingTank l with
  | none => cases e.activeTank l <;> simp [books_cleared h]
  | some k => cases e.activeTank l <;> simp [books_cleared h]

theorem Ev.closeEntry_books {e : Ev} {l : LineId} (h : (e.books l).2 = 0) (reason : CloseReason)
    (hold : Option HoldReason) (cause : Option TripCause) : (e.closeEntry l reason hold cause).books l = e.books l := by
  cases cause with
  | none => simp [Ev.closeEntry, Ev.changeoverExit_books, h]
  | some c => simp [Ev.closeEntry, Ev.changeoverExit_books, h]

theorem Ev.closeStartTest_books {e : Ev} {l : LineId} (h : (e.books l).2 = 0) :
    (e.closeStartTest l).books l = e.books l := by
  simp only [Ev.closeStartTest]
  split
  · rfl
  · simp [Ev.closeEntry_books, h]

theorem Ev.enterTopping_books {e : Ev} {l : LineId} (h : (e.books l).2 = 0) :
    (e.enterTopping l).books l = e.books l := by
  simp [Ev.enterTopping, Ev.closeStartTest_books, h]

theorem Ev.enterChangeover_books {e : Ev} {l : LineId} (h : (e.books l).2 = 0) (k : TankId) :
    (e.enterChangeover l k).books l = e.books l := by
  simp [Ev.enterChangeover, books_cleared h]

theorem Ev.evaluateMarks_books {e : Ev} {l : LineId} (h : (e.books l).2 = 0) :
    (e.evaluateMarks l).books l = e.books l := by
  unfold Ev.evaluateMarks
  split
  · rfl
  · split
    · split
      · exact Ev.enterChangeover_books h _
      · rfl
    · split
      · exact Ev.enterTopping_books h
      · rfl

/-! ### The division -/

theorem State.incomingShare_le (s : State) (l : LineId) (k : TankId) : s.incomingShare l k ≤ (s.line l).pendingVol := by
  unfold State.incomingShare
  split
  · exact Nat.min_le_left _ _
  · exact Nat.zero_le _

/-- A successful changeover credits the two tanks with their parts of the pending volume and leaves none pending (R46). -/
theorem Ev.changeoverSuccess_books (e : Ev) (l : LineId) (old new : TankId) :
    (e.changeoverSuccess l old new).books l =
      ((((e.credit new (e.incomingShare l new)).credit old
        ((e.line l).pendingVol - e.incomingShare l new)).books l).1, 0) := by
  rw [Ev.changeoverSuccess, Ev.evaluateMarks_books]
  · simp
  · simp

/-! ### The obligation -/

/-- Settles O60: the two tanks differ, so each is credited once, and the two parts are read off the divided books. -/
theorem changeoverDividesThePendingVolume : Obligations.ChangeoverDividesThePendingVolume := by
  intro e l old new hne
  have hbooks := Ev.changeoverSuccess_books e l old new
  have hlitres : ((e.changeoverSuccess l old new).books l).1 = _ := congrArg Prod.fst hbooks
  simp only [Ev.credit_books, Function.update_of_ne hne] at hlitres
  refine ⟨fun base h d hbase hlatest hdecl => ?share, ?new, ?old, State.incomingShare_le e.toState l new,
    congrArg Prod.snd hbooks, fun k hkold hknew => ?other⟩
  case share => simp only [State.incomingShare, hbase, hlatest, hdecl]
  case new =>
    refine (congrFun hlitres new).trans ?_
    rw [Function.update_of_ne hne.symm, Function.update_self]; rfl
  case old =>
    refine (congrFun hlitres old).trans ?_
    rw [Function.update_self]; rfl
  case other =>
    refine (congrFun hlitres k).trans ?_
    rw [Function.update_of_ne hkold, Function.update_of_ne hknew]; rfl

end Sys2Proof.Machine
end

section
/-! The pipe period (R81): rounding up is a Galois connection, so its least-multiple law, its bounds and its place under the
dwell all come from comparing products; the bounds need the hose length and the wave speed of a profile in their ranges. -/

namespace Sys2Proof

/-- The model's rounded-up division is Mathlib's. -/
theorem ceilDiv_eq_mathlib {d : Nat} (hd : 0 < d) (n : Nat) : ceilDiv n d = n ⌈/⌉ d := by
  rw [Nat.ceilDiv_eq_add_pred_div, Nat.add_sub_assoc hd, ceilDiv]

theorem ceilDiv_le_iff {d : Nat} (hd : 0 < d) {n m : Nat} : ceilDiv n d ≤ m ↔ n ≤ m * d := by
  rw [ceilDiv_eq_mathlib hd, ceilDiv_le_iff_le_mul hd, mul_comm]

theorem le_ceilDiv_mul {d : Nat} (hd : 0 < d) (n : Nat) : n ≤ ceilDiv n d * d :=
  (ceilDiv_le_iff hd).mp le_rfl

theorem lt_ceilDiv_iff {d : Nat} (hd : 0 < d) {n m : Nat} : m < ceilDiv n d ↔ m * d < n :=
  lt_iff_lt_of_le_iff_le (ceilDiv_le_iff hd)

end Sys2Proof

namespace Sys2Proof.Machine

/-! ### Fields in their ranges -/

theorem inRange_iff {v : Nat} {r : Nat × Nat} : inRange v r = true ↔ r.1 ≤ v ∧ v ≤ r.2 := by
  simp [inRange]

theorem firstOutOfRange_eq_none_iff {i : Nat} {rs : List (Nat × Nat)} {vs : List Nat} :
    firstOutOfRange i rs vs = none ↔ ∀ x ∈ rs.zip vs, inRange x.2 x.1 = true := by
  induction i, rs, vs using firstOutOfRange.induct with
  | case1 i r rs v vs hin ih => simp [firstOutOfRange, hin, ih]
  | case2 i r rs v vs hout => simp [firstOutOfRange, hout]
  | case3 rs i vs hends =>
    cases rs with
    | nil => simp [firstOutOfRange]
    | cons r rs =>
      cases vs with
      | nil => simp [firstOutOfRange]
      | cons v vs => exact (hends r rs v vs rfl rfl).elim

/-- A profile without an error holds each of its fields in the range of that field (R1). -/
theorem inRange_of_profileError {p : LineProfile} (hp : profileError p = none) {r : Nat × Nat} {v : Nat}
    (hmem : (r, v) ∈ profileRanges.zip (profileFields p)) : r.1 ≤ v ∧ v ≤ r.2 :=
  inRange_iff.mp (firstOutOfRange_eq_none_iff.mp hp (r, v) hmem)

theorem lengthM_inRange {p : LineProfile} (hp : profileError p = none) : 5 ≤ p.lengthM ∧ p.lengthM ≤ 500 :=
  inRange_of_profileError hp (r := (5, 500)) (by simp [profileRanges, profileFields])

theorem waveSpeed_inRange {p : LineProfile} (hp : profileError p = none) : 200 ≤ p.waveSpeed ∧ p.waveSpeed ≤ 1400 :=
  inRange_of_profileError hp (r := (200, 1400)) (by simp [profileRanges, profileFields])

/-! ### The pipe period -/

/-- The shortest hose with the fastest wave gives 8 ms, the longest with the slowest 5000 ms (R81). -/
theorem pipePeriod_inRange {p : LineProfile} (hp : profileError p = none) : 8 ≤ pipePeriod p ∧ pipePeriod p ≤ 5000 := by
  obtain ⟨hshort, hlong⟩ := lengthM_inRange hp
  obtain ⟨hslow, hfast⟩ := waveSpeed_inRange hp
  have hpos : 0 < p.waveSpeed := by omega
  exact ⟨(lt_ceilDiv_iff hpos).mpr (by omega), (ceilDiv_le_iff hpos).mpr (by omega)⟩

/-- A plan with stages is one made off the seat, whose dwell is the larger of two figures, the pipe period one of them (R82). -/
theorem State.pipePeriod_le_dwell {s : State} {l : LineId} (h : (s.makePlan l).targets ≠ []) :
    pipePeriod (s.profile l) ≤ (s.makePlan l).dwell := by
  simp only [State.makePlan] at h ⊢
  split at h
  · exact absurd rfl h
  · next hseat => rw [if_neg hseat]; exact Nat.le_max_right _ _

/-- Settles O58: the least-multiple law is that of rounding up, and the close figures do not read the wave speed. -/
theorem pipePeriodFloorsTheDwell : Obligations.PipePeriodFloorsTheDwell := by
  refine ⟨fun p hpos => ⟨?covers, ?least⟩, fun p hp => pipePeriod_inRange hp, fun s l => State.pipePeriod_le_dwell,
    fun p w density rate pressure fault => ?waveSpeedUnread⟩
  case covers => exact le_ceilDiv_mul hpos _
  case least => exact fun n => (ceilDiv_le_iff hpos).mpr
  case waveSpeedUnread => rfl

end Sys2Proof.Machine
end

section
/-! GRADE_PROFILE (R153, R155): the tests of the request, one equation for each outcome, then the writes of an accepted profile
as one equation that names the new record of the grade; no report of the arbiter and no close comes of it, so the event ends
with those writes. -/

namespace Sys2Proof.Machine

/-! ### The test of the lines -/

theorem mem_allLines (l : LineId) : l ∈ allLines := by
  cases l <;> decide

/-- A grade is active when a line that flows or closes names it. -/
theorem State.gradeActive_iff {s : State} {g : GradeId} :
    s.gradeActive g = true ↔ ∃ l, s.gradeOfLine l = some g ∧ (s.flowing l = true ∨ s.closing l = true) := by
  simp [State.gradeActive, mem_allLines]

theorem State.gradeActive_eq_false_iff {s : State} {g : GradeId} :
    s.gradeActive g = false ↔ ∀ l, s.gradeOfLine l = some g → s.flowing l = false ∧ s.closing l = false := by
  simp [State.gradeActive, mem_allLines]

/-! ### The outcomes of the request -/

theorem Ev.gradeRequest_unknownGrade {e : Ev} {n : Nat} {o : GradeOperands} (hn : gradeOf n = none) :
    e.gradeRequest n o = e.answer (.fieldRange 0) := by
  simp [Ev.gradeRequest, hn]

theorem Ev.gradeRequest_linesActive {e : Ev} {n : Nat} {o : GradeOperands} {g : GradeId} (hn : gradeOf n = some g)
    (hact : e.gradeActive g = true) : e.gradeRequest n o = e.answer (.refused .linesActive) := by
  simp [Ev.gradeRequest, hn, hact]

theorem Ev.gradeRequest_fieldRange {e : Ev} {n : Nat} {o : GradeOperands} {g : GradeId} {i : Nat}
    (hn : gradeOf n = some g) (hact : e.gradeActive g = false) (hi : gradeError o = some i) :
    e.gradeRequest n o = e.answer (.fieldRange i) := by
  simp [Ev.gradeRequest, hn, hact, hi]

theorem Ev.gradeRequest_accepted {e : Ev} {n : Nat} {o : GradeOperands} {g : GradeId} (hn : gradeOf n = some g)
    (hact : e.gradeActive g = false) (ho : gradeError o = none) :
    e.gradeRequest n o = (e.acceptGrade g o).answer .ok := by
  simp [Ev.gradeRequest, hn, hact, ho]

/-! ### The accepted profile -/

/-- The record of a grade just profiled: the request's barge terms and nothing of an earlier agreement (R155). -/
def profiledGrade (link : LinkState) (o : GradeOperands) : Grade :=
  { barge := some { density := o.density,
                    fields := { maxRate := o.maxRate, maxPressure := o.maxPressure,
                                changeoverOk := o.changeoverOk == 1 } },
    agreement := if link = .up then .offering else .waiting,
    lastWord := .absent, matchCount := 0, accepted := none, console := none, agreed := none }

/-- Marking a subject writes the noted notices alone, and its key is then among them. -/
theorem Ev.mark_writes (e : Ev) (k : NoticeKey) : ∃ d, e.mark k = { e with dirty := d } ∧ k ∈ d := by
  unfold Ev.mark
  split
  · next hk => exact ⟨e.dirty, rfl, hk⟩
  · exact ⟨e.dirty ++ [k], rfl, by simp⟩

/-- An accepted profile writes the record of its grade and notes the TERMS notice, whatever the record was before. -/
theorem Ev.acceptGrade_writes (e : Ev) (g : GradeId) (o : GradeOperands) :
    ∃ d, e.acceptGrade g o = { e with grades := e.grades.set g (profiledGrade e.link.state o), dirty := d } ∧
      .terms g ∈ d := by
  obtain ⟨d, hmark, hmem⟩ := Ev.mark_writes (e.modGrade g (fun _ => profiledGrade e.link.state o)) (.terms g)
  exact ⟨d, hmark, hmem⟩

/-! ### The obligation -/

theorem exec_gradeProfile_serves (s : State) (t : Time) (tag : Byte) (n : Nat) (o : GradeOperands) :
    exec (.gradeProfile t tag n o) s =
      event t s (fun e => e.serve tag (.gradeProfile n o) (fun x => x.gradeRequest n o)) := rfl

/-- A GRADE_PROFILE whose request is a mere answer leaves every block alone. -/
theorem gradeProfile_refused {s : State} {t : Time} {tag : Byte} {n : Nat} {o : GradeOperands} {b : BufId} {res : Result}
    (hb : s.takesIn tag (.gradeProfile n o) = some b)
    (h : ∀ x1 x2 w, (takeEv s t x1 x2 w).gradeRequest n o = (takeEv s t x1 x2 w).answer res) :
    Answers s (.gradeProfile t tag n o) t b tag res [] s.sameBlocks :=
  (answers_unchanged hb (exec_gradeProfile_serves s t tag n o) h).imp fun _ hu => hu.1

/-- An accepted GRADE_PROFILE leaves no work for the end of the event, so the state it leaves is the request's own writes. -/
theorem gradeProfile_answers_ok {s : State} {t : Time} {tag : Byte} {n : Nat} {o : GradeOperands} {b : BufId} {g : GradeId}
    (hb : s.takesIn tag (.gradeProfile n o) = some b) (hn : gradeOf n = some g) (hact : s.gradeActive g = false)
    (ho : gradeError o = none) :
    Answers s (.gradeProfile t tag n o) t b tag .ok [] (fun v =>
      v.grades = s.grades.set g (profiledGrade s.link.state o) ∧ v.announced (.terms g) ∧ v.lines = s.lines ∧
      v.tanks = s.tanks ∧ v.valves = s.valves ∧ v.link = s.link ∧ v.shut = s.shut) := by
  refine answers_of_serve hb (exec_gradeProfile_serves s t tag n o) (fun x1 x2 w => ?_) (fun x1 x2 w y1 y2 v ro => ?_)
  · obtain ⟨d, heff, -⟩ := Ev.acceptGrade_writes (takeEv s t x1 x2 w) g o
    rw [Ev.gradeRequest_accepted hn hact ho, heff]
    exact ⟨rfl, rfl, rfl, rfl, rfl⟩
  · obtain ⟨d, heff, hmem⟩ := Ev.acceptGrade_writes (takeEv s t x1 x2 w) g o
    rw [Ev.gradeRequest_accepted hn hact ho, heff, finish_idle _ rfl rfl]
    refine ⟨?_, announced_of_dirty _ _ hmem, ?_⟩
    · rw [State.arbitrate_grades]; rfl
    · simp only [State.arbitrate_lines, State.arbitrate_tanks, State.arbitrate_valves, State.arbitrate_link,
        State.arbitrate_shut]
      exact ⟨rfl, rfl, rfl, rfl, rfl⟩

/-- Settles O30: each refusal is a mere answer, and the accepted profile writes one grade's record. -/
theorem gradeProfileRestartsTheAgreement : Obligations.GradeProfileRestartsTheAgreement := by
  intro s t tag n o b hb
  refine ⟨fun hn => ?unknownGrade, fun g hn => ⟨fun hactive => ?linesActive, fun hquiet => ⟨fun i hi => ?fieldRange,
    fun ho => ?accepted⟩⟩⟩
  case unknownGrade => exact gradeProfile_refused hb fun _ _ _ => Ev.gradeRequest_unknownGrade hn
  case linesActive =>
    exact gradeProfile_refused hb fun _ _ _ => Ev.gradeRequest_linesActive hn (State.gradeActive_iff.mpr hactive)
  case fieldRange =>
    have hact : s.gradeActive g = false := State.gradeActive_eq_false_iff.mpr hquiet
    exact gradeProfile_refused hb fun _ _ _ => Ev.gradeRequest_fieldRange hn hact hi
  case accepted =>
    refine (gradeProfile_answers_ok hb hn (State.gradeActive_eq_false_iff.mpr hquiet) ho).imp ?_
    rintro v ⟨hgrades, hrest⟩
    refine ⟨?_, fun h hne => ?_, hrest⟩
    · rw [State.grade, hgrades, Grades.get_set_same]; rfl
    · rw [State.grade, hgrades, Grades.get_set, if_neg hne]; rfl

end Sys2Proof.Machine
end

section
/-! Reads and line numbers (R183): the tests of a line number and of a read are said once, over any command that makes them, and
the five line commands and the six reads follow from them. -/

namespace Sys2Proof.Machine

/-! ### Lines not yet declared -/

theorem Ev.onLine_of_lineOf_none {e : Ev} {n : Nat} (h : lineOf n = none) (f : LineId → Taken) :
    e.onLine n f = e.answer (.fieldRange 0) := by
  unfold Ev.onLine; rw [h]

theorem State.not_flowing_of_undeclared {s : State} {l : LineId} (h : (s.line l).state = .undeclared) :
    s.flowing l = false := by
  rw [State.flowing, h]; rfl

theorem Ev.startLine_undeclared {e : Ev} {l : LineId} (h : (e.line l).state = .undeclared) :
    e.startLine l = e.answer .wrongState := by
  simp [Ev.startLine, h]

theorem Ev.holdRequest_undeclared {e : Ev} {l : LineId} (h : (e.line l).state = .undeclared) :
    e.holdRequest l = e.answer .wrongState := by
  simp [Ev.holdRequest, State.not_flowing_of_undeclared h]

theorem Ev.resumeLine_undeclared {e : Ev} {l : LineId} (h : (e.line l).state = .undeclared) :
    e.resumeLine l = e.answer .wrongState := by
  simp [Ev.resumeLine, h]

theorem Ev.stopRequest_undeclared {e : Ev} {l : LineId} (h : (e.line l).state = .undeclared) :
    e.stopRequest l = e.answer .wrongState := by
  simp [Ev.stopRequest, State.not_flowing_of_undeclared h, h]

theorem Ev.clearTripRequest_undeclared {e : Ev} {l : LineId} (h : (e.line l).state = .undeclared) :
    e.clearTripRequest l = e.answer .wrongState :=
  Ev.clearTripRequest_wrongState (by simp [h])

/-! ### Commands that name a line -/

/-- No block has changed and no notice has joined the queue (R183). -/
def State.undisturbed (s u : State) : Prop := s.sameBlocks u ∧ ∀ n ∈ u.notices, n ∈ s.notices

/-- Command `c` brings request `r`, which looks up line number `n` and then acts as `act` on the line (R183). -/
def ServesLine (c : Instr) (t : Time) (tag : Byte) (r : Request) (n : Nat) (act : Ev → LineId → Taken) : Prop :=
  ∀ s, exec c s = event t s (fun e => e.serve tag r (fun x => x.onLine n (act x)))

/-- Each line command looks up its line, and its action on a line in UNDECLARED is to answer WRONG_STATE. -/
theorem lineCommand_servesLine {r : Request} {n : Nat}
    (hr : r = .start n ∨ r = .hold n ∨ r = .resume n ∨ r = .stop n ∨ r = .clearTrip n) (t : Time) (tag : Byte) :
    ∃ act, ServesLine (r.row t tag) t tag r n act ∧
      ∀ (e : Ev) (l : LineId), (e.line l).state = .undeclared → act e l = e.answer .wrongState := by
  rcases hr with rfl | rfl | rfl | rfl | rfl
  · exact ⟨Ev.startLine, fun _ => rfl, fun _ _ => Ev.startLine_undeclared⟩
  · exact ⟨Ev.holdRequest, fun _ => rfl, fun _ _ => Ev.holdRequest_undeclared⟩
  · exact ⟨Ev.resumeLine, fun _ => rfl, fun _ _ => Ev.resumeLine_undeclared⟩
  · exact ⟨Ev.stopRequest, fun _ => rfl, fun _ _ => Ev.stopRequest_undeclared⟩
  · exact ⟨Ev.clearTripRequest, fun _ => rfl, fun _ _ => Ev.clearTripRequest_undeclared⟩

section
variable {s : State} {c : Instr} {t : Time} {tag : Byte} {r : Request} {b : BufId} {n : Nat} {l : LineId}
  {act : Ev → LineId → Taken}

theorem ServesLine.exec_of_lineOf (hc : ServesLine c t tag r n act) (hn : lineOf n = some l) (s : State) :
    exec c s = event t s (fun e => e.serve tag r (fun x => act x l)) := by
  simpa only [Ev.onLine_of_lineOf hn] using hc s

/-- A line number out of range is refused before the action of the command looks at any state. -/
theorem ServesLine.answers_fieldRange (hc : ServesLine c t tag r n act) (hb : s.takesIn tag r = some b)
    (hn : lineOf n = none) : Answers s c t b tag (.fieldRange 0) [] s.undisturbed :=
  answers_unchanged hb (hc s) fun _ _ _ => Ev.onLine_of_lineOf_none hn _

/-- The taking of a request puts a frame into a buffer, and so leaves the line in the state it finds it in. -/
theorem ServesLine.answers_wrongState (hc : ServesLine c t tag r n act) (hb : s.takesIn tag r = some b)
    (hn : lineOf n = some l) (hl : (s.line l).state = .undeclared)
    (hact : ∀ (e : Ev) (l : LineId), (e.line l).state = .undeclared → act e l = e.answer .wrongState) :
    Answers s c t b tag .wrongState [] s.undisturbed :=
  answers_unchanged hb (hc.exec_of_lineOf hn s) fun x1 x2 w => hact (takeEv s t x1 x2 w) l hl

/-! ### Reads -/

/-- A read is answered OK with its record as the state stands at the taking; `hport` says that the record shows nothing of the
request buffers, the only thing the taking has changed by then. -/
theorem read_answers_ok {record : State → List Byte} (hb : s.takesIn tag r = some b)
    (hc : exec c s = event t s (fun e => e.serve tag r (fun x => x.answerRead (record x.toState))))
    (hport : ∀ x1 x2 w, record (takeEv s t x1 x2 w).toState = record { s with now := t }) :
    Answers s c t b tag .ok (record { s with now := t }) s.undisturbed :=
  answers_unchanged hb hc fun x1 x2 w => congrArg (takeEv s t x1 x2 w).answerRead (hport x1 x2 w)

end

theorem readLine_servesLine (t : Time) (tag : Byte) (n : Nat) :
    ServesLine (.readLine t tag n) t tag (.readLine n) n (fun x l => x.answerRead (x.lineRecord l)) := fun _ => rfl

theorem readTrip_servesLine (t : Time) (tag : Byte) (n : Nat) :
    ServesLine (.readTrip t tag n) t tag (.readTrip n) n (fun x l => x.answerRead (x.tripRecord l)) := fun _ => rfl

theorem exec_readTank_of_tankOf {n : Nat} {k : TankId} (h : tankOf n = some k) (s : State) (t : Time) (tag : Byte) :
    exec (.readTank t tag n) s =
      event t s (fun e => e.serve tag (.readTank n) (fun x => x.answerRead (x.tankRecord k))) := by
  simp only [exec, execReadTank, h]

theorem exec_readTank_of_tankOf_none {n : Nat} (h : tankOf n = none) (s : State) (t : Time) (tag : Byte) :
    exec (.readTank t tag n) s =
      event t s (fun e => e.serve tag (.readTank n) (fun x => x.answer (.fieldRange 0))) := by
  simp only [exec, execReadTank, h]

/-! ### The obligation -/

/-- Settles O3: the line commands and the reads of a line share the test of the number, and every read is a mere answer. -/
theorem readsAndLineNumbers : Obligations.ReadsAndLineNumbers := by
  intro s t tag b now quiet
  refine ⟨fun n r hr hb => ?lineCommands, fun n hb => ⟨fun hn => ?lineRange, fun l hn => ?line⟩,
    fun n hb => ⟨fun hn => ?tripRange, fun l hn => ?trip⟩, fun n hb => ⟨fun hn => ?tankRange, fun k hn => ?tank⟩,
    fun hb => ?link, fun hb => ?hpu, fun hb => ?esd⟩
  case lineCommands =>
    obtain ⟨act, hserves, hundeclared⟩ := lineCommand_servesLine hr t tag
    exact ⟨hserves.answers_fieldRange hb, fun l hn hl => hserves.answers_wrongState hb hn hl hundeclared⟩
  case lineRange => exact (readLine_servesLine t tag n).answers_fieldRange hb hn
  case line =>
    exact read_answers_ok (record := fun x => x.lineRecord l) hb ((readLine_servesLine t tag n).exec_of_lineOf hn s)
      fun _ _ _ => rfl
  case tripRange => exact (readTrip_servesLine t tag n).answers_fieldRange hb hn
  case trip =>
    exact read_answers_ok (record := fun x => x.tripRecord l) hb ((readTrip_servesLine t tag n).exec_of_lineOf hn s)
      fun _ _ _ => rfl
  case tankRange => exact answers_unchanged hb (exec_readTank_of_tankOf_none hn s t tag) fun _ _ _ => rfl
  case tank =>
    exact read_answers_ok (record := fun x => x.tankRecord k) hb (exec_readTank_of_tankOf hn s t tag) fun _ _ _ => rfl
  case link => exact read_answers_ok (record := State.linkRecord) hb rfl fun _ _ _ => rfl
  case hpu => exact read_answers_ok (record := State.hpuRecord) hb rfl fun _ _ _ => rfl
  case esd => exact read_answers_ok (record := State.esdRecord) hb rfl fun _ _ _ => rfl

end Sys2Proof.Machine
end

section
/-! What one command can do. `Work c s whole e e'` says that `e'` comes of `e` by one elementary piece of the work of command `c`,
taken in state `s`: a change of a valve's work, of a line's state, of a list, of a reading, with what must hold for it to be
done. Every operation of the model is a sequence of such pieces (`Works`), said once for each operation; what every step keeps
and what a command leaves alone is then read off the pieces. -/

namespace Sys2Proof.Machine

/-! ### The parts of the state that the pieces of work name -/

/-- The figures of a line's meter and pressure input. -/
structure MeterView where
  gatePulses : Nat
  lastPulses : Nat
  rate : Nat
  prevRate : Nat
  pressure : Nat
  pressureFault : Bool

/-- What the ship link tells of a tank, high water and rise pair among it. -/
structure GaugeView where
  reading : TankReading
  highWater : Option Nat
  pairPrev : Option Half
  pairLatest : Option Half

abbrev Flow.meterView (x : Flow) : MeterView :=
  { gatePulses := x.gatePulses, lastPulses := x.lastPulses, rate := x.rate, prevRate := x.prevRate,
    pressure := x.pressure, pressureFault := x.pressureFault }

abbrev Tank.gauge (x : Tank) : GaugeView :=
  { reading := x.reading, highWater := x.highWater, pairPrev := x.pairPrev, pairLatest := x.pairLatest }

/-- The parts of a state, its valves apart, that some piece of work names. -/
structure Core where
  pending : List Instr
  notices : List Notice
  lists : Quad (List TankId)
  holder1 : Option LineId
  holder2 : Option LineId
  states : LineId → LineState
  profiles : LineId → Option LineProfile
  tripped : LineId → Bool
  meters : LineId → MeterView
  gauges : TankId → GaugeView
  shut : Shutdown
  hpu : HpuProfile × Nat × Bool
  link : Link
  grades : Grades

def State.core (s : State) : Core :=
  { pending := s.pending, notices := s.notices, lists := s.lists, holder1 := s.chan1.holder, holder2 := s.chan2.holder,
    states := fun l => (s.lines.get l).state, profiles := fun l => (s.lines.get l).profile,
    tripped := fun l => (s.lines.get l).trip.isSome, meters := fun l => (s.flows.get l).meterView,
    gauges := fun k => (s.tanks.get k).gauge, shut := s.shut,
    hpu := (s.supply.profile, s.supply.pressure, s.supply.fault), link := s.link, grades := s.grades }

/-- A valve is tended: its position, its outcome or the course of its stroke change, not the work it has. -/
structure Valve.TendedTo (v v' : Valve) : Prop where
  commanded : v'.commanded = v.commanded
  pending : v'.pending = v.pending
  stroke : v'.stroke.map (fun k => k.req) = v.stroke.map (fun k => k.req)
  followOn : v'.followOn = v.followOn
  rate : v'.learnedRate = v.learnedRate
  sample : v'.sample = v.sample
  closedSwitch : v'.closedSwitch = v.closedSwitch
  openSwitch : v'.openSwitch = v.openSwitch

theorem Valve.TendedTo.refl (v : Valve) : v.TendedTo v := ⟨rfl, rfl, rfl, rfl, rfl, rfl, rfl, rfl⟩

/-- Request `r` is work that line `l` had when the command was taken: of its stroke in progress, or its follow-on. -/
def State.hadWork (s : State) (l : LineId) (r : StrokeReq) : Prop :=
  (∃ k, (s.valve l).stroke = some k ∧ k.req = r) ∨ (s.valve l).followOn = some r

/-- A request of line `l` may be made: its target lies within bulk_pos, and a line asks for OPEN and THROTTLE strokes while it
is flowing (R112, R6, R14, R16). -/
def State.mayAsk (s : State) (l : LineId) (r : StrokeReq) : Prop :=
  r.target ≤ (s.profile l).bulkPos ∧ (r.cls ≠ .close → s.flowing l = true)

/-- One piece of the work of command `c`, taken in state `s`. With `whole` the entry into a close and the raising of an ESD cause
are single pieces; without it they are cut into the pieces they are made of. -/
inductive Work (c : Instr) (s : State) (whole : Bool) (e : Ev) : Ev → Prop where
  | tend {e' : Ev} (hcore : e'.core = e.core) (hdirty : e.dirty ⊆ e'.dirty)
      (hv : ∀ l, (e.valve l).TendedTo (e'.valve l)) : Work c s whole e e'
  | input (l : LineId) (f : Valve → Valve) (hcommanded : (f (e.valve l)).commanded = (e.valve l).commanded)
      (hpending : (f (e.valve l)).pending = (e.valve l).pending) (hstroke : (f (e.valve l)).stroke = (e.valve l).stroke)
      (hfollow : (f (e.valve l)).followOn = (e.valve l).followOn)
      (hrate : (f (e.valve l)).learnedRate = (e.valve l).learnedRate ∨
        ∃ r, (f (e.valve l)).learnedRate = some r ∧ Config.minRate ≤ r ∧ r ≤ Config.maxRate)
      (hclosed : (f (e.valve l)).closedSwitch = (e.valve l).closedSwitch ∨ ∃ t a, c = .closedLimitSwitch t l a)
      (hopen : (f (e.valve l)).openSwitch = (e.valve l).openSwitch ∨ ∃ t a, c = .openLimitSwitch t l a)
      (hsample : (f (e.valve l)).sample = (e.valve l).sample ∨ ∃ t x, c = .positionSample t l x) :
      Work c s whole e (e.modValve l f)
  | release (l : LineId) :
      Work c s whole e ((e.modValve l (fun v => { v with stroke := none, followOn := none })).freeChannel l)
  | unqueue (l : LineId) : Work c s whole e (e.modValve l (fun v => { v with pending := none }))
  | unfollow (l : LineId) : Work c s whole e (e.modValve l (fun v => { v with followOn := none }))
  | enqueue (l : LineId) (r : StrokeReq) (hstroke : s.oneStroke → (e.valve l).stroke = none)
      (hr : e.mayAsk l r ∨ s.hadWork l r ∧ e.shut.causes = s.shut.causes ∧ e.profile l = s.profile l) :
      Work c s whole e (e.modValve l (fun v => { v with pending := some r }))
  | follow (l : LineId) (r : StrokeReq) (k : Stroke) (hstroke : (e.valve l).stroke = some k) (hk : k.req.cls ≠ .close)
      (hr : r.cls ≠ .close) (hask : e.mayAsk l r) :
      Work c s whole e (e.modValve l (fun v => { v with followOn := some r }))
  | atOnce (l : LineId) (r : StrokeReq) (hpending : (e.valve l).pending = some r) :
      Work c s whole e (e.modValve l (fun v => { v with pending := none, commanded := r.target }))
  | grant (l : LineId) (r : StrokeReq) (k : Stroke) (ch : ChanId) (hpending : (e.valve l).pending = some r)
      (hk : k.req = r) (hfree : (e.chan ch).holder = none) :
      Work c s whole e ((e.modValve l (fun v =>
        { v with pending := none, commanded := r.target, stroke := some k })).modChan ch
          (fun x => { x with holder := some l }))
  | setState (l : LineId) (st : LineState)
      (h : st.flowing = true → e.flowing l = true ∨ st = .starting ∧ e.latch = false) :
      Work c s whole e (e.setState l st)
  | closing (l : LineId) (f : LineRec → LineRec) (fine : whole = false)
      (hf : ∀ x, (f x).state = .closing ∧ (f x).profile = x.profile ∧ (f x).trip = x.trip) :
      Work c s whole e ((e.modLine l f).mark (.line l))
  | permit (p : PumpId) (fine : whole = false) : Work c s whole e (e.evalPermit p)
  | cause (x : EsdCause) (fine : whole = false) (hnew : e.shut.causes.get x = none) :
      Work c s whole e (e.modShut (fun y => { y with causes := y.causes.add x e.now }))
  | closeEntry (l : LineId) (reason : CloseReason) (hold : Option HoldReason) (cause : Option TripCause)
      (coarse : whole = true) : Work c s whole e (e.closeEntry l reason hold cause)
  | raise (x : EsdCause) (coarse : whole = true) : Work c s whole e (e.raiseCause x)
  | reset (hc : ∃ t tag, c = .esdReset t tag) : Work c s whole e e.resetLatch
  | trip (l : LineId) (r : TripRecord) : Work c s whole e (e.modLine l (fun x => { x with trip := some r }))
  | listValve (l : LineId) : Work c s whole e (e.modShut (fun x => { x with valveList := x.valveList ++ [l] }))
  | shorten (l : LineId) (ks : List TankId) (h : ks.Sublist (e.list l)) : Work c s whole e (e.setList l ks)
  | order (l : LineId) (ks : List TankId) (hnd : ks.Nodup) (hapart : ∀ m, m ≠ l → ∀ k ∈ ks, k ∉ e.list m) :
      Work c s whole e (e.setList l ks)
  | profile (l : LineId) (p : LineProfile) (hc : ∃ t tag n q, c = .lineProfile t tag n q ∧ lineOf n = some l)
      (hflow : e.flowing l = false) (hrate : Config.minRate ≤ p.nominalRate ∧ p.nominalRate ≤ Config.maxRate) :
      Work c s whole e ((e.modValve l (fun v => v.profiled (e.line l).profile p)).modLine l
        (fun x => { x with profile := some p }))
  | gauge (k : TankId) (f : Tank → Tank) (hc : c.touchesReadings = true)
      (hmiss : (f (e.tank k)).missCount = (e.tank k).missCount ∨ (f (e.tank k)).missCount ≤ Config.lostMisses) :
      Work c s whole e (e.modTank k f)
  | link (f : Link → Link) (hc : c.touchesLink = true) : Work c s whole e (e.modLink f)
  | grade (g : GradeId) (f : Grade → Grade) (hc : c.touchesGrades = true)
      (hbarge : (f (e.grade g)).barge = (e.grade g).barge ∨ ∃ t tag n o, c = .gradeProfile t tag n o ∧ gradeOf n = some g) :
      Work c s whole e (e.modGrade g f)
  | shipRun (n : Nat) (hn : n ≤ 3) : Work c s whole e (e.modShut (fun x => { x with shipRun := n }))
  | loop (st : LoopState)
      (hc : (∃ t, c = .esdLoopOpen t) ∨ (∃ t, c = .esdLoopClosed t) ∨ ∃ t, c = .loopDebounceExpiry t) :
      Work c s whole e (e.modShut (fun x => { x with loop := st }))
  | hpu (h : HpuProfile) (hc : ∃ t tag g, c = .hpuProfile t tag g) :
      Work c s whole e (e.modSupply (fun x => { x with profile := h }))
  | accumulator (kPa : Nat) (fault : Bool) (hc : ∃ t x, c = .accumulatorSample t x) :
      Work c s whole e (e.modSupply (fun x => { x with pressure := kPa, fault := fault }))
  | meter (l : LineId) (f : Flow → Flow)
      (hrate : (∃ t, c = .gateEnd t) ∨ (f (e.flow l)).rate = (e.flow l).rate ∧
        (f (e.flow l)).lastPulses = (e.flow l).lastPulses ∧ (f (e.flow l)).prevRate = (e.flow l).prevRate)
      (hpulses : (∃ t, c = .gateEnd t) ∨ (∃ t, c = .meterPulse t l) ∨ (f (e.flow l)).gatePulses = (e.flow l).gatePulses)
      (hpressure : (∃ t x, c = .pressureSample t l x) ∨ (f (e.flow l)).pressure = (e.flow l).pressure ∧
        (f (e.flow l)).pressureFault = (e.flow l).pressureFault) :
      Work c s whole e (e.modFlow l f)
  | emptyQueue (hc : ∃ t, c = .restartEffect t) : Work c s whole e e.restartConsole

/-- Pieces of work one after the other. -/
def Works (c : Instr) (s : State) (whole : Bool) : Ev → Ev → Prop := Relation.ReflTransGen (Work c s whole)

variable {c : Instr} {s : State} {whole : Bool} {e0 e : Ev}

theorem Works.refl (e : Ev) : Works c s whole e e := Relation.ReflTransGen.refl

/-- A predicate that every piece keeps is kept by the work. -/
theorem Works.keeps {P : Ev → Prop} (hstep : ∀ x y, P x → Work c s whole x y → P y) (h : Works c s whole e0 e)
    (h0 : P e0) : P e := by
  unfold Works at h
  induction h with
  | refl => exact h0
  | tail _ hw ih => exact hstep _ _ ih hw

theorem Works.work {e' : Ev} (hE : Works c s whole e0 e) (h : Work c s whole e e') : Works c s whole e0 e' :=
  Relation.ReflTransGen.tail hE h

theorem Works.trans {e' : Ev} (hE : Works c s whole e0 e) (h : Works c s whole e e') : Works c s whole e0 e' :=
  Relation.ReflTransGen.trans hE h

/-- An update that leaves the named parts, the valves and the noted notices alone. -/
theorem Works.aside {e' : Ev} (hE : Works c s whole e0 e) (hcore : e'.core = e.core) (hv : e'.valves = e.valves)
    (hd : e.dirty ⊆ e'.dirty) : Works c s whole e0 e' :=
  hE.work (.tend hcore hd fun l => by rw [State.valve, State.valve, hv]; exact .refl _)

/-! ### The updates -/

theorem Ev.modLine_core (e : Ev) (l : LineId) (f : LineRec → LineRec)
    (h : ∀ x, (f x).state = x.state ∧ (f x).profile = x.profile ∧ (f x).trip = x.trip) :
    (e.modLine l f).core = e.core := by
  simp only [State.core, Ev.modLine, Quad.get_set]
  congr <;> (funext m; split <;> simp_all)

theorem Ev.modFlow_core (e : Ev) (l : LineId) (f : Flow → Flow) (h : ∀ x, (f x).meterView = x.meterView) :
    (e.modFlow l f).core = e.core := by
  simp only [State.core, Ev.modFlow, Quad.get_set]
  congr; funext m; split <;> simp_all

theorem Ev.modTank_core (e : Ev) (k : TankId) (f : Tank → Tank) (h : ∀ x, (f x).gauge = x.gauge) :
    (e.modTank k f).core = e.core := by
  simp only [State.core, Ev.modTank, Tanks.get_set]
  congr; funext m; split <;> simp_all

theorem Ev.mark_dirty_subset (e : Ev) (k : NoticeKey) : e.dirty ⊆ (e.mark k).dirty := by
  unfold Ev.mark
  split
  · exact List.Subset.refl _
  · exact List.subset_append_left _ _

theorem Ev.mark_core (e : Ev) (k : NoticeKey) : (e.mark k).core = e.core := by
  unfold Ev.mark; split <;> rfl

theorem Ev.modLine_works (l : LineId) (f : LineRec → LineRec)
    (h : ∀ x, (f x).state = x.state ∧ (f x).profile = x.profile ∧ (f x).trip = x.trip) (hE : Works c s whole e0 e) :
    Works c s whole e0 (e.modLine l f) :=
  hE.aside (Ev.modLine_core e l f h) rfl (List.Subset.refl _)
theorem Ev.modFlow_works (l : LineId) (f : Flow → Flow) (h : ∀ x, (f x).meterView = x.meterView)
    (hE : Works c s whole e0 e) : Works c s whole e0 (e.modFlow l f) :=
  hE.aside (Ev.modFlow_core e l f h) rfl (List.Subset.refl _)
theorem Ev.modTank_works (k : TankId) (f : Tank → Tank) (h : ∀ x, (f x).gauge = x.gauge)
    (hE : Works c s whole e0 e) : Works c s whole e0 (e.modTank k f) :=
  hE.aside (Ev.modTank_core e k f h) rfl (List.Subset.refl _)
theorem Ev.modPred_works (l : LineId) (f : Predictor → Predictor) (hE : Works c s whole e0 e) :
    Works c s whole e0 (e.modPred l f) := hE.aside rfl rfl (List.Subset.refl _)
theorem Ev.setClose_works (l : LineId) (x : Option CloseRec) (hE : Works c s whole e0 e) :
    Works c s whole e0 (e.setClose l x) := hE.aside rfl rfl (List.Subset.refl _)
theorem Ev.modClose_works (l : LineId) (f : CloseRec → CloseRec) (hE : Works c s whole e0 e) :
    Works c s whole e0 (e.modClose l f) := hE.aside rfl rfl (List.Subset.refl _)
theorem Ev.report_works (r : Report) (hE : Works c s whole e0 e) : Works c s whole e0 (e.report r) :=
  hE.aside rfl rfl (List.Subset.refl _)
theorem Ev.mark_works (k : NoticeKey) (hE : Works c s whole e0 e) : Works c s whole e0 (e.mark k) :=
  hE.aside (Ev.mark_core e k) (Ev.mark_valves e k) (Ev.mark_dirty_subset e k)
theorem Ev.markIf_works (b : Bool) (k : NoticeKey) (hE : Works c s whole e0 e) : Works c s whole e0 (e.markIf b k) := by
  cases b
  · exact hE
  · exact Ev.mark_works k hE
theorem Ev.eachLine_works (f : LineId → Ev → Ev) (hf : ∀ l x, Works c s whole e0 x → Works c s whole e0 (f l x))
    (hE : Works c s whole e0 e) : Works c s whole e0 (e.eachLine f) :=
  hf _ _ (hf _ _ (hf _ _ (hf _ _ hE)))
theorem Ev.eachTank_works (ks : List TankId) (f : TankId → Ev → Ev)
    (hf : ∀ k x, Works c s whole e0 x → Works c s whole e0 (f k x)) (hE : Works c s whole e0 e) :
    Works c s whole e0 (e.eachTank ks f) := by
  unfold Ev.eachTank
  induction ks generalizing e with
  | nil => exact hE
  | cons k ks ih => exact ih (hf k e hE)

theorem Ev.updatePump_works (hE : Works c s whole e0 e) : Works c s whole e0 e.updatePump :=
  hE.aside rfl rfl (List.Subset.refl _)

/-- A valve tended in place. -/
theorem Ev.modValve_works (l : LineId) (f : Valve → Valve) (h : (e.valve l).TendedTo (f (e.valve l)))
    (hE : Works c s whole e0 e) : Works c s whole e0 (e.modValve l f) := by
  refine hE.work (.tend rfl (List.Subset.refl _) fun m => ?_)
  simp only [State.valve, Ev.modValve_valves, Quad.get_set]
  split
  · next h' => subst h'; exact h
  · exact .refl _

/-! ### Tanks, permits and line flags -/

theorem Ev.setUse_works (k : TankId) (u : TankUse) (hE : Works c s whole e0 e) : Works c s whole e0 (e.setUse k u) := by
  unfold Ev.setUse
  exact Ev.markIf_works _ _ (Ev.modTank_works k _ (fun _ => rfl) hE)
theorem Ev.credit_works (k : TankId) (litres : Nat) (hE : Works c s whole e0 e) :
    Works c s whole e0 (e.credit k litres) := by
  unfold Ev.credit
  exact Ev.modTank_works k _ (fun _ => rfl) hE
theorem Ev.zeroAccount_works (l : LineId) (hE : Works c s whole e0 e) : Works c s whole e0 (e.zeroAccount l) := by
  simp only [Ev.zeroAccount]
  exact Ev.modFlow_works l _ (fun _ => rfl) (Ev.modLine_works l _ (fun _ => ⟨rfl, rfl, rfl⟩)
    (Ev.eachTank_works _ _ (fun k _ hx => Ev.modTank_works k _ (fun _ => rfl) hx) hE))

/-- A walk over tanks that changes their uses leaves the lists alone. -/
theorem Ev.eachTank_lists (ks : List TankId) (f : TankId → Ev → Ev) (hf : ∀ k x, (f k x).lists = x.lists) (e : Ev) :
    (e.eachTank ks f).lists = e.lists := by
  unfold Ev.eachTank
  induction ks generalizing e with
  | nil => rfl
  | cons k ks ih => exact (ih (f k e)).trans (hf k e)

@[simp] theorem Ev.setUse_lists (e : Ev) (k : TankId) (u : TankUse) : (e.setUse k u).lists = e.lists := by
  simp [Ev.setUse]

theorem Ev.settleComplete_works (l : LineId) (hE : Works c s whole e0 e) : Works c s whole e0 (e.settleComplete l) :=
  (Ev.eachTank_works (e.list l) _ (fun k _ hx => Ev.setUse_works k _ hx) hE).work (.shorten l [] (List.nil_sublist _))
theorem Ev.settleCleared_works (l : LineId) (hE : Works c s whole e0 e) : Works c s whole e0 (e.settleCleared l) :=
  (Ev.eachTank_works (e.list l) _ (fun k _ hx => Ev.setUse_works k _ hx) hE).work (.shorten l [] (List.nil_sublist _))

theorem Ev.setSurge_works (l : LineId) (b : Bool) (hE : Works c s whole e0 e) : Works c s whole e0 (e.setSurge l b) := by
  unfold Ev.setSurge
  exact Ev.markIf_works _ _ (Ev.modLine_works l _ (fun _ => ⟨rfl, rfl, rfl⟩) hE)
theorem Ev.setLate_works (l : LineId) (b : Bool) (hE : Works c s whole e0 e) : Works c s whole e0 (e.setLate l b) := by
  unfold Ev.setLate
  exact Ev.markIf_works _ _ (Ev.modLine_works l _ (fun _ => ⟨rfl, rfl, rfl⟩) hE)
theorem Ev.setQuiet_works (l : LineId) (b : Bool) (hE : Works c s whole e0 e) : Works c s whole e0 (e.setQuiet l b) := by
  unfold Ev.setQuiet
  exact Ev.markIf_works _ _ (Ev.modLine_works l _ (fun _ => ⟨rfl, rfl, rfl⟩) hE)
theorem Ev.setFeedbackFault_works (l : LineId) (b : Bool) (hE : Works c s whole e0 e) :
    Works c s whole e0 (e.setFeedbackFault l b) := by
  unfold Ev.setFeedbackFault
  exact Ev.markIf_works _ _ (Ev.modValve_works l _ ⟨rfl, rfl, rfl, rfl, rfl, rfl, rfl, rfl⟩ hE)
/-- A change to a state in which the line does not flow. -/
theorem Ev.setState_works (l : LineId) (st : LineState) (h : st.flowing = false) (hE : Works c s whole e0 e) :
    Works c s whole e0 (e.setState l st) := hE.work (.setState l st (by simp [h]))
/-- A change of state of a line that is flowing. -/
theorem Ev.setState_works_of_flowing (l : LineId) (st : LineState) (h : e.flowing l = true)
    (hE : Works c s whole e0 e) : Works c s whole e0 (e.setState l st) := hE.work (.setState l st fun _ => .inl h)

end Sys2Proof.Machine
end

section
/-! The work of the Stroke Arbiter and the Close Sequencer, operation by operation. -/

namespace Sys2Proof.Machine
variable {c : Instr} {s : State} {whole : Bool} {e0 e : Ev}

/-! ### The Stroke Arbiter -/

/-- The best of some requests is one of the pending ones. -/
theorem State.bestOf_pending (s : State) (ok : StrokeReq → Bool) (ls : List LineId) {l : LineId} {r : StrokeReq}
    (h : s.bestOf ok ls = some (l, r)) : (s.valve l).pending = some r := by
  unfold State.bestOf at h
  refine List.foldlRecOn ls _
    (motive := fun acc => ∀ l r, acc = some (l, r) → (s.valve l).pending = some r) ?_ ?_ l r h
  · simp
  · intro acc hacc m _ l r h
    split at h
    · exact hacc l r h
    · next q hq =>
      split at h
      · split at h
        · simp only [Option.some.injEq, Prod.mk.injEq] at h
          obtain ⟨rfl, rfl⟩ := h
          exact hq
        · next l0 r0 =>
          split at h
          · simp only [Option.some.injEq, Prod.mk.injEq] at h
            obtain ⟨rfl, rfl⟩ := h
            exact hq
          · exact hacc l r h
      · exact hacc l r h

theorem State.nextGrant_pending {s : State} {l : LineId} {r : StrokeReq} (h : s.nextGrant = some (l, r)) :
    (s.valve l).pending = some r := s.bestOf_pending _ _ h

/-- A channel that is picked is free. -/
theorem State.pickChannel_free {s : State} {d : Direction} {ch : ChanId} (h : s.pickChannel d = some ch) :
    (s.chan ch).holder = none := by
  unfold State.pickChannel at h
  split at h
  · next h1 h2 =>
    split at h
    · cases h; exact Option.isNone_iff_eq_none.mp h2
    · cases h; exact Option.isNone_iff_eq_none.mp h1
  · next h1 _ => cases h; exact Option.isNone_iff_eq_none.mp h1
  · next _ h2 => cases h; exact Option.isNone_iff_eq_none.mp h2
  · cases h

theorem Ev.modValve_modValve (e : Ev) (l : LineId) (f g : Valve → Valve) :
    (e.modValve l f).modValve l g = e.modValve l (fun v => g (f v)) := by
  unfold Ev.modValve
  simp only [Quad.get_set_same, Quad.set_set]

/-- Freeing a channel at the end of a stroke, its outcome noted. -/
theorem Ev.endStroke_works (l : LineId) (o : StrokeOutcome) (hE : Works c s whole e0 e) :
    Works c s whole e0 (e.endStroke l o) := by
  refine (hE.work (.release l)).work (.tend ?_ (List.Subset.refl _) fun m => ?_)
  · rfl
  · simp only [Ev.endStroke, Ev.freeChannel, Ev.updatePump, State.valve, Ev.modSupply_valves, Ev.modValve_valves,
      Quad.get_set]
    split
    · exact ⟨rfl, rfl, rfl, rfl, rfl, rfl, rfl, rfl⟩
    · exact .refl _

theorem Ev.grant_works (l : LineId) (r : StrokeReq) (ch : ChanId) (hp : (e.valve l).pending = some r)
    (hfree : (e.chan ch).holder = none) (hE : Works c s whole e0 e) : Works c s whole e0 (e.grant l r ch) := by
  simp only [Ev.grant]
  split
  · rw [Ev.modValve_modValve]
    refine Ev.updatePump_works (Ev.report_works _ (Ev.report_works _ ((hE.work (.atOnce l r hp)).work
      (.tend rfl (List.Subset.refl _) fun m => ?_))))
    simp only [State.valve, Ev.modValve_valves, Quad.get_set]
    split
    · exact ⟨rfl, rfl, rfl, rfl, rfl, rfl, rfl, rfl⟩
    · exact .refl _
  · rw [Ev.modValve_modValve]
    exact hE.work (.grant l r (newStroke r _ e.now) ch hp rfl hfree)

theorem Ev.grantUpTo_works (n : Nat) (hE : Works c s whole e0 e) : Works c s whole e0 (Ev.grantUpTo n e) := by
  induction n generalizing e with
  | zero => exact hE
  | succ n ih =>
    unfold Ev.grantUpTo
    split
    · exact hE
    · next l r hn =>
      split
      · exact hE
      · next ch hc => exact ih (Ev.grant_works l r ch (State.nextGrant_pending hn) (State.pickChannel_free hc) hE)

theorem Ev.considerGrants_works (hE : Works c s whole e0 e) : Works c s whole e0 e.considerGrants :=
  Ev.grantUpTo_works 4 hE

theorem Ev.dropWork_works (l : LineId) (hE : Works c s whole e0 e) : Works c s whole e0 (e.dropWork l) := by
  have hdrop : Works c s whole e0 (match (e.valve l).pending with
      | some r => if r.cls = .close then e else e.modValve l (fun v => { v with pending := none })
      | none => e) := by
    split
    · split
      · exact hE
      · exact hE.work (.unqueue l)
    · exact hE
  simp only [Ev.dropWork]
  split
  · split
    · exact hdrop
    · exact Ev.endStroke_works l .ended hdrop
  · exact hdrop

theorem Ev.cancelWork_works (l : LineId) (hE : Works c s whole e0 e) : Works c s whole e0 (e.cancelWork l) :=
  Ev.considerGrants_works (Ev.dropWork_works l hE)
theorem Ev.cancelAllWork_works (hE : Works c s whole e0 e) : Works c s whole e0 e.cancelAllWork :=
  Ev.considerGrants_works (Ev.eachLine_works _ (fun l _ hx => Ev.dropWork_works l hx) hE)

theorem Ev.failStroke_works (l : LineId) (o : StrokeOutcome) (hE : Works c s whole e0 e) :
    Works c s whole e0 (e.failStroke l o) := by
  unfold Ev.failStroke
  split
  · exact Ev.considerGrants_works (Ev.report_works _ (Ev.endStroke_works l o hE))
  · exact hE

/-- The end of a stroke keeps what decides whether a request may be made. -/
theorem Ev.endStroke_mayAsk (e : Ev) (l : LineId) (o : StrokeOutcome) (r : StrokeReq) :
    (e.endStroke l o).mayAsk l r ↔ e.mayAsk l r := Iff.rfl

@[simp] theorem Ev.endStroke_stroke (e : Ev) (l : LineId) (o : StrokeOutcome) :
    ((e.endStroke l o).valve l).stroke = none := by
  simp [Ev.endStroke, Ev.freeChannel, Ev.updatePump, State.valve]

theorem Ev.enqueue_works (l : LineId) (r : StrokeReq) (hstroke : s.oneStroke → (e.valve l).stroke = none)
    (hr : e.mayAsk l r ∨ s.hadWork l r ∧ e.shut.causes = s.shut.causes ∧ e.profile l = s.profile l) (hE : Works c s whole e0 e) :
    Works c s whole e0 (e.enqueue l r) :=
  Ev.considerGrants_works (hE.work (.enqueue l r hstroke hr))

/-- A request reaches the arbiter: of an OPEN or THROTTLE stroke while its line is flowing. -/
theorem Ev.requestStroke_works (l : LineId) (cls : StrokeClass) (target : Nat) (retry : Bool)
    (h : cls ≠ .close → e.flowing l = true) (hE : Works c s whole e0 e) :
    Works c s whole e0 (e.requestStroke l cls target retry) := by
  have hask : e.mayAsk l { cls := cls, target := min target (e.profile l).bulkPos, time := e.now, retry := retry } :=
    ⟨Nat.min_le_right _ _, h⟩
  simp only [Ev.requestStroke]
  split
  · next k hk =>
    split
    · exact hE
    · next hcls =>
      split
      · exact Ev.enqueue_works l _ (fun _ => Ev.endStroke_stroke e l .ended) (.inl hask) (Ev.endStroke_works l .ended hE)
      · next hreq => exact hE.work (.follow l _ k hk hcls hreq hask)
  · next p hk hp =>
    split
    · exact hE
    · exact Ev.enqueue_works l _ (fun _ => hk) (.inl hask) hE
  · next hk hp => exact Ev.enqueue_works l _ (fun _ => hk) (.inl hask) hE

theorem Ev.pauseAll_works (paused : Bool) (hE : Works c s whole e0 e) : Works c s whole e0 (e.pauseAll paused) := by
  have hreq : ∀ (k : Stroke) (now : Time), (k.pauseTo paused now).req = k.req := by
    intro k now; unfold Stroke.pauseTo; split <;> rfl
  refine Ev.eachLine_works _ (fun l x hx => Ev.modValve_works l _ ⟨rfl, rfl, ?_, rfl, rfl, rfl, rfl, rfl⟩ hx) hE
  cases (x.valve l).stroke with
  | none => rfl
  | some k => simp [hreq]

theorem Ev.modValve_holders (e : Ev) (l : LineId) (f : Valve → Valve) : (e.modValve l f).core = e.core := rfl

theorem Ev.beginTravel_works (l : LineId) (k : Stroke) (hk : (e.valve l).stroke = some k) (hE : Works c s whole e0 e) :
    Works c s whole e0 (e.beginTravel l k) := by
  refine hE.work (.tend ?_ (List.Subset.refl _) fun m => ?_)
  · have turn : ∀ ch : Channel, (if ch.holder = some l then { ch with lastDir := some k.req.cls.dir } else ch).holder =
        ch.holder := by intro ch; split <;> rfl
    simp only [Ev.beginTravel, State.core, turn]
    rfl
  · simp only [Ev.beginTravel, State.valve, Ev.modValve_valves, Quad.get_set]
    split
    · next h =>
      subst h
      have hk' : (e.valves.get m).stroke = some k := hk
      exact ⟨rfl, rfl, by rw [hk']; rfl, rfl, rfl, rfl, rfl, rfl⟩
    · exact .refl _

theorem Ev.arrive_works (l : LineId) (k : Stroke) (target : Nat) (hk : ∃ k0, (e.valve l).stroke = some k0 ∧ k0.req = k.req)
    (hE : Works c s whole e0 e) : Works c s whole e0 (e.arrive l k target) := by
  obtain ⟨k0, hk0, hreq⟩ := hk
  unfold Ev.arrive
  refine Ev.report_works _ (Ev.modValve_works l _ ⟨rfl, rfl, ?_, rfl, rfl, rfl, rfl, rfl⟩ hE)
  rw [hk0]; simp [hreq]

theorem State.strokeIn_some {s : State} {l : LineId} {p : StrokePhase} {k : Stroke} (h : s.strokeIn l p = some k) :
    (s.valve l).stroke = some k ∧ k.phase = p := by
  unfold State.strokeIn at h
  split at h
  · next k0 hk0 =>
    split at h
    · next hp => cases h; exact ⟨hk0, hp⟩
    · cases h
  · cases h

/-- The valve read back after it was tended in place. -/
@[simp] theorem Ev.modValve_valve (e : Ev) (l : LineId) (f : Valve → Valve) : (e.modValve l f).valve l = f (e.valve l) := by
  simp [State.valve]

theorem Ev.modValve_valve_ne (e : Ev) {l m : LineId} (f : Valve → Valve) (h : m ≠ l) :
    (e.modValve l f).valve m = e.valve m := by
  simp [State.valve, Quad.get_set, h]

theorem Ev.closedActive_works (l : LineId) (hE : Works c s whole e0 e) : Works c s whole e0 (e.closedActive l) := by
  have h1 : Works c s whole e0 (e.modValve l (fun v => { v with position := 0, source := .arrival })) :=
    Ev.modValve_works l _ ⟨rfl, rfl, rfl, rfl, rfl, rfl, rfl, rfl⟩ hE
  simp only [Ev.closedActive]
  refine Ev.report_works _ ?_
  split
  · exact h1
  · next k hk =>
    have hst := (State.strokeIn_some hk).1
    split
    · exact Ev.arrive_works l k 0 ⟨k, by simpa using hst, rfl⟩ h1
    · split
      · exact Ev.arrive_works l k 0 ⟨k, by simpa using hst, rfl⟩ h1
      · exact Ev.failStroke_works l _ h1
      · exact h1

theorem Ev.openActive_works (l : LineId) (hE : Works c s whole e0 e) : Works c s whole e0 (e.openActive l) := by
  have h1 : Works c s whole e0 (e.modValve l (fun v => { v with position := 1000, source := .arrival })) :=
    Ev.modValve_works l _ ⟨rfl, rfl, rfl, rfl, rfl, rfl, rfl, rfl⟩ hE
  simp only [Ev.openActive]
  split
  · exact h1
  · next k hk =>
    have hst := (State.strokeIn_some hk).1
    split
    · split
      · exact Ev.arrive_works l k 1000 ⟨k, by simpa using hst, rfl⟩ h1
      · exact Ev.failStroke_works l _ h1
    · exact h1
    · exact h1

theorem capturedRate_bounds (moved used : Nat) :
    Config.minRate ≤ capturedRate moved used ∧ capturedRate moved used ≤ Config.maxRate := by
  unfold capturedRate Config.minRate Config.maxRate
  split <;> omega

theorem Ev.takeSample_works (l : LineId) (pos : Nat) (hE : Works c s whole e0 e) :
    Works c s whole e0 (e.takeSample l pos) := by
  have h1 : Works c s whole e0 (e.modValve l (fun v => { v with position := pos, source := .transmitter })) :=
    Ev.modValve_works l _ ⟨rfl, rfl, rfl, rfl, rfl, rfl, rfl, rfl⟩ hE
  simp only [Ev.takeSample]
  split
  · exact h1
  · next k hk =>
    split
    · exact Ev.arrive_works l k _ ⟨k, by simpa using (State.strokeIn_some hk).1, rfl⟩ (h1.work (.input l _ rfl rfl rfl rfl
        (.inr ⟨_, rfl, capturedRate_bounds _ _⟩) (.inl rfl) (.inl rfl) (.inl rfl)))
    · exact h1

theorem Ev.setBand_works (hE : Works c s whole e0 e) : Works c s whole e0 e.setBand := by
  unfold Ev.setBand
  split
  · exact hE
  · exact Ev.updatePump_works (Ev.pauseAll_works _ (Ev.mark_works _ (hE.aside rfl rfl (List.Subset.refl _))))

/-! ### The Close Predictor and the Line Sequencer -/

theorem Ev.settleArrival_works (l : LineId) (target : Nat) (hE : Works c s whole e0 e) :
    Works c s whole e0 (e.settleArrival l target) := by
  unfold Ev.settleArrival
  split
  · exact Ev.modPred_works l _ hE
  · exact hE

theorem Ev.writeTrip_works (l : LineId) (cause : TripCause) (hE : Works c s whole e0 e) :
    Works c s whole e0 (e.writeTrip l cause) := Ev.mark_works _ (hE.work (.trip l _))

theorem Ev.changeoverExit_works (l : LineId) (reason : CloseReason) (hE : Works c s whole e0 e) :
    Works c s whole e0 (e.changeoverExit l reason) := by
  have h1 : Works c s whole e0 (match e.activeTank l with
      | some k => e.credit k (e.line l).pendingVol
      | none => e) := by
    split
    · exact Ev.credit_works _ _ hE
    · exact hE
  simp only [Ev.changeoverExit]
  have h2 := Ev.modFlow_works l (fun x => { x with watchIncoming := none }) (fun _ => rfl)
    (Ev.modLine_works l (fun x => { x with pendingVol := 0, changeoverStart := none }) (fun _ => ⟨rfl, rfl, rfl⟩) h1)
  split
  · next k _ =>
    have h3 := Ev.modTank_works k (fun x => { x with changeoverBase := none }) (fun _ => rfl) h2
    split
    · exact Ev.setUse_works k _ h3
    · exact h3
  · exact h2

theorem Ev.setUndecided_works (ls : List LineId) (hE : Works c s whole e0 e) :
    Works c s whole e0 { e with undecided := ls } := hE.aside rfl rfl (List.Subset.refl _)
theorem Ev.setReports_works (rs : List Report) (hE : Works c s whole e0 e) :
    Works c s whole e0 { e with reports := rs } := hE.aside rfl rfl (List.Subset.refl _)

theorem Ev.closeEntry_works (l : LineId) (reason : CloseReason) (hold : Option HoldReason) (cause : Option TripCause)
    (hE : Works c s whole e0 e) : Works c s whole e0 (e.closeEntry l reason hold cause) := by
  cases whole with
  | true => exact hE.work (.closeEntry l reason hold cause rfl)
  | false =>
    simp only [Ev.closeEntry]
    refine Ev.setUndecided_works _ ?_
    have h1 : Works c s false e0 (match cause with
        | some x => e.writeTrip l x
        | none => e) := by
      split
      · exact Ev.writeTrip_works l _ hE
      · exact hE
    have h2 := fun h => Ev.changeoverExit_works (c := c) (s := s) (whole := false) (e0 := e0) l reason
      (e := match cause with
        | some x => e.writeTrip l x
        | none => e) h
    have permitOf : ∀ x, Works c s false e0 x → Works c s false e0 (x.evalPermitOf l) := by
      intro x hx
      unfold Ev.evalPermitOf
      split
      · exact hx.work (.permit _ rfl)
      · exact hx
    refine permitOf _ (Ev.cancelWork_works l (Ev.setClose_works l _ (Ev.modFlow_works l _ (fun _ => rfl)
      (Ev.modPred_works l _ (Works.work ?_ (.closing l _ rfl fun _ => ⟨rfl, rfl, rfl⟩))))))
    split
    · exact h2 h1
    · exact h1

theorem Ev.retripClosing_works (l : LineId) (reason : CloseReason) (cause : TripCause) (hE : Works c s whole e0 e) :
    Works c s whole e0 (e.retripClosing l reason cause) := by
  unfold Ev.retripClosing
  exact Ev.markIf_works _ _ (Ev.modFlow_works l _ (fun _ => rfl) (Ev.modLine_works l _ (fun _ => ⟨rfl, rfl, rfl⟩)
    (Ev.writeTrip_works l cause hE)))

theorem Ev.trip_works (l : LineId) (cause : TripCause) (hE : Works c s whole e0 e) :
    Works c s whole e0 (e.trip l cause) := by
  unfold Ev.trip
  split
  · exact Ev.closeEntry_works l _ _ _ hE
  · split
    · exact Ev.retripClosing_works l _ _ hE
    · split
      · exact Ev.setState_works l _ rfl (Ev.modLine_works l _ (fun _ => ⟨rfl, rfl, rfl⟩) (Ev.writeTrip_works l cause hE))
      · exact hE

theorem Ev.tripHolder_works (k : TankId) (cause : TripCause) (hE : Works c s whole e0 e) :
    Works c s whole e0 (e.tripHolder k cause) := by
  unfold Ev.tripHolder
  split
  · exact Ev.trip_works _ cause hE
  · exact hE

theorem Ev.dropClose_works (l : LineId) (hE : Works c s whole e0 e) : Works c s whole e0 (e.dropClose l) := by
  unfold Ev.dropClose
  exact Ev.modFlow_works l _ (fun _ => rfl) (Ev.modLine_works l _ (fun _ => ⟨rfl, rfl, rfl⟩) (Ev.setClose_works l none hE))

theorem Ev.closeEnd_works (l : LineId) (hE : Works c s whole e0 e) : Works c s whole e0 (e.closeEnd l) := by
  have h1 := Ev.dropClose_works l hE
  have settleUse : ∀ u, Works c s whole e0 (match e.activeTank l with
      | some k => (e.dropClose l).setUse k u
      | none => e.dropClose l) := by
    intro u
    split
    · exact Ev.setUse_works _ _ h1
    · exact h1
  simp only [Ev.closeEnd]
  split
  · exact Ev.setState_works l _ rfl (Ev.modLine_works l _ (fun _ => ⟨rfl, rfl, rfl⟩) (Ev.settleComplete_works l h1))
  · exact Ev.setState_works l _ rfl (settleUse .done)
  · exact Ev.setState_works l _ rfl (settleUse .queued)
  · exact Ev.setState_works l _ rfl (Ev.modLine_works l _ (fun _ => ⟨rfl, rfl, rfl⟩) h1)
  · exact Ev.setState_works l _ rfl (Ev.modLine_works l _ (fun _ => ⟨rfl, rfl, rfl⟩) h1)
  · exact h1

end Sys2Proof.Machine
end

section
/-! The work of the Fill Planner, the Delivery Controller and the shutdown, operation by operation. -/

namespace Sys2Proof.Machine
variable {c : Instr} {s : State} {whole : Bool} {e0 e : Ev}

/-! ### STARTING to CHANGEOVER -/

theorem Ev.setState_lines (e : Ev) (l : LineId) (st : LineState) :
    (e.setState l st).lines = e.lines.set l { e.lines.get l with state := st } := by
  obtain ⟨sh, d, h, -⟩ := Ev.setState_writes e l st
  rw [h]

@[simp] theorem Ev.setState_flowing (e : Ev) (l : LineId) (st : LineState) : (e.setState l st).flowing l = st.flowing := by
  simp [State.flowing, State.line, Ev.setState_lines]

/-- The states of the lines decide which flow. -/
theorem State.flowing_congr {x y : State} {l : LineId} (h : x.lines = y.lines) : x.flowing l = y.flowing l := by
  simp only [State.flowing, State.line, h]

theorem State.latch_congr {x y : State} (h : x.shut = y.shut) : x.latch = y.latch := by
  simp only [State.latch, h]

theorem Ev.setLate_shut (e : Ev) (l : LineId) (b : Bool) : (e.setLate l b).shut = e.shut := by
  simp [Ev.setLate]
theorem Ev.setSurge_shut (e : Ev) (l : LineId) (b : Bool) : (e.setSurge l b).shut = e.shut := by
  simp [Ev.setSurge]

theorem Ev.requestStroke_lines (e : Ev) (l : LineId) (cls : StrokeClass) (target : Nat) (retry : Bool) :
    (e.requestStroke l cls target retry).lines = e.lines :=
  Quad.ext_get fun m => congrArg Prod.fst (Ev.requestStroke_lane e l cls target retry m)

theorem Ev.enterStarting_works (l : LineId) (hlatch : e.latch = false) (hE : Works c s whole e0 e) :
    Works c s whole e0 (e.enterStarting l) := by
  have h1 : Works c s whole e0 (match (e.list l).head? with
      | some k => (e.setUse k .active).modLine l (fun x =>
          { x with fedSet := if x.fedSet.contains k then x.fedSet else x.fedSet ++ [k] })
      | none => e) := by
    split
    · exact Ev.modLine_works l _ (fun _ => ⟨rfl, rfl, rfl⟩) (Ev.setUse_works _ _ hE)
    · exact hE
  have hshut : (match (e.list l).head? with
      | some k => (e.setUse k .active).modLine l (fun x =>
          { x with fedSet := if x.fedSet.contains k then x.fedSet else x.fedSet ++ [k] })
      | none => e).shut = e.shut := by
    split
    · simp [Ev.setUse]
    · rfl
  have h2 := Ev.setLate_works l false (Ev.setSurge_works l false h1)
  simp only [Ev.enterStarting]
  refine Ev.requestStroke_works l _ _ _ (fun _ => Ev.setState_flowing _ l .starting) ?_
  refine Works.work (e := Ev.modLine _ l _) ?_ (.setState l .starting fun _ => .inr ⟨rfl, ?_⟩)
  · exact Ev.modLine_works l _ (fun _ => ⟨rfl, rfl, rfl⟩) (Ev.modFlow_works l _ (fun _ => rfl) h2)
  · exact (State.latch_congr (((Ev.setLate_shut _ l false).trans (Ev.setSurge_shut _ l false)).trans hshut)).trans hlatch

theorem Ev.enterProving_works (l : LineId) (h : (e.line l).state = .starting) (hE : Works c s whole e0 e) :
    Works c s whole e0 (e.enterProving l) := by
  unfold Ev.enterProving
  refine Ev.setState_works_of_flowing l _ ?_ (Ev.modFlow_works l _ (fun _ => rfl)
    (Ev.modLine_works l _ (fun _ => ⟨rfl, rfl, rfl⟩) hE))
  have hf : e.flowing l = true := by rw [State.flowing, h]; rfl
  simpa [State.flowing, State.line] using hf

theorem Ev.throttleTo_works (l : LineId) (pos : Nat) (h : e.flowing l = true) (hE : Works c s whole e0 e) :
    Works c s whole e0 (e.throttleTo l pos) := by
  have h1 : Works c s whole e0 ((e.modLine l (fun x => { x with throttle := pos })).modFlow l
      (fun x => { x with rateCount := 0, pressCount := 0 })) :=
    Ev.modFlow_works l _ (fun _ => rfl) (Ev.modLine_works l _ (fun _ => ⟨rfl, rfl, rfl⟩) hE)
  have hf : ((e.modLine l (fun x => { x with throttle := pos })).modFlow l
      (fun x => { x with rateCount := 0, pressCount := 0 })).flowing l = true := by
    simpa [State.flowing, State.line] using h
  simp only [Ev.throttleTo]
  refine Ev.requestStroke_works l _ _ _ (fun _ => ?_) ?_
  · split
    all_goals exact hf
  · split
    case h_1 | h_2 | h_3 => exact Ev.modPred_works l _ h1
    all_goals exact h1

theorem Ev.closeStartTest_works (l : LineId) (hE : Works c s whole e0 e) : Works c s whole e0 (e.closeStartTest l) := by
  unfold Ev.closeStartTest
  split
  · exact hE
  · next d _ =>
    have h1 := Ev.modPred_works (c := c) (s := s) (whole := whole) l
      (fun x => { x with evaluation := some (e.evaluationNow l d.finalMm) }) hE
    simp only
    split
    · have h2 : Works c s whole e0 (if e.levelReaches l d.finalMm = true then
          (e.modPred l (fun x => { x with evaluation := some (e.evaluationNow l d.finalMm) })).setLate l true
          else e.modPred l (fun x => { x with evaluation := some (e.evaluationNow l d.finalMm) })) := by
        split
        · exact Ev.setLate_works l true h1
        · exact h1
      split
      · exact Ev.closeEntry_works l _ _ _ h2
      · exact Ev.closeEntry_works l _ _ _ h2
    · exact h1

theorem Ev.enterTopping_works (l : LineId) (h : e.flowing l = true) (hE : Works c s whole e0 e) :
    Works c s whole e0 (e.enterTopping l) := by
  have h1 : Works c s whole e0 ((e.modLine l (fun x =>
      { x with tankEnd := some (decide (1 < (e.list l).length)) })).setState l .topping) :=
    Ev.setState_works_of_flowing l _ (by simpa [State.flowing, State.line] using h)
      (Ev.modLine_works l _ (fun _ => ⟨rfl, rfl, rfl⟩) hE)
  simp only [Ev.enterTopping]
  refine Ev.closeStartTest_works l ?_
  split
  · exact Ev.throttleTo_works l _ (Ev.setState_flowing _ l .topping) h1
  · exact h1

theorem Ev.enterChangeover_works (hc : c.touchesReadings = true) (l : LineId) (k : TankId) (h : e.flowing l = true)
    (hE : Works c s whole e0 e) : Works c s whole e0 (e.enterChangeover l k) := by
  simp only [Ev.enterChangeover]
  have h1 := (Ev.setUse_works k .incoming hE).work (.gauge k (fun x =>
    { x with changeoverBase := (e.tank k).latest.map (fun h => h.level),
             highWater := (e.tank k).latest.map (fun h => h.level), pairPrev := none, pairLatest := none }) hc (.inl rfl))
  have h2 := Ev.modLine_works l (fun x => { x with pendingVol := 0, changeoverStart := some e.now })
    (fun _ => ⟨rfl, rfl, rfl⟩) h1
  have hflow : ((e.setUse k .incoming).modTank k (fun x =>
      { x with changeoverBase := (e.tank k).latest.map (fun h => h.level),
               highWater := (e.tank k).latest.map (fun h => h.level), pairPrev := none, pairLatest := none })).flowing l =
      true := by
    rw [← h]; exact State.flowing_congr (by simp [Ev.setUse])
  have h3 := Ev.setState_works_of_flowing l .changeover (by simpa [State.flowing, State.line] using hflow)
    (Ev.modFlow_works l (fun x => { x with
      watchIncoming := some ⟨(e.tank k).latest.map (fun h => h.level), (e.tank k).latest.map (fun h => h.level), e.now⟩ })
      (fun _ => rfl) h2)
  split
  · exact Ev.throttleTo_works l _ (Ev.setState_flowing _ l .changeover) h3
  · exact h3

theorem Ev.evaluateMarks_works (hc : c.touchesReadings = true) (l : LineId) (h : e.flowing l = true)
    (hE : Works c s whole e0 e) : Works c s whole e0 (e.evaluateMarks l) := by
  unfold Ev.evaluateMarks
  split
  · exact hE
  · split
    · split
      · exact Ev.enterChangeover_works hc l _ h hE
      · exact hE
    · split
      · exact Ev.enterTopping_works l h hE
      · exact hE

theorem Ev.overrunTest_works (l : LineId) (hE : Works c s whole e0 e) : Works c s whole e0 (e.overrunTest l) := by
  unfold Ev.overrunTest
  split
  · exact hE
  · split
    · exact Ev.trip_works l _ hE
    · exact hE

theorem Ev.changeoverSuccess_works (hc : c.touchesReadings = true) (l : LineId) (old new : TankId)
    (h : e.flowing l = true) (hE : Works c s whole e0 e) : Works c s whole e0 (e.changeoverSuccess l old new) := by
  simp only [Ev.changeoverSuccess]
  refine Ev.evaluateMarks_works hc l (Ev.setState_flowing _ l .bulk) ?_
  have h2 := (Ev.setUse_works old .done (Ev.credit_works old ((e.line l).pendingVol - e.incomingShare l new)
    (Ev.credit_works new (e.incomingShare l new) hE))).work (.shorten l ((e.list l).drop 1) (by
      have : (((e.credit new (e.incomingShare l new)).credit old ((e.line l).pendingVol - e.incomingShare l new)).setUse
          old .done).list l = e.list l := by
        simp [State.list, Ev.credit]
      rw [this]; exact List.drop_sublist 1 _))
  have h3 := Ev.modTank_works new (fun x => { x with changeoverBase := none }) (fun _ => rfl)
    (Ev.setUse_works new .active h2)
  have h4 := Ev.modLine_works l (fun x =>
    { x with pendingVol := 0, changeoverStart := none, throttle := (e.profile l).bulkPos,
             fedSet := if x.fedSet.contains new then x.fedSet else x.fedSet ++ [new],
             baseline := some { level := (e.tank new).changeoverBase,
                                litres := x.delivered - e.incomingShare l new } }) (fun _ => ⟨rfl, rfl, rfl⟩) h3
  have h5 := Ev.modPred_works l (fun _ => Predictor.init)
    (Ev.modFlow_works l (fun x => { x with watchActive := x.watchIncoming, watchIncoming := none }) (fun _ => rfl) h4)
  have hflow : ((((e.credit new (e.incomingShare l new)).credit old ((e.line l).pendingVol - e.incomingShare l new)).setUse
      old .done).setList l ((e.list l).drop 1)).flowing l = true := by
    rw [← h]; exact State.flowing_congr (by simp [Ev.setUse, Ev.credit])
  have hflow3 : ((((((e.credit new (e.incomingShare l new)).credit old
      ((e.line l).pendingVol - e.incomingShare l new)).setUse old .done).setList l ((e.list l).drop 1)).setUse new
        .active).modTank new (fun x => { x with changeoverBase := none })).flowing l = true := by
    rw [← hflow]; exact State.flowing_congr (by simp [Ev.setUse])
  have hflow5 : (((((((((e.credit new (e.incomingShare l new)).credit old
      ((e.line l).pendingVol - e.incomingShare l new)).setUse old .done).setList l ((e.list l).drop 1)).setUse new
        .active).modTank new (fun x => { x with changeoverBase := none })).modLine l (fun x =>
    { x with pendingVol := 0, changeoverStart := none, throttle := (e.profile l).bulkPos,
             fedSet := if x.fedSet.contains new then x.fedSet else x.fedSet ++ [new],
             baseline := some { level := (e.tank new).changeoverBase,
                                litres := x.delivered - e.incomingShare l new } })).modFlow l
      (fun x => { x with watchActive := x.watchIncoming, watchIncoming := none })).clearPred l).flowing l = true := by
    simpa [State.flowing, State.line, Ev.clearPred] using hflow3
  refine Ev.setState_works_of_flowing l .bulk ?_ (Ev.requestStroke_works l _ _ _ (fun _ => hflow5) h5)
  exact (State.flowing_congr (Ev.requestStroke_lines _ l _ _ _)).trans hflow5

theorem Ev.successTest_works (hc : c.touchesReadings = true) (l : LineId) (h : (e.line l).state = .changeover)
    (hE : Works c s whole e0 e) : Works c s whole e0 (e.successTest l) := by
  have hf : e.flowing l = true := by rw [State.flowing, h]; rfl
  unfold Ev.successTest
  split
  · split
    · exact Ev.changeoverSuccess_works hc l _ _ hf hE
    · exact hE
  · exact hE

theorem Ev.provingTest_works (hc : c.touchesReadings = true) (l : LineId) (k : TankId) (level : Nat)
    (h : e.flowing l = true) (hE : Works c s whole e0 e) : Works c s whole e0 (e.provingTest l k level) := by
  unfold Ev.provingTest
  split
  · exact hE
  · split
    · exact Ev.modLine_works l _ (fun _ => ⟨rfl, rfl, rfl⟩) hE
    · simp only
      split
      · refine Ev.evaluateMarks_works hc l (Ev.setState_flowing _ l .bulk) (Ev.setState_works_of_flowing l .bulk ?_
          (Ev.modLine_works l _ (fun _ => ⟨rfl, rfl, rfl⟩) (Ev.requestStroke_works l _ _ _ (fun _ => h) hE)))
        simpa [State.flowing, State.line, Ev.requestStroke_lines] using h
      · exact hE

/-! ### The Shutdown Unit and the Close Planner -/

theorem Ev.esdToLine_works (l : LineId) (hE : Works c s whole e0 e) : Works c s whole e0 (e.esdToLine l) := by
  unfold Ev.esdToLine
  split
  · exact Ev.closeEntry_works l _ _ _ hE
  · split
    · exact Ev.retripClosing_works l _ _ hE
    · exact hE

theorem Ev.raiseCause_works (x : EsdCause) (hE : Works c s whole e0 e) : Works c s whole e0 (e.raiseCause x) := by
  cases whole with
  | true => exact hE.work (.raise x rfl)
  | false =>
    unfold Ev.raiseCause
    split
    · exact hE
    · next hx =>
      have h1 := hE.work (.cause x rfl (by simpa using hx))
      have h2 : Works c s false e0 { e.modShut (fun y => { y with causes := y.causes.add x e.now }) with
          restartEsd := e.restartEsd || e.restart != RestartWait.idle } := h1.aside rfl rfl (List.Subset.refl _)
      exact Ev.mark_works _ (Ev.eachLine_works _ (fun l _ hx => Ev.esdToLine_works l hx)
        (Ev.cancelAllWork_works ((h2.work (.permit .p1 rfl)).work (.permit .p2 rfl))))

theorem Ev.raiseValve_works (l : LineId) (hE : Works c s whole e0 e) : Works c s whole e0 (e.raiseValve l) := by
  unfold Ev.raiseValve
  refine Ev.raiseCause_works .valve ?_
  split
  · exact hE
  · exact Ev.mark_works _ (hE.work (.listValve l))

theorem Ev.requestStage_works (l : LineId) (k : Nat) (hE : Works c s whole e0 e) :
    Works c s whole e0 (e.requestStage l k) := by
  unfold Ev.requestStage
  split
  · exact hE
  · split
    · exact Ev.modClose_works l _ hE
    · exact Ev.requestStroke_works l _ _ _ (fun h => absurd rfl h) (Ev.modClose_works l _ hE)

theorem Ev.startPlan_works (l : LineId) (hE : Works c s whole e0 e) : Works c s whole e0 (e.startPlan l) := by
  have h1 := Ev.setSurge_works l (e.closeFigures l).limited
    (Ev.modClose_works l (fun x => { x with plan := some (e.makePlan l) }) hE)
  simp only [Ev.startPlan]
  split
  · exact Ev.closeEnd_works l h1
  · split
    · exact Ev.requestStroke_works l _ _ _ (fun h => absurd rfl h) (Ev.modClose_works l _ h1)
    · exact Ev.requestStage_works l 1 h1

theorem Ev.endRunDown_works (l : LineId) (cause : RunDownEnd) (hE : Works c s whole e0 e) :
    Works c s whole e0 (e.endRunDown l cause) := Ev.startPlan_works l (Ev.modClose_works l _ hE)

theorem Ev.decideClose_works (l : LineId) (hE : Works c s whole e0 e) : Works c s whole e0 (e.decideClose l) := by
  simp only [Ev.decideClose]
  split
  · split
    · exact Ev.startPlan_works l hE
    · have h1 := Ev.modClose_works l (fun x => { x with runDownStart := some x.entry }) hE
      split
      · exact Ev.endRunDown_works l _ h1
      · split
        · exact Ev.endRunDown_works l _ h1
        · exact h1
  · exact hE

theorem Ev.plannerArrived_works (l : LineId) (target : Nat) (hE : Works c s whole e0 e) :
    Works c s whole e0 (e.plannerArrived l target) := by
  unfold Ev.plannerArrived
  split
  · split
    · exact Ev.closeEnd_works l hE
    · exact Ev.modClose_works l _ hE
  · exact hE

theorem Ev.nextStage_works (l : LineId) (hE : Works c s whole e0 e) : Works c s whole e0 (e.nextStage l) := by
  unfold Ev.nextStage
  split
  · split
    · exact Ev.requestStage_works l _ hE
    · exact hE
  · exact hE

theorem Ev.plannerEnded_works (l : LineId) (hE : Works c s whole e0 e) : Works c s whole e0 (e.plannerEnded l) := by
  unfold Ev.plannerEnded
  split
  · exact Ev.nextStage_works l (Ev.modClose_works l _ hE)
  · exact hE

theorem Ev.retryStage_works (l : LineId) (hE : Works c s whole e0 e) : Works c s whole e0 (e.retryStage l) := by
  unfold Ev.retryStage
  split
  · exact hE
  · split
    · exact Ev.requestStroke_works l _ _ _ (fun h => absurd rfl h) (Ev.modClose_works l _ hE)
    · exact Ev.requestStroke_works l _ _ _ (fun h => absurd rfl h) (Ev.modClose_works l _ hE)

theorem Ev.abandonClose_works (l : LineId) (hE : Works c s whole e0 e) : Works c s whole e0 (e.abandonClose l) :=
  Ev.raiseValve_works l (Ev.setState_works l _ rfl (Ev.dropClose_works l (Ev.retripClosing_works l _ _ hE)))

theorem Ev.plannerFailed_works (l : LineId) (hE : Works c s whole e0 e) : Works c s whole e0 (e.plannerFailed l) := by
  simp only [Ev.plannerFailed]
  split
  · split
    · exact Ev.abandonClose_works l hE
    · have h1 := Ev.modClose_works l (fun x => { x with retryUsed := true, phase := .retryWait }) hE
      split
      · exact h1
      · exact Ev.retryStage_works l h1
  · exact hE

theorem Ev.plannerSeated_works (l : LineId) (hE : Works c s whole e0 e) : Works c s whole e0 (e.plannerSeated l) := by
  unfold Ev.plannerSeated
  split
  · exact Ev.closeEnd_works l hE
  · exact hE

theorem Ev.retryWaiting_works (l : LineId) (hE : Works c s whole e0 e) : Works c s whole e0 (e.retryWaiting l) := by
  unfold Ev.retryWaiting
  split
  · exact Ev.retryStage_works l hE
  · exact hE

theorem Ev.bandEvent_works (hE : Works c s whole e0 e) : Works c s whole e0 e.bandEvent := by
  have h1 := Ev.setBand_works hE
  simp only [Ev.bandEvent]
  split
  · exact h1
  · refine Ev.considerGrants_works ?_
    split
    · exact Ev.eachLine_works _ (fun l _ hx => Ev.retryWaiting_works l hx) h1
    · exact h1

/-! ### The end of an event -/

theorem Ev.handleReport_works (r : Report) (hE : Works c s whole e0 e) : Works c s whole e0 (e.handleReport r) := by
  have tripped : ∀ l, Works c s whole e0 (if e.flowing l then e.trip l .strokeFailed else e) := by
    intro l
    split
    · exact Ev.trip_works l _ hE
    · exact hE
  cases r with
  | arrived l cls target =>
    cases cls with
    | close => exact Ev.plannerArrived_works l target hE
    | throttle => exact Ev.settleArrival_works l target hE
    | opening =>
      simp only [Ev.handleReport]
      split
      · next h => exact Ev.enterProving_works l h hE
      · exact Ev.settleArrival_works l target hE
  | failed l cls o =>
    cases cls with
    | close => exact Ev.plannerFailed_works l hE
    | throttle => exact tripped l
    | opening => exact tripped l
  | ended l cls =>
    cases cls with
    | close =>
      simp only [Ev.handleReport]
      split
      · next h => exact Ev.requestStroke_works l _ _ _ (fun _ => by rw [State.flowing, h]; rfl) hE
      · exact Ev.plannerEnded_works l hE
    | throttle => exact hE
    | opening => exact hE
  | seated l => exact Ev.plannerSeated_works l hE

theorem Ev.drain_works (hE : Works c s whole e0 e) : Works c s whole e0 e.drain :=
  Ev.drain_induction (P := fun x => Works c s whole e0 x)
    (fun _ r rs hx _ => Ev.handleReport_works r (Ev.setReports_works rs hx))
    (fun _ l ls hx _ _ => Ev.decideClose_works l (Ev.setUndecided_works ls hx)) e hE

end Sys2Proof.Machine
end

section
/-! The work of the strokes' events, the gate, the samples, the timers and the ESD loop. -/

namespace Sys2Proof.Machine
variable {c : Instr} {s : State} {whole : Bool} {e0 e : Ev}

/-! ### The events of strokes and limit switches -/

/-- A grant to another line leaves a valve as it is. -/
theorem Ev.grant_valve_ne (e : Ev) {l m : LineId} (r : StrokeReq) (ch : ChanId) (h : m ≠ l) :
    (e.grant l r ch).valve m = e.valve m := by
  simp only [Ev.grant]
  split
  · simp [State.valve, Ev.updatePump, Quad.get_set, h]
  · simp [State.valve, Quad.get_set, h]

/-- Grants leave a valve without a pending request as it is (R117). -/
theorem Ev.considerGrants_valve (e : Ev) {l : LineId} (h : (e.valve l).pending = none) :
    e.considerGrants.valve l = e.valve l := by
  have upTo : ∀ n (e : Ev), (e.valve l).pending = none → (Ev.grantUpTo n e).valve l = e.valve l := by
    intro n
    induction n with
    | zero => intro e _; rfl
    | succ n ih =>
      intro e h
      unfold Ev.grantUpTo
      split
      · rfl
      · next m r hn =>
        split
        · rfl
        · next ch _ =>
          have hne : l ≠ m := by
            rintro rfl
            rw [State.nextGrant_pending hn] at h
            cases h
          have hv := Ev.grant_valve_ne e r ch hne
          rw [ih _ (by rw [hv]; exact h), hv]
  exact upTo 4 e h

@[simp] theorem Ev.freeChannel_valve (e : Ev) (l m : LineId) : (e.freeChannel l).valve m = e.valve m := rfl
@[simp] theorem Ev.report_valve (e : Ev) (r : Report) (m : LineId) : (e.report r).valve m = e.valve m := rfl

/-- What grants leave alone of what decides about a request. -/
theorem Ev.considerGrants_causes (e : Ev) : e.considerGrants.shut.causes = e.shut.causes :=
  congrArg Prod.fst (Ev.considerGrants_alarms (e := e) rfl)
theorem State.profile_of_ground {x y : State} (h : x.ground = y.ground) (l : LineId) : x.profile l = y.profile l := by
  have hp : (x.lines.get l).profile = (y.lines.get l).profile := congrFun (congrArg Ground.profiles h) l
  simp only [State.profile, State.line, hp]

theorem Ev.turnaroundEnd_works (l : LineId) (hE : Works c s whole e0 e) : Works c s whole e0 (e.turnaroundEnd l) := by
  unfold Ev.turnaroundEnd
  split
  · exact hE
  · next k hk =>
    split
    · exact Ev.modValve_works l _ ⟨rfl, rfl, by rw [(State.strokeIn_some hk).1]; rfl, rfl, rfl, rfl, rfl, rfl⟩ hE
    · exact hE

/-- A stroke withdrawn to the queue, or its follow-on in its place, is work the line had. -/
theorem Ev.withdraw_works (l : LineId) (k : Stroke) (hk : (e.valve l).stroke = some k) (hv : e.valve l = s.valve l)
    (hcauses : e.shut.causes = s.shut.causes) (hprofile : e.profile l = s.profile l) (hE : Works c s whole e0 e) :
    Works c s whole e0 (e.withdraw l k) := by
  have had : s.hadWork l (((e.valve l).followOn).getD k.req) := by
    rw [State.hadWork, ← hv]
    cases hf : (e.valve l).followOn with
    | none => exact .inl ⟨k, hk, rfl⟩
    | some r => exact .inr rfl
  unfold Ev.withdraw
  exact Ev.considerGrants_works ((hE.work (.release l)).work
    (.enqueue l _ (fun _ => by simp) (.inr ⟨had, hcauses, hprofile⟩)))

theorem Ev.setupEnd_works (l : LineId) (hv : e.valve l = s.valve l) (hcauses : e.shut.causes = s.shut.causes)
    (hprofile : e.profile l = s.profile l) (hE : Works c s whole e0 e) : Works c s whole e0 (e.setupEnd l) := by
  unfold Ev.setupEnd
  split
  · exact hE
  · next k hk =>
    split
    · split
      · exact Ev.withdraw_works l k (State.strokeIn_some hk).1 hv hcauses hprofile hE
      · exact Ev.beginTravel_works l k (State.strokeIn_some hk).1 hE
    · exact hE

theorem Ev.blankingEnd_works (l : LineId) (hE : Works c s whole e0 e) : Works c s whole e0 (e.blankingEnd l) := by
  unfold Ev.blankingEnd
  split
  · exact hE
  · next k hk =>
    simp only
    split
    · have h1 := Ev.modValve_works l (fun v => { v with stroke := some { k with blanking := false } })
        ⟨rfl, rfl, by rw [hk]; rfl, rfl, rfl, rfl, rfl, rfl⟩ hE
      have h2 : Works c s whole e0 (if (e.valve l).closedSwitch = true then
          (e.modValve l (fun v => { v with stroke := some { k with blanking := false } })).closedActive l
          else e.modValve l (fun v => { v with stroke := some { k with blanking := false } })) := by
        split
        · exact Ev.closedActive_works l h1
        · exact h1
      split
      · exact Ev.openActive_works l h2
      · exact h2
    · exact hE

theorem Ev.simulatedArrival_works (l : LineId) (hE : Works c s whole e0 e) :
    Works c s whole e0 (e.simulatedArrival l) := by
  unfold Ev.simulatedArrival
  split
  · exact hE
  · next k hk =>
    split
    · exact Ev.arrive_works l k _ ⟨k, by simpa using (State.strokeIn_some hk).1, rfl⟩
        (Ev.modValve_works l _ ⟨rfl, rfl, rfl, rfl, rfl, rfl, rfl, rfl⟩ hE)
    · exact hE

theorem Ev.travelTimeout_works (l : LineId) (hE : Works c s whole e0 e) : Works c s whole e0 (e.travelTimeout l) := by
  unfold Ev.travelTimeout
  split
  · exact hE
  · split
    · exact Ev.failStroke_works l _ hE
    · exact hE

theorem Ev.extensionExhausted_works (l : LineId) (hE : Works c s whole e0 e) :
    Works c s whole e0 (e.extensionExhausted l) := by
  unfold Ev.extensionExhausted
  split
  · exact hE
  · split
    · exact Ev.failStroke_works l _ hE
    · exact hE

/-- A hold's end gives the channel free before the follow-on enters the queue; no grant of the freeing goes to the valve. -/
theorem Ev.holdEnd_works (l : LineId) (hv : e.valve l = s.valve l) (hcauses : e.shut.causes = s.shut.causes)
    (hprofile : e.profile l = s.profile l) (hE : Works c s whole e0 e) : Works c s whole e0 (e.holdEnd l) := by
  unfold Ev.holdEnd
  split
  · exact hE
  · next k hk =>
    simp only
    split
    · have h1 := Ev.report_works (.ended l k.req.cls) (Ev.considerGrants_works (hE.work (.release l)))
      split
      · next r hr =>
        refine Ev.enqueue_works l r (fun hone => ?_) (.inr ⟨.inr (by rw [← hv]; exact hr), ?_, ?_⟩) h1
        · have hnone : (e.valve l).pending = none := by
            rw [hv]; exact hone l (by rw [← hv, (State.strokeIn_some hk).1]; rfl)
          rw [Ev.report_valve, Ev.considerGrants_valve _ (by simpa using hnone)]
          simp
        · exact (Ev.considerGrants_causes _).trans hcauses
        · exact (State.profile_of_ground (Ev.considerGrants_ground _) l).trans hprofile
      · exact h1
    · exact hE

theorem Ev.closedSwitch_works {t : Time} {l : LineId} {a : Bool} (hc : c = .closedLimitSwitch t l a)
    (hE : Works c s whole e0 e) : Works c s whole e0 (e.closedSwitch l a) := by
  unfold Ev.closedSwitch
  split
  · exact hE
  · have h1 := hE.work (.input l (fun v => { v with closedSwitch := a }) rfl rfl rfl rfl (.inl rfl)
      (.inr ⟨t, a, hc⟩) (.inl rfl) (.inl rfl))
    simp only
    split
    · exact Ev.closedActive_works l h1
    · exact h1

theorem Ev.openSwitch_works {t : Time} {l : LineId} {a : Bool} (hc : c = .openLimitSwitch t l a)
    (hE : Works c s whole e0 e) : Works c s whole e0 (e.openSwitch l a) := by
  unfold Ev.openSwitch
  split
  · exact hE
  · have h1 := hE.work (.input l (fun v => { v with openSwitch := a }) rfl rfl rfl rfl (.inl rfl)
      (.inl rfl) (.inr ⟨t, a, hc⟩) (.inl rfl))
    simp only
    split
    · exact Ev.openActive_works l h1
    · exact h1

/-! ### Meters, samples and timers -/

theorem Ev.gateCount_works (hc : ∃ t, c = .gateEnd t) (l : LineId) (hE : Works c s whole e0 e) :
    Works c s whole e0 (e.gateCount l) := hE.work (.meter l _ (.inl hc) (.inl hc) (.inr ⟨rfl, rfl⟩))

theorem Ev.gateCredit_works (l : LineId) (hE : Works c s whole e0 e) : Works c s whole e0 (e.gateCredit l) := by
  unfold Ev.gateCredit
  split
  · next k _ _ =>
    have h1 := Ev.modLine_works l (fun x =>
        { x with delivered := ((e.flow l).pulseTotal + (e.flow l).lastPulses) * 100 / k }) (fun _ => ⟨rfl, rfl, rfl⟩)
      (Ev.modFlow_works l (fun x => { x with pulseTotal := (e.flow l).pulseTotal + (e.flow l).lastPulses }) (fun _ => rfl)
        hE)
    simp only
    split
    · exact Ev.modLine_works l _ (fun _ => ⟨rfl, rfl, rfl⟩) h1
    · split
      · exact Ev.credit_works _ _ h1
      · exact h1
  · exact hE

theorem Ev.gateQuiet_works (l : LineId) (hE : Works c s whole e0 e) : Works c s whole e0 (e.gateQuiet l) := by
  unfold Ev.gateQuiet
  split
  · split
    · split
      · exact Ev.setQuiet_works l false (Ev.modFlow_works l _ (fun _ => rfl) hE)
      · exact Ev.modFlow_works l _ (fun _ => rfl) hE
    · exact Ev.modFlow_works l _ (fun _ => rfl) hE
  · exact hE

theorem Ev.gateBalance_works (l : LineId) (hE : Works c s whole e0 e) : Works c s whole e0 (e.gateBalance l) := by
  unfold Ev.gateBalance
  split
  · next b _ _ =>
    have h1 := Ev.modFlow_works l (fun f => { f with excess := some (e.balanceExcess l b.litres) }) (fun _ => rfl) hE
    simp only
    split
    · exact Ev.trip_works l _ h1
    · exact h1
  · exact hE

theorem Ev.gateBlind_works (l : LineId) (hE : Works c s whole e0 e) : Works c s whole e0 (e.gateBlind l) := by
  unfold Ev.gateBlind
  split
  · have h1 := Ev.modFlow_works l (fun f => { f with blindWindow := some (e.blindWindowOf l) }) (fun _ => rfl) hE
    simp only
    split
    · exact Ev.setQuiet_works l true (Ev.modFlow_works l _ (fun _ => rfl) (Ev.trip_works l _ h1))
    · exact h1
  · exact hE

theorem State.flowing_of_delivering {x : State} {l : LineId} (h : (x.line l).state.delivering = true) :
    x.flowing l = true := by
  unfold State.flowing
  revert h
  cases (x.line l).state <;> simp [LineState.delivering, LineState.flowing]

theorem Ev.capAct_works (l : LineId) (h : e.flowing l = true) (hE : Works c s whole e0 e) :
    Works c s whole e0 (e.capAct l) := by
  unfold Ev.capAct
  split
  · exact Ev.trip_works l _ hE
  · exact Ev.throttleTo_works l _ h hE

theorem Ev.gateCaps_works (l : LineId) (avg : Option Nat) (hE : Works c s whole e0 e) :
    Works c s whole e0 (e.gateCaps l avg) := by
  unfold Ev.gateCaps
  split
  · next hd =>
    have hflow : e.flowing l = true := State.flowing_of_delivering (Bool.and_eq_true_iff.mp hd).1
    have h1 := Ev.modFlow_works l (fun f => { f with
      rateCount := capCount (e.flow l).rateCount (some (e.flow l).rate) (e.rateLimit l),
      pressCount := capCount (e.flow l).pressCount avg (e.pressureLimit l) }) (fun _ => rfl) hE
    simp only
    split
    · exact Ev.capAct_works l hflow h1
    · exact h1
  · exact hE

theorem Ev.gateEnd_works (hc : ∃ t, c = .gateEnd t) (hE : Works c s whole e0 e) : Works c s whole e0 e.gateEnd :=
  Ev.eachLine_works _ (fun l _ hx => Ev.gateCaps_works l _ (Ev.gateBlind_works l (Ev.gateBalance_works l
    (Ev.gateQuiet_works l (Ev.gateCredit_works l (Ev.gateCount_works hc l hx)))))) hE

theorem Ev.setPressureFault_works {l : LineId} (hc : ∃ t x, c = .pressureSample t l x) (b : Bool)
    (hE : Works c s whole e0 e) : Works c s whole e0 (e.setPressureFault l b) :=
  Ev.markIf_works _ _ (hE.work (.meter l _ (.inr ⟨rfl, rfl, rfl⟩) (.inr (.inr rfl)) (.inl hc)))

theorem Ev.runDownSample_works (l : LineId) (hE : Works c s whole e0 e) : Works c s whole e0 (e.runDownSample l) := by
  unfold Ev.runDownSample
  split
  · exact Ev.endRunDown_works l _ hE
  · exact hE

theorem Ev.overWatch_works (l : LineId) (kPa : Nat) (hE : Works c s whole e0 e) :
    Works c s whole e0 (e.overWatch l kPa) := by
  unfold Ev.overWatch
  split
  · split
    · exact Ev.trip_works l _ (Ev.modFlow_works l _ (fun _ => rfl) hE)
    · exact Ev.modFlow_works l _ (fun _ => rfl) hE
  · exact Ev.modFlow_works l _ (fun _ => rfl) hE

theorem Ev.pressureSample_works {l : LineId} (hc : ∃ t x, c = .pressureSample t l x) (microamps : Nat)
    (hE : Works c s whole e0 e) : Works c s whole e0 (e.pressureSample l microamps) := by
  unfold Ev.pressureSample
  split
  · exact Ev.overWatch_works l _ (Ev.runDownSample_works l (Ev.setPressureFault_works hc false
      (hE.work (.meter l _ (.inr ⟨rfl, rfl, rfl⟩) (.inr (.inr rfl)) (.inl hc)))))
  · exact Ev.modFlow_works l _ (fun _ => rfl) (Ev.setPressureFault_works hc true hE)

theorem Ev.positionSample_works {l : LineId} (hc : ∃ t x, c = .positionSample t l x) (microamps : Nat)
    (hE : Works c s whole e0 e) : Works c s whole e0 (e.positionSample l microamps) := by
  unfold Ev.positionSample
  split
  · have h1 := Ev.setFeedbackFault_works l false (hE.work (.input l
      (fun x => { x with sample := some (scaled 1000 microamps) }) rfl rfl rfl rfl (.inl rfl) (.inl rfl) (.inl rfl)
      (.inr hc)))
    simp only
    split
    · exact Ev.takeSample_works l _ h1
    · exact h1
  · exact Ev.setFeedbackFault_works l true hE

theorem Ev.accumulatorSample_works (hc : ∃ t x, c = .accumulatorSample t x) (microamps : Nat)
    (hE : Works c s whole e0 e) : Works c s whole e0 (e.accumulatorSample microamps) := by
  unfold Ev.accumulatorSample
  split
  · exact Ev.bandEvent_works (hE.work (.accumulator _ false hc))
  · exact Ev.bandEvent_works (hE.work (.accumulator e.supply.pressure true hc))

theorem Ev.provingTimeout_works (l : LineId) (hE : Works c s whole e0 e) : Works c s whole e0 (e.provingTimeout l) := by
  unfold Ev.provingTimeout
  split
  · exact Ev.trip_works l _ hE
  · exact hE

theorem Ev.changeoverTimeout_works (l : LineId) (hE : Works c s whole e0 e) :
    Works c s whole e0 (e.changeoverTimeout l) := by
  unfold Ev.changeoverTimeout
  split
  · exact Ev.trip_works l _ hE
  · exact hE

theorem Ev.settleDeadline_works (l : LineId) (hE : Works c s whole e0 e) : Works c s whole e0 (e.settleDeadline l) := by
  unfold Ev.settleDeadline
  split
  · exact Ev.modPred_works l _ hE
  · exact hE

theorem Ev.runDownExpiry_works (l : LineId) (hE : Works c s whole e0 e) : Works c s whole e0 (e.runDownExpiry l) := by
  unfold Ev.runDownExpiry
  split
  · exact Ev.endRunDown_works l _ hE
  · exact hE

theorem Ev.dwellOver_works (l : LineId) (hE : Works c s whole e0 e) : Works c s whole e0 (e.dwellOver l) := by
  unfold Ev.dwellOver
  split
  · exact Ev.nextStage_works l (Ev.modClose_works l _ hE)
  · exact hE

/-! ### The ESD loop -/

theorem Ev.loopOpens_works (hc : ∃ t, c = .esdLoopOpen t) (hE : Works c s whole e0 e) :
    Works c s whole e0 e.loopOpens := by
  unfold Ev.loopOpens
  split
  · exact hE.work (.loop _ (.inl hc))
  · exact hE
  · exact hE

theorem Ev.loopCloses_works (hc : ∃ t, c = .esdLoopClosed t) (hE : Works c s whole e0 e) :
    Works c s whole e0 e.loopCloses := hE.work (.loop _ (.inr (.inl hc)))

theorem Ev.debounceExpires_works (hc : ∃ t, c = .loopDebounceExpiry t) (hE : Works c s whole e0 e) :
    Works c s whole e0 e.debounceExpires := by
  unfold Ev.debounceExpires
  split
  · exact hE
  · split
    · exact Ev.raiseCause_works .loop (hE.work (.loop _ (.inr (.inr hc))))
    · exact hE
  · exact hE

end Sys2Proof.Machine
end

section
/-! The work of the Ship Link Controller, of the console's requests and of the frames. -/

namespace Sys2Proof.Machine
variable {c : Instr} {s : State} {whole : Bool} {e0 e : Ev}

/-! ### The ship link -/

/-- A command that can change a tank's readings, or a grade, is told by the commands that can change the link. -/
theorem Instr.touchesLink_of_touchesReadings (h : c.touchesReadings = true) : c.touchesLink = true := by
  unfold Instr.touchesReadings at h
  split at h <;> simp_all

theorem Instr.touchesGrades_of_touchesLink (h : c.touchesLink = true) : c.touchesGrades = true := by
  unfold Instr.touchesGrades
  split <;> simp_all

theorem Ev.modLink_works (hc : c.touchesLink = true) (f : Link → Link) (hE : Works c s whole e0 e) :
    Works c s whole e0 (e.modLink f) := hE.work (.link f hc)

theorem Ev.modGrade_works (hc : c.touchesGrades = true) (g : GradeId) (f : Grade → Grade)
    (hf : ∀ x, (f x).barge = x.barge) (hE : Works c s whole e0 e) : Works c s whole e0 (e.modGrade g f) :=
  hE.work (.grade g f hc (.inl (hf _)))

theorem Ev.gradeWaiting_works (hc : c.touchesGrades = true) (g : GradeId) (hE : Works c s whole e0 e) :
    Works c s whole e0 (e.gradeWaiting g) := by
  unfold Ev.gradeWaiting
  split
  · exact hE
  · exact Ev.markIf_works _ _ (Ev.modGrade_works hc g _ (fun _ => rfl) hE)

theorem Ev.gradeOffering_works (hc : c.touchesGrades = true) (g : GradeId) (hE : Works c s whole e0 e) :
    Works c s whole e0 (e.gradeOffering g) := by
  unfold Ev.gradeOffering
  split
  · exact Ev.mark_works _ (Ev.modGrade_works hc g _ (fun _ => rfl) hE)
  · exact hE

theorem Ev.takeWord_works (hc : c.touchesGrades = true) (g : GradeId) (w : ShipWord) (hE : Works c s whole e0 e) :
    Works c s whole e0 (e.takeWord g w) := by
  unfold Ev.takeWord
  exact Ev.markIf_works _ _ (Ev.modGrade_works hc g _ (fun x => Grade.take_barge x w) hE)

theorem Ev.enterSilent_works (hc : c.touchesLink = true) (hE : Works c s whole e0 e) :
    Works c s whole e0 e.enterSilent := by
  have hg := Instr.touchesGrades_of_touchesLink hc
  unfold Ev.enterSilent
  exact Ev.mark_works _ (Ev.gradeWaiting_works hg _ (Ev.gradeWaiting_works hg _
    ((Ev.modLink_works hc _ hE).work (.shipRun 0 (by omega)))))

theorem Ev.lineLinkLost_works (l : LineId) (hE : Works c s whole e0 e) : Works c s whole e0 (e.lineLinkLost l) := by
  unfold Ev.lineLinkLost
  split
  · exact Ev.trip_works l _ hE
  · exact hE

theorem Ev.linkDown_works (hc : c.touchesLink = true) (hE : Works c s whole e0 e) : Works c s whole e0 e.linkDown := by
  have hg := Instr.touchesGrades_of_touchesLink hc
  unfold Ev.linkDown
  exact Ev.mark_works _ (Ev.gradeWaiting_works hg _ (Ev.gradeWaiting_works hg _
    (Ev.eachLine_works _ (fun l _ hx => Ev.lineLinkLost_works l hx)
      ((Ev.modLink_works hc _ hE).work (.shipRun 0 (by omega))))))

theorem Ev.panelMiss_works (hc : c.touchesLink = true) (hE : Works c s whole e0 e) : Works c s whole e0 e.panelMiss := by
  unfold Ev.panelMiss
  split
  · exact hE
  · split
    · exact Ev.modLink_works hc _ hE
    · exact Ev.linkDown_works hc hE

theorem Ev.silenceEnds_works (hc : c.touchesLink = true) (hE : Works c s whole e0 e) :
    Works c s whole e0 e.silenceEnds := by
  have hg := Instr.touchesGrades_of_touchesLink hc
  unfold Ev.silenceEnds
  exact Ev.mark_works _ (Ev.gradeOffering_works hg _ (Ev.gradeOffering_works hg _ (Ev.modLink_works hc _ hE)))

theorem Ev.holdLine_works (l : LineId) (why : HoldReason) (hE : Works c s whole e0 e) :
    Works c s whole e0 (e.holdLine l why) := by
  unfold Ev.holdLine
  split
  · exact Ev.closeEntry_works l _ _ _ hE
  · exact hE

theorem Ev.holdGrade_works (g : GradeId) (hE : Works c s whole e0 e) : Works c s whole e0 (e.holdGrade g) := by
  refine Ev.eachLine_works _ (fun l x hx => ?_) hE
  split
  · exact Ev.holdLine_works l _ hx
  · exact hx

/-- A walk over a list whose every step is work. -/
theorem Works.foldl {α : Type} (as : List α) (f : Ev → α → Ev)
    (hf : ∀ a x, Works c s whole e0 x → Works c s whole e0 (f x a)) (hE : Works c s whole e0 e) :
    Works c s whole e0 (as.foldl f e) := by
  induction as generalizing e with
  | nil => exact hE
  | cons a as ih => exact ih (hf a e hE)

theorem Ev.panelAct_works (gs : List GradeId) (a : PanelAct) (hE : Works c s whole e0 e) :
    Works c s whole e0 (e.panelAct gs a) := by
  cases a with
  | esd => exact Ev.raiseCause_works .ship hE
  | stop => exact Ev.eachLine_works _ (fun l _ hx => Ev.holdLine_works l _ hx) hE
  | terms => exact Works.foldl gs _ (fun g _ hx => Ev.holdGrade_works g hx) hE

theorem Ev.panelActsDo_works (acts : List PanelAct) (gs : List GradeId) (hE : Works c s whole e0 e) :
    Works c s whole e0 (e.panelActsDo acts gs) := by
  unfold Ev.panelActsDo
  split
  · exact Works.foldl acts _ (fun a _ hx => Ev.panelAct_works gs a hx) hE
  · exact Works.foldl _ _ (fun a _ hx => Ev.panelAct_works gs a hx)
      (hE.aside (e' := { e with freeCtr := e.freeCtr + 1 }) rfl rfl (List.Subset.refl _))

theorem nextShipRun_le {run : Nat} {up esd : Bool} : nextShipRun run up esd ≤ 3 := by
  unfold nextShipRun
  cases esd <;> cases up <;> simp

theorem Ev.panelReply_works (hc : c.touchesLink = true) (p : PanelReply) (hE : Works c s whole e0 e) :
    Works c s whole e0 (e.panelReply p) := by
  have hg := Instr.touchesGrades_of_touchesLink hc
  have h1 : Works c s whole e0 (if e.link.state = .down then e.enterSilent else e) := by
    split
    · exact Ev.enterSilent_works hc hE
    · exact hE
  unfold Ev.panelReply
  exact Ev.panelActsDo_works _ _ (Ev.takeWord_works hg _ _ (Ev.takeWord_works hg _ _
    ((Ev.markIf_works _ _ (Ev.modLink_works hc _ h1)).work (.shipRun _ nextShipRun_le))))

theorem Ev.makeSchedule_works (hc : c.touchesLink = true) (hE : Works c s whole e0 e) :
    Works c s whole e0 e.makeSchedule := by
  unfold Ev.makeSchedule
  exact Ev.modLink_works hc _ hE

/-- A change of what the ship link tells of a tank that leaves its miss count. -/
theorem Ev.gauge_works (hc : c.touchesReadings = true) (k : TankId) (f : Tank → Tank)
    (hf : ∀ x, (f x).missCount = x.missCount) (hE : Works c s whole e0 e) : Works c s whole e0 (e.modTank k f) :=
  hE.work (.gauge k f hc (.inl (hf _)))

theorem Ev.setHealth_works (hc : c.touchesReadings = true) (k : TankId) (h : Health) (r : Option RefusalReason)
    (hE : Works c s whole e0 e) : Works c s whole e0 (e.setHealth k h r) := by
  unfold Ev.setHealth
  exact Ev.markIf_works _ _ (Ev.gauge_works hc k _ (fun _ => rfl) hE)

theorem Ev.loseTank_works (hc : c.touchesReadings = true) (k : TankId) (hE : Works c s whole e0 e) :
    Works c s whole e0 (e.loseTank k) := by
  have h1 := Ev.setHealth_works hc k .lost none hE
  simp only [Ev.loseTank]
  split
  · exact Ev.tripHolder_works k _ h1
  · exact h1

theorem Ev.tankMiss_works (hc : c.touchesReadings = true) (k : TankId) (hE : Works c s whole e0 e) :
    Works c s whole e0 (e.tankMiss k) := by
  have h1 := hE.work (.gauge k (fun x =>
    { x with missCount := min ((e.tank k).missCount + 1) Config.lostMisses }) hc (.inr (Nat.min_le_right _ _)))
  simp only [Ev.tankMiss]
  split
  · exact Ev.setHealth_works hc k _ _ h1
  · split
    · exact Ev.loseTank_works hc k h1
    · exact h1

theorem Ev.thresholds_works (hc : c.touchesReadings = true) (k : TankId) (hE : Works c s whole e0 e) :
    Works c s whole e0 (e.thresholds k) := by
  simp only [Ev.thresholds]
  split
  · split
    · exact Ev.loseTank_works hc k hE
    · split
      · exact Ev.setHealth_works hc k _ _ hE
      · exact hE
  · exact hE

theorem Ev.closePoll_works (hc : c.touchesLink = true) (p : Poll) (o : SlotOutcome) (hE : Works c s whole e0 e) :
    Works c s whole e0 (e.closePoll p o) := by
  unfold Ev.closePoll Ev.setOutcome
  exact Ev.modLink_works hc _ (Ev.modLink_works hc _ hE)

/-- A poll is decided without a listed reply; a READ poll is decided by a command that can change readings. -/
theorem Ev.missPoll_works (hc : c.touchesLink = true) (p : Poll) (o : SlotOutcome)
    (hp : p.kind.isPanel = true ∨ c.touchesReadings = true) (hE : Works c s whole e0 e) :
    Works c s whole e0 (e.missPoll p o) := by
  have h1 := Ev.closePoll_works hc p o hE
  simp only [Ev.missPoll]
  split
  · exact Ev.panelMiss_works hc h1
  · next k hk =>
    refine Ev.tankMiss_works ?_ k h1
    simpa [hk, PollKind.isPanel] using hp
  · exact h1

theorem Ev.badFrame_works (hc : c.touchesReadings = true) (o : SlotOutcome) (hE : Works c s whole e0 e) :
    Works c s whole e0 (e.badFrame o) := by
  unfold Ev.badFrame
  split
  · exact Ev.missPoll_works (Instr.touchesLink_of_touchesReadings hc) _ o (.inr hc) hE
  · exact hE

theorem Ev.replyTimeout_works (hc : c.touchesLink = true) (panel : Bool)
    (hp : panel = true ∨ c.touchesReadings = true) (hE : Works c s whole e0 e) :
    Works c s whole e0 (e.replyTimeout panel) := by
  unfold Ev.replyTimeout
  split
  · split
    · next h => exact Ev.missPoll_works hc _ _ (h.1 ▸ hp) hE
    · exact hE
  · exact hE

theorem Ev.tankFrame_works (hc : c.touchesReadings = true) (k : TankId) (onRead onDeclare : Poll → Ev → Ev)
    (hread : ∀ p, Works c s whole e0 (onRead p e)) (hdeclare : ∀ p, Works c s whole e0 (onDeclare p e))
    (hE : Works c s whole e0 e) : Works c s whole e0 (e.tankFrame k onRead onDeclare) := by
  have miss : ∀ p, Works c s whole e0 (e.missPoll p .noReply) := fun p =>
    Ev.missPoll_works (Instr.touchesLink_of_touchesReadings hc) p _ (.inr hc) hE
  unfold Ev.tankFrame
  split
  · exact hE
  · split
    · exact miss _
    · split
      · exact hread _
      · exact miss _
    · split
      · exact hdeclare _
      · exact miss _

theorem Ev.panelFrame_works (hc : c.touchesReadings = true) (p : PanelReply) (hE : Works c s whole e0 e) :
    Works c s whole e0 (e.panelFrame p) := by
  have hl := Instr.touchesLink_of_touchesReadings hc
  unfold Ev.panelFrame
  split
  · exact hE
  · split
    · exact Ev.panelReply_works hl p (Ev.closePoll_works hl _ _ hE)
    · exact Ev.missPoll_works hl _ _ (.inr hc) hE

theorem Ev.storeDeclaration_works (hc : c.touchesReadings = true) (k : TankId) (d : Option Declaration)
    (hE : Works c s whole e0 e) : Works c s whole e0 (e.storeDeclaration k d) := by
  cases d with
  | none => exact Ev.setHealth_works hc k _ _ (Ev.gauge_works hc k (fun x => { x with decl := none }) (fun _ => rfl) hE)
  | some n =>
    have h1 := Ev.setHealth_works hc k .live none (hE.work (.gauge k (fun x =>
      { (x.initReadings e.now) with decl := some n }) hc (.inr (Nat.zero_le _))))
    simp only [Ev.storeDeclaration]
    split
    · split
      · exact Ev.modPred_works _ _ h1
      · exact h1
    · exact h1

theorem Ev.declared_works (hc : c.touchesReadings = true) (k : TankId) (d : WireDeclaration)
    (hE : Works c s whole e0 e) : Works c s whole e0 (e.declared k d) := by
  have h1 := Ev.storeDeclaration_works hc k (declarationOf k d) hE
  simp only [Ev.declared]
  split
  · exact Ev.tripHolder_works k _ h1
  · exact h1

theorem Ev.redeclared_works (hc : c.touchesReadings = true) (k : TankId) (d : WireDeclaration)
    (hE : Works c s whole e0 e) : Works c s whole e0 (e.redeclared k d) := by
  simp only [Ev.redeclared]
  split
  · exact hE.work (.gauge k _ hc (.inr (Nat.zero_le _)))
  · have h1 := Ev.storeDeclaration_works hc k (declarationOf k d) hE
    split
    · exact Ev.tripHolder_works k _ h1
    · exact h1

theorem Ev.declarationFrame_works (hc : c.touchesReadings = true) (k : TankId) (d : WireDeclaration)
    (hE : Works c s whole e0 e) : Works c s whole e0 (e.declarationFrame k d) := by
  have hl := Instr.touchesLink_of_touchesReadings hc
  unfold Ev.declarationFrame
  exact Ev.tankFrame_works hc k _ _ (fun p => Ev.redeclared_works hc k d (Ev.closePoll_works hl p _ hE))
    (fun p => Ev.declared_works hc k d (Ev.closePoll_works hl p _ hE)) hE

theorem Ev.refused_works (hc : c.touchesReadings = true) (k : TankId) (hE : Works c s whole e0 e) :
    Works c s whole e0 (e.refused k) := by
  have h1 := Ev.setHealth_works hc k .refused (some .refusedByUnit) hE
  simp only [Ev.refused]
  split
  · exact Ev.tripHolder_works k _ h1
  · exact h1

theorem Ev.changeoverTests_works (hc : c.touchesReadings = true) (l : LineId) (hE : Works c s whole e0 e) :
    Works c s whole e0 (e.changeoverTests l) := by
  have h1 := Ev.overrunTest_works l hE
  simp only [Ev.changeoverTests]
  split
  · next h => exact Ev.successTest_works hc l h h1
  · exact h1

theorem Ev.handOn_works (hc : c.touchesReadings = true) (k : TankId) (l : LineId) (level : Nat) (advance : Bool)
    (hE : Works c s whole e0 e) : Works c s whole e0 (e.handOn k l level advance) := by
  have flows : ∀ st, (e.line l).state = st → st.flowing = true → e.flowing l = true := by
    intro st h hf; rw [State.flowing, h, hf]
  unfold Ev.handOn
  split
  case h_1 =>
    have h1 := Ev.modFlow_works l (fun x => { x with watchActive := x.watchActive.map (fun w =>
      if (e.line l).state = .proving then w.take level e.now else w.raise level e.now) }) (fun _ => rfl) hE
    generalize hx : e.modFlow l (fun x => { x with watchActive := x.watchActive.map (fun w =>
      if (e.line l).state = .proving then w.take level e.now else w.raise level e.now) }) = x at h1
    have hxf : x.flowing l = e.flowing l := by subst hx; rfl
    have h2 : Works c s whole e0 (if advance = true then x.modPred l (fun y => y.advanced (e.tank k).pair) else x) := by
      split
      · exact Ev.modPred_works l _ h1
      · exact h1
    have h2f : State.flowing (if advance = true then x.modPred l (fun y => y.advanced (e.tank k).pair) else x).toState l =
        e.flowing l := by
      split
      · exact hxf
      · exact hxf
    simp only
    split
    · next h => exact Ev.provingTest_works hc l k level (h2f.trans (flows _ h rfl)) h2
    · next h => exact Ev.evaluateMarks_works hc l (h2f.trans (flows _ h rfl)) h2
    · exact Ev.changeoverTests_works hc l h2
    · exact Ev.closeStartTest_works l h2
    all_goals exact h2
  case h_2 =>
    have h1 := Ev.modFlow_works l (fun x =>
      { x with watchIncoming := x.watchIncoming.map (fun w => w.take level e.now) }) (fun _ => rfl) hE
    simp only
    split
    · exact Ev.changeoverTests_works hc l (Ev.modTank_works k _ (fun _ => rfl) h1)
    · exact h1
  all_goals exact hE

theorem Ev.highAlarmActs_works (k : TankId) (was : Bool) (hE : Works c s whole e0 e) :
    Works c s whole e0 (e.highAlarmActs k was) := by
  unfold Ev.highAlarmActs
  split
  · split
    · split
      · exact Ev.trip_works _ _ hE
      · exact hE
    · exact hE
  · exact hE

theorem Tank.takeNew_missCount (x : Tank) (toggle : Bool) (level : Nat) (t : Time) :
    (x.takeNew toggle level t).missCount = x.missCount := by
  simp only [Tank.takeNew]
  split <;> rfl

theorem Ev.takeReading_works (hc : c.touchesReadings = true) (p : Poll) (k : TankId)
    (toggle high overfull fault : Bool) (level : Nat) (hE : Works c s whole e0 e) :
    Works c s whole e0 (e.takeReading p k toggle high overfull fault level) := by
  have hl := Instr.touchesLink_of_touchesReadings hc
  have overfilled : ∀ x, Works c s whole e0 x → Works c s whole e0 (if overfull then x.raiseCause .overfill else x) := by
    intro x hx
    split
    · exact Ev.raiseCause_works _ hx
    · exact hx
  simp only [Ev.takeReading]
  split
  · exact overfilled _ (Ev.tankMiss_works hc k (Ev.closePoll_works hl p _ hE))
  · have h1 : Works c s whole e0 ((e.closePoll p (if (e.tank k).toggle != some toggle then .reply .reading
        else .repeated)).modTank k (fun y => { y with missCount := 0, highAlarm := high, overfill := overfull })) :=
      (Ev.closePoll_works hl p _ hE).work (.gauge k _ hc (.inr (Nat.zero_le _)))
    generalize (e.closePoll p (if (e.tank k).toggle != some toggle then .reply .reading
        else .repeated)).modTank k (fun y => { y with missCount := 0, highAlarm := high, overfill := overfull }) = x at h1
    have h2 : Works c s whole e0 (if (e.tank k).toggle != some toggle then
        (x.modTank k (fun y => y.takeNew toggle level e.now)).markIf
          ((e.tank k).health == .stale || ((e.tank k).advances level && (e.tank k).marksAt level != (e.tank k).marks))
          (.tank k)
        else x) := by
      split
      · exact Ev.markIf_works _ _ (Ev.gauge_works hc k _ (fun y => Tank.takeNew_missCount y toggle level e.now) h1)
      · exact h1
    generalize (if (e.tank k).toggle != some toggle then
        (x.modTank k (fun y => y.takeNew toggle level e.now)).markIf
          ((e.tank k).health == .stale || ((e.tank k).advances level && (e.tank k).marksAt level != (e.tank k).marks))
          (.tank k)
        else x) = y at h2
    have h3 : Works c s whole e0 (if high then y.highAlarmActs k (e.tank k).highAlarm else y) := by
      split
      · exact Ev.highAlarmActs_works k _ h2
      · exact h2
    have h4 := overfilled _ h3
    split
    · exact Ev.handOn_works hc k _ level _ h4
    · exact h4

theorem Ev.readingFrame_works (hc : c.touchesReadings = true) (k : TankId) (toggle : Nat) (flags : Byte) (level : Nat)
    (hE : Works c s whole e0 e) : Works c s whole e0 (e.readingFrame k toggle flags level) := by
  have hl := Instr.touchesLink_of_touchesReadings hc
  have miss : ∀ p o, Works c s whole e0 (e.missPoll p o) := fun p o => Ev.missPoll_works hl p o (.inr hc) hE
  unfold Ev.readingFrame
  refine Ev.tankFrame_works hc k _ _ (fun p => ?_) (fun p => ?_) hE
  · split
    · exact Ev.takeReading_works hc p k _ _ _ _ level hE
    · exact miss p _
  · split
    · split
      · exact Ev.raiseCause_works _ (Ev.closePoll_works hl p _ hE)
      · exact Ev.closePoll_works hl p _ hE
    · exact miss p _

theorem Ev.sendTankPoll_works (hc : c.touchesLink = true) (slot : Nat) (hE : Works c s whole e0 e) :
    Works c s whole e0 (e.sendTankPoll slot) := by
  unfold Ev.sendTankPoll
  split
  · exact hE
  · split
    · exact hE
    · split
      · exact hE
      · split
        · exact Ev.modLink_works hc _ hE
        · exact Ev.modLink_works hc _ hE
        · exact hE
        · exact hE

theorem Ev.markerLine_works (hc : c.touchesReadings = true) (l : LineId) (hE : Works c s whole e0 e) :
    Works c s whole e0 (e.markerLine l) := by
  unfold Ev.markerLine
  split
  · next h => exact Ev.evaluateMarks_works hc l (by rw [State.flowing, h]; rfl) hE
  · exact Ev.overrunTest_works l hE
  · exact Ev.closeStartTest_works l hE
  all_goals exact hE

theorem Ev.marker_works (hc : c.touchesReadings = true) (hE : Works c s whole e0 e) : Works c s whole e0 e.marker := by
  have hl := Instr.touchesLink_of_touchesReadings hc
  unfold Ev.marker
  exact Ev.eachLine_works _ (fun l _ hx => Ev.markerLine_works hc l hx) (Ev.makeSchedule_works hl
    (Ev.eachTank_works _ _ (fun k _ hx => Ev.thresholds_works hc k hx) (Ev.modLink_works hl _ hE)))

/-! ### The requests -/

@[simp] theorem Ev.answer_ev (e : Ev) (r : Result) : (e.answer r).ev = e := rfl

theorem Ev.onLine_works (n : Nat) (f : LineId → Taken) (hf : ∀ l, lineOf n = some l → Works c s whole e0 (f l).ev)
    (hE : Works c s whole e0 e) : Works c s whole e0 (e.onLine n f).ev := by
  unfold Ev.onLine
  split
  · next l hl => exact hf l hl
  · exact hE

theorem nominalRate_inRange {p : LineProfile} (hp : profileError p = none) :
    Config.minRate ≤ p.nominalRate ∧ p.nominalRate ≤ Config.maxRate :=
  inRange_of_profileError hp (r := (5, 500)) (by simp [profileRanges, profileFields])

theorem Ev.acceptProfile_works {l : LineId} (p : LineProfile)
    (hc : ∃ t tag n q, c = .lineProfile t tag n q ∧ lineOf n = some l) (hflow : e.flowing l = false)
    (hrate : Config.minRate ≤ p.nominalRate ∧ p.nominalRate ≤ Config.maxRate) (hE : Works c s whole e0 e) :
    Works c s whole e0 (e.acceptProfile l p) := by
  have h1 := hE.work (.profile l p hc hflow hrate)
  have h2 : Works c s whole e0 (if (e.line l).state = .complete then
      ((e.modValve l (fun v => v.profiled (e.line l).profile p)).modLine l
        (fun x => { x with profile := some p })).zeroAccount l
      else (e.modValve l (fun v => v.profiled (e.line l).profile p)).modLine l
        (fun x => { x with profile := some p })) := by
    split
    · exact Ev.zeroAccount_works l h1
    · exact h1
  simp only [Ev.acceptProfile]
  split
  · split
    · exact Ev.setState_works l _ rfl h2
    · exact h2
  · exact Ev.closeEntry_works l _ _ _ h2

theorem Ev.lineProfileOf_works {l : LineId} (p : LineProfile)
    (hc : ∃ t tag n q, c = .lineProfile t tag n q ∧ lineOf n = some l) (hE : Works c s whole e0 e) :
    Works c s whole e0 (e.lineProfileOf l p).ev := by
  simp only [Ev.lineProfileOf]
  split
  · exact hE
  · next hst =>
    split
    · exact hE
    · next hp =>
      split
      · split
        · exact hE
        · split
          · exact hE
          · refine Ev.acceptProfile_works (clampProfile p) hc ?_ (@nominalRate_inRange p hp) hE
            unfold State.flowing
            revert hst
            cases (e.line l).state <;> simp [LineState.flowing]
      · exact hE

theorem State.latch_of_startRefusal {x : State} {l : LineId} (h : x.startRefusal l = none) : x.latch = false := by
  unfold State.startRefusal at h
  split at h
  · cases h
  · next hl => simpa using hl

theorem Ev.zeroAccount_latch (e : Ev) (l : LineId) : (e.zeroAccount l).latch = e.latch := by
  obtain ⟨tk, d, h, -⟩ := Ev.zeroAccount_writes e l
  rw [h]; rfl

theorem Ev.startLine_works (l : LineId) (hE : Works c s whole e0 e) : Works c s whole e0 (e.startLine l).ev := by
  unfold Ev.startLine
  split
  · exact hE
  · split
    · exact hE
    · split
      · exact hE
      · next h =>
        rw [Ev.answer_ev]
        exact Ev.enterStarting_works l ((Ev.zeroAccount_latch e l).trans (State.latch_of_startRefusal h))
          (Ev.zeroAccount_works l hE)

theorem Ev.dropDoneFront_works (l : LineId) (hE : Works c s whole e0 e) : Works c s whole e0 (e.dropDoneFront l) := by
  unfold Ev.dropDoneFront
  split
  · next k ks h =>
    split
    · exact hE.work (.shorten l ks (by rw [h]; exact List.sublist_cons_self k ks))
    · exact hE
  · exact hE

theorem Ev.resumeLine_works (l : LineId) (hE : Works c s whole e0 e) : Works c s whole e0 (e.resumeLine l).ev := by
  have h1 := Ev.dropDoneFront_works l hE
  simp only [Ev.resumeLine]
  split
  · exact hE
  · split
    · exact h1
    · split
      · exact h1
      · next h =>
        rw [Ev.answer_ev]
        exact Ev.enterStarting_works l (State.latch_of_startRefusal h) h1

theorem Ev.holdRequest_works (l : LineId) (hE : Works c s whole e0 e) : Works c s whole e0 (e.holdRequest l).ev := by
  unfold Ev.holdRequest
  split
  · rw [Ev.answer_ev]
    exact Ev.closeEntry_works l _ _ _ hE
  · exact hE

theorem Ev.completeHeld_works (l : LineId) (hE : Works c s whole e0 e) : Works c s whole e0 (e.completeHeld l) := by
  unfold Ev.completeHeld
  exact Ev.setState_works l _ rfl (Ev.modLine_works l _ (fun _ => ⟨rfl, rfl, rfl⟩) (Ev.settleComplete_works l hE))

theorem Ev.stopRequest_works (l : LineId) (hE : Works c s whole e0 e) : Works c s whole e0 (e.stopRequest l).ev := by
  unfold Ev.stopRequest
  split
  · rw [Ev.answer_ev]
    exact Ev.closeEntry_works l _ _ _ hE
  · split
    · exact Ev.completeHeld_works l hE
    · exact hE

theorem Ev.clearTripRequest_works (l : LineId) (hE : Works c s whole e0 e) :
    Works c s whole e0 (e.clearTripRequest l).ev := by
  unfold Ev.clearTripRequest
  split
  · exact hE
  · split
    · exact hE
    · split
      · exact hE
      · exact Ev.setState_works l _ rfl (Ev.zeroAccount_works l (Ev.settleCleared_works l hE))

theorem hasDuplicate_eq_false_iff {ks : List TankId} : hasDuplicate ks = false ↔ ks.Nodup := by
  induction ks with
  | nil => simp [hasDuplicate]
  | cons k ks ih => simp [hasDuplicate, ih]

theorem State.inOtherLine_eq_false_iff {x : State} {l : LineId} {k : TankId} :
    x.inOtherLine l k = false ↔ ∀ m, m ≠ l → k ∉ x.list m ∧ k ∉ (x.line m).fedSet := by
  simp [State.inOtherLine, mem_allLines]

/-- The tests 5 and 8 of R39 once more: an order without refusal holds no tank twice, and none of another line. -/
theorem State.apart_of_orderRefusal {x : State} {l : LineId} {ks : List TankId} (h : x.orderRefusal l ks = none) :
    ks.Nodup ∧ ∀ m, m ≠ l → ∀ k ∈ ks, k ∉ x.list m := by
  unfold State.orderRefusal at h
  split at h
  · cases h
  · next hdup =>
    split at h
    · cases h
    · split at h
      · cases h
      · split at h
        · cases h
        · next hany =>
          refine ⟨hasDuplicate_eq_false_iff.mp (by simpa using hdup), fun m hm k hk => ?_⟩
          have := hany
          simp only [List.any_eq_true, not_exists, not_and, Bool.not_eq_true] at this
          exact (State.inOtherLine_eq_false_iff.mp (this k hk) m hm).1

theorem Ev.zeroAccount_lists (e : Ev) (l : LineId) : (e.zeroAccount l).lists = e.lists := by
  obtain ⟨tk, d, h, -⟩ := Ev.zeroAccount_writes e l
  rw [h]

theorem Ev.acceptOrder_works (l : LineId) (ks : List TankId) (hnd : ks.Nodup)
    (hapart : ∀ m, m ≠ l → ∀ k ∈ ks, k ∉ e.list m) (hE : Works c s whole e0 e) :
    Works c s whole e0 (e.acceptOrder l ks) := by
  have h1 : Works c s whole e0 (e.eachTank (e.list l) (fun k x =>
      if ks.contains k ∨ (x.tank k).use = .done then x else x.setUse k .free)) := by
    refine Ev.eachTank_works _ _ (fun k x hx => ?_) hE
    split
    · exact hx
    · exact Ev.setUse_works k _ hx
  have hlists : ((e.eachTank (e.list l) (fun k x =>
      if ks.contains k ∨ (x.tank k).use = .done then x else x.setUse k .free)).zeroAccount l).lists = e.lists := by
    rw [Ev.zeroAccount_lists]
    refine Ev.eachTank_lists _ _ (fun k x => ?_) e
    split
    · rfl
    · exact Ev.setUse_lists x k _
  have h2 := (Ev.zeroAccount_works l h1).work (.order l ks hnd fun m hm k hk => by
    rw [State.list, hlists]; exact hapart m hm k hk)
  have h3 := Ev.eachTank_works ks (fun k x => (x.setUse k .queued).modTank k (fun y => { y with attributed := 0 }))
    (fun k x hx => Ev.modTank_works k _ (fun _ => rfl) (Ev.setUse_works k _ hx)) h2
  simp only [Ev.acceptOrder]
  split
  · exact Ev.setState_works l _ rfl h3
  · exact h3

theorem Ev.fillOrderOf_works (l : LineId) (o : OrderOperands) (hE : Works c s whole e0 e) :
    Works c s whole e0 (e.fillOrderOf l o).ev := by
  simp only [Ev.fillOrderOf]
  split
  · exact hE
  · split
    · exact hE
    · split
      · exact hE
      · split
        · exact hE
        · next h =>
          obtain ⟨hnd, hapart⟩ := State.apart_of_orderRefusal h
          exact Ev.acceptOrder_works l _ hnd hapart hE

theorem Ev.gradeRequest_works {t : Time} {tag : Byte} {n : Nat} {o : GradeOperands} (hc : c = .gradeProfile t tag n o)
    (hE : Works c s whole e0 e) : Works c s whole e0 (e.gradeRequest n o).ev := by
  unfold Ev.gradeRequest
  split
  · exact hE
  · next g hg =>
    split
    · exact hE
    · split
      · exact hE
      · exact Ev.mark_works _ (hE.work (.grade g _ (by rw [hc]; rfl) (.inr ⟨t, tag, n, o, hc, hg⟩)))

theorem Ev.acceptManual_works (hc : c.touchesGrades = true) (g : GradeId) (m : ManualOperands)
    (hE : Works c s whole e0 e) : Works c s whole e0 (e.acceptManual g m) := by
  unfold Ev.acceptManual
  exact Ev.mark_works _ (Ev.modGrade_works hc g _ (fun _ => rfl) hE)

theorem Ev.manualRequest_works (hc : c.touchesGrades = true) (n : Nat) (m : ManualOperands)
    (hE : Works c s whole e0 e) : Works c s whole e0 (e.manualRequest n m).ev := by
  unfold Ev.manualRequest
  split
  · exact hE
  · next g hg =>
    have tested : Works c s whole e0 (if (match e.link.panel with
          | some p => p.termsCapable
          | none => true) then e.answer (.refused .panelCapable)
        else if e.gradeActive g then e.answer (.refused .linesActive) else (e.acceptManual g m).answer .ok).ev := by
      generalize (match e.link.panel with
          | some p => p.termsCapable
          | none => true) = capable
      split
      · exact hE
      · split
        · exact hE
        · exact Ev.acceptManual_works hc g m hE
    split
    · exact hE
    · split
      · exact hE
      · split
        · exact hE
        · exact tested

theorem Ev.hpuRequest_works (hc : ∃ t tag g, c = .hpuProfile t tag g) (h : HpuProfile) (hE : Works c s whole e0 e) :
    Works c s whole e0 (e.hpuRequest h).ev := by
  unfold Ev.hpuRequest
  split
  · exact hE
  · split
    · exact hE
    · exact Ev.bandEvent_works (hE.work (.hpu h hc))

theorem Ev.esdResetRequest_works (hc : ∃ t tag, c = .esdReset t tag) (hE : Works c s whole e0 e) :
    Works c s whole e0 e.esdResetRequest.ev := by
  unfold Ev.esdResetRequest
  split
  · exact hE
  · split
    · exact hE
    · split
      · exact hE.work (.reset hc)
      · exact hE

theorem Ev.renegotiateRequest_works (hc : c.touchesLink = true) (hE : Works c s whole e0 e) :
    Works c s whole e0 e.renegotiateRequest.ev := by
  unfold Ev.renegotiateRequest
  split
  · exact hE
  · split
    · exact hE
    · exact Ev.enterSilent_works hc hE

theorem Ev.restartRequest_works (hE : Works c s whole e0 e) : Works c s whole e0 e.restartRequest.ev := by
  unfold Ev.restartRequest
  split
  · exact hE
  · exact hE.aside rfl rfl (List.Subset.refl _)

theorem Ev.restartLine_works (l : LineId) (hE : Works c s whole e0 e) : Works c s whole e0 (e.restartLine l) := by
  have h1 := Ev.setLate_works l false (Ev.setSurge_works l false ((Ev.zeroAccount_works l hE).work
    (.shorten l [] (List.nil_sublist _))))
  have h2 := Ev.modFlow_works l (fun f => { f with
      watchActive := none, watchIncoming := none, overCount := 0, rateCount := 0, pressCount := 0 }) (fun _ => rfl)
    (Ev.modLine_works l (fun x => { x with
      holdReason := none, closeReason := none, tankEnd := none, baseline := none, provingStart := none,
      changeoverStart := none, throttle := 0 }) (fun _ => ⟨rfl, rfl, rfl⟩) h1)
  have h3 := ((Ev.setClose_works l none (Ev.modPred_works l (fun _ => Predictor.init) h2)).work (.unqueue l)).work
    (.unfollow l)
  rw [Ev.modValve_modValve] at h3
  simp only [Ev.restartLine]
  split
  · exact Ev.setState_works l _ rfl h3
  · exact h3

theorem Ev.restartTank_works (hc : c.touchesReadings = true) (k : TankId) (hE : Works c s whole e0 e) :
    Works c s whole e0 (e.restartTank k) := by
  unfold Ev.restartTank
  exact Ev.markIf_works _ _ (hE.work (.gauge k _ hc (.inr (Nat.zero_le _))))

theorem Ev.restartEffect_works (hc : ∃ t, c = .restartEffect t) (hE : Works c s whole e0 e) :
    Works c s whole e0 e.restartEffect := by
  have hr : c.touchesReadings = true := by obtain ⟨t, rfl⟩ := hc; rfl
  have hl := Instr.touchesLink_of_touchesReadings hr
  have hg := Instr.touchesGrades_of_touchesLink hl
  have h1 := Ev.eachTank_works allTanks _ (fun k _ hx => Ev.restartTank_works hr k hx)
    (Ev.eachLine_works _ (fun l _ hx => Ev.restartLine_works l hx) (hE.work (.emptyQueue hc)))
  unfold Ev.restartEffect Ev.restartLink Ev.restartGrade
  exact Ev.markIf_works _ _ (Ev.modGrade_works hg _ _ (fun _ => rfl) (Ev.modGrade_works hg _ _ (fun _ => rfl)
    (Ev.modLink_works hl _ (Ev.enterSilent_works hl h1))))

/-! ### The Console Port -/

theorem Ev.setBuf_works (b : BufId) (x : Buffer) (hE : Works c s whole e0 e) : Works c s whole e0 (e.setBuf b x) := by
  cases b
  · exact hE.aside rfl rfl (List.Subset.refl _)
  · exact hE.aside rfl rfl (List.Subset.refl _)

theorem Ev.receive_works (tag : Byte) (f : Received) (hE : Works c s whole e0 e) :
    Works c s whole e0 (e.receive tag f) := by
  unfold Ev.receive
  split
  · exact (Ev.setBuf_works _ _ hE).aside rfl rfl (List.Subset.refl _)
  · exact hE.aside rfl rfl (List.Subset.refl _)

theorem Ev.take_works (b : BufId) (tag : Byte) (act : Ev → Taken)
    (hact : ∀ w, Works c s whole e0 (act { e with waitOrder := w }).ev) :
    Works c s whole e0 (e.take b tag act) := by
  unfold Ev.take
  exact (Ev.setBuf_works b _ (hact _)).aside rfl rfl (List.Subset.refl _)

theorem Ev.answerUnread_works (n : Nat) (hE : Works c s whole e0 e) : Works c s whole e0 (Ev.answerUnread n e) := by
  obtain ⟨x1, x2, w, ro, h, -⟩ := Ev.answerUnread_spec n e
  rw [h]
  exact hE.aside rfl rfl (List.Subset.refl _)

/-- A request's row: the work is that of the request's action. -/
theorem Ev.serve_works (tag : Byte) (r : Request) (act : Ev → Taken)
    (hact : ∀ x, Works c s whole e0 x → Works c s whole e0 (act x).ev) (hE : Works c s whole e0 e) :
    Works c s whole e0 (e.serve tag r act) := by
  have taken : ∀ (x : Ev) (b : BufId), Works c s whole e0 x → Works c s whole e0 ((x.take b tag act).answerUnread 2) :=
    fun x b hx => Ev.answerUnread_works 2 (Ev.take_works b tag act fun w =>
      hact _ (hx.aside (e' := { x with waitOrder := w }) rfl rfl (List.Subset.refl _)))
  unfold Ev.serve
  split
  · exact taken _ _ hE
  · simp only
    split
    · exact taken _ _ (Ev.receive_works tag _ hE)
    · exact Ev.receive_works tag _ hE

theorem Ev.consoleFrame_works (kind tag : Byte) (payload : List Byte) (hE : Works c s whole e0 e) :
    Works c s whole e0 (e.consoleFrame kind tag payload) :=
  Ev.answerUnread_works 2 (Ev.receive_works tag _
    (hE.aside (e' := { e with rx := .hunt }) rfl rfl (List.Subset.refl _)))

theorem Ev.endFrame_works (hE : Works c s whole e0 e) : Works c s whole e0 e.endFrame := by
  unfold Ev.endFrame
  split
  · exact hE
  · exact hE.aside rfl rfl (List.Subset.refl _)
  · next src r _ =>
    cases src with
    | buffer b => exact (Ev.setBuf_works b .empty hE).aside rfl rfl (List.Subset.refl _)
    | overrun => exact hE.aside rfl rfl (List.Subset.refl _)

end Sys2Proof.Machine
end

section
/-! Every command is made of pieces of work, so what each piece keeps every command keeps. -/

namespace Sys2Proof.Machine
variable {c : Instr} {s u : State} {whole : Bool} {e0 e e' : Ev}

/-! ### Every command -/

/-- Every command but POWER_ON is one event, whose work is made of the pieces. -/
theorem exec_event_works (c : Instr) (s : State) (whole : Bool) (hp : ∀ i, c ≠ .powerOn i) :
    ∃ t op, exec c s = event t s op ∧ Works c s whole (begin t s) (op (begin t s)) := by
  have h0 : ∀ t, Works c s whole (begin t s) (begin t s) := fun t => Works.refl _
  have hunt : ∀ t, c.touchesLink = true → Works c s whole (begin t s) (begin t s).shipHunt := fun t hc =>
    Ev.modLink_works hc _ (h0 t)
  cases c with
  | powerOn i => exact absurd rfl (hp i)
  | consoleFrameReceived t kind tag payload =>
    unfold exec execConsoleFrameReceived
    exact ⟨t, _, rfl, Ev.consoleFrame_works kind tag payload (h0 t)⟩
  | consoleGapTimeout t =>
    unfold exec execConsoleGapTimeout
    exact ⟨t, _, rfl, (h0 t).aside rfl rfl (List.Subset.refl _)⟩
  | consoleFramingError t =>
    unfold exec execConsoleFramingError
    exact ⟨t, _, rfl, (h0 t).aside rfl rfl (List.Subset.refl _)⟩
  | transmitFrameEnd t =>
    unfold exec execTransmitFrameEnd
    exact ⟨t, _, rfl, Ev.endFrame_works (h0 t)⟩
  | lineProfile t tag line p =>
    unfold exec execLineProfile
    exact ⟨t, _, rfl, Ev.serve_works _ _ _ (fun x hx => Ev.onLine_works line _ (fun l hl =>
      Ev.lineProfileOf_works p ⟨t, tag, line, p, rfl, hl⟩ hx) hx) (h0 t)⟩
  | gradeProfile t tag n o =>
    unfold exec execGradeProfile
    exact ⟨t, _, rfl, Ev.serve_works _ _ _ (fun x hx => Ev.gradeRequest_works rfl hx) (h0 t)⟩
  | hpuProfile t tag h =>
    unfold exec execHpuProfile
    exact ⟨t, _, rfl, Ev.serve_works _ _ _ (fun x hx => Ev.hpuRequest_works ⟨t, tag, h, rfl⟩ h hx) (h0 t)⟩
  | fillOrder t tag line o =>
    unfold exec execFillOrder
    exact ⟨t, _, rfl, Ev.serve_works _ _ _ (fun x hx => Ev.onLine_works line _ (fun l _ =>
      Ev.fillOrderOf_works l o hx) hx) (h0 t)⟩
  | start t tag line =>
    unfold exec execStart
    exact ⟨t, _, rfl, Ev.serve_works _ _ _ (fun x hx => Ev.onLine_works line _ (fun l _ =>
      Ev.startLine_works l hx) hx) (h0 t)⟩
  | hold t tag line =>
    unfold exec execHold
    exact ⟨t, _, rfl, Ev.serve_works _ _ _ (fun x hx => Ev.onLine_works line _ (fun l _ =>
      Ev.holdRequest_works l hx) hx) (h0 t)⟩
  | resume t tag line =>
    unfold exec execResume
    exact ⟨t, _, rfl, Ev.serve_works _ _ _ (fun x hx => Ev.onLine_works line _ (fun l _ =>
      Ev.resumeLine_works l hx) hx) (h0 t)⟩
  | stop t tag line =>
    unfold exec execStop
    exact ⟨t, _, rfl, Ev.serve_works _ _ _ (fun x hx => Ev.onLine_works line _ (fun l _ =>
      Ev.stopRequest_works l hx) hx) (h0 t)⟩
  | clearTrip t tag line =>
    unfold exec execClearTrip
    exact ⟨t, _, rfl, Ev.serve_works _ _ _ (fun x hx => Ev.onLine_works line _ (fun l _ =>
      Ev.clearTripRequest_works l hx) hx) (h0 t)⟩
  | esdStop t tag =>
    unfold exec execEsdStop
    exact ⟨t, _, rfl, Ev.serve_works _ _ _ (fun x hx => Ev.raiseCause_works .console hx) (h0 t)⟩
  | esdReset t tag =>
    unfold exec execEsdReset
    exact ⟨t, _, rfl, Ev.serve_works _ _ _ (fun x hx => Ev.esdResetRequest_works ⟨t, tag, rfl⟩ hx) (h0 t)⟩
  | renegotiate t tag =>
    unfold exec execRenegotiate
    exact ⟨t, _, rfl, Ev.serve_works _ _ _ (fun x hx => Ev.renegotiateRequest_works rfl hx) (h0 t)⟩
  | manualTerms t tag n m =>
    unfold exec execManualTerms
    exact ⟨t, _, rfl, Ev.serve_works _ _ _ (fun x hx => Ev.manualRequest_works rfl n m hx) (h0 t)⟩
  | restart t tag =>
    unfold exec execRestart
    exact ⟨t, _, rfl, Ev.serve_works _ _ _ (fun x hx => Ev.restartRequest_works hx) (h0 t)⟩
  | restartEffect t =>
    unfold exec execRestartEffect
    refine ⟨t, _, rfl, ?_⟩
    split
    · exact Ev.restartEffect_works ⟨t, rfl⟩ (h0 t)
    · exact h0 t
  | readLine t tag line =>
    unfold exec execReadLine
    exact ⟨t, _, rfl, Ev.serve_works _ _ _ (fun x hx => Ev.onLine_works line _ (fun _ _ => hx) hx) (h0 t)⟩
  | readTrip t tag line =>
    unfold exec execReadTrip
    exact ⟨t, _, rfl, Ev.serve_works _ _ _ (fun x hx => Ev.onLine_works line _ (fun _ _ => hx) hx) (h0 t)⟩
  | readTank t tag tank =>
    unfold exec execReadTank
    refine ⟨t, _, rfl, Ev.serve_works _ _ _ (fun x hx => ?_) (h0 t)⟩
    split
    · exact hx
    · exact hx
  | readLink t tag =>
    unfold exec execReadLink
    exact ⟨t, _, rfl, Ev.serve_works _ _ _ (fun x hx => hx) (h0 t)⟩
  | readHpu t tag =>
    unfold exec execReadHpu
    exact ⟨t, _, rfl, Ev.serve_works _ _ _ (fun x hx => hx) (h0 t)⟩
  | readEsd t tag =>
    unfold exec execReadEsd
    exact ⟨t, _, rfl, Ev.serve_works _ _ _ (fun x hx => hx) (h0 t)⟩
  | marker t =>
    unfold exec execMarker
    exact ⟨t, _, rfl, Ev.marker_works rfl (h0 t)⟩
  | panelSlotStart t =>
    unfold exec execPanelSlotStart
    exact ⟨t, _, rfl, Ev.modLink_works rfl _ (h0 t)⟩
  | tankSlotStart t slot =>
    unfold exec execTankSlotStart
    exact ⟨t, _, rfl, Ev.sendTankPoll_works rfl slot (h0 t)⟩
  | panelReply t flags w1 w2 =>
    unfold exec execPanelReply frameEvent
    exact ⟨t, _, rfl, Ev.panelFrame_works rfl _ (hunt t rfl)⟩
  | panelReplyTimeout t =>
    unfold exec execPanelReplyTimeout
    exact ⟨t, _, rfl, Ev.replyTimeout_works rfl true (.inl rfl) (h0 t)⟩
  | reading t tank toggle flags level =>
    unfold exec execReading frameEvent
    exact ⟨t, _, rfl, Ev.readingFrame_works rfl tank toggle flags level (hunt t rfl)⟩
  | declaration t tank dec =>
    unfold exec execDeclaration frameEvent
    exact ⟨t, _, rfl, Ev.declarationFrame_works rfl tank dec (hunt t rfl)⟩
  | declarationOnRead t tank dec =>
    unfold exec execDeclarationOnRead frameEvent
    exact ⟨t, _, rfl, Ev.declarationFrame_works rfl tank dec (hunt t rfl)⟩
  | wait t tank =>
    unfold exec execWait frameEvent
    exact ⟨t, _, rfl, Ev.tankFrame_works rfl tank _ _ (fun p => Ev.closePoll_works rfl p _ (hunt t rfl))
      (fun p => Ev.closePoll_works rfl p _ (hunt t rfl)) (hunt t rfl)⟩
  | refuse t tank =>
    unfold exec execRefuse frameEvent
    exact ⟨t, _, rfl, Ev.tankFrame_works rfl tank _ _
      (fun p => Ev.refused_works rfl tank (Ev.closePoll_works rfl p _ (hunt t rfl)))
      (fun p => Ev.refused_works rfl tank (Ev.closePoll_works rfl p _ (hunt t rfl))) (hunt t rfl)⟩
  | shipBadCheck t =>
    unfold exec execShipBadCheck frameEvent
    exact ⟨t, _, rfl, Ev.badFrame_works rfl _ (hunt t rfl)⟩
  | shipReplyUnlisted t =>
    unfold exec execShipReplyUnlisted frameEvent
    exact ⟨t, _, rfl, Ev.badFrame_works rfl _ (hunt t rfl)⟩
  | shipFrameError t =>
    unfold exec execShipFrameError
    exact ⟨t, _, rfl, hunt t rfl⟩
  | tankReplyTimeout t =>
    unfold exec execTankReplyTimeout
    exact ⟨t, _, rfl, Ev.replyTimeout_works rfl false (.inr rfl) (h0 t)⟩
  | silenceExpiry t =>
    unfold exec execSilenceExpiry
    refine ⟨t, _, rfl, ?_⟩
    split
    · exact Ev.silenceEnds_works rfl (h0 t)
    · exact h0 t
  | provingTimeout t l =>
    unfold exec execProvingTimeout
    exact ⟨t, _, rfl, Ev.provingTimeout_works l (h0 t)⟩
  | changeoverTimeout t l =>
    unfold exec execChangeoverTimeout
    exact ⟨t, _, rfl, Ev.changeoverTimeout_works l (h0 t)⟩
  | settleDeadline t l =>
    unfold exec execSettleDeadline
    exact ⟨t, _, rfl, Ev.settleDeadline_works l (h0 t)⟩
  | runDownExpiry t l =>
    unfold exec execRunDownExpiry
    exact ⟨t, _, rfl, Ev.runDownExpiry_works l (h0 t)⟩
  | dwellEnd t l =>
    unfold exec execDwellEnd
    exact ⟨t, _, rfl, Ev.dwellOver_works l (h0 t)⟩
  | gateEnd t =>
    unfold exec execGateEnd
    exact ⟨t, _, rfl, Ev.gateEnd_works ⟨t, rfl⟩ (h0 t)⟩
  | meterPulse t l =>
    unfold exec execMeterPulse
    exact ⟨t, _, rfl, (h0 t).work (.meter l _ (.inr ⟨rfl, rfl, rfl⟩) (.inr (.inl ⟨t, rfl⟩)) (.inr ⟨rfl, rfl⟩))⟩
  | pressureSample t l x =>
    unfold exec execPressureSample
    exact ⟨t, _, rfl, Ev.pressureSample_works ⟨t, x, rfl⟩ x (h0 t)⟩
  | positionSample t l x =>
    unfold exec execPositionSample
    exact ⟨t, _, rfl, Ev.positionSample_works ⟨t, x, rfl⟩ x (h0 t)⟩
  | turnaroundEnd t l =>
    unfold exec execTurnaroundEnd
    exact ⟨t, _, rfl, Ev.turnaroundEnd_works l (h0 t)⟩
  | setupEnd t l =>
    unfold exec execSetupEnd
    exact ⟨t, _, rfl, Ev.setupEnd_works l rfl rfl rfl (h0 t)⟩
  | blankingEnd t l =>
    unfold exec execBlankingEnd
    exact ⟨t, _, rfl, Ev.blankingEnd_works l (h0 t)⟩
  | simulatedArrival t l =>
    unfold exec execSimulatedArrival
    exact ⟨t, _, rfl, Ev.simulatedArrival_works l (h0 t)⟩
  | travelTimeout t l =>
    unfold exec execTravelTimeout
    exact ⟨t, _, rfl, Ev.travelTimeout_works l (h0 t)⟩
  | extensionExhausted t l =>
    unfold exec execExtensionExhausted
    exact ⟨t, _, rfl, Ev.extensionExhausted_works l (h0 t)⟩
  | holdEnd t l =>
    unfold exec execHoldEnd
    exact ⟨t, _, rfl, Ev.holdEnd_works l rfl rfl rfl (h0 t)⟩
  | closedLimitSwitch t l a =>
    unfold exec execClosedLimitSwitch
    exact ⟨t, _, rfl, Ev.closedSwitch_works rfl (h0 t)⟩
  | openLimitSwitch t l a =>
    unfold exec execOpenLimitSwitch
    exact ⟨t, _, rfl, Ev.openSwitch_works rfl (h0 t)⟩
  | accumulatorSample t x =>
    unfold exec execAccumulatorSample
    exact ⟨t, _, rfl, Ev.accumulatorSample_works ⟨t, x, rfl⟩ x (h0 t)⟩
  | esdLoopOpen t =>
    unfold exec execEsdLoopOpen
    exact ⟨t, _, rfl, Ev.loopOpens_works ⟨t, rfl⟩ (h0 t)⟩
  | esdLoopClosed t =>
    unfold exec execEsdLoopClosed
    exact ⟨t, _, rfl, Ev.loopCloses_works ⟨t, rfl⟩ (h0 t)⟩
  | loopDebounceExpiry t =>
    unfold exec execLoopDebounceExpiry
    exact ⟨t, _, rfl, Ev.debounceExpires_works ⟨t, rfl⟩ (h0 t)⟩
  | consoleLengthMismatch t =>
    unfold exec execConsoleLengthMismatch
    exact ⟨t, _, rfl, (h0 t).aside rfl rfl (List.Subset.refl _)⟩
  | consoleBadCheck t =>
    unfold exec execConsoleBadCheck
    exact ⟨t, _, rfl, (h0 t).aside rfl rfl (List.Subset.refl _)⟩
  | shipFrameOtherAddress t =>
    unfold exec execShipFrameOtherAddress frameEvent
    exact ⟨t, _, rfl, Ev.badFrame_works rfl _ (hunt t rfl)⟩

/-- What a command leaves, POWER_ON apart: its event's work whole, then the notices queued and the transmitter served. -/
theorem exec_works (whole : Bool) (hp : ∀ i, c ≠ .powerOn i) (h : exec c s = .next u) :
    ∃ t e, Works c s whole (begin t s) e ∧ u = e.queueNotices.arbitrate := by
  obtain ⟨t, op, hc, hw⟩ := exec_event_works c s whole hp
  rw [hc] at h
  cases h
  exact ⟨t, _, Ev.drain_works hw, rfl⟩

/-- A property of states that POWER_ON gives, that every piece of work keeps, and that neither the beginning of an event nor its
notices and its transmission touch, is kept by every command. -/
theorem exec_keeps {P : State → Prop} (whole : Bool) (hon : ∀ i, c = .powerOn i → ∀ v, exec c s = .next v → P v)
    (hbegin : ∀ t, P s → P (begin t s).toState)
    (hwork : ∀ x y : Ev, P x.toState → Work c s whole x y → P y.toState)
    (hend : ∀ x : Ev, P x.toState → P x.queueNotices.arbitrate) (h : exec c s = .next u) (hs : P s) : P u := by
  by_cases hp : ∃ i, c = .powerOn i
  · obtain ⟨i, hi⟩ := hp
    exact hon i hi u h
  · obtain ⟨t, e, hw, rfl⟩ := exec_works whole (fun i hi => hp ⟨i, hi⟩) h
    exact hend e (hw.keeps (P := fun x => P x.toState) (fun x y hx hxy => hwork x y hx hxy) (hbegin t hs))

/-- A step is a command on the state with the queue's rest, or nothing. -/
theorem step_cases (h : step s = .next u) :
    u = s ∨ ∃ c cs, s.pending = c :: cs ∧ exec c { s with pending := cs } = .next u := by
  unfold step at h
  split at h
  · left; cases h; rfl
  · next c cs hs => right; exact ⟨c, cs, hs, h⟩

end Sys2Proof.Machine
end

section
/-! What each piece of work leaves of each part of the state, and what follows for every command and every step. -/

namespace Sys2Proof.Machine
variable {c : Instr} {s u : State} {whole : Bool} {e e' : Ev}

/-! ### Permits, part by part -/

theorem Ev.evalPermitOf_cases (e : Ev) (l : LineId) : e.evalPermitOf l = e ∨ ∃ p, e.evalPermitOf l = e.evalPermit p := by
  unfold Ev.evalPermitOf
  split
  · exact .inr ⟨_, rfl⟩
  · exact .inl rfl

theorem Shutdown.setPermit_causes (x : Shutdown) (p : PumpId) (b : Bool) : (x.setPermit p b).causes = x.causes := by
  cases p <;> rfl

/-- An evaluation of a permit changes that permit alone. -/
theorem Ev.evalPermit_core (e : Ev) (p : PumpId) :
    (e.evalPermit p).core = { e.core with shut := e.shut.setPermit p (e.permitDue p) } := by
  unfold Ev.evalPermit Ev.markIf
  split
  · rw [Ev.mark_core]; rfl
  · rfl

theorem Ev.evalPermitOf_core (e : Ev) (l : LineId) : ∃ x, (e.evalPermitOf l).core = { e.core with shut := x } ∧
    x.causes = e.shut.causes ∧ x.valveList = e.shut.valveList ∧ x.loop = e.shut.loop ∧ x.shipRun = e.shut.shipRun := by
  rcases Ev.evalPermitOf_cases e l with h | ⟨p, h⟩
  · exact ⟨e.shut, by rw [h]; rfl, rfl, rfl, rfl, rfl⟩
  · refine ⟨_, by rw [h]; exact Ev.evalPermit_core e p, ?_⟩
    cases p <;> exact ⟨rfl, rfl, rfl, rfl⟩

/-- A change of state changes the line's state, and a permit. -/
theorem Ev.setState_core (e : Ev) (l : LineId) (st : LineState) : ∃ x, (e.setState l st).core =
      { e.core with states := fun m => if m = l then st else e.core.states m, shut := x } ∧
    x.causes = e.shut.causes ∧ x.valveList = e.shut.valveList ∧ x.loop = e.shut.loop ∧ x.shipRun = e.shut.shipRun := by
  obtain ⟨x, hx, hs⟩ := Ev.evalPermitOf_core ((e.modLine l (fun y => { y with state := st })).mark (.line l)) l
  refine ⟨x, ?_, by simpa using hs⟩
  unfold Ev.setState
  rw [hx, Ev.mark_core]
  simp only [State.core, Ev.modLine, Quad.get_set]
  congr <;> (funext m; split <;> simp_all)

theorem Ev.resetLatch_core (e : Ev) : ∃ x, e.resetLatch.core = { e.core with shut := x } ∧
    x.loop = e.shut.loop ∧ x.shipRun = e.shut.shipRun := by
  unfold Ev.resetLatch
  rw [Ev.mark_core, Ev.evalPermit_core, Ev.evalPermit_core]
  exact ⟨_, rfl, by simp [Ev.evalPermit, Shutdown.setPermit], by simp [Ev.evalPermit, Shutdown.setPermit]⟩

/-! ### The parts a piece of work changes -/

/-- No piece of work takes from or adds to the queue of commands. -/
theorem Work.keeps_pending (h : Work c s false e e') : e'.pending = e.pending := by
  cases h with
  | tend hcore => exact congrArg Core.pending hcore
  | setState l st => obtain ⟨x, hx, -⟩ := Ev.setState_core e l st; exact congrArg Core.pending hx
  | permit p => exact congrArg Core.pending (Ev.evalPermit_core e p)
  | reset => obtain ⟨x, hx, -⟩ := Ev.resetLatch_core e; exact congrArg Core.pending hx
  | closeEntry l r hold cause coarse => cases coarse
  | raise x coarse => cases coarse
  | release l => rfl
  | emptyQueue => rfl
  | _ => simp

/-- The queue of notices is changed by RESTART's emptying it alone; the notices of an event are queued when it ends. -/
theorem Work.notices_cases (h : Work c s false e e') : e'.notices = e.notices ∨ e'.notices = [] := by
  cases h with
  | tend hcore => exact .inl (congrArg Core.notices hcore)
  | setState l st => obtain ⟨x, hx, -⟩ := Ev.setState_core e l st; exact .inl (congrArg Core.notices hx)
  | permit p => exact .inl (congrArg Core.notices (Ev.evalPermit_core e p))
  | reset => obtain ⟨x, hx, -⟩ := Ev.resetLatch_core e; exact .inl (congrArg Core.notices hx)
  | closeEntry l r hold cause coarse => cases coarse
  | raise x coarse => cases coarse
  | emptyQueue => exact .inr rfl
  | release l => exact .inl rfl
  | _ => left; simp

/-- A list is shortened, or becomes a new order whose tanks stand on no other list. -/
theorem Work.lists_cases (h : Work c s false e e') : e'.lists = e.lists ∨ ∃ l ks, e'.lists = e.lists.set l ks ∧
    (ks.Sublist (e.list l) ∨ ks.Nodup ∧ ∀ m, m ≠ l → ∀ k ∈ ks, k ∉ e.list m) := by
  cases h with
  | tend hcore => exact .inl (congrArg Core.lists hcore)
  | setState l st => obtain ⟨x, hx, -⟩ := Ev.setState_core e l st; exact .inl (congrArg Core.lists hx)
  | permit p => exact .inl (congrArg Core.lists (Ev.evalPermit_core e p))
  | reset => obtain ⟨x, hx, -⟩ := Ev.resetLatch_core e; exact .inl (congrArg Core.lists hx)
  | closeEntry l r hold cause coarse => cases coarse
  | raise x coarse => cases coarse
  | shorten l ks h => exact .inr ⟨l, ks, rfl, .inl h⟩
  | order l ks hnd hapart => exact .inr ⟨l, ks, rfl, .inr ⟨hnd, hapart⟩⟩
  | release l => exact .inl rfl
  | emptyQueue => exact .inl rfl
  | _ => left; simp

theorem Work.keeps_link (h : Work c s false e e') (hc : c.touchesLink = false) : e'.link = e.link := by
  cases h with
  | tend hcore => exact congrArg Core.link hcore
  | setState l st => obtain ⟨x, hx, -⟩ := Ev.setState_core e l st; exact congrArg Core.link hx
  | permit p => exact congrArg Core.link (Ev.evalPermit_core e p)
  | reset => obtain ⟨x, hx, -⟩ := Ev.resetLatch_core e; exact congrArg Core.link hx
  | closeEntry l r hold cause coarse => cases coarse
  | raise x coarse => cases coarse
  | link f hf => simp [hf] at hc
  | release l => rfl
  | emptyQueue => rfl
  | _ => simp

/-- A grade is changed by the commands that may change grades, its barge terms by a GRADE_PROFILE of the grade. -/
theorem Work.grades_cases (h : Work c s false e e') : e'.grades = e.grades ∨ c.touchesGrades = true ∧
    ∃ g f, e'.grades = e.grades.set g f ∧ (f.barge = (e.grade g).barge ∨
      ∃ t tag n o, c = .gradeProfile t tag n o ∧ gradeOf n = some g) := by
  cases h with
  | tend hcore => exact .inl (congrArg Core.grades hcore)
  | setState l st => obtain ⟨x, hx, -⟩ := Ev.setState_core e l st; exact .inl (congrArg Core.grades hx)
  | permit p => exact .inl (congrArg Core.grades (Ev.evalPermit_core e p))
  | reset => obtain ⟨x, hx, -⟩ := Ev.resetLatch_core e; exact .inl (congrArg Core.grades hx)
  | closeEntry l r hold cause coarse => cases coarse
  | raise x coarse => cases coarse
  | grade g f hc hbarge => exact .inr ⟨hc, g, _, rfl, hbarge⟩
  | release l => exact .inl rfl
  | emptyQueue => exact .inl rfl
  | _ => left; simp

/-- The supply's settings and inputs are changed by HPU_PROFILE and the accumulator's samples. -/
theorem Work.supply_cases (h : Work c s false e e') :
    (e'.supply.profile = e.supply.profile ∨ ∃ t tag g, c = .hpuProfile t tag g) ∧
    (e'.supply.pressure = e.supply.pressure ∧ e'.supply.fault = e.supply.fault ∨ ∃ t x, c = .accumulatorSample t x) := by
  have same (hs : e'.core.hpu = e.core.hpu) :
      (e'.supply.profile = e.supply.profile ∨ ∃ t tag g, c = .hpuProfile t tag g) ∧
      (e'.supply.pressure = e.supply.pressure ∧ e'.supply.fault = e.supply.fault ∨ ∃ t x, c = .accumulatorSample t x) := by
    simp only [State.core, Prod.mk.injEq] at hs
    exact ⟨.inl hs.1, .inl hs.2⟩
  cases h with
  | tend hcore => exact same (congrArg Core.hpu hcore)
  | setState l st => obtain ⟨x, hx, -⟩ := Ev.setState_core e l st; exact same (congrArg Core.hpu hx :)
  | permit p => exact same (congrArg Core.hpu (Ev.evalPermit_core e p) :)
  | reset => obtain ⟨x, hx, -⟩ := Ev.resetLatch_core e; exact same (congrArg Core.hpu hx :)
  | closeEntry l r hold cause coarse => cases coarse
  | raise x coarse => cases coarse
  | hpu h hc => exact ⟨.inr hc, .inl ⟨rfl, rfl⟩⟩
  | accumulator kPa fault hc => exact ⟨.inl rfl, .inr hc⟩
  | release l => exact same rfl
  | emptyQueue => exact same rfl
  | _ => exact same (by simp [State.core])

theorem Work.profile_cases (h : Work c s false e e') (l : LineId) : (e'.line l).profile = (e.line l).profile ∨
    ∃ t tag n p, c = .lineProfile t tag n p ∧ lineOf n = some l := by
  cases h with
  | tend hcore => exact .inl (congrFun (congrArg Core.profiles hcore) _)
  | setState l st => obtain ⟨x, hx, -⟩ := Ev.setState_core e l st; exact .inl (congrFun (congrArg Core.profiles hx) _)
  | permit p => exact .inl (congrFun (congrArg Core.profiles (Ev.evalPermit_core e p)) _)
  | reset => obtain ⟨x, hx, -⟩ := Ev.resetLatch_core e; exact .inl (congrFun (congrArg Core.profiles hx) _)
  | closeEntry l r hold cause coarse => cases coarse
  | raise x coarse => cases coarse
  | release m => exact .inl rfl
  | emptyQueue => exact .inl rfl
  | profile m p hc =>
    obtain ⟨t, tag, n, q, hc, hn⟩ := hc
    by_cases hm : l = m
    · exact .inr ⟨t, tag, n, q, hc, hm ▸ hn⟩
    · left; simp [State.line, Quad.get_set, hm]
  | closing m f fine hf =>
    left
    by_cases hm : l = m
    · subst hm; simp [State.line, (hf _).2.1]
    · simp [State.line, Quad.get_set, hm]
  | trip m r =>
    left
    by_cases hm : l = m
    · subst hm; simp [State.line]
    · simp [State.line, Quad.get_set, hm]
  | _ => left; simp [State.line]

/-- A trip record is never removed. -/
theorem Work.keeps_tripped (h : Work c s false e e') (l : LineId) (ht : (e.line l).trip.isSome = true) :
    (e'.line l).trip.isSome = true := by
  cases h with
  | tend hcore => exact (congrFun (congrArg Core.tripped hcore) _).trans ht
  | setState l st => obtain ⟨x, hx, -⟩ := Ev.setState_core e l st; exact (congrFun (congrArg Core.tripped hx) _).trans ht
  | permit p => exact (congrFun (congrArg Core.tripped (Ev.evalPermit_core e p)) _).trans ht
  | reset => obtain ⟨x, hx, -⟩ := Ev.resetLatch_core e; exact (congrFun (congrArg Core.tripped hx) _).trans ht
  | closeEntry l r hold cause coarse => cases coarse
  | raise x coarse => cases coarse
  | release m => exact ht
  | emptyQueue => exact ht
  | closing m f fine hf =>
    by_cases hm : l = m
    · subst hm; simpa [State.line, (hf _).2.2] using ht
    · simpa [State.line, Quad.get_set, hm] using ht
  | trip m r =>
    by_cases hm : l = m
    · subst hm; simp [State.line]
    · simpa [State.line, Quad.get_set, hm] using ht
  | profile m p hc =>
    by_cases hm : l = m
    · subst hm; simpa [State.line] using ht
    · simpa [State.line, Quad.get_set, hm] using ht
  | _ => simpa [State.line] using ht

/-- The figures of a line's meter and pressure input are changed by the gate end, its pulses and its pressure samples. -/
theorem Work.meter_cases (h : Work c s false e e') (l : LineId) :
    ((∃ t, c = .gateEnd t) ∨ (e'.flow l).rate = (e.flow l).rate ∧ (e'.flow l).lastPulses = (e.flow l).lastPulses ∧
      (e'.flow l).prevRate = (e.flow l).prevRate) ∧
    ((∃ t, c = .gateEnd t) ∨ (∃ t, c = .meterPulse t l) ∨ (e'.flow l).gatePulses = (e.flow l).gatePulses) ∧
    ((∃ t x, c = .pressureSample t l x) ∨ (e'.flow l).pressure = (e.flow l).pressure ∧
      (e'.flow l).pressureFault = (e.flow l).pressureFault) := by
  have same (hm : (e'.flow l).meterView = (e.flow l).meterView) :
      ((∃ t, c = .gateEnd t) ∨ (e'.flow l).rate = (e.flow l).rate ∧ (e'.flow l).lastPulses = (e.flow l).lastPulses ∧
        (e'.flow l).prevRate = (e.flow l).prevRate) ∧
      ((∃ t, c = .gateEnd t) ∨ (∃ t, c = .meterPulse t l) ∨ (e'.flow l).gatePulses = (e.flow l).gatePulses) ∧
      ((∃ t x, c = .pressureSample t l x) ∨ (e'.flow l).pressure = (e.flow l).pressure ∧
        (e'.flow l).pressureFault = (e.flow l).pressureFault) := by
    simp only [Flow.meterView, MeterView.mk.injEq] at hm
    obtain ⟨hg, hl, hr, hv, hp, hf⟩ := hm
    exact ⟨.inr ⟨hr, hl, hv⟩, .inr (.inr hg), .inr ⟨hp, hf⟩⟩
  cases h with
  | tend hcore => exact same (congrFun (congrArg Core.meters hcore) _)
  | setState l st => obtain ⟨x, hx, -⟩ := Ev.setState_core e l st; exact same (congrFun (congrArg Core.meters hx) _)
  | permit p => exact same (congrFun (congrArg Core.meters (Ev.evalPermit_core e p)) _)
  | reset => obtain ⟨x, hx, -⟩ := Ev.resetLatch_core e; exact same (congrFun (congrArg Core.meters hx) _)
  | closeEntry l r hold cause coarse => cases coarse
  | raise x coarse => cases coarse
  | release m => exact same rfl
  | emptyQueue => exact same rfl
  | meter m f hrate hpulses hpressure =>
    by_cases hm : l = m
    · subst hm; simpa [State.flow] using ⟨hrate, hpulses, hpressure⟩
    · exact same (by simp [State.flow, Quad.get_set, hm])
  | _ => exact same (by simp [State.flow])

/-- A tank's readings are changed by the commands that may change readings, and its miss count is then not above 15. -/
theorem Work.gauge_cases (h : Work c s false e e') (k : TankId) : (e'.tank k).gauge = (e.tank k).gauge ∨
    c.touchesReadings = true ∧
      ((e'.tank k).missCount = (e.tank k).missCount ∨ (e'.tank k).missCount ≤ Config.lostMisses) := by
  cases h with
  | tend hcore => exact .inl (congrFun (congrArg Core.gauges hcore) _)
  | setState l st => obtain ⟨x, hx, -⟩ := Ev.setState_core e l st; exact .inl (congrFun (congrArg Core.gauges hx) _)
  | permit p => exact .inl (congrFun (congrArg Core.gauges (Ev.evalPermit_core e p)) _)
  | reset => obtain ⟨x, hx, -⟩ := Ev.resetLatch_core e; exact .inl (congrFun (congrArg Core.gauges hx) _)
  | closeEntry l r hold cause coarse => cases coarse
  | raise x coarse => cases coarse
  | release m => exact .inl rfl
  | emptyQueue => exact .inl rfl
  | gauge m f hc hmiss =>
    by_cases hm : k = m
    · subst hm; right; simpa [State.tank] using ⟨hc, hmiss⟩
    · left; simp [State.tank, Tanks.get_set, hm]
  | _ => left; simp [State.tank]

theorem CauseSet.get_add (x : CauseSet) (a b : EsdCause) (t : Time) :
    (x.add a t).get b = if b = a then some t else x.get b := by
  cases a <;> cases b <;> rfl

theorem Shutdown.keeps_parts {x y z : Shutdown} {A B : Prop} (h : y = z) (hz : z.causes = x.causes ∧
      z.valveList = x.valveList ∧ z.loop = x.loop ∧ z.shipRun = x.shipRun) :
    (A ∨ (∀ a t, x.causes.get a = some t → y.causes.get a = some t) ∧ ∀ l ∈ x.valveList, l ∈ y.valveList) ∧
      (y.loop = x.loop ∨ B) ∧ (y.shipRun = x.shipRun ∨ y.shipRun ≤ 3) := by
  obtain ⟨hc, hv, hl, hr⟩ := hz
  subst h
  rw [hc, hv, hl, hr]
  exact ⟨.inr ⟨fun _ _ h => h, fun _ h => h⟩, .inl rfl, .inl rfl⟩

/-- The cause set, the valve list, the loop and the SHIP clear run: a piece keeps them all, or changes one of them. -/
theorem Work.shut_cases (h : Work c s false e e') :
    ((∃ t tag, c = .esdReset t tag) ∨
      (∀ x t, e.shut.causes.get x = some t → e'.shut.causes.get x = some t) ∧
        ∀ l ∈ e.shut.valveList, l ∈ e'.shut.valveList) ∧
    (e'.shut.loop = e.shut.loop ∨
      (∃ t, c = .esdLoopOpen t) ∨ (∃ t, c = .esdLoopClosed t) ∨ ∃ t, c = .loopDebounceExpiry t) ∧
    (e'.shut.shipRun = e.shut.shipRun ∨ e'.shut.shipRun ≤ 3) := by
  cases h with
  | tend hcore => exact Shutdown.keeps_parts (congrArg Core.shut hcore) ⟨rfl, rfl, rfl, rfl⟩
  | setState l st => obtain ⟨x, hx, hs⟩ := Ev.setState_core e l st; exact Shutdown.keeps_parts (congrArg Core.shut hx :) hs
  | permit p => 
    exact Shutdown.keeps_parts (congrArg Core.shut (Ev.evalPermit_core e p) :) (by cases p <;> exact ⟨rfl, rfl, rfl, rfl⟩)
  | closeEntry l r hold cause coarse => cases coarse
  | raise x coarse => cases coarse
  | reset hc =>
    obtain ⟨x, hx, hl, hr⟩ := Ev.resetLatch_core e
    have hshut : e.resetLatch.shut = x := congrArg Core.shut hx
    exact ⟨.inl hc, .inl (by rw [hshut, hl]), .inl (by rw [hshut, hr])⟩
  | cause x fine hnew =>
    refine ⟨.inr ⟨fun y t h => ?_, fun l h => h⟩, .inl rfl, .inl rfl⟩
    simp only [Ev.modShut_shut, CauseSet.get_add]
    split
    · next hy => rw [hy, hnew] at h; cases h
    · exact h
  | listValve l => exact ⟨.inr ⟨fun _ _ h => h, fun m h => List.mem_append_left _ h⟩, .inl rfl, .inl rfl⟩
  | shipRun n hn => exact ⟨.inr ⟨fun _ _ h => h, fun m h => h⟩, .inl rfl, .inr hn⟩
  | loop st hc => exact ⟨.inr ⟨fun _ _ h => h, fun m h => h⟩, .inr hc, .inl rfl⟩
  | release l => exact Shutdown.keeps_parts rfl ⟨rfl, rfl, rfl, rfl⟩
  | emptyQueue => exact Shutdown.keeps_parts rfl ⟨rfl, rfl, rfl, rfl⟩
  | _ => exact Shutdown.keeps_parts rfl (by simp)

/-! ### What a command leaves alone -/

/-- The end of an event leaves the blocks as the work left them. -/
theorem Ev.closing_sameBlocks (e : Ev) : e.toState.sameBlocks e.queueNotices.arbitrate := by
  simp [State.sameBlocks]

/-- A part of the blocks that every piece of work of a command keeps is kept by the command, POWER_ON apart. -/
theorem exec_leaves {P : State → Prop} (hp : ∀ i, c ≠ .powerOn i)
    (hblocks : ∀ v w : State, v.sameBlocks w → P v → P w)
    (hwork : ∀ x y : Ev, P x.toState → Work c s false x y → P y.toState) (h : exec c s = .next u) (hs : P s) : P u :=
  exec_keeps false (fun i hi => absurd hi (hp i)) (fun t => hblocks s _ (by simp [State.sameBlocks, begin])) hwork
    (fun x => hblocks _ _ (Ev.closing_sameBlocks x)) h hs

theorem State.sameBlocks.line {v w : State} (h : v.sameBlocks w) (l : LineId) : w.line l = v.line l := by
  rw [State.line, State.line, h.1]
theorem State.sameBlocks.tank {v w : State} (h : v.sameBlocks w) (k : TankId) : w.tank k = v.tank k := by
  rw [State.tank, State.tank, h.2.2.1]
theorem State.sameBlocks.flow {v w : State} (h : v.sameBlocks w) (l : LineId) : w.flow l = v.flow l := by
  rw [State.flow, State.flow, h.2.2.2.2.2.1]
theorem State.sameBlocks.valve {v w : State} (h : v.sameBlocks w) (l : LineId) : w.valve l = v.valve l := by
  rw [State.valve, State.valve, h.2.2.2.2.2.2.1]
theorem State.sameBlocks.grade {v w : State} (h : v.sameBlocks w) (g : GradeId) : w.grade g = v.grade g := by
  obtain ⟨-, -, -, -, -, -, -, -, -, -, -, hg, -⟩ := h
  rw [State.grade, State.grade, hg]
theorem State.sameBlocks.list {v w : State} (h : v.sameBlocks w) (l : LineId) : w.list l = v.list l := by
  rw [State.list, State.list, h.2.1]
theorem State.sameBlocks.shut {v w : State} (h : v.sameBlocks w) : w.shut = v.shut := by
  obtain ⟨-, -, -, -, -, -, -, -, -, -, -, -, hs, -⟩ := h
  exact hs
theorem State.sameBlocks.supply {v w : State} (h : v.sameBlocks w) : w.supply = v.supply := by
  obtain ⟨-, -, -, -, -, -, -, -, -, hs, -⟩ := h
  exact hs
theorem State.sameBlocks.chans {v w : State} (h : v.sameBlocks w) : w.chan1 = v.chan1 ∧ w.chan2 = v.chan2 := by
  obtain ⟨-, -, -, -, -, -, -, h1, h2, -⟩ := h
  exact ⟨h1, h2⟩
theorem State.sameBlocks.linkGrades {v w : State} (h : v.sameBlocks w) : w.link = v.link ∧ w.grades = v.grades := by
  obtain ⟨-, -, -, -, -, -, -, -, -, -, hl, hg, -⟩ := h
  exact ⟨hl, hg⟩

/-- Settles O2: POWER_ON keeps the queue by its definition, every other command is made of work that does not touch it. -/
theorem everyCommandCompletes : Obligations.EveryCommandCompletes := by
  intro c s
  by_cases hp : ∃ i, c = .powerOn i
  · obtain ⟨i, rfl⟩ := hp
    exact ⟨_, rfl, rfl⟩
  · obtain ⟨t, op, hc, hw⟩ := exec_event_works c s false (fun i hi => hp ⟨i, hi⟩)
    refine ⟨_, hc, ?_⟩
    rw [finish_pending]
    exact hw.keeps (P := fun x => x.pending = s.pending) (fun x y hx hxy => hxy.keeps_pending.trans hx) rfl

theorem Instr.not_powerOn_of_touchesGrades (h : c.touchesGrades = false) (i : PowerInputs) : c ≠ .powerOn i := by
  rintro rfl; cases h
theorem Instr.not_powerOn_of_touchesLink (h : c.touchesLink = false) (i : PowerInputs) : c ≠ .powerOn i := by
  rintro rfl; cases h

/-- Settles O16: the pieces of work on the link and on a grade belong to these commands. -/
theorem onlyTheirCommandsChangeLinkAndGrades : Obligations.OnlyTheirCommandsChangeLinkAndGrades := by
  intro c s u h
  refine ⟨fun hl => ?_, fun hg => ?_⟩
  · exact exec_leaves (P := fun v => v.link = s.link) (Instr.not_powerOn_of_touchesLink hl)
      (fun v w hvw hv => hvw.linkGrades.1.trans hv) (fun x y hx hxy => (hxy.keeps_link hl).trans hx) h rfl
  · refine exec_leaves (P := fun v => v.grades = s.grades) (Instr.not_powerOn_of_touchesGrades hg)
      (fun v w hvw hv => hvw.linkGrades.2.trans hv) (fun x y hx hxy => ?_) h rfl
    rcases hxy.grades_cases with hy | ⟨hc, -⟩
    · exact hy.trans hx
    · rw [hg] at hc; cases hc

/-- Settles O17: each setting's piece of work names its request. -/
theorem onlyProfilesChangeTheSettings : Obligations.OnlyProfilesChangeTheSettings := by
  intro c s u h hp
  refine ⟨fun l hl => ?_, fun hh => ?_, fun g hg => ?_⟩
  · refine exec_leaves (P := fun v => (v.line l).profile = (s.line l).profile) hp
      (fun v w hvw hv => by rw [hvw.line]; exact hv) (fun x y hx hxy => ?_) h rfl
    rcases hxy.profile_cases l with hy | ⟨t, tag, n, p, hc, hn⟩
    · exact hy.trans hx
    · exact absurd hn (hl t tag n p hc)
  · refine exec_leaves (P := fun v => v.supply.profile = s.supply.profile) hp
      (fun v w hvw hv => by rw [hvw.supply]; exact hv) (fun x y hx hxy => ?_) h rfl
    rcases hxy.supply_cases.1 with hy | ⟨t, tag, g, hc⟩
    · exact hy.trans hx
    · exact absurd hc (hh t tag g)
  · refine exec_leaves (P := fun v => (v.grade g).barge = (s.grade g).barge) hp
      (fun v w hvw hv => by rw [hvw.grade]; exact hv) (fun x y hx hxy => ?_) h rfl
    rcases hxy.grades_cases with hy | ⟨-, m, f, hy, hf⟩
    · rw [← hx]; exact congrArg (fun q => (Grades.get q g).barge) hy
    · rw [← hx]
      simp only [State.grade, hy, Grades.get_set]
      split
      · next hm =>
        subst hm
        rcases hf with hf | ⟨t, tag, n, o, hc, hn⟩
        · exact hf
        · exact absurd hn (hg t tag n o hc)
      · rfl

/-- Settles O19: a tank's readings belong to the pieces of work of the ship link. -/
theorem onlyTheShipLinkChangesTankReadings : Obligations.OnlyTheShipLinkChangesTankReadings := by
  intro c s u h hc k
  have hp (i : PowerInputs) : c ≠ .powerOn i := by rintro rfl; cases hc
  have hk : (u.tank k).gauge = (s.tank k).gauge := by
    refine exec_leaves (P := fun v => (v.tank k).gauge = (s.tank k).gauge) hp
      (fun v w hvw hv => by rw [hvw.tank]; exact hv) (fun x y hx hxy => ?_) h rfl
    rcases hxy.gauge_cases k with hy | ⟨hr, -⟩
    · exact hy.trans hx
    · rw [hc] at hr; cases hr
  simp only [Tank.gauge, Tank.reading, GaugeView.mk.injEq, TankReading.mk.injEq] at hk
  tauto

/-- Settles O20: a cause is added where none stands, a trip record written, a valve listed; ESD_RESET alone clears. -/
theorem latchedCausesAndTripRecordsPersist : Obligations.LatchedCausesAndTripRecordsPersist := by
  intro c s u h hp
  refine ⟨fun hr => ⟨fun x t0 hx => ?_, fun l hl => ?_⟩, fun l hl => ?_⟩
  · refine exec_leaves (P := fun v => v.shut.causes.get x = some t0) hp
      (fun v w hvw hv => by rw [hvw.shut]; exact hv) (fun y z hy hyz => ?_) h hx
    rcases hyz.shut_cases.1 with ⟨t, tag, hc⟩ | ⟨hc, -⟩
    · exact absurd hc (hr t tag)
    · exact hc x t0 hy
  · refine exec_leaves (P := fun v => l ∈ v.shut.valveList) hp
      (fun v w hvw hv => by rw [hvw.shut]; exact hv) (fun y z hy hyz => ?_) h hl
    rcases hyz.shut_cases.1 with ⟨t, tag, hc⟩ | ⟨-, hc⟩
    · exact absurd hc (hr t tag)
    · exact hc l hy
  · exact exec_leaves (P := fun v => (v.line l).trip.isSome = true) hp
      (fun v w hvw hv => by rw [hvw.line]; exact hv) (fun y z hy hyz => hyz.keeps_tripped l hy) h hl

/-! ### Lists, notices and counts -/

/-- Shortening a list, or giving a line a new order that meets no other list, keeps the lists apart. -/
theorem State.listsApart_set {v w : State} {l : LineId} {ks : List TankId} (h : v.listsApart)
    (hw : w.lists = v.lists.set l ks)
    (hks : ks.Sublist (v.list l) ∨ ks.Nodup ∧ ∀ m, m ≠ l → ∀ k ∈ ks, k ∉ v.list m) : w.listsApart := by
  have hnd : ks.Nodup := hks.elim (fun hs => (h l).1.sublist hs) (fun hn => hn.1)
  have hout : ∀ m, m ≠ l → ∀ k ∈ ks, k ∉ v.list m :=
    hks.elim (fun hs m hm k hk => (h l).2 m hm k (hs.subset hk)) (fun hn => hn.2)
  have hself : w.list l = ks := by simp [State.list, hw]
  have hne (m : LineId) (hm : m ≠ l) : w.list m = v.list m := by simp [State.list, hw, Quad.get_set, hm]
  intro m
  by_cases hm : m = l
  · subst hm
    rw [hself]
    exact ⟨hnd, fun n hn k hk => by rw [hne n hn]; exact hout n hn k hk⟩
  · rw [hne m hm]
    refine ⟨(h m).1, fun n hn k hk => ?_⟩
    by_cases hnl : n = l
    · subst hnl; rw [hself]; exact fun hk' => hout m hm k hk' hk
    · rw [hne n hnl]; exact (h m).2 n hn k hk

theorem State.listsApart_congr {v w : State} (hw : w.lists = v.lists) (h : v.listsApart) : w.listsApart := by
  simpa only [State.listsApart, State.list, hw] using h

/-- POWER_ON leaves every list empty. -/
theorem powerOn_list {i : PowerInputs} (h : exec (.powerOn i) s = .next u) (l : LineId) : u.list l = [] := by
  cases h; cases l <;> rfl

theorem exec_listsApart (h : exec c s = .next u) (hs : s.listsApart) : u.listsApart := by
  refine exec_keeps (P := State.listsApart) false (fun i hi v hv => ?_) (fun t => State.listsApart_congr rfl)
    (fun x y hx hxy => ?_) (fun x => State.listsApart_congr (by simp)) h hs
  · subst hi; intro l; rw [powerOn_list hv l]; simp
  · rcases hxy.lists_cases with hy | ⟨l, ks, hy, hks⟩
    · exact State.listsApart_congr hy hx
    · exact State.listsApart_set hx hy hks

/-- The notices of an event are queued one by one, each in the place of one of its kind and subject. -/
theorem Ev.queueNotices_distinct (e : Ev) (h : e.noticesDistinct) : e.queueNotices.noticesDistinct := by
  have go (ks : List NoticeKey) (q : List Notice) (hq : (q.map (fun n => n.key)).Nodup) :
      ((ks.foldl (fun q k => putNotice q { key := k, content := e.content k, stamp := e.now }) q).map
        (fun n => n.key)).Nodup := by
    induction ks generalizing q with
    | nil => exact hq
    | cons k ks ih => exact ih _ (putNotice_nodup _ _ hq)
  exact go e.dirty e.notices h

/-- The arbiter takes a notice from the head of the queue at most. -/
theorem State.arbitrate_distinct (v : State) (h : v.noticesDistinct) : v.arbitrate.noticesDistinct := by
  unfold State.arbitrate
  split
  · exact h
  · split
    · exact h
    · next n ns _ hn =>
      unfold State.noticesDistinct at h
      rw [hn, List.map_cons] at h
      exact h.of_cons
    · exact h

theorem exec_noticesDistinct (h : exec c s = .next u) (hs : s.noticesDistinct) : u.noticesDistinct := by
  refine exec_keeps (P := State.noticesDistinct) false (fun i hi v hv => ?_) (fun t h => h) (fun x y hx hxy => ?_)
    (fun x hx => State.arbitrate_distinct _ (Ev.queueNotices_distinct x hx)) h hs
  · subst hi; cases hv; exact List.nodup_nil
  · rcases hxy.notices_cases with hy | hy
    · unfold State.noticesDistinct; rw [hy]; exact hx
    · unfold State.noticesDistinct; rw [hy]; exact List.nodup_nil

/-- What every command keeps every step keeps, when it does not look at the queue of commands. -/
theorem step_keeps {P : State → Prop} (hq : ∀ (v : State) (cs : List Instr), P v → P { v with pending := cs })
    (hexec : ∀ c v w, exec c v = .next w → P v → P w) (h : step s = .next u) (hs : P s) : P u := by
  rcases step_cases h with rfl | ⟨c, cs, -, hc⟩
  · exact hs
  · exact hexec c _ u hc (hq s cs hs)

/-- Settles O12: notices coalesce in the queue, and a list is only shortened or replaced by tanks of no other list. -/
theorem noticesAndListsStayDistinct : Obligations.NoticesAndListsStayDistinct :=
  ⟨fun _ _ hs h => step_keeps (P := State.noticesDistinct) (fun _ _ h => h) (fun _ _ _ h hv => exec_noticesDistinct h hv) h hs,
   fun _ _ hs h => step_keeps (P := State.listsApart) (fun _ _ h => h) (fun _ _ _ h hv => exec_listsApart h hv) h hs⟩

theorem powerOn_counts {i : PowerInputs} (h : exec (.powerOn i) s = .next u) : u.countsBounded := by
  cases h
  exact ⟨fun k => by cases k <;> exact Nat.zero_le _, Nat.zero_le _⟩

theorem exec_countsBounded (h : exec c s = .next u) (hs : s.countsBounded) : u.countsBounded := by
  refine exec_keeps (P := State.countsBounded) false (fun i hi v hv => ?_) (fun t h => h) (fun x y hx hxy => ?_)
    (fun x hx => ?_) h hs
  · subst hi; exact powerOn_counts hv
  · refine ⟨fun k => ?_, ?_⟩
    · rcases hxy.gauge_cases k with hk | ⟨-, hk | hk⟩
      · have hmiss : (y.tank k).missCount = (x.tank k).missCount := congrArg (fun g : GaugeView => g.reading.missCount) hk
        rw [hmiss]; exact hx.1 k
      · rw [hk]; exact hx.1 k
      · exact hk
    · rcases hxy.shut_cases.2.2 with hr | hr
      · rw [hr]; exact hx.2
      · exact hr
  · have hb := Ev.closing_sameBlocks x
    refine ⟨fun k => by rw [hb.tank]; exact hx.1 k, by rw [hb.shut]; exact hx.2⟩

/-- Settles O13: a miss count is raised to 15 at most, the SHIP clear run to 3. -/
theorem countsStayBounded : Obligations.CountsStayBounded :=
  fun _ _ hs h => step_keeps (P := State.countsBounded) (fun _ _ h => h) (fun _ _ _ h hv => exec_countsBounded h hv) h hs

end Sys2Proof.Machine
end

section
/-! What each piece of work leaves of a valve, and the invariants of the valves and channels that every step keeps. -/

namespace Sys2Proof.Machine
variable {c : Instr} {s u : State} {whole : Bool} {e e' : Ev} {l : LineId} {v v' : Valve}

/-- What one piece of work of command `c`, taken in state `s`, does to the valve of line `l` in event `e`. -/
inductive ValveMove (c : Instr) (s : State) (e : Ev) (l : LineId) (v : Valve) : Valve → Prop where
  | tended {v' : Valve} (h : v.TendedTo v') : ValveMove c s e l v v'
  | input {v' : Valve} (hcommanded : v'.commanded = v.commanded) (hpending : v'.pending = v.pending)
      (hstroke : v'.stroke = v.stroke) (hfollow : v'.followOn = v.followOn)
      (hrate : v'.learnedRate = v.learnedRate ∨ ∃ r, v'.learnedRate = some r ∧ Config.minRate ≤ r ∧ r ≤ Config.maxRate)
      (hclosed : v'.closedSwitch = v.closedSwitch ∨ ∃ t a, c = .closedLimitSwitch t l a)
      (hopen : v'.openSwitch = v.openSwitch ∨ ∃ t a, c = .openLimitSwitch t l a)
      (hsample : v'.sample = v.sample ∨ ∃ t x, c = .positionSample t l x) : ValveMove c s e l v v'
  | released : ValveMove c s e l v { v with stroke := none, followOn := none }
  | unqueued : ValveMove c s e l v { v with pending := none }
  | unfollowed : ValveMove c s e l v { v with followOn := none }
  | enqueued (r : StrokeReq) (hstroke : s.oneStroke → v.stroke = none)
      (hr : e.mayAsk l r ∨ s.hadWork l r ∧ e.shut.causes = s.shut.causes ∧ e.profile l = s.profile l) :
      ValveMove c s e l v { v with pending := some r }
  | followed (r : StrokeReq) (k : Stroke) (hstroke : v.stroke = some k) (hk : k.req.cls ≠ .close) (hr : r.cls ≠ .close)
      (hask : e.mayAsk l r) : ValveMove c s e l v { v with followOn := some r }
  | arrived (r : StrokeReq) (hpending : v.pending = some r) :
      ValveMove c s e l v { v with pending := none, commanded := r.target }
  | granted (r : StrokeReq) (k : Stroke) (hpending : v.pending = some r) (hk : k.req = r) :
      ValveMove c s e l v { v with pending := none, commanded := r.target, stroke := some k }
  | profiled (old : Option LineProfile) (p : LineProfile) (hc : ∃ t tag n q, c = .lineProfile t tag n q)
      (hrate : Config.minRate ≤ p.nominalRate ∧ p.nominalRate ≤ Config.maxRate) : ValveMove c s e l v (v.profiled old p)

/-- A change of one valve is a move of each, when it is one of its own. -/
theorem ValveMove.of_modValve {m : LineId} {f : Valve → Valve} (hm : ValveMove c s e m (e.valve m) (f (e.valve m)))
    (hv : e'.valves = (e.modValve m f).valves) (l : LineId) : ValveMove c s e l (e.valve l) (e'.valve l) := by
  simp only [State.valve, hv, Ev.modValve_valves, Quad.get_set] at hm ⊢
  split
  · next h => subst h; exact hm
  · exact .tended (.refl _)

theorem ValveMove.of_same (hv : e'.valves = e.valves) (l : LineId) : ValveMove c s e l (e.valve l) (e'.valve l) :=
  .tended (by rw [State.valve, State.valve, hv]; exact .refl _)

theorem Ev.evalPermitOf_valves (e : Ev) (l : LineId) : (e.evalPermitOf l).valves = e.valves := by
  rcases Ev.evalPermitOf_cases e l with h | ⟨p, h⟩
  · rw [h]
  · rw [h]; simp [Ev.evalPermit]

theorem Ev.setState_valves (e : Ev) (l : LineId) (st : LineState) : (e.setState l st).valves = e.valves := by
  unfold Ev.setState
  rw [Ev.evalPermitOf_valves]
  simp

theorem Work.valveMove (h : Work c s false e e') (l : LineId) : ValveMove c s e l (e.valve l) (e'.valve l) := by
  cases h with
  | tend hcore hdirty hv => exact .tended (hv l)
  | input m f h1 h2 h3 h4 h5 h6 h7 h8 => exact .of_modValve (.input h1 h2 h3 h4 h5 h6 h7 h8) rfl l
  | release m => exact .of_modValve (m := m) (f := fun v => { v with stroke := none, followOn := none }) .released rfl l
  | unqueue m => exact .of_modValve .unqueued rfl l
  | unfollow m => exact .of_modValve .unfollowed rfl l
  | enqueue m r hstroke hr => exact .of_modValve (.enqueued r hstroke hr) rfl l
  | follow m r k hstroke hk hr hask => exact .of_modValve (.followed r k hstroke hk hr hask) rfl l
  | atOnce m r hpending => exact .of_modValve (.arrived r hpending) rfl l
  | grant m r k ch hpending hk =>
    exact .of_modValve (.granted r k hpending hk) (Ev.modChan_valves _ _ _) l
  | profile m p hc hflow hrate =>
    obtain ⟨t, tag, n, q, hc, -⟩ := hc
    exact .of_modValve (f := fun v => v.profiled (e.line m).profile p) (.profiled _ p ⟨t, tag, n, q, hc⟩ hrate) rfl l
  | closeEntry m r hold cause coarse => cases coarse
  | raise x coarse => cases coarse
  | setState m st => exact .of_same (Ev.setState_valves e m st) l
  | permit p => exact .of_same (by simp [Ev.evalPermit]) l
  | reset => exact .of_same (by simp [Ev.resetLatch, Ev.evalPermit]) l
  | emptyQueue => exact .of_same rfl l
  | _ => exact .of_same (by simp) l

/-! ### The invariants of one valve -/

theorem Valve.TendedTo.isSome (h : v.TendedTo v') : v'.stroke.isSome = v.stroke.isSome := by
  simpa using congrArg Option.isSome h.stroke

/-- The strokes of a tended valve are strokes it had, further on their way. -/
theorem Valve.TendedTo.stroke_of {k : Stroke} (h : v.TendedTo v') (hk : v'.stroke = some k) :
    ∃ k0, v.stroke = some k0 ∧ k0.req = k.req := by
  have := h.stroke
  rw [hk] at this
  simpa [Option.map_eq_some_iff] using this.symm

theorem Valve.TendedTo.stroke_to {k : Stroke} (h : v.TendedTo v') (hk : v.stroke = some k) :
    ∃ k1, v'.stroke = some k1 ∧ k1.req = k.req := by
  have := h.stroke
  rw [hk] at this
  simpa [Option.map_eq_some_iff] using this

/-- An accepted profile leaves the work and the inputs of the valve, and lowers its commanded target to bulk_pos. -/
theorem Valve.profiled_spec (v : Valve) (old : Option LineProfile) (p : LineProfile) :
    ((v.profiled old p).learnedRate = v.learnedRate ∨ (v.profiled old p).learnedRate = some p.nominalRate) ∧
    (v.profiled old p).pending = v.pending ∧ (v.profiled old p).stroke = v.stroke ∧
    (v.profiled old p).followOn = v.followOn ∧ (v.profiled old p).sample = v.sample ∧
    (v.profiled old p).closedSwitch = v.closedSwitch ∧ (v.profiled old p).openSwitch = v.openSwitch ∧
    (v.profiled old p).commanded = min v.commanded p.bulkPos := by
  by_cases hp : p.feedbackPresent = 1 ∧ v.feedbackFault = false
  all_goals
    cases hx : v.sample with
    | none =>
      cases old with
      | none => simp [Valve.profiled, hx]
      | some q => by_cases hq : q.nominalRate = p.nominalRate <;> simp [Valve.profiled, hq, hx]
    | some x =>
      cases old with
      | none => simp [Valve.profiled, hp, hx]
      | some q => by_cases hq : q.nominalRate = p.nominalRate <;> simp [Valve.profiled, hq, hp, hx]

/-- The rate of a valve lies between the bounds of R111. -/
def Valve.rateBounded (v : Valve) : Prop := ∀ r, v.learnedRate = some r → Config.minRate ≤ r ∧ r ≤ Config.maxRate

theorem ValveMove.rateBounded (h : ValveMove c s e l v v') (hv : v.rateBounded) : v'.rateBounded := by
  intro r hr
  cases h with
  | tended h => exact hv r (h.rate ▸ hr)
  | input _ _ _ _ hrate =>
    rcases hrate with hrate | ⟨q, hq, hb⟩
    · exact hv r (hrate ▸ hr)
    · rw [hq] at hr; cases hr; exact hb
  | profiled old p hc hrate =>
    rcases (v.profiled_spec old p).1 with hp | hp
    · exact hv r (hp ▸ hr)
    · rw [hp] at hr; cases hr; exact hrate
  | _ => exact hv r hr

/-- A valve has one stroke pending or in progress at most. -/
def Valve.oneStroke (v : Valve) : Prop := v.stroke.isSome = true → v.pending = none

theorem ValveMove.oneStroke (h : ValveMove c s e l v v') (hs : s.oneStroke) (hv : v.oneStroke) : v'.oneStroke := by
  intro hk
  cases h with
  | tended h => exact h.pending.trans (hv (h.isSome ▸ hk))
  | input _ hpending hstroke => exact hpending.trans (hv (hstroke ▸ hk))
  | released => cases hk
  | enqueued r hstroke => simp [hstroke hs] at hk
  | profiled old p =>
    obtain ⟨-, hp, hst, -⟩ := v.profiled_spec old p
    rw [hp]; rw [hst] at hk; exact hv hk
  | unqueued | arrived | granted => rfl
  | unfollowed | followed => exact hv hk

/-- A follow-on of a valve is OPEN or THROTTLE work behind an OPEN or THROTTLE stroke. -/
def Valve.followOnSound (v : Valve) : Prop :=
  ∀ r, v.followOn = some r → r.cls ≠ .close ∧ ∃ k, v.stroke = some k ∧ k.req.cls ≠ .close

theorem ValveMove.followOnSound (h : ValveMove c s e l v v') (h1 : v.oneStroke) (hv : v.followOnSound) :
    v'.followOnSound := by
  intro r hr
  cases h with
  | tended h =>
    obtain ⟨hcls, k, hk, hkc⟩ := hv r (h.followOn ▸ hr)
    obtain ⟨k1, hk1, hreq⟩ := h.stroke_to hk
    exact ⟨hcls, k1, hk1, hreq ▸ hkc⟩
  | input _ _ hstroke hfollow => rw [hstroke]; exact hv r (hfollow ▸ hr)
  | released | unfollowed => cases hr
  | followed q k hstroke hk hq => cases hr; exact ⟨hq, k, hstroke, hk⟩
  | granted q k hpending =>
    obtain ⟨-, k0, hk0, -⟩ := hv r hr
    rw [h1 (by simp [hk0])] at hpending
    cases hpending
  | profiled old p =>
    obtain ⟨-, -, hst, hf, -⟩ := v.profiled_spec old p
    rw [hst]; rw [hf] at hr; exact hv r hr
  | unqueued | enqueued | arrived => exact hv r hr

/-- No target of a valve exceeds `top`. -/
def Valve.targetsWithin (v : Valve) (top : Nat) : Prop :=
  v.commanded ≤ top ∧ (∀ r, v.pending = some r → r.target ≤ top) ∧ (∀ k, v.stroke = some k → k.req.target ≤ top) ∧
    ∀ r, v.followOn = some r → r.target ≤ top

theorem State.hadWork.target_le {r : StrokeReq} (h : s.hadWork l r) (hs : s.targetsBounded) :
    r.target ≤ (s.profile l).bulkPos := by
  obtain ⟨-, -, hst, hf⟩ := hs l
  rcases h with ⟨k, hk, rfl⟩ | h
  · exact hst k hk
  · exact hf r h

theorem ValveMove.targetsWithin (h : ValveMove c s e l v v') (hs : s.targetsBounded)
    (hc : ∀ t tag n p, c ≠ .lineProfile t tag n p) (hv : v.targetsWithin (e.profile l).bulkPos) :
    v'.targetsWithin (e.profile l).bulkPos := by
  obtain ⟨hcom, hpend, hst, hfol⟩ := hv
  have ask (r : StrokeReq) (hr : e.mayAsk l r ∨ s.hadWork l r ∧ e.shut.causes = s.shut.causes ∧
      e.profile l = s.profile l) : r.target ≤ (e.profile l).bulkPos := by
    rcases hr with hr | ⟨hr, -, hp⟩
    · exact hr.1
    · rw [hp]; exact hr.target_le hs
  cases h with
  | tended h =>
    refine ⟨h.commanded ▸ hcom, fun r hr => hpend r (h.pending ▸ hr), fun k hk => ?_, fun r hr => hfol r (h.followOn ▸ hr)⟩
    obtain ⟨k0, hk0, hreq⟩ := h.stroke_of hk
    exact hreq ▸ hst k0 hk0
  | input hcommanded hpending hstroke hfollow =>
    exact ⟨hcommanded ▸ hcom, fun r hr => hpend r (hpending ▸ hr), fun k hk => hst k (hstroke ▸ hk),
      fun r hr => hfol r (hfollow ▸ hr)⟩
  | released => exact ⟨hcom, hpend, nofun, nofun⟩
  | unqueued => exact ⟨hcom, nofun, hst, hfol⟩
  | unfollowed => exact ⟨hcom, hpend, hst, nofun⟩
  | enqueued r _ hr => exact ⟨hcom, fun q hq => by cases hq; exact ask r hr, hst, hfol⟩
  | followed r k _ _ _ hask => exact ⟨hcom, hpend, hst, fun q hq => by cases hq; exact hask.1⟩
  | arrived r hpending => exact ⟨hpend r hpending, nofun, hst, hfol⟩
  | granted r k hpending hk =>
    exact ⟨hpend r hpending, nofun, fun q hq => by cases hq; rw [hk]; exact hpend r hpending, hfol⟩
  | profiled old p hl =>
    obtain ⟨t, tag, n, q, hl⟩ := hl
    exact absurd hl (hc t tag n q)

/-! ### The invariants of all valves -/

theorem State.sameBlocks.profile {x y : State} (h : x.sameBlocks y) (l : LineId) : y.profile l = x.profile l := by
  rw [State.profile, State.profile, h.line]

/-- A property of each valve that POWER_ON gives and every move keeps is kept by every command. -/
theorem exec_keeps_valves {P : LineId → Valve → Prop}
    (hon : ∀ i, c = .powerOn i → ∀ w, exec c s = .next w → ∀ l, P l (w.valve l))
    (hmove : ∀ (x : Ev) l v w, ValveMove c s x l v w → P l v → P l w) (h : exec c s = .next u)
    (hs : ∀ l, P l (s.valve l)) (l : LineId) : P l (u.valve l) :=
  exec_keeps (P := fun w => ∀ l, P l (w.valve l)) false hon (fun _ h => h)
    (fun x y hx hxy l => hmove x l _ _ (hxy.valveMove l) (hx l))
    (fun x hx l => by rw [(Ev.closing_sameBlocks x).valve]; exact hx l) h hs l

/-- POWER_ON leaves every valve without work, without a rate and at 0. -/
theorem powerOn_valve {i : PowerInputs} (h : exec (.powerOn i) s = .next u) (l : LineId) :
    (u.valve l).pending = none ∧ (u.valve l).stroke = none ∧ (u.valve l).followOn = none ∧
    (u.valve l).learnedRate = none ∧ (u.valve l).commanded = 0 := by
  cases h; cases l <;> exact ⟨rfl, rfl, rfl, rfl, rfl⟩

theorem exec_ratesBounded (h : exec c s = .next u) (hs : s.ratesBounded) : u.ratesBounded :=
  exec_keeps_valves (P := fun _ v => v.rateBounded)
    (fun i hi w hw l r hr => by subst hi; rw [(powerOn_valve hw l).2.2.2.1] at hr; cases hr)
    (fun _ _ _ _ hm hv => hm.rateBounded hv) h hs

theorem exec_oneStroke (h : exec c s = .next u) (hs : s.oneStroke) : u.oneStroke :=
  exec_keeps_valves (P := fun _ v => v.oneStroke)
    (fun i hi w hw l _ => by subst hi; exact (powerOn_valve hw l).1)
    (fun _ _ _ _ hm hv => hm.oneStroke hs hv) h hs

theorem exec_followOnsSound (h : exec c s = .next u) (h1 : s.oneStroke) (hs : s.followOnsSound) : u.followOnsSound :=
  fun l => (exec_keeps_valves (P := fun _ v => v.oneStroke ∧ v.followOnSound)
    (fun i hi w hw l => by
      subst hi
      refine ⟨fun _ => (powerOn_valve hw l).1, fun r hr => ?_⟩
      rw [(powerOn_valve hw l).2.2.1] at hr; cases hr)
    (fun _ _ _ _ hm hv => ⟨hm.oneStroke h1 hv.1, hm.followOnSound hv.1 hv.2⟩) h (fun l => ⟨h1 l, hs l⟩) l).2

theorem exec_targetsBounded (h : exec c s = .next u) (hc : ∀ t tag n p, c ≠ .lineProfile t tag n p)
    (hs : s.targetsBounded) : u.targetsBounded := by
  refine exec_keeps (P := State.targetsBounded) false (fun i hi w hw l => ?_) (fun _ h => h)
    (fun x y hx hxy l => ?_) (fun x hx l => ?_) h hs
  · subst hi
    obtain ⟨hp, hst, hf, -, hcom⟩ := powerOn_valve hw l
    rw [hp, hst, hf, hcom]
    exact ⟨Nat.zero_le _, nofun, nofun, nofun⟩
  · have hprof : y.profile l = x.profile l := by
      rcases hxy.profile_cases l with hp | ⟨t, tag, n, p, hl, -⟩
      · rw [State.profile, State.profile, hp]
      · exact absurd hl (hc t tag n p)
    rw [hprof]
    exact (hxy.valveMove l).targetsWithin hs hc (hx l)
  · have hb := Ev.closing_sameBlocks x
    rw [hb.valve, hb.profile]; exact hx l

end Sys2Proof.Machine
end

section
/-! The inputs, the channels, the announcements of the lines and the permits, read off the pieces of work. -/

namespace Sys2Proof.Machine
variable {c : Instr} {s u : State} {whole : Bool} {e e' : Ev} {l : LineId} {v v' : Valve}

/-! ### Inputs -/

/-- The limit switches and the sample of a valve are changed by their own inputs. -/
theorem ValveMove.inputs (h : ValveMove c s e l v v') :
    (v'.closedSwitch = v.closedSwitch ∨ ∃ t a, c = .closedLimitSwitch t l a) ∧
    (v'.openSwitch = v.openSwitch ∨ ∃ t a, c = .openLimitSwitch t l a) ∧
    (v'.sample = v.sample ∨ ∃ t x, c = .positionSample t l x) := by
  cases h with
  | tended h => exact ⟨.inl h.closedSwitch, .inl h.openSwitch, .inl h.sample⟩
  | input _ _ _ _ _ hclosed hopen hsample => exact ⟨hclosed, hopen, hsample⟩
  | profiled old p =>
    obtain ⟨-, -, -, -, hx, hcl, hop, -⟩ := v.profiled_spec old p
    exact ⟨.inl hcl, .inl hop, .inl hx⟩
  | _ => exact ⟨.inl rfl, .inl rfl, .inl rfl⟩

/-- Settles O18: each input's part of the state has a piece of work that names the input's event. -/
theorem onlyInputsChangeInputs : Obligations.OnlyInputsChangeInputs := by
  intro c s u h hp
  have valves (l : LineId) : (∀ t a, c ≠ .closedLimitSwitch t l a) → (u.valve l).closedSwitch = (s.valve l).closedSwitch := by
    intro hc
    refine exec_leaves (P := fun v => (v.valve l).closedSwitch = (s.valve l).closedSwitch) hp
      (fun v w hvw hv => by rw [hvw.valve]; exact hv) (fun x y hx hxy => ?_) h rfl
    rcases (hxy.valveMove l).inputs.1 with hy | ⟨t, a, hy⟩
    · exact hy.trans hx
    · exact absurd hy (hc t a)
  refine ⟨valves, fun l hc => ?_, fun l hc => ?_, fun l hc => ?_, fun l hc hc' => ?_, fun l hc => ?_, fun hc => ?_,
    fun h1 h2 h3 => ?_⟩
  · refine exec_leaves (P := fun v => (v.valve l).openSwitch = (s.valve l).openSwitch) hp
      (fun v w hvw hv => by rw [hvw.valve]; exact hv) (fun x y hx hxy => ?_) h rfl
    rcases (hxy.valveMove l).inputs.2.1 with hy | ⟨t, a, hy⟩
    · exact hy.trans hx
    · exact absurd hy (hc t a)
  · refine exec_leaves (P := fun v => (v.valve l).sample = (s.valve l).sample) hp
      (fun v w hvw hv => by rw [hvw.valve]; exact hv) (fun x y hx hxy => ?_) h rfl
    rcases (hxy.valveMove l).inputs.2.2 with hy | ⟨t, a, hy⟩
    · exact hy.trans hx
    · exact absurd hy (hc t a)
  · refine exec_leaves (P := fun v => (v.flow l).rate = (s.flow l).rate ∧ (v.flow l).lastPulses = (s.flow l).lastPulses ∧
        (v.flow l).prevRate = (s.flow l).prevRate) hp
      (fun v w hvw hv => by rw [hvw.flow]; exact hv) (fun x y hx hxy => ?_) h ⟨rfl, rfl, rfl⟩
    rcases (hxy.meter_cases l).1 with ⟨t, hy⟩ | ⟨hr, hl, hv⟩
    · exact absurd hy (hc t)
    · exact ⟨hr.trans hx.1, hl.trans hx.2.1, hv.trans hx.2.2⟩
  · refine exec_leaves (P := fun v => (v.flow l).gatePulses = (s.flow l).gatePulses) hp
      (fun v w hvw hv => by rw [hvw.flow]; exact hv) (fun x y hx hxy => ?_) h rfl
    rcases (hxy.meter_cases l).2.1 with ⟨t, hy⟩ | ⟨t, hy⟩ | hy
    · exact absurd hy (hc t)
    · exact absurd hy (hc' t)
    · exact hy.trans hx
  · refine exec_leaves (P := fun v => (v.flow l).pressure = (s.flow l).pressure ∧
        (v.flow l).pressureFault = (s.flow l).pressureFault) hp
      (fun v w hvw hv => by rw [hvw.flow]; exact hv) (fun x y hx hxy => ?_) h ⟨rfl, rfl⟩
    rcases (hxy.meter_cases l).2.2 with ⟨t, a, hy⟩ | ⟨hr, hf⟩
    · exact absurd hy (hc t a)
    · exact ⟨hr.trans hx.1, hf.trans hx.2⟩
  · refine exec_leaves (P := fun v => v.supply.pressure = s.supply.pressure ∧ v.supply.fault = s.supply.fault) hp
      (fun v w hvw hv => by rw [hvw.supply]; exact hv) (fun x y hx hxy => ?_) h ⟨rfl, rfl⟩
    rcases hxy.supply_cases.2 with ⟨hr, hf⟩ | ⟨t, a, hy⟩
    · exact ⟨hr.trans hx.1, hf.trans hx.2⟩
    · exact absurd hy (hc t a)
  · refine exec_leaves (P := fun v => v.shut.loop = s.shut.loop) hp
      (fun v w hvw hv => by rw [hvw.shut]; exact hv) (fun x y hx hxy => ?_) h rfl
    rcases hxy.shut_cases.2.1 with hy | ⟨t, hy⟩ | ⟨t, hy⟩ | ⟨t, hy⟩
    · exact hy.trans hx
    · exact absurd hy (h1 t)
    · exact absurd hy (h2 t)
    · exact absurd hy (h3 t)

/-! ### Channels -/

theorem State.channelsSound_congr {x y : State} (hst : ∀ l, (y.valve l).stroke.isSome = (x.valve l).stroke.isSome)
    (h1 : y.chan1.holder = x.chan1.holder) (h2 : y.chan2.holder = x.chan2.holder) (h : x.channelsSound) :
    y.channelsSound := by
  intro l
  rw [hst l, h1, h2]
  exact h l

/-- Freeing the channel of a line whose stroke has ended. -/
theorem Ev.release_channelsSound (e : Ev) (l : LineId) (h : e.channelsSound) :
    ((e.modValve l (fun v => { v with stroke := none, followOn := none })).freeChannel l).channelsSound := by
  intro m
  have h1 : ((e.modValve l (fun v => { v with stroke := none, followOn := none })).freeChannel l).chan1.holder =
      if e.chan1.holder = some l then none else e.chan1.holder := by
    change (if e.chan1.holder = some l then _ else _ : Channel).holder = _
    split <;> rfl
  have h2 : ((e.modValve l (fun v => { v with stroke := none, followOn := none })).freeChannel l).chan2.holder =
      if e.chan2.holder = some l then none else e.chan2.holder := by
    change (if e.chan2.holder = some l then _ else _ : Channel).holder = _
    split <;> rfl
  have hm := h m
  rw [h1, h2, Ev.freeChannel_valve]
  by_cases hml : m = l
  · subst hml
    rw [Ev.modValve_valve]
    constructor
    · constructor
      · intro hc; cases hc
      · rintro (hc | hc) <;> split at hc <;> simp_all
    · rintro ⟨hc, -⟩; split at hc <;> simp_all
  · rw [Ev.modValve_valve_ne _ _ hml]
    have drop (x : Option LineId) : (if x = some l then none else x) = some m ↔ x = some m := by
      constructor
      · intro hx; split at hx
        · cases hx
        · exact hx
      · intro hx; rw [if_neg (by rw [hx]; simpa using hml), hx]
    rw [drop, drop]
    exact hm

/-- Granting a free channel to a line without a stroke. -/
theorem Ev.grant_channelsSound (e : Ev) (l : LineId) (r : StrokeReq) (k : Stroke) (ch : ChanId)
    (hnone : (e.valve l).stroke = none) (hfree : (e.chan ch).holder = none) (h : e.channelsSound) :
    ((e.modValve l (fun v => { v with pending := none, commanded := r.target, stroke := some k })).modChan ch
      (fun x => { x with holder := some l })).channelsSound := by
  obtain ⟨hl, -⟩ := h l
  have hout : e.chan1.holder ≠ some l ∧ e.chan2.holder ≠ some l := by
    have := hl.not.mp (by simp [hnone])
    tauto
  intro m
  have hm := h m
  have hvalve : (((e.modValve l (fun v => { v with pending := none, commanded := r.target, stroke := some k })).modChan ch
      (fun x => { x with holder := some l })).valve m).stroke.isSome = if m = l then true else (e.valve m).stroke.isSome := by
    rw [State.valve, Ev.modChan_valves, Ev.modValve_valves, Quad.get_set]
    split <;> rfl
  rw [hvalve]
  cases ch with
  | c1 =>
    change e.chan1.holder = none at hfree
    simp only [Ev.modChan, Ev.modValve]
    by_cases hml : m = l
    · subst hml; simp [hout.2]
    · rw [hfree] at hm; simpa [hml, Ne.symm hml] using hm
  | c2 =>
    change e.chan2.holder = none at hfree
    simp only [Ev.modChan, Ev.modValve]
    by_cases hml : m = l
    · subst hml; simp [hout.1]
    · rw [hfree] at hm; simpa [hml, Ne.symm hml] using hm

/-- A change of one valve that leaves its stroke in being keeps the channels as they are. -/
theorem Ev.modValve_channelsSound (e : Ev) (l : LineId) (f : Valve → Valve)
    (hf : (f (e.valve l)).stroke.isSome = (e.valve l).stroke.isSome) (h : e.channelsSound) :
    (e.modValve l f).channelsSound := by
  refine State.channelsSound_congr (x := e.toState) (fun m => ?_) rfl rfl h
  by_cases hm : m = l
  · subst hm; rw [Ev.modValve_valve]; exact hf
  · rw [Ev.modValve_valve_ne _ _ hm]

theorem Work.keeps_channelsSound (h : Work c s false e e') (h1 : e.oneStroke) (hc : e.channelsSound) :
    e'.channelsSound := by
  have same (hv : e'.valves = e.valves) (hd : e'.chan1 = e.chan1 ∧ e'.chan2 = e.chan2) : e'.channelsSound :=
    State.channelsSound_congr (fun l => by rw [State.valve, State.valve, hv]) (by rw [hd.1]) (by rw [hd.2]) hc
  cases h with
  | tend hcore hdirty hv =>
    exact State.channelsSound_congr (fun l => (hv l).isSome) (congrArg Core.holder1 hcore) (congrArg Core.holder2 hcore) hc
  | input m f hcommanded hpending hstroke => exact Ev.modValve_channelsSound e m f (by rw [hstroke]) hc
  | release m => exact Ev.release_channelsSound e m hc
  | grant m r k ch hpending hk hfree =>
    have hnone : (e.valve m).stroke = none := by
      by_contra hs
      rw [h1 m (Option.isSome_iff_ne_none.mpr hs)] at hpending
      cases hpending
    exact Ev.grant_channelsSound e m r k ch hnone hfree hc
  | unqueue m | unfollow m | enqueue m | follow m | atOnce m => exact Ev.modValve_channelsSound e m _ rfl hc
  | profile m p =>
    obtain ⟨-, -, hst, -⟩ := (e.valve m).profiled_spec (e.line m).profile p
    exact State.channelsSound_congr (x := (e.modValve m (fun v => v.profiled (e.line m).profile p)).toState)
      (fun _ => rfl) rfl rfl (Ev.modValve_channelsSound e m _ (by rw [hst]) hc)
  | closeEntry m r hold cause coarse => cases coarse
  | raise x coarse => cases coarse
  | setState m st => 
    obtain ⟨x, hx, -⟩ := Ev.setState_core e m st
    exact State.channelsSound_congr (fun l => by rw [State.valve, State.valve, Ev.setState_valves])
      (congrArg Core.holder1 hx) (congrArg Core.holder2 hx) hc
  | permit p => exact same (by simp [Ev.evalPermit]) (by simp [Ev.evalPermit])
  | reset => exact same (by simp [Ev.resetLatch, Ev.evalPermit]) (by simp [Ev.resetLatch, Ev.evalPermit])
  | emptyQueue => exact same rfl ⟨rfl, rfl⟩
  | _ => exact same (by simp) (by simp)

theorem exec_channelsSound (h : exec c s = .next u) (h1 : s.oneStroke) (hs : s.channelsSound) : u.channelsSound := by
  refine (exec_keeps (P := fun w => w.oneStroke ∧ w.channelsSound) false (fun i hi w hw => ?_) (fun _ h => h)
    (fun x y hx hxy => ⟨fun l => (hxy.valveMove l).oneStroke h1 (hx.1 l), hxy.keeps_channelsSound hx.1 hx.2⟩)
    (fun x hx => ?_) h ⟨h1, hs⟩).2
  · subst hi
    refine ⟨fun l _ => (powerOn_valve hw l).1, fun l => ?_⟩
    cases hw; cases l <;> exact ⟨⟨nofun, nofun⟩, nofun⟩
  · have hb := Ev.closing_sameBlocks x
    refine ⟨fun l => by rw [hb.valve]; exact hx.1 l, ?_⟩
    exact State.channelsSound_congr (fun l => by rw [hb.valve]) (by rw [hb.chans.1]) (by rw [hb.chans.2]) hx.2

/-! ### Announcements -/

theorem Ev.mem_mark (e : Ev) (k : NoticeKey) : k ∈ (e.mark k).dirty := by
  unfold Ev.mark
  split
  · assumption
  · simp

theorem Ev.markIf_dirty_subset (e : Ev) (b : Bool) (k : NoticeKey) : e.dirty ⊆ (e.markIf b k).dirty := by
  cases b
  · exact List.Subset.refl _
  · exact Ev.mark_dirty_subset e k

theorem Ev.evalPermit_dirty_subset (e : Ev) (p : PumpId) : e.dirty ⊆ (e.evalPermit p).dirty :=
  Ev.markIf_dirty_subset (e.modShut (fun x => x.setPermit p (e.permitDue p))) _ .esd

theorem Ev.evalPermitOf_dirty_subset (e : Ev) (l : LineId) : e.dirty ⊆ (e.evalPermitOf l).dirty := by
  rcases Ev.evalPermitOf_cases e l with h | ⟨p, h⟩
  · rw [h]; exact List.Subset.refl _
  · rw [h]; exact Ev.evalPermit_dirty_subset e p

/-- A piece of work that changes a line's state notes the line's notice. -/
theorem Work.announces (h : Work c s false e e') (l : LineId) :
    e.dirty ⊆ e'.dirty ∧ ((e'.line l).state = (e.line l).state ∨ .line l ∈ e'.dirty) := by
  have same (hs : e'.core.states = e.core.states) (hd : e.dirty ⊆ e'.dirty) :
      e.dirty ⊆ e'.dirty ∧ ((e'.line l).state = (e.line l).state ∨ .line l ∈ e'.dirty) := ⟨hd, .inl (congrFun hs l)⟩
  cases h with
  | tend hcore hdirty => exact same (congrArg Core.states hcore) hdirty
  | setState m st =>
    have hsub := Ev.evalPermitOf_dirty_subset ((e.modLine m (fun y => { y with state := st })).mark (.line m)) m
    refine ⟨List.Subset.trans (Ev.mark_dirty_subset (e.modLine m (fun y => { y with state := st })) (.line m)) hsub, ?_⟩
    by_cases hm : l = m
    · subst hm; exact .inr (hsub (Ev.mem_mark _ _))
    · obtain ⟨x, hx, -⟩ := Ev.setState_core e m st
      have hst := congrFun (congrArg Core.states hx) l
      simp only [hm, if_false] at hst
      exact .inl hst
  | closing m f =>
    refine ⟨Ev.mark_dirty_subset (e.modLine m f) (.line m), ?_⟩
    by_cases hm : l = m
    · subst hm; exact .inr (Ev.mem_mark _ _)
    · left; simp [State.line, Quad.get_set, hm]
  | permit p => exact same (congrArg Core.states (Ev.evalPermit_core e p) :) (Ev.evalPermit_dirty_subset e p)
  | reset =>
    obtain ⟨x, hx, -⟩ := Ev.resetLatch_core e
    refine same (congrArg Core.states hx :) ?_
    let e1 := e.modShut (fun x => { x with causes := noCauses, valveList := [] })
    exact List.Subset.trans (Ev.evalPermit_dirty_subset e1 .p1)
      (List.Subset.trans (Ev.evalPermit_dirty_subset (e1.evalPermit .p1) .p2) (Ev.mark_dirty_subset _ .esd))
  | closeEntry m r hold cause coarse => cases coarse
  | raise x coarse => cases coarse
  | trip m r => exact same (funext fun n => by simp only [State.core, Ev.modLine_lines, Quad.get_set]; split <;> simp_all) (by simp)
  | profile m p =>
    exact same (funext fun n => by simp only [State.core, Ev.modLine_lines, Quad.get_set]; split <;> simp_all) (by simp)
  | release m => exact same rfl (List.Subset.refl _)
  | emptyQueue => exact same rfl (List.Subset.refl _)
  | _ => exact same (by simp [State.core]) (by simp)

/-- Settles O21: a piece of work that changes a line's state notes its notice, which is queued at the end of the event. -/
theorem lineStateChangesAreAnnounced : Obligations.LineStateChangesAreAnnounced := by
  intro c s u l h hp hne
  obtain ⟨t, e, hw, rfl⟩ := exec_works false hp h
  have hP : (e.line l).state = (s.line l).state ∨ .line l ∈ e.dirty := by
    refine hw.keeps (P := fun x => (x.line l).state = (s.line l).state ∨ .line l ∈ x.dirty) (fun x y hx hxy => ?_) (.inl rfl)
    obtain ⟨hsub, hy⟩ := hxy.announces l
    rcases hx with hx | hx
    · exact hy.imp (·.trans hx) id
    · exact .inr (hsub hx)
  refine announced_of_dirty e _ (hP.resolve_left fun hst => hne ?_)
  rw [(Ev.closing_sameBlocks e).line]
  exact hst

end Sys2Proof.Machine
end

section
/-! What the Stroke Arbiter leaves alone, and the facts of a close entry and of a raised cause that later proofs use. -/

namespace Sys2Proof.Machine
variable {e e' e'' : Ev} {l m : LineId}

/-! ### The arbiter works on the valves, the channels and the pump -/

/-- `e'` differs from `e` in the valves, the channels, the charge pump and new reports alone. -/
def Ev.StrokesOnly (e e' : Ev) : Prop := ∃ vs c1 c2 pump rs,
  e' = { e with valves := vs, chan1 := c1, chan2 := c2, supply := { e.supply with pump := pump }, reports := e.reports ++ rs }

theorem Ev.StrokesOnly.refl (e : Ev) : e.StrokesOnly e :=
  ⟨e.valves, e.chan1, e.chan2, e.supply.pump, [], by rw [List.append_nil]⟩

theorem Ev.StrokesOnly.trans (h : e.StrokesOnly e') (h' : e'.StrokesOnly e'') : e.StrokesOnly e'' := by
  obtain ⟨vs, c1, c2, pump, rs, rfl⟩ := h
  obtain ⟨vs', c1', c2', pump', rs', rfl⟩ := h'
  exact ⟨vs', c1', c2', pump', rs ++ rs', by simp⟩

theorem Ev.StrokesOnly.lines (h : e.StrokesOnly e') : e'.lines = e.lines := by obtain ⟨_, _, _, _, _, rfl⟩ := h; rfl
theorem Ev.StrokesOnly.lists (h : e.StrokesOnly e') : e'.lists = e.lists := by obtain ⟨_, _, _, _, _, rfl⟩ := h; rfl
theorem Ev.StrokesOnly.tanks (h : e.StrokesOnly e') : e'.tanks = e.tanks := by obtain ⟨_, _, _, _, _, rfl⟩ := h; rfl
theorem Ev.StrokesOnly.preds (h : e.StrokesOnly e') : e'.preds = e.preds := by obtain ⟨_, _, _, _, _, rfl⟩ := h; rfl
theorem Ev.StrokesOnly.closes (h : e.StrokesOnly e') : e'.closes = e.closes := by obtain ⟨_, _, _, _, _, rfl⟩ := h; rfl
theorem Ev.StrokesOnly.flows (h : e.StrokesOnly e') : e'.flows = e.flows := by obtain ⟨_, _, _, _, _, rfl⟩ := h; rfl
theorem Ev.StrokesOnly.shut (h : e.StrokesOnly e') : e'.shut = e.shut := by obtain ⟨_, _, _, _, _, rfl⟩ := h; rfl
theorem Ev.StrokesOnly.link (h : e.StrokesOnly e') : e'.link = e.link := by obtain ⟨_, _, _, _, _, rfl⟩ := h; rfl
theorem Ev.StrokesOnly.grades (h : e.StrokesOnly e') : e'.grades = e.grades := by obtain ⟨_, _, _, _, _, rfl⟩ := h; rfl
theorem Ev.StrokesOnly.now (h : e.StrokesOnly e') : e'.now = e.now := by obtain ⟨_, _, _, _, _, rfl⟩ := h; rfl
theorem Ev.StrokesOnly.dirty (h : e.StrokesOnly e') : e'.dirty = e.dirty := by obtain ⟨_, _, _, _, _, rfl⟩ := h; rfl
theorem Ev.StrokesOnly.undecided (h : e.StrokesOnly e') : e'.undecided = e.undecided := by
  obtain ⟨_, _, _, _, _, rfl⟩ := h; rfl
theorem Ev.StrokesOnly.line (h : e.StrokesOnly e') (l : LineId) : e'.line l = e.line l := by rw [State.line, State.line, h.lines]
theorem Ev.StrokesOnly.close (h : e.StrokesOnly e') (l : LineId) : e'.close l = e.close l := by
  rw [State.close, State.close, h.closes]
theorem Ev.StrokesOnly.flowing (h : e.StrokesOnly e') (l : LineId) : e'.flowing l = e.flowing l := by
  rw [State.flowing, State.flowing, h.line]
theorem Ev.StrokesOnly.latch (h : e.StrokesOnly e') : e'.latch = e.latch := by rw [State.latch, State.latch, h.shut]
theorem Ev.StrokesOnly.profile (h : e.StrokesOnly e') (l : LineId) : e'.profile l = e.profile l := by
  rw [State.profile, State.profile, h.line]

theorem Ev.modValve_strokesOnly (e : Ev) (l : LineId) (f : Valve → Valve) : e.StrokesOnly (e.modValve l f) :=
  ⟨_, e.chan1, e.chan2, e.supply.pump, [], by rw [List.append_nil]; rfl⟩
theorem Ev.report_strokesOnly (e : Ev) (r : Report) : e.StrokesOnly (e.report r) :=
  ⟨e.valves, e.chan1, e.chan2, e.supply.pump, [r], rfl⟩
theorem Ev.updatePump_strokesOnly (e : Ev) : e.StrokesOnly e.updatePump :=
  ⟨e.valves, e.chan1, e.chan2, _, [], by rw [List.append_nil]; rfl⟩
theorem Ev.modChan_strokesOnly (e : Ev) (c : ChanId) (f : Channel → Channel) : e.StrokesOnly (e.modChan c f) := by
  cases c
  · exact ⟨e.valves, _, e.chan2, e.supply.pump, [], by rw [List.append_nil]; rfl⟩
  · exact ⟨e.valves, e.chan1, _, e.supply.pump, [], by rw [List.append_nil]; rfl⟩
theorem Ev.freeChannel_strokesOnly (e : Ev) (l : LineId) : e.StrokesOnly (e.freeChannel l) :=
  ⟨e.valves, _, _, _, [], by rw [List.append_nil]; rfl⟩

theorem Ev.grant_strokesOnly (e : Ev) (l : LineId) (r : StrokeReq) (c : ChanId) : e.StrokesOnly (e.grant l r c) := by
  unfold Ev.grant
  dsimp only
  split
  · exact ((((Ev.modValve_strokesOnly _ _ _).trans (Ev.modValve_strokesOnly _ _ _)).trans (Ev.report_strokesOnly _ _)).trans
      (Ev.report_strokesOnly _ _)).trans (Ev.updatePump_strokesOnly _)
  · exact ((Ev.modValve_strokesOnly _ _ _).trans (Ev.modValve_strokesOnly _ _ _)).trans (Ev.modChan_strokesOnly _ _ _)

theorem Ev.grantUpTo_strokesOnly (n : Nat) (e : Ev) : e.StrokesOnly (e.grantUpTo n) := by
  induction n generalizing e with
  | zero => exact .refl e
  | succ n ih =>
    unfold Ev.grantUpTo
    split
    · exact .refl e
    · split
      · exact .refl e
      · exact (Ev.grant_strokesOnly e _ _ _).trans (ih _)

theorem Ev.considerGrants_strokesOnly (e : Ev) : e.StrokesOnly e.considerGrants := Ev.grantUpTo_strokesOnly 4 e

theorem Ev.endStroke_strokesOnly (e : Ev) (l : LineId) (o : StrokeOutcome) : e.StrokesOnly (e.endStroke l o) :=
  (Ev.modValve_strokesOnly e l _).trans (Ev.freeChannel_strokesOnly _ l)

theorem Ev.dropWork_strokesOnly (e : Ev) (l : LineId) : e.StrokesOnly (e.dropWork l) := by
  have drop : e.StrokesOnly (match (e.valve l).pending with
      | some r => if r.cls = .close then e else e.modValve l (fun v => { v with pending := none })
      | none => e) := by
    split
    · split
      · exact .refl e
      · exact Ev.modValve_strokesOnly e l _
    · exact .refl e
  unfold Ev.dropWork
  dsimp only
  split
  · split
    · exact drop
    · exact drop.trans (Ev.endStroke_strokesOnly _ l _)
  · exact drop

theorem Ev.cancelWork_strokesOnly (e : Ev) (l : LineId) : e.StrokesOnly (e.cancelWork l) :=
  (Ev.dropWork_strokesOnly e l).trans (Ev.considerGrants_strokesOnly _)

theorem Ev.eachLine_strokesOnly (f : LineId → Ev → Ev) (hf : ∀ l x, Ev.StrokesOnly x (f l x)) (e : Ev) :
    e.StrokesOnly (e.eachLine f) :=
  (((hf .a e).trans (hf .b _)).trans (hf .c _)).trans (hf .d _)

theorem Ev.cancelAllWork_strokesOnly (e : Ev) : e.StrokesOnly e.cancelAllWork :=
  (Ev.eachLine_strokesOnly _ (fun l x => Ev.dropWork_strokesOnly x l) e).trans (Ev.considerGrants_strokesOnly _)

theorem Ev.enqueue_strokesOnly (e : Ev) (l : LineId) (r : StrokeReq) : e.StrokesOnly (e.enqueue l r) :=
  (Ev.modValve_strokesOnly e l _).trans (Ev.considerGrants_strokesOnly _)

theorem Ev.requestStroke_strokesOnly (e : Ev) (l : LineId) (cls : StrokeClass) (target : Nat) (retry : Bool) :
    e.StrokesOnly (e.requestStroke l cls target retry) := by
  unfold Ev.requestStroke
  dsimp only
  split
  · split
    · exact .refl e
    · split
      · exact (Ev.endStroke_strokesOnly e l _).trans (Ev.enqueue_strokesOnly _ l _)
      · exact Ev.modValve_strokesOnly e l _
  · split
    · exact .refl e
    · exact Ev.enqueue_strokesOnly e l _
  · exact Ev.enqueue_strokesOnly e l _

theorem Ev.failStroke_strokesOnly (e : Ev) (l : LineId) (o : StrokeOutcome) : e.StrokesOnly (e.failStroke l o) := by
  unfold Ev.failStroke
  split
  · exact ((Ev.endStroke_strokesOnly e l o).trans (Ev.report_strokesOnly _ _)).trans (Ev.considerGrants_strokesOnly _)
  · exact .refl e

theorem Ev.arrive_strokesOnly (e : Ev) (l : LineId) (k : Stroke) (target : Nat) : e.StrokesOnly (e.arrive l k target) :=
  (Ev.modValve_strokesOnly e l _).trans (Ev.report_strokesOnly _ _)

/-! ### The entry into a close -/

/-- The close entry up to the cancelling of the line's work: the trip record, the end of a changeover, the line's record in CLOSING
and the fresh close record (R17, R74). -/
def Ev.closeBegun (e : Ev) (l : LineId) (reason : CloseReason) (hold : Option HoldReason) (cause : Option TripCause) : Ev :=
  let e1 := match cause with
    | some c => e.writeTrip l c
    | none => e
  let e2 := if (e.line l).state = .changeover then e1.changeoverExit l reason else e1
  let e3 := (e2.modLine l (fun x =>
    { x with
      state := .closing, closeReason := some reason, holdReason := hold, tankEnd := none, throttle := 0,
      provingStart := none, changeoverStart := none })).mark (.line l)
  let e4 := (e3.clearPred l).modFlow l (fun x =>
    { x with
      rateCount := 0, pressCount := 0, overCount := if reason = .trip ∨ reason = .esd then 0 else x.overCount })
  e4.setClose l (some (CloseRec.fresh e.now))

theorem Ev.closeEntry_eq (e : Ev) (l : LineId) (reason : CloseReason) (hold : Option HoldReason) (cause : Option TripCause) :
    e.closeEntry l reason hold cause =
      { (((e.closeBegun l reason hold cause).cancelWork l).evalPermitOf l) with
        undecided := (((e.closeBegun l reason hold cause).cancelWork l).evalPermitOf l).undecided ++ [l] } := rfl

/-- `e'` differs from `e` in the records of lines, tanks and flows, the predictors, the close records and the noted notices alone. -/
def Ev.RecordsOnly (e e' : Ev) : Prop := ∃ ls ts ps cs fs ds,
  e' = { e with lines := ls, tanks := ts, preds := ps, closes := cs, flows := fs, dirty := ds }

theorem Ev.RecordsOnly.refl (e : Ev) : e.RecordsOnly e := ⟨e.lines, e.tanks, e.preds, e.closes, e.flows, e.dirty, rfl⟩

theorem Ev.RecordsOnly.trans (h : e.RecordsOnly e') (h' : e'.RecordsOnly e'') : e.RecordsOnly e'' := by
  obtain ⟨_, _, _, _, _, _, rfl⟩ := h
  obtain ⟨ls, ts, ps, cs, fs, ds, rfl⟩ := h'
  exact ⟨ls, ts, ps, cs, fs, ds, rfl⟩

theorem Ev.RecordsOnly.valves (h : e.RecordsOnly e') : e'.valves = e.valves := by obtain ⟨_, _, _, _, _, _, rfl⟩ := h; rfl
theorem Ev.RecordsOnly.chans (h : e.RecordsOnly e') : e'.chan1 = e.chan1 ∧ e'.chan2 = e.chan2 := by
  obtain ⟨_, _, _, _, _, _, rfl⟩ := h; exact ⟨rfl, rfl⟩
theorem Ev.RecordsOnly.supply (h : e.RecordsOnly e') : e'.supply = e.supply := by obtain ⟨_, _, _, _, _, _, rfl⟩ := h; rfl
theorem Ev.RecordsOnly.shut (h : e.RecordsOnly e') : e'.shut = e.shut := by obtain ⟨_, _, _, _, _, _, rfl⟩ := h; rfl
theorem Ev.RecordsOnly.lists (h : e.RecordsOnly e') : e'.lists = e.lists := by obtain ⟨_, _, _, _, _, _, rfl⟩ := h; rfl
theorem Ev.RecordsOnly.reports (h : e.RecordsOnly e') : e'.reports = e.reports := by
  obtain ⟨_, _, _, _, _, _, rfl⟩ := h; rfl
theorem Ev.RecordsOnly.undecided (h : e.RecordsOnly e') : e'.undecided = e.undecided := by
  obtain ⟨_, _, _, _, _, _, rfl⟩ := h; rfl
theorem Ev.RecordsOnly.link (h : e.RecordsOnly e') : e'.link = e.link := by obtain ⟨_, _, _, _, _, _, rfl⟩ := h; rfl
theorem Ev.RecordsOnly.grades (h : e.RecordsOnly e') : e'.grades = e.grades := by obtain ⟨_, _, _, _, _, _, rfl⟩ := h; rfl
theorem Ev.RecordsOnly.now (h : e.RecordsOnly e') : e'.now = e.now := by obtain ⟨_, _, _, _, _, _, rfl⟩ := h; rfl
theorem Ev.RecordsOnly.valve (h : e.RecordsOnly e') (l : LineId) : e'.valve l = e.valve l := by
  rw [State.valve, State.valve, h.valves]

theorem Ev.modLine_recordsOnly (e : Ev) (l : LineId) (f : LineRec → LineRec) : e.RecordsOnly (e.modLine l f) :=
  ⟨_, e.tanks, e.preds, e.closes, e.flows, e.dirty, rfl⟩
theorem Ev.modTank_recordsOnly (e : Ev) (k : TankId) (f : Tank → Tank) : e.RecordsOnly (e.modTank k f) :=
  ⟨e.lines, _, e.preds, e.closes, e.flows, e.dirty, rfl⟩
theorem Ev.modPred_recordsOnly (e : Ev) (l : LineId) (f : Predictor → Predictor) : e.RecordsOnly (e.modPred l f) :=
  ⟨e.lines, e.tanks, _, e.closes, e.flows, e.dirty, rfl⟩
theorem Ev.setClose_recordsOnly (e : Ev) (l : LineId) (x : Option CloseRec) : e.RecordsOnly (e.setClose l x) :=
  ⟨e.lines, e.tanks, e.preds, _, e.flows, e.dirty, rfl⟩
theorem Ev.modClose_recordsOnly (e : Ev) (l : LineId) (f : CloseRec → CloseRec) : e.RecordsOnly (e.modClose l f) :=
  ⟨e.lines, e.tanks, e.preds, _, e.flows, e.dirty, rfl⟩
theorem Ev.modFlow_recordsOnly (e : Ev) (l : LineId) (f : Flow → Flow) : e.RecordsOnly (e.modFlow l f) :=
  ⟨e.lines, e.tanks, e.preds, e.closes, _, e.dirty, rfl⟩
theorem Ev.mark_recordsOnly (e : Ev) (k : NoticeKey) : e.RecordsOnly (e.mark k) := by
  unfold Ev.mark
  split
  · exact .refl e
  · exact ⟨e.lines, e.tanks, e.preds, e.closes, e.flows, _, rfl⟩
theorem Ev.markIf_recordsOnly (e : Ev) (b : Bool) (k : NoticeKey) : e.RecordsOnly (e.markIf b k) := by
  cases b
  · exact .refl e
  · exact Ev.mark_recordsOnly e k
theorem Ev.setUse_recordsOnly (e : Ev) (k : TankId) (u : TankUse) : e.RecordsOnly (e.setUse k u) :=
  (Ev.modTank_recordsOnly e k _).trans (Ev.markIf_recordsOnly _ _ _)
theorem Ev.setLate_recordsOnly (e : Ev) (l : LineId) (b : Bool) : e.RecordsOnly (e.setLate l b) :=
  (Ev.modLine_recordsOnly e l _).trans (Ev.markIf_recordsOnly _ _ _)
theorem Ev.setSurge_recordsOnly (e : Ev) (l : LineId) (b : Bool) : e.RecordsOnly (e.setSurge l b) :=
  (Ev.modLine_recordsOnly e l _).trans (Ev.markIf_recordsOnly _ _ _)

theorem Ev.writeTrip_recordsOnly (e : Ev) (l : LineId) (c : TripCause) : e.RecordsOnly (e.writeTrip l c) :=
  (Ev.modLine_recordsOnly e l _).trans (Ev.mark_recordsOnly _ _)

theorem Ev.changeoverExit_recordsOnly (e : Ev) (l : LineId) (reason : CloseReason) :
    e.RecordsOnly (e.changeoverExit l reason) := by
  have credit : e.RecordsOnly (match e.activeTank l with
      | some k => e.credit k (e.line l).pendingVol
      | none => e) := by
    split
    · exact Ev.modTank_recordsOnly e _ _
    · exact .refl e
  have h2 := (credit.trans (Ev.modLine_recordsOnly _ l (fun x => { x with pendingVol := 0, changeoverStart := none }))).trans
    (Ev.modFlow_recordsOnly _ l (fun x => { x with watchIncoming := none }))
  unfold Ev.changeoverExit
  dsimp only
  split
  · split
    · exact (h2.trans (Ev.modTank_recordsOnly _ _ _)).trans (Ev.setUse_recordsOnly _ _ _)
    · exact h2.trans (Ev.modTank_recordsOnly _ _ _)
  · exact h2

theorem Ev.closeBegun_recordsOnly (e : Ev) (l : LineId) (reason : CloseReason) (hold : Option HoldReason)
    (cause : Option TripCause) : e.RecordsOnly (e.closeBegun l reason hold cause) := by
  have finish (x : Ev) (h : e.RecordsOnly x) : e.RecordsOnly ((((x.modLine l (fun y =>
      { y with
        state := .closing, closeReason := some reason, holdReason := hold, tankEnd := none, throttle := 0,
        provingStart := none, changeoverStart := none })).mark (.line l)).clearPred l).modFlow l (fun x =>
      { x with
        rateCount := 0, pressCount := 0, overCount := if reason = .trip ∨ reason = .esd then 0 else x.overCount }) |>.setClose l
        (some (CloseRec.fresh e.now))) :=
    ((((h.trans (Ev.modLine_recordsOnly x l _)).trans (Ev.mark_recordsOnly _ _)).trans (Ev.modPred_recordsOnly _ l _)).trans
      (Ev.modFlow_recordsOnly _ l _)).trans (Ev.setClose_recordsOnly _ l _)
  have exit (x : Ev) (h : e.RecordsOnly x) : e.RecordsOnly (if (e.line l).state = .changeover then x.changeoverExit l reason
      else x) := by
    split
    · exact h.trans (Ev.changeoverExit_recordsOnly x l reason)
    · exact h
  cases cause with
  | none => exact finish _ (exit e (.refl e))
  | some c => exact finish _ (exit _ (Ev.writeTrip_recordsOnly e l c))

/-- The line's record once its close has begun (R17 to R19, R51). -/
structure LineRec.Closed (x y : LineRec) (reason : CloseReason) (hold : Option HoldReason) (cause : Option TripCause) : Prop where
  state : y.state = .closing
  closeReason : y.closeReason = some reason
  holdReason : y.holdReason = hold
  throttle : y.throttle = 0
  pendingVol : y.pendingVol = if x.state = .changeover then 0 else x.pendingVol
  trip : y.trip.map (fun r => r.cause) = (cause <|> x.trip.map (fun r => r.cause))
  kept : y.profile = x.profile ∧ y.fedSet = x.fedSet ∧ y.delivered = x.delivered ∧ y.baseline = x.baseline ∧ y.late = x.late ∧
    y.surgeLimited = x.surgeLimited ∧ y.quietPending = x.quietPending

theorem Ev.writeTrip_lines (e : Ev) (l : LineId) (c : TripCause) : ∃ r : TripRecord, r.cause = c ∧
    (e.writeTrip l c).lines = e.lines.set l { e.line l with trip := some r } :=
  ⟨_, rfl, Ev.mark_lines _ _⟩

theorem Ev.setUse_lines (e : Ev) (k : TankId) (u : TankUse) : (e.setUse k u).lines = e.lines := by simp [Ev.setUse]

theorem Ev.changeoverExit_lines (e : Ev) (l : LineId) (reason : CloseReason) : (e.changeoverExit l reason).lines =
    e.lines.set l { e.line l with pendingVol := 0, changeoverStart := none } := by
  unfold Ev.changeoverExit
  cases e.activeTank l <;> cases e.incomingTank l
  all_goals dsimp only
  all_goals (try split)
  all_goals simp [Ev.setUse_lines, Ev.credit, State.line]

/-- The record of a closing line keeps what the trip record and the changeover's end leave of it. -/
theorem LineRec.closed_of (x : LineRec) (trip : Option TripRecord) (start : Option Time) (reason : CloseReason)
    (hold : Option HoldReason) (cause : Option TripCause) (volume : Nat)
    (ht : trip.map (fun r => r.cause) = (cause <|> x.trip.map (fun r => r.cause)))
    (hv : volume = if x.state = .changeover then 0 else x.pendingVol) :
    x.Closed { x with
      state := .closing, closeReason := some reason, holdReason := hold, tankEnd := none, throttle := 0, provingStart := none,
      changeoverStart := start, pendingVol := volume, trip := trip } reason hold cause :=
  ⟨rfl, rfl, rfl, rfl, hv, ht, rfl, rfl, rfl, rfl, rfl, rfl, rfl⟩

theorem Ev.closeBegun_line (e : Ev) (l : LineId) (reason : CloseReason) (hold : Option HoldReason) (cause : Option TripCause) :
    (e.line l).Closed ((e.closeBegun l reason hold cause).line l) reason hold cause := by
  unfold Ev.closeBegun
  cases cause with
  | none =>
    dsimp only
    by_cases hst : (e.line l).state = .changeover
    · rw [if_pos hst]
      simpa [State.line, Ev.changeoverExit_lines, Ev.clearPred] using
        LineRec.closed_of (e.line l) (e.line l).trip none reason hold none 0 rfl (by simp [hst])
    · rw [if_neg hst]
      simpa [State.line, Ev.clearPred] using
        LineRec.closed_of (e.line l) (e.line l).trip none reason hold none (e.line l).pendingVol rfl (by simp [hst])
  | some c =>
    obtain ⟨r, hr, hl⟩ := Ev.writeTrip_lines e l c
    dsimp only
    by_cases hst : (e.line l).state = .changeover
    · rw [if_pos hst]
      simpa [hl, State.line, Ev.changeoverExit_lines, Ev.clearPred] using
        LineRec.closed_of (e.line l) (some r) none reason hold (some c) 0 (by simp [hr]) (by simp [hst])
    · rw [if_neg hst]
      simpa [hl, State.line, Ev.clearPred] using
        LineRec.closed_of (e.line l) (some r) none reason hold (some c) (e.line l).pendingVol (by simp [hr]) (by simp [hst])

theorem Ev.closeBegun_close (e : Ev) (l : LineId) (reason : CloseReason) (hold : Option HoldReason)
    (cause : Option TripCause) : (e.closeBegun l reason hold cause).close l = some (CloseRec.fresh e.now) := by
  unfold Ev.closeBegun
  simp [State.close]

/-- The entry of a line into its close leaves the records of the other lines alone. -/
theorem Ev.closeBegun_lane (e : Ev) {l m : LineId} (reason : CloseReason) (hold : Option HoldReason)
    (cause : Option TripCause) (h : m ≠ l) : (e.closeBegun l reason hold cause).lane m = e.lane m := by
  have key := Ev.closeEntry_lane e l reason hold cause h
  rw [Ev.closeEntry_eq] at key
  have same : (((e.closeBegun l reason hold cause).cancelWork l).evalPermitOf l).lane m =
      (e.closeBegun l reason hold cause).lane m := by simp
  exact same.symm.trans key

end Sys2Proof.Machine
end

section
/-! The permits and the quiet of a latched part, which every step keeps. -/

namespace Sys2Proof.Machine
variable {c : Instr} {s u : State} {e e' : Ev} {l m : LineId} {v v' : Valve}

/-! ### The facts of a close entry -/

theorem Ev.evalPermitOf_lines (e : Ev) (l : LineId) : (e.evalPermitOf l).lines = e.lines := by
  obtain ⟨sh, d, h, -⟩ := Ev.evalPermitOf_writes e l
  rw [h]

theorem Ev.closeEntry_lines (e : Ev) (l : LineId) (reason : CloseReason) (hold : Option HoldReason) (cause : Option TripCause) :
    (e.closeEntry l reason hold cause).lines = (e.closeBegun l reason hold cause).lines := by
  rw [Ev.closeEntry_eq]
  exact (Ev.evalPermitOf_lines _ l).trans (Ev.cancelWork_strokesOnly _ l).lines

theorem Ev.closeEntry_line (e : Ev) (l : LineId) (reason : CloseReason) (hold : Option HoldReason) (cause : Option TripCause) :
    (e.line l).Closed ((e.closeEntry l reason hold cause).line l) reason hold cause := by
  have h := Ev.closeBegun_line e l reason hold cause
  rwa [State.line, State.line, ← Ev.closeEntry_lines] at h

theorem Ev.closeEntry_line_ne (e : Ev) (reason : CloseReason) (hold : Option HoldReason) (cause : Option TripCause)
    (h : m ≠ l) : (e.closeEntry l reason hold cause).line m = e.line m :=
  congrArg Prod.fst (Ev.closeEntry_lane e l reason hold cause h)

theorem Ev.closeEntry_flowing (e : Ev) (l m : LineId) (reason : CloseReason) (hold : Option HoldReason)
    (cause : Option TripCause) : (e.closeEntry l reason hold cause).flowing m = if m = l then false else e.flowing m := by
  by_cases h : m = l
  · subst h
    rw [State.flowing, (Ev.closeEntry_line e m reason hold cause).state, if_pos rfl]
    rfl
  · rw [State.flowing, Ev.closeEntry_line_ne e reason hold cause h, if_neg h]
    rfl

theorem Ev.closeEntry_valves (e : Ev) (l : LineId) (reason : CloseReason) (hold : Option HoldReason)
    (cause : Option TripCause) :
    (e.closeEntry l reason hold cause).valves = ((e.closeBegun l reason hold cause).cancelWork l).valves := by
  rw [Ev.closeEntry_eq]
  exact Ev.evalPermitOf_valves _ l

theorem Ev.closeEntry_causes (e : Ev) (l : LineId) (reason : CloseReason) (hold : Option HoldReason)
    (cause : Option TripCause) : (e.closeEntry l reason hold cause).shut.causes = e.shut.causes := by
  rw [Ev.closeEntry_eq]
  obtain ⟨sh, d, h, hs⟩ := Ev.evalPermitOf_writes ((e.closeBegun l reason hold cause).cancelWork l) l
  rw [h]
  dsimp only
  rw [hs, (Ev.cancelWork_strokesOnly _ l).shut, (Ev.closeBegun_recordsOnly e l reason hold cause).shut]

/-! ### Permits -/

theorem State.latch_of_causes {x y : State} (h : y.shut.causes = x.shut.causes) : y.latch = x.latch := by
  rw [State.latch, State.latch, h]

theorem State.pumpFlowing_congr {x y : State} {p : PumpId}
    (h : ∀ l, (y.flowing l && y.pumpOfLine l == some p) = (x.flowing l && x.pumpOfLine l == some p)) :
    y.pumpFlowing p = x.pumpFlowing p := by
  simp only [State.pumpFlowing, h]

theorem State.pumpOfLine_congr {x y : State} (h : (y.line l).profile = (x.line l).profile) :
    y.pumpOfLine l = x.pumpOfLine l := by
  rw [State.pumpOfLine, State.pumpOfLine, h]

/-- Permits stay sound while flow, profiles, causes and permits stay. -/
theorem State.permitsSound_congr {x y : State} (hf : ∀ l, y.flowing l = x.flowing l)
    (hp : ∀ l, (y.line l).profile = (x.line l).profile) (hs : ∀ p, y.shut.permit p = x.shut.permit p)
    (hc : y.shut.causes = x.shut.causes) (h : x.permitsSound) : y.permitsSound := by
  intro p
  rw [hs p, State.latch_of_causes hc, State.pumpFlowing_congr (x := x) fun l => by rw [hf l, State.pumpOfLine_congr (hp l)]]
  exact h p

theorem Shutdown.permit_setPermit (x : Shutdown) (p q : PumpId) (b : Bool) :
    (x.setPermit p b).permit q = if q = p then b else x.permit q := by
  cases p <;> cases q <;> rfl

theorem Ev.evalPermit_shut (e : Ev) (p : PumpId) : (e.evalPermit p).shut = e.shut.setPermit p (e.permitDue p) := by
  simp [Ev.evalPermit]

theorem Ev.evalPermit_lines (e : Ev) (p : PumpId) : (e.evalPermit p).lines = e.lines := by
  simp [Ev.evalPermit]

theorem Ev.evalPermit_permit (e : Ev) (p q : PumpId) :
    (e.evalPermit p).shut.permit q = if q = p then e.permitDue p else e.shut.permit q := by
  rw [Ev.evalPermit_shut, Shutdown.permit_setPermit]

theorem Ev.evalPermit_permitDue (e : Ev) (p q : PumpId) : (e.evalPermit p).permitDue q = e.permitDue q := by
  unfold State.permitDue
  rw [State.latch_of_causes (x := e.toState) (by rw [Ev.evalPermit_shut, Shutdown.setPermit_causes])]
  rw [State.pumpFlowing_congr (x := e.toState)]
  intro l
  rw [State.flowing_congr (Ev.evalPermit_lines e p)]
  rw [State.pumpOfLine_congr (x := e.toState) (by rw [State.line, Ev.evalPermit_lines]; rfl)]

/-- An evaluated permit is sound, and the others stay as they are. -/
theorem Ev.evalPermit_sound (e : Ev) (p : PumpId) (h : ∀ q, q ≠ p → e.shut.permit q = e.permitDue q) :
    (e.evalPermit p).permitsSound := by
  intro q
  change _ = (e.evalPermit p).permitDue q
  rw [Ev.evalPermit_permitDue, Ev.evalPermit_permit]
  split
  · next hq => rw [hq]
  · next hq => exact h q hq

/-- Evaluating both permits makes them sound. -/
theorem Ev.evalPermits_sound (e : Ev) : ((e.evalPermit .p1).evalPermit .p2).permitsSound := by
  refine Ev.evalPermit_sound _ .p2 fun q hq => ?_
  cases q
  · rw [Ev.evalPermit_permitDue, Ev.evalPermit_permit]; rfl
  · exact absurd rfl hq

/-- After a change of one line's state, evaluating the permit of its pump makes the permits sound (R4, R174). -/
theorem Ev.evalPermitOf_sound {x : State} (e : Ev) (l : LineId) (h : x.permitsSound)
    (hne : ∀ m, m ≠ l → e.flowing m = x.flowing m) (hp : ∀ m, (e.line m).profile = (x.line m).profile)
    (hs : e.shut = x.shut) : (e.evalPermitOf l).permitsSound := by
  have due (q : PumpId) (hq : e.pumpOfLine l ≠ some q) : e.shut.permit q = e.permitDue q := by
    rw [hs, h q, State.permitDue, State.latch_congr hs]
    refine congrArg _ (State.pumpFlowing_congr fun m => ?_).symm
    rw [← State.pumpOfLine_congr (hp m)]
    by_cases hm : m = l
    · subst hm
      have : (e.pumpOfLine m == some q) = false := by simpa using hq
      rw [this, Bool.and_false, Bool.and_false]
    · rw [hne m hm]
  unfold Ev.evalPermitOf
  split
  · next p hpump => exact Ev.evalPermit_sound e p fun q hq => due q (by rw [hpump]; simpa using Ne.symm hq)
  · next hpump => exact fun q => due q (by rw [hpump]; simp)

theorem Ev.setState_sound (e : Ev) (l : LineId) (st : LineState) (h : e.permitsSound) : (e.setState l st).permitsSound := by
  refine Ev.evalPermitOf_sound _ l h (fun m hm => ?_) (fun m => ?_) (by simp)
  · simp [State.flowing, State.line, Quad.get_set, hm]
  · simp only [State.line, Ev.mark_lines, Ev.modLine_lines, Quad.get_set]
    split <;> simp_all

theorem Ev.profile_of_ground' {x y : State} (h : y.ground = x.ground) (l : LineId) :
    (y.line l).profile = (x.line l).profile := congrFun (congrArg Ground.profiles h) l

theorem Ev.closeEntry_sound (e : Ev) (l : LineId) (reason : CloseReason) (hold : Option HoldReason)
    (cause : Option TripCause) (h : e.permitsSound) : (e.closeEntry l reason hold cause).permitsSound := by
  have hr := Ev.closeBegun_recordsOnly e l reason hold cause
  have hk := Ev.cancelWork_strokesOnly (e.closeBegun l reason hold cause) l
  have hlines (m : LineId) : ((e.closeBegun l reason hold cause).cancelWork l).line m =
      (e.closeEntry l reason hold cause).line m := by
    rw [hk.line, State.line, State.line, Ev.closeEntry_lines]
  refine Ev.evalPermitOf_sound ((e.closeBegun l reason hold cause).cancelWork l) l h (fun m hm => ?_) (fun m => ?_)
    (hk.shut.trans hr.shut)
  · rw [State.flowing, hlines, Ev.closeEntry_line_ne e reason hold cause hm]; rfl
  · rw [hlines]
    by_cases hm : m = l
    · subst hm; exact (Ev.closeEntry_line e m reason hold cause).kept.1
    · rw [Ev.closeEntry_line_ne e reason hold cause hm]

theorem Ev.retripClosing_recordsOnly (e : Ev) (l : LineId) (reason : CloseReason) (cause : TripCause) :
    e.RecordsOnly (e.retripClosing l reason cause) :=
  (((Ev.writeTrip_recordsOnly e l cause).trans (Ev.modLine_recordsOnly _ l _)).trans (Ev.modFlow_recordsOnly _ l _)).trans
    (Ev.markIf_recordsOnly _ _ _)

/-- A running close that takes a new reason: the record anew, the rest of the line's record as it was (R88, R89). -/
theorem Ev.retripClosing_lines (e : Ev) (l : LineId) (reason : CloseReason) (cause : TripCause) :
    ∃ r : TripRecord, r.cause = cause ∧ (e.retripClosing l reason cause).lines =
      e.lines.set l { e.line l with trip := some r, closeReason := some reason, holdReason := none } := by
  obtain ⟨r, hr, hl⟩ := Ev.writeTrip_lines e l cause
  refine ⟨r, hr, ?_⟩
  unfold Ev.retripClosing
  simp [hl, Quad.set_set]

theorem Ev.retripClosing_flowing (e : Ev) (l m : LineId) (reason : CloseReason) (cause : TripCause) :
    (e.retripClosing l reason cause).flowing m = e.flowing m := by
  obtain ⟨r, -, h⟩ := Ev.retripClosing_lines e l reason cause
  simp only [State.flowing, State.line, h, Quad.get_set]
  split <;> simp_all

theorem Ev.esdToLine_flowing (e : Ev) (l m : LineId) : (e.esdToLine l).flowing m = if m = l then false else e.flowing m := by
  unfold Ev.esdToLine
  split
  · exact Ev.closeEntry_flowing e l m _ _ _
  · next hl =>
    have stays : e.flowing m = if m = l then false else e.flowing m := by
      split
      · next hm => subst hm; simpa using hl
      · rfl
    split
    · exact (Ev.retripClosing_flowing e l m _ _).trans stays
    · exact stays

theorem Ev.esdToLine_causes (e : Ev) (l : LineId) : (e.esdToLine l).shut.causes = e.shut.causes := by
  unfold Ev.esdToLine
  split
  · exact Ev.closeEntry_causes e l _ _ _
  · split
    · rw [(Ev.retripClosing_recordsOnly e l _ _).shut]
    · rfl

theorem Ev.esdToLine_sound (e : Ev) (l : LineId) (h : e.permitsSound) : (e.esdToLine l).permitsSound := by
  unfold Ev.esdToLine
  split
  · exact Ev.closeEntry_sound e l _ _ _ h
  · split
    · refine State.permitsSound_congr (Ev.retripClosing_flowing e l · _ _) (fun m => ?_) (fun p => ?_) ?_ h
      · exact Ev.profile_of_ground' (Ev.retripClosing_ground e l _ _) m
      · rw [(Ev.retripClosing_recordsOnly e l _ _).shut]
      · rw [(Ev.retripClosing_recordsOnly e l _ _).shut]
    · exact h

/-- A raised cause, once it is new: the latch with both permits withdrawn, the strokes cancelled, the lines told (R170). -/
def Ev.causeAdded (e : Ev) (x : EsdCause) : Ev :=
  let e1 := e.modShut (fun y => { y with causes := y.causes.add x e.now })
  ((Ev.evalPermit { e1 with restartEsd := e1.restartEsd || e1.restart != RestartWait.idle } .p1).evalPermit .p2)

theorem Ev.raiseCause_new (e : Ev) (x : EsdCause) (h : e.shut.causes.get x = none) :
    e.raiseCause x = ((e.causeAdded x).cancelAllWork.eachLine (fun l y => y.esdToLine l)).mark .esd := by
  unfold Ev.raiseCause
  rw [if_neg (by simp [h])]
  rfl

theorem Ev.raiseCause_old (e : Ev) (x : EsdCause) (h : (e.shut.causes.get x).isSome = true) : e.raiseCause x = e := by
  unfold Ev.raiseCause
  rw [if_pos h]

theorem Ev.causeAdded_causes (e : Ev) (x : EsdCause) : (e.causeAdded x).shut.causes = e.shut.causes.add x e.now := by
  unfold Ev.causeAdded
  dsimp only
  rw [Ev.evalPermit_shut, Shutdown.setPermit_causes, Ev.evalPermit_shut, Shutdown.setPermit_causes]
  rfl

theorem Ev.causeAdded_lines (e : Ev) (x : EsdCause) : (e.causeAdded x).lines = e.lines := by
  unfold Ev.causeAdded
  dsimp only
  rw [Ev.evalPermit_lines, Ev.evalPermit_lines]
  rfl

theorem Ev.evalPermit_valves (e : Ev) (p : PumpId) : (e.evalPermit p).valves = e.valves := by simp [Ev.evalPermit]

theorem Ev.causeAdded_valves (e : Ev) (x : EsdCause) : (e.causeAdded x).valves = e.valves := by
  unfold Ev.causeAdded
  dsimp only
  rw [Ev.evalPermit_valves, Ev.evalPermit_valves]
  rfl

theorem Ev.causeAdded_sound (e : Ev) (x : EsdCause) : (e.causeAdded x).permitsSound := Ev.evalPermits_sound _

theorem Ev.raiseCause_sound (e : Ev) (x : EsdCause) (h : e.permitsSound) : (e.raiseCause x).permitsSound := by
  cases hx : e.shut.causes.get x with
  | some t => rw [Ev.raiseCause_old e x (by rw [hx]; rfl)]; exact h
  | none =>
    have hk := Ev.cancelAllWork_strokesOnly (e.causeAdded x)
    have h1 : (e.causeAdded x).cancelAllWork.permitsSound :=
      State.permitsSound_congr (hk.flowing) (fun l => by rw [hk.line]) (fun p => by rw [hk.shut]) (by rw [hk.shut])
        (Ev.causeAdded_sound e x)
    have h2 : ((e.causeAdded x).cancelAllWork.eachLine (fun l y => y.esdToLine l)).permitsSound :=
      Ev.esdToLine_sound _ .d (Ev.esdToLine_sound _ .c (Ev.esdToLine_sound _ .b (Ev.esdToLine_sound _ .a h1)))
    rw [Ev.raiseCause_new e x hx]
    exact State.permitsSound_congr (fun l => State.flowing_congr (by simp)) (fun l => by simp [State.line]) (by simp) (by simp) h2

theorem Ev.resetLatch_sound (e : Ev) : e.resetLatch.permitsSound :=
  State.permitsSound_congr (fun l => State.flowing_congr (by simp [Ev.resetLatch])) (fun l => by simp [State.line, Ev.resetLatch])
    (by simp [Ev.resetLatch]) (by simp [Ev.resetLatch])
    (Ev.evalPermits_sound (e.modShut (fun x => { x with causes := noCauses, valveList := [] })))

/-- A profile of a line that does not flow leaves the pumps' flow as it is. -/
theorem Ev.modLine_profile_sound (e : Ev) (l : LineId) (p : LineProfile) (hf : e.flowing l = false) (h : e.permitsSound) :
    (e.modLine l (fun x => { x with profile := some p })).permitsSound := by
  intro q
  rw [Ev.modLine_shut, h q, State.latch_congr (x := (e.modLine l _).toState) (y := e.toState) (by simp)]
  refine congrArg _ (State.pumpFlowing_congr fun m => ?_).symm
  by_cases hm : m = l
  · subst hm
    have : (e.modLine m (fun x => { x with profile := some p })).flowing m = false := by
      simpa [State.flowing, State.line] using hf
    rw [this, hf]; rfl
  · have : (e.modLine l (fun x => { x with profile := some p })).line m = e.line m := by
      simp [State.line, Quad.get_set, hm]
    rw [State.flowing, State.flowing, State.pumpOfLine, State.pumpOfLine, this]

theorem Work.keeps_permitsSound (h : Work c s true e e') (hs : e.permitsSound) : e'.permitsSound := by
  have same (hl : e'.lines = e.lines) (hp : ∀ p, e'.shut.permit p = e.shut.permit p) (hc : e'.shut.causes = e.shut.causes) :
      e'.permitsSound :=
    State.permitsSound_congr (fun l => State.flowing_congr hl) (fun l => by rw [State.line, State.line, hl]) hp hc hs
  cases h with
  | tend hcore =>
    refine State.permitsSound_congr (fun l => ?_) (fun l => congrFun (congrArg Core.profiles hcore) l)
      (fun p => congrArg (fun x : Core => x.shut.permit p) hcore) (congrArg (fun x : Core => x.shut.causes) hcore) hs
    exact congrArg LineState.flowing (congrFun (congrArg Core.states hcore) l)
  | setState m st => exact Ev.setState_sound e m st hs
  | closing m f fine => cases fine
  | permit p fine => cases fine
  | cause x fine => cases fine
  | closeEntry m r hold cause => exact Ev.closeEntry_sound e m r hold cause hs
  | raise x => exact Ev.raiseCause_sound e x hs
  | reset => exact Ev.resetLatch_sound e
  | trip m r =>
    refine State.permitsSound_congr (x := e.toState) (fun l => ?_) (fun l => ?_) (fun p => rfl) rfl hs
    · simp only [State.flowing, State.line, Ev.modLine_lines, Quad.get_set]; split <;> simp_all
    · simp only [State.line, Ev.modLine_lines, Quad.get_set]; split <;> simp_all
  | profile m p hc hflow =>
    refine Ev.modLine_profile_sound _ m p hflow ?_
    exact State.permitsSound_congr (x := e.toState) (fun l => rfl) (fun l => rfl) (fun p => rfl) rfl hs
  | release m => exact same rfl (fun _ => rfl) rfl
  | emptyQueue => exact same rfl (fun _ => rfl) rfl
  | listValve m => exact same rfl (fun p => by cases p <;> rfl) rfl
  | shipRun n => exact same rfl (fun p => by cases p <;> rfl) rfl
  | loop st => exact same rfl (fun p => by cases p <;> rfl) rfl
  | _ => exact same (by simp) (by simp) (by simp)

theorem exec_permitsSound (h : exec c s = .next u) (hs : s.permitsSound) : u.permitsSound := by
  refine exec_keeps (P := State.permitsSound) true (fun i hi w hw => ?_) (fun t h => h)
    (fun x y hx hxy => hxy.keeps_permitsSound hx) (fun x hx => ?_) h hs
  · subst hi; cases hw; intro p; cases p <;> rfl
  · have hb := Ev.closing_sameBlocks x
    exact State.permitsSound_congr (fun l => by rw [State.flowing, State.flowing, hb.line]) (fun l => by rw [hb.line])
      (fun p => by rw [hb.shut]) (by rw [hb.shut]) hx

/-! ### CLOSE work alone -/

/-- A valve has CLOSE work alone. -/
def Valve.closesOnly (v : Valve) : Prop :=
  (∀ r, v.pending = some r → r.cls = .close) ∧ (∀ k, v.stroke = some k → k.req.cls = .close) ∧ v.followOn = none

theorem Ev.grant_closesOnly (e : Ev) (l : LineId) (r : StrokeReq) (ch : ChanId) (hr : (e.valve l).pending = some r)
    (h : ∀ m, (e.valve m).closesOnly) (m : LineId) : ((e.grant l r ch).valve m).closesOnly := by
  by_cases hm : m = l
  · subst hm
    obtain ⟨hp, hs, hf⟩ := h m
    unfold Ev.grant
    dsimp only
    split
    · simp only [State.valve, Ev.updatePump, Ev.modSupply_valves, Ev.report_valves, Ev.modValve_valves, Quad.get_set_same]
      exact ⟨nofun, hs, hf⟩
    · simp only [State.valve, Ev.modChan_valves, Ev.modValve_valves, Quad.get_set_same]
      exact ⟨nofun, fun k hk => by cases hk; exact hp r hr, hf⟩
  · rw [Ev.grant_valve_ne e r ch hm]; exact h m

theorem Ev.grantUpTo_closesOnly (n : Nat) (e : Ev) (h : ∀ m, (e.valve m).closesOnly) (m : LineId) :
    ((e.grantUpTo n).valve m).closesOnly := by
  induction n generalizing e with
  | zero => exact h m
  | succ n ih =>
    unfold Ev.grantUpTo
    split
    · exact h m
    · next l r hg =>
      split
      · exact h m
      · exact ih _ fun m => Ev.grant_closesOnly e l r _ (State.nextGrant_pending hg) h m

theorem Ev.endStroke_valve (e : Ev) (l m : LineId) (o : StrokeOutcome) : (e.endStroke l o).valve m =
    if m = l then { e.valve l with stroke := none, followOn := none, lastOutcome := some (o, e.now) } else e.valve m := by
  unfold Ev.endStroke
  rw [Ev.freeChannel_valve]
  split
  · next h => subst h; rw [Ev.modValve_valve]
  · next h => rw [Ev.modValve_valve_ne _ _ h]

/-- A stroke in progress is OPEN or THROTTLE work. -/
def Valve.worksOtherwise (v : Valve) : Bool := v.stroke.any (fun k => k.req.cls != .close)

/-- The valve whose OPEN and THROTTLE work is cancelled (R114). -/
def Valve.dropped (v : Valve) (now : Time) : Valve :=
  { v with
    pending := v.pending.filter (fun r => r.cls == .close), stroke := v.stroke.filter (fun k => k.req.cls == .close),
    followOn := if v.worksOtherwise then none else v.followOn,
    lastOutcome := if v.worksOtherwise then some (.ended, now) else v.lastOutcome }

theorem Ev.dropWork_valve_ne (e : Ev) (hm : m ≠ l) : (e.dropWork l).valve m = e.valve m := by
  have drop : (match (e.valve l).pending with
      | some r => if r.cls = StrokeClass.close then e else e.modValve l (fun v => { v with pending := none })
      | none => e).valve m = e.valve m := by
    split
    · split
      · rfl
      · exact Ev.modValve_valve_ne _ _ hm
    · rfl
  unfold Ev.dropWork
  dsimp only
  split
  · split
    · exact drop
    · rw [Ev.endStroke_valve, if_neg hm]; exact drop
  · exact drop

theorem Ev.dropWork_valve (e : Ev) (l : LineId) : (e.dropWork l).valve l = (e.valve l).dropped e.now := by
  unfold Ev.dropWork Valve.dropped Valve.worksOtherwise
  generalize hv : e.valve l = v
  obtain ⟨_, _, _, _, _, _, pending, stroke, _, _, _, _⟩ := v
  have kept (x : Ev) (hx : x.now = e.now) (y : Valve) (hy : x.valve l = y) (k : Stroke) :
      (if k.req.cls = .close then x else x.endStroke l .ended).valve l =
        if k.req.cls = .close then y else
          { y with stroke := none, followOn := none, lastOutcome := some (.ended, e.now) } := by
    split
    · exact hy
    · rw [Ev.endStroke_valve, if_pos rfl, hy, hx]
  cases pending with
  | none =>
    cases stroke with
    | none => simp [hv]
    | some k =>
      dsimp only
      rw [kept e rfl _ hv k]
      by_cases hk : k.req.cls = StrokeClass.close <;> simp [hk, Option.filter]
  | some r =>
    by_cases hr : r.cls = StrokeClass.close
    · cases stroke with
      | none => simp [hr, hv, Option.filter]
      | some k =>
        dsimp only
        rw [if_pos hr, kept e rfl _ hv k]
        by_cases hk : k.req.cls = StrokeClass.close <;> simp [hk, hr, Option.filter]
    · cases stroke with
      | none => simp [hr, hv, Option.filter]
      | some k =>
        dsimp only
        rw [if_neg hr, kept (e.modValve l (fun v => { v with pending := none })) rfl _ (Ev.modValve_valve e l _) k]
        by_cases hk : k.req.cls = StrokeClass.close <;> simp [hk, hr, hv, Option.filter]

/-- Cancelling leaves CLOSE work alone on a valve whose follow-on stands behind other work. -/
theorem Valve.dropped_closesOnly (v : Valve) (now : Time) (h : v.followOnSound) : (v.dropped now).closesOnly := by
  refine ⟨fun r hr => ?_, fun k hk => ?_, ?_⟩
  · simpa using (Option.filter_eq_some_iff.mp hr).2
  · simpa using (Option.filter_eq_some_iff.mp hk).2
  · change (if v.worksOtherwise then none else v.followOn) = none
    cases hf : v.followOn with
    | none => simp
    | some r =>
      obtain ⟨-, k, hk, hcls⟩ := h r hf
      simp [Valve.worksOtherwise, hk, hcls]

theorem Valve.closesOnly.followOnSound (h : v.closesOnly) : v.followOnSound := by
  intro r hr
  rw [h.2.2] at hr
  cases hr

theorem Ev.cancelWork_closesOnly (e : Ev) (l : LineId) (h : ∀ m, (e.valve m).closesOnly) (m : LineId) :
    ((e.cancelWork l).valve m).closesOnly := by
  refine Ev.grantUpTo_closesOnly 4 _ (fun m => ?_) m
  by_cases hm : m = l
  · subst hm; rw [Ev.dropWork_valve]; exact Valve.dropped_closesOnly _ _ (h m).followOnSound
  · rw [Ev.dropWork_valve_ne e hm]; exact h m

/-- Cancelling every valve's work, each follow-on standing behind other work, leaves CLOSE work alone (R170). -/
theorem Ev.cancelAllWork_closesOnly (e : Ev) (h : ∀ m, (e.valve m).followOnSound) (m : LineId) :
    (e.cancelAllWork.valve m).closesOnly := by
  have drop (x : Ev) (l n : LineId) (hx : (x.valve n).followOnSound) : ((x.dropWork l).valve n).followOnSound ∧
      (n = l ∨ (x.valve n).closesOnly → ((x.dropWork l).valve n).closesOnly) := by
    by_cases hn : n = l
    · subst hn
      rw [Ev.dropWork_valve]
      have hd := Valve.dropped_closesOnly _ x.now hx
      exact ⟨hd.followOnSound, fun _ => hd⟩
    · rw [Ev.dropWork_valve_ne x hn]
      exact ⟨hx, fun hc => hc.resolve_left hn⟩
  refine Ev.grantUpTo_closesOnly 4 _ (fun n => ?_) m
  obtain ⟨fa, ca⟩ := drop e .a n (h n)
  obtain ⟨fb, cb⟩ := drop _ .b n fa
  obtain ⟨fc, cc⟩ := drop _ .c n fb
  obtain ⟨fd, cd⟩ := drop _ .d n fc
  change ((((((e.dropWork .a).dropWork .b).dropWork .c).dropWork .d)).valve n).closesOnly
  cases n
  · exact cd (.inr (cc (.inr (cb (.inr (ca (.inl rfl)))))))
  · exact cd (.inr (cc (.inr (cb (.inl rfl)))))
  · exact cd (.inr (cc (.inl rfl)))
  · exact cd (.inl rfl)

theorem Ev.closeEntry_closesOnly (e : Ev) (l : LineId) (reason : CloseReason) (hold : Option HoldReason)
    (cause : Option TripCause) (h : ∀ m, (e.valve m).closesOnly) (m : LineId) :
    ((e.closeEntry l reason hold cause).valve m).closesOnly := by
  rw [State.valve, Ev.closeEntry_valves]
  refine Ev.cancelWork_closesOnly _ l (fun n => ?_) m
  rw [(Ev.closeBegun_recordsOnly e l reason hold cause).valve]
  exact h n

theorem Ev.esdToLine_closesOnly (e : Ev) (l : LineId) (h : ∀ m, (e.valve m).closesOnly) (m : LineId) :
    ((e.esdToLine l).valve m).closesOnly := by
  unfold Ev.esdToLine
  split
  · exact Ev.closeEntry_closesOnly e l _ _ _ h m
  · split
    · rw [(Ev.retripClosing_recordsOnly e l _ _).valve]; exact h m
    · exact h m

/-- No line flows once every line has been told of the ESD. -/
theorem Ev.esdToLines_flowing (e : Ev) (l : LineId) : (e.eachLine (fun l y => y.esdToLine l)).flowing l = false := by
  change ((((e.esdToLine .a).esdToLine .b).esdToLine .c).esdToLine .d).flowing l = false
  cases l <;> simp [Ev.esdToLine_flowing]

theorem Ev.esdToLines_closesOnly (e : Ev) (h : ∀ m, (e.valve m).closesOnly) (m : LineId) :
    ((e.eachLine (fun l y => y.esdToLine l)).valve m).closesOnly :=
  Ev.esdToLine_closesOnly _ .d (Ev.esdToLine_closesOnly _ .c (Ev.esdToLine_closesOnly _ .b (Ev.esdToLine_closesOnly _ .a h))) m

/-! ### The quiet of the latch -/

theorem State.latchQuiet_iff (x : State) :
    x.latchQuiet ↔ (x.latch = true → ∀ l, x.flowing l = false ∧ (x.valve l).closesOnly) := Iff.rfl

/-- A cause raised anew leaves the part quiet, whatever flowed before (R170). -/
theorem Ev.raiseCause_quiet (e : Ev) (x : EsdCause) (hx : e.shut.causes.get x = none) (hf : ∀ l, (e.valve l).followOnSound)
    (l : LineId) : (e.raiseCause x).flowing l = false ∧ ((e.raiseCause x).valve l).closesOnly := by
  rw [Ev.raiseCause_new e x hx]
  constructor
  · rw [State.flowing_congr (Ev.mark_lines _ _)]
    exact Ev.esdToLines_flowing _ l
  · rw [State.valve, Ev.mark_valves]
    refine Ev.esdToLines_closesOnly _ (Ev.cancelAllWork_closesOnly _ fun m => ?_) l
    rw [State.valve, Ev.causeAdded_valves]
    exact hf m

/-- While the latch is set, a move of a valve adds no OPEN or THROTTLE work: no line flows to ask for it. -/
theorem ValveMove.closesOnly (h : ValveMove c s e l v v') (hs : s.latchQuiet) (hlatch : e.latch = true)
    (hflow : e.flowing l = false) (hv : v.closesOnly) : v'.closesOnly := by
  obtain ⟨hp, hst, hf⟩ := hv
  cases h with
  | tended h =>
    refine ⟨fun r hr => hp r (h.pending ▸ hr), fun k hk => ?_, h.followOn.trans hf⟩
    obtain ⟨k0, hk0, hreq⟩ := h.stroke_of hk
    exact hreq ▸ hst k0 hk0
  | input _ hpending hstroke hfollow =>
    exact ⟨fun r hr => hp r (hpending ▸ hr), fun k hk => hst k (hstroke ▸ hk), hfollow.trans hf⟩
  | released => exact ⟨hp, nofun, rfl⟩
  | unqueued => exact ⟨nofun, hst, hf⟩
  | unfollowed => exact ⟨hp, hst, rfl⟩
  | enqueued r _ hr =>
    refine ⟨fun q hq => ?_, hst, hf⟩
    cases hq
    rcases hr with ⟨-, hask⟩ | ⟨hwork, hc, -⟩
    · by_contra hne
      rw [hask hne] at hflow
      cases hflow
    · obtain ⟨-, -, hs1, hs2⟩ := hs ((State.latch_of_causes hc).symm.trans hlatch) l
      rcases hwork with ⟨k, hk, rfl⟩ | hw
      · exact hs1 k hk
      · rw [hs2] at hw; cases hw
  | followed r k hstroke hk => exact absurd (hst k hstroke) hk
  | arrived r => exact ⟨nofun, hst, hf⟩
  | granted r k hpending hk => exact ⟨nofun, fun q hq => by cases hq; rw [hk]; exact hp r hpending, hf⟩
  | profiled old p =>
    obtain ⟨-, h1, h2, h3, -⟩ := v.profiled_spec old p
    rw [Valve.closesOnly, h1, h2, h3]
    exact ⟨hp, hst, hf⟩

/-- A whole piece of work moves the valves without setting the latch or making a line flow under it, or is a close entry or the
raising of a cause. -/
theorem Work.moves_or_coarse (h : Work c s true e e') :
    ((∀ l, ValveMove c s e l (e.valve l) (e'.valve l)) ∧ (e'.latch = true → e.latch = true) ∧
      ∀ l, e'.flowing l = true → e.flowing l = true ∨ e.latch = false) ∨
    (∃ l r hold cause, e' = e.closeEntry l r hold cause) ∨ ∃ x, e' = e.raiseCause x := by
  have moves (hv : ∀ l, ValveMove c s e l (e.valve l) (e'.valve l)) (hl : e'.lines = e.lines)
      (hc : e'.shut.causes = e.shut.causes) :
      (∀ l, ValveMove c s e l (e.valve l) (e'.valve l)) ∧ (e'.latch = true → e.latch = true) ∧
        ∀ l, e'.flowing l = true → e.flowing l = true ∨ e.latch = false :=
    ⟨hv, fun h => (State.latch_of_causes hc).symm.trans h, fun l h => .inl ((State.flowing_congr hl).symm.trans h)⟩
  cases h with
  | closeEntry l r hold cause => exact .inr (.inl ⟨l, r, hold, cause, rfl⟩)
  | raise x => exact .inr (.inr ⟨x, rfl⟩)
  | closing m f fine => cases fine
  | permit p fine => cases fine
  | cause x fine => cases fine
  | tend hcore hdirty hv =>
    refine .inl ⟨fun l => .tended (hv l), fun h => ?_, fun l h => .inl ?_⟩
    · rw [← State.latch_of_causes (congrArg (fun x : Core => x.shut.causes) hcore)]; exact h
    · exact (congrArg LineState.flowing (congrFun (congrArg Core.states hcore) l)).symm.trans h
  | input m f h1 h2 h3 h4 h5 h6 h7 h8 => exact .inl (moves (.of_modValve (.input h1 h2 h3 h4 h5 h6 h7 h8) rfl) rfl rfl)
  | release m =>
    exact .inl (moves (.of_modValve (m := m) (f := fun v => { v with stroke := none, followOn := none }) .released rfl) rfl rfl)
  | unqueue m => exact .inl (moves (.of_modValve .unqueued rfl) rfl rfl)
  | unfollow m => exact .inl (moves (.of_modValve .unfollowed rfl) rfl rfl)
  | enqueue m r hstroke hr => exact .inl (moves (.of_modValve (.enqueued r hstroke hr) rfl) rfl rfl)
  | follow m r k hstroke hk hr hask => exact .inl (moves (.of_modValve (.followed r k hstroke hk hr hask) rfl) rfl rfl)
  | atOnce m r hpending => exact .inl (moves (.of_modValve (.arrived r hpending) rfl) rfl rfl)
  | grant m r k ch hpending hk =>
    exact .inl (moves (.of_modValve (.granted r k hpending hk) (Ev.modChan_valves _ _ _)) (by simp) (by simp))
  | profile m p hc hflow hrate =>
    obtain ⟨t, tag, n, q, hc, -⟩ := hc
    refine .inl ⟨.of_modValve (f := fun v => v.profiled (e.line m).profile p) (.profiled _ p ⟨t, tag, n, q, hc⟩ hrate) rfl,
      id, fun l h => .inl ?_⟩
    simp only [State.flowing, State.line, Ev.modLine_lines, Ev.modValve_lines, Quad.get_set] at h ⊢
    split at h
    · next hl => subst hl; exact h
    · exact h
  | setState m st h =>
    refine .inl ⟨.of_same (Ev.setState_valves e m st), fun hl => ?_, fun l hl => ?_⟩
    · obtain ⟨sh, d, hw, hc⟩ := Ev.setState_writes e m st
      rw [hw] at hl
      exact (State.latch_of_causes (x := e.toState) (by exact hc)).symm.trans hl
    · rw [State.flowing, State.line, Ev.setState_lines, Quad.get_set] at hl
      split at hl
      · next hm => subst hm; exact (h hl).imp id (·.2)
      · exact .inl hl
  | reset =>
    refine .inl ⟨.of_same (by simp [Ev.resetLatch, Ev.evalPermit]), fun hl => ?_, fun l hl => .inl ?_⟩
    · have hc : e.resetLatch.shut.causes = noCauses := by
        simp [Ev.resetLatch, Ev.evalPermit_shut, Shutdown.setPermit_causes]
      have : e.resetLatch.latch = false := by rw [State.latch, hc]; rfl
      rw [this] at hl
      cases hl
    · rwa [State.flowing_congr (y := e.toState) (by simp [Ev.resetLatch, Ev.evalPermit_lines])] at hl
  | trip m r =>
    refine .inl ⟨.of_same rfl, id, fun l h => .inl ?_⟩
    simp only [State.flowing, State.line, Ev.modLine_lines, Quad.get_set] at h ⊢
    split at h
    · next hl => subst hl; exact h
    · exact h
  | listValve m => exact .inl (moves (.of_same rfl) rfl rfl)
  | shipRun n => exact .inl (moves (.of_same rfl) rfl rfl)
  | loop st => exact .inl (moves (.of_same rfl) rfl rfl)
  | emptyQueue => exact .inl (moves (.of_same rfl) rfl rfl)
  | _ => exact .inl (moves (.of_same (by simp)) (by simp) (by simp))

/-- The fine pieces of a close entry and of a raised cause keep each valve at one stroke and its follow-on behind other work. -/
theorem Works.keeps_followOns (h : Works c s false e e') (hs : s.oneStroke) (h1 : e.oneStroke ∧ e.followOnsSound) :
    e'.oneStroke ∧ e'.followOnsSound :=
  h.keeps (P := fun x => x.oneStroke ∧ x.followOnsSound) (fun _ _ hx hxy =>
    ⟨fun l => (hxy.valveMove l).oneStroke hs (hx.1 l), fun l => (hxy.valveMove l).followOnSound (hx.1 l) (hx.2 l)⟩) h1

theorem Work.keeps_quiet (h : Work c s true e e') (h1 : s.oneStroke) (hs : s.latchQuiet)
    (he : (e.oneStroke ∧ e.followOnsSound) ∧ e.latchQuiet) : (e'.oneStroke ∧ e'.followOnsSound) ∧ e'.latchQuiet := by
  obtain ⟨hf, hq⟩ := he
  rcases h.moves_or_coarse with ⟨hm, hlatch, hflow⟩ | ⟨l, r, hold, cause, rfl⟩ | ⟨x, rfl⟩
  · refine ⟨⟨fun l => (hm l).oneStroke h1 (hf.1 l), fun l => (hm l).followOnSound (hf.1 l) (hf.2 l)⟩, fun hl l => ?_⟩
    have hel := hlatch hl
    obtain ⟨hnf, hco⟩ := e.latchQuiet_iff.mp hq hel l
    refine ⟨?_, (hm l).closesOnly hs hel hnf hco⟩
    by_contra hy
    rcases hflow l (by simpa using hy) with hx | hx
    · rw [hnf] at hx; cases hx
    · rw [hel] at hx; cases hx
  · refine ⟨(Ev.closeEntry_works (c := c) l r hold cause (Works.refl e)).keeps_followOns h1 hf, fun hl m => ?_⟩
    have hel : e.latch = true := (State.latch_of_causes (Ev.closeEntry_causes e l r hold cause)).symm.trans hl
    have hall := e.latchQuiet_iff.mp hq hel
    refine ⟨?_, Ev.closeEntry_closesOnly e l r hold cause (fun n => (hall n).2) m⟩
    rw [Ev.closeEntry_flowing]
    split
    · rfl
    · exact (hall m).1
  · refine ⟨(Ev.raiseCause_works (c := c) x (Works.refl e)).keeps_followOns h1 hf, fun hl m => ?_⟩
    cases hx : e.shut.causes.get x with
    | some t =>
      rw [Ev.raiseCause_old e x (by rw [hx]; rfl)] at hl ⊢
      exact hq hl m
    | none => exact Ev.raiseCause_quiet e x hx hf.2 m

theorem exec_latchQuiet (h : exec c s = .next u) (h1 : s.oneStroke) (hf : s.followOnsSound) (hs : s.latchQuiet) :
    u.latchQuiet := by
  refine (exec_keeps (P := fun x => (x.oneStroke ∧ x.followOnsSound) ∧ x.latchQuiet) true (fun i hi w hw => ?_) (fun t h => h)
    (fun x y hx hxy => hxy.keeps_quiet h1 hs hx) (fun x hx => ?_) h ⟨⟨h1, hf⟩, hs⟩).2
  · subst hi
    have hv := powerOn_valve hw
    refine ⟨⟨fun l _ => (hv l).1, fun l r hr => ?_⟩, fun _ l => ⟨?_, ?_, ?_, (hv l).2.2.1⟩⟩
    · rw [(hv l).2.2.1] at hr; cases hr
    · cases hw; cases l <;> rfl
    · intro r hr; rw [(hv l).1] at hr; cases hr
    · intro k hk; rw [(hv l).2.1] at hk; cases hk
  · have hb := Ev.closing_sameBlocks x
    obtain ⟨⟨ho, hf⟩, hq⟩ := hx
    refine ⟨⟨fun l => by rw [hb.valve]; exact ho l, fun l => by rw [hb.valve]; exact hf l⟩, fun hl l => ?_⟩
    rw [State.flowing, hb.line, hb.valve]
    exact hq ((State.latch_of_causes (by rw [hb.shut])).symm.trans hl) l

/-- Settles O14: permits are evaluated at every change of flow and of the cause set; a raised cause leaves CLOSE work alone, and
under the latch no line flows to ask for more. -/
theorem permitsStaySound : Obligations.PermitsStaySound :=
  ⟨fun _ _ hs h => step_keeps (P := State.permitsSound) (fun _ _ h => h) (fun _ _ _ h hv => exec_permitsSound h hv) h hs,
   fun _ _ h1 hf hs h => (step_keeps (P := fun x => (x.oneStroke ∧ x.followOnsSound) ∧ x.latchQuiet) (fun _ _ h => h)
    (fun _ _ _ h hv => ⟨⟨exec_oneStroke h hv.1.1, exec_followOnsSound h hv.1.1 hv.1.2⟩, exec_latchQuiet h hv.1.1 hv.1.2 hv.2⟩)
    h ⟨⟨h1, hf⟩, hs⟩).2⟩

end Sys2Proof.Machine
end

section
/-! Frames and their bytes: numbers and fields written and read back, and the two receivers fed a frame's bytes. -/

namespace Sys2Proof.Machine

/-! ### Numeric fields -/

theorem beBytes_length (w v : Nat) : (beBytes w v).length = w := by
  induction w with
  | zero => rfl
  | succ w ih => simp [beBytes, ih]

/-- Reading bytes after a number already read. -/
theorem foldl_beBytes (w v n : Nat) :
    (beBytes w v).foldl (fun n b => n * 256 + b.toNat) n = n * 256 ^ w + v % 256 ^ w := by
  induction w generalizing n with
  | zero => simp [beBytes, Nat.mod_one]
  | succ w ih =>
    rw [beBytes, List.foldl_cons, ih, BitVec.toNat_ofNat, show (2 : Nat) ^ 8 = 256 from rfl]
    have hsplit : v % 256 ^ (w + 1) = v % 256 ^ w + 256 ^ w * (v / 256 ^ w % 256) := by
      rw [pow_succ, Nat.mod_mul]
    rw [hsplit, pow_succ]
    ring

theorem beVal_beBytes {w v : Nat} (h : v < 256 ^ w) : beVal (beBytes w v) = v := by
  rw [beVal, foldl_beBytes, Nat.mod_eq_of_lt h]
  simp

/-- Fields that fit are read back as they were written (R191). -/
theorem splitFields_joinFields {ws vs : List Nat} (h : fieldsFit ws vs = true) :
    splitFields ws (joinFields ws vs) = some vs := by
  induction ws generalizing vs with
  | nil =>
    cases vs with
    | nil => rfl
    | cons v vs => cases h
  | cons w ws ih =>
    cases vs with
    | nil => cases h
    | cons v vs =>
      simp only [fieldsFit, Bool.and_eq_true, decide_eq_true_eq] at h
      have hlen := beBytes_length w v
      simp [splitFields, joinFields, hlen, ih h.2, beVal_beBytes h.1]

theorem joinFields_append {ws vs ws' vs' : List Nat} (h : ws.length = vs.length) :
    joinFields (ws ++ ws') (vs ++ vs') = joinFields ws vs ++ joinFields ws' vs' := by
  induction ws generalizing vs with
  | nil =>
    cases vs with
    | nil => rfl
    | cons v vs => cases h
  | cons w ws ih =>
    cases vs with
    | nil => cases h
    | cons v vs => simp [joinFields, ih (Nat.succ.inj h)]

/-! ### Requests and ship replies -/

theorem requestWidths_kindCode (r : Request) : ∃ ws, requestWidths (kindCode r) = some ws := by
  cases r <;> exact ⟨_, rfl⟩

theorem buildRequest_requestFields (r : Request) : buildRequest (kindCode r) (requestFields r) = some r := by
  cases r <;> rfl

/-- Settles O9: the widths of its kind split the payload back into the request's operands. -/
theorem requestPayloadsDecode : Obligations.RequestPayloadsDecode := by
  intro r hr
  obtain ⟨ws, hws⟩ := requestWidths_kindCode r
  simp only [requestFits, hws, Option.getD_some] at hr
  simp [decodeRequest, requestPayload, hws, splitFields_joinFields hr, buildRequest_requestFields]

theorem wireWordOf_fields (w : WireWord) :
    wireWordOf w.grade w.marking w.flags.toNat w.maxRate w.maxPressure = w := by
  simp [wireWordOf]

/-- A panel reply's payload is eleven fields. -/
theorem panelBytes (f : Byte) (w1 w2 : WireWord) : f :: (wireWordBytes w1 ++ wireWordBytes w2) =
    joinFields [1, 1, 1, 1, 2, 2, 1, 1, 1, 2, 2]
      [f.toNat, w1.grade, w1.marking, w1.flags.toNat, w1.maxRate, w1.maxPressure, w2.grade, w2.marking, w2.flags.toNat,
        w2.maxRate, w2.maxPressure] := by
  have hf : beBytes 1 f.toNat = [f] := by simp [beBytes]
  simp [wireWordBytes, joinFields, hf]

theorem fieldsFit_panel (f : Byte) {w1 w2 : WireWord} (h1 : wireWordFits w1 = true) (h2 : wireWordFits w2 = true) :
    fieldsFit [1, 1, 1, 1, 2, 2, 1, 1, 1, 2, 2]
      [f.toNat, w1.grade, w1.marking, w1.flags.toNat, w1.maxRate, w1.maxPressure, w2.grade, w2.marking, w2.flags.toNat,
        w2.maxRate, w2.maxPressure] = true := by
  simp only [wireWordFits, fieldsFit, Bool.and_eq_true, decide_eq_true_eq, and_true] at h1 h2 ⊢
  have := f.isLt
  omega

/-- Settles O10: each kind's widths split the payload back into the reply's fields. -/
theorem shipRepliesDecode : Obligations.ShipRepliesDecode := by
  intro r hr
  cases r with
  | panel f w1 w2 =>
    simp only [shipReplyFits, Bool.and_eq_true] at hr
    change decodeShip 0x12 (f :: (wireWordBytes w1 ++ wireWordBytes w2)) = _
    rw [panelBytes, decodeShip]
    simp [splitFields_joinFields (fieldsFit_panel f hr.1 hr.2), wireWordOf_fields]
  | reading tg f lv =>
    simp only [shipReplyFits, Bool.and_eq_true, decide_eq_true_eq] at hr
    have hfit : fieldsFit [1, 1, 2] [tg, f.toNat, lv] = true := by
      simp only [fieldsFit, Bool.and_eq_true, decide_eq_true_eq, and_true]
      have := f.isLt
      omega
    simp [shipReplyBytes, decodeShip, splitFields_joinFields hfit, hr.1]
  | declaration d =>
    simp [shipReplyBytes, decodeShip, splitFields_joinFields (show fieldsFit _ _ = true from hr)]
  | wait => rfl
  | refuse => rfl
  | unlisted => cases hr

/-! ### The receivers -/

/-- The console receiver collecting the rest of a body completes nothing before the last byte. -/
theorem rxBytes_body (len : Nat) (bs rest : List Byte) (b : Byte) (h : bs.length + rest.length + 1 = len + 2) :
    rxBytes (.body len bs) (rest ++ [b]) =
      (.hunt, List.replicate rest.length .nothing ++ [rxComplete len (bs ++ (rest ++ [b]))]) := by
  induction rest generalizing bs with
  | nil =>
    have hlast : ¬ bs.length + 1 < len + 2 := by simp at h; omega
    simp [rxBytes, rxByte, hlast]
  | cons x rest ih =>
    have hmore : bs.length + 1 < len + 2 := by simp at h; omega
    have := ih (bs ++ [x]) (by simp at h ⊢; omega)
    simp [rxBytes, rxByte, hmore, this, List.replicate_succ]

theorem crcBytes_eq (bs : List Byte) : ∃ hi lo, crcBytes bs = [hi, lo] := ⟨_, _, rfl⟩

theorem rxComplete_frame (kind tag : Byte) (payload : List Byte) :
    rxComplete (payload.length + 2) (kind :: tag :: payload ++
      crcBytes (BitVec.ofNat 8 (payload.length + 2) :: kind :: tag :: payload)) = .frame kind tag payload := by
  have htake : (kind :: tag :: payload ++ crcBytes (BitVec.ofNat 8 (payload.length + 2) :: kind :: tag :: payload)).take
      (payload.length + 2) = kind :: tag :: payload := List.take_left' rfl
  have hdrop : (kind :: tag :: payload ++ crcBytes (BitVec.ofNat 8 (payload.length + 2) :: kind :: tag :: payload)).drop
      (payload.length + 2) = crcBytes (BitVec.ofNat 8 (payload.length + 2) :: kind :: tag :: payload) :=
    List.drop_left' rfl
  rw [rxComplete, htake, hdrop, if_pos rfl]

/-- Settles O8: start and length byte, then the body byte by byte, whose last completes the frame. -/
theorem receiverReadsEveryFrame : Obligations.ReceiverReadsEveryFrame := by
  intro kind tag payload hlen
  obtain ⟨hi, lo, hcrc⟩ := crcBytes_eq (BitVec.ofNat 8 (payload.length + 2) :: kind :: tag :: payload)
  have hn : (BitVec.ofNat 8 (payload.length + 2)).toNat = payload.length + 2 := by
    rw [BitVec.toNat_ofNat]; omega
  have hframe := rxComplete_frame kind tag payload
  have hbody := rxBytes_body (payload.length + 2) [] (kind :: tag :: (payload ++ [hi])) lo (by simp)
  rw [hcrc] at hframe
  have hrest : kind :: tag :: payload ++ [hi, lo] = (kind :: tag :: (payload ++ [hi])) ++ [lo] := by simp
  rw [hrest] at hframe
  have hlength : rxByte .length (BitVec.ofNat 8 (payload.length + 2)) = (.body (payload.length + 2) [], .nothing) := by
    rw [rxByte, hn, if_neg (by omega)]
  have hbytes : consoleFrame kind tag payload = 0xA5#8 :: BitVec.ofNat 8 (payload.length + 2) ::
      (kind :: tag :: payload ++ crcBytes (BitVec.ofNat 8 (payload.length + 2) :: kind :: tag :: payload)) := rfl
  rw [hbytes, hcrc, hrest, rxBytes, show rxByte .hunt 0xA5#8 = (.length, .nothing) from rfl, rxBytes, hlength]
  dsimp only
  rw [hbody, List.nil_append, hframe]
  simp [List.replicate_succ]

/-- The ship receiver collecting the rest of a body completes nothing before the last byte. -/
theorem shipRxBytes_body (a k : Byte) (len : Nat) (bs rest : List Byte) (b : Byte)
    (h : bs.length + rest.length + 1 = len + 2) :
    shipRxBytes (.body a k len bs) (rest ++ [b]) =
      (.hunt, List.replicate rest.length .nothing ++ [shipComplete a k len (bs ++ (rest ++ [b]))]) := by
  induction rest generalizing bs with
  | nil =>
    have hlast : ¬ bs.length + 1 < len + 2 := by simp at h; omega
    simp [shipRxBytes, shipRxByte, hlast]
  | cons x rest ih =>
    have hmore : bs.length + 1 < len + 2 := by simp at h; omega
    have := ih (bs ++ [x]) (by simp at h ⊢; omega)
    simp [shipRxBytes, shipRxByte, hmore, this, List.replicate_succ]

theorem shipComplete_frame (a k : Byte) (payload : List Byte) :
    shipComplete a k payload.length (payload ++ crcBytes (a :: k :: BitVec.ofNat 8 payload.length :: payload)) =
      .frame a k payload := by
  rw [shipComplete, List.take_left' rfl, List.drop_left' rfl, if_pos rfl]

theorem shipRxBytes_shipFrame (a k : Byte) (payload : List Byte) (hlen : payload.length ≤ 17) :
    shipRxBytes .hunt (shipFrame a k payload) =
      (.hunt, List.replicate (payload.length + 5) .nothing ++ [.frame a k payload]) := by
  obtain ⟨hi, lo, hcrc⟩ := crcBytes_eq (a :: k :: BitVec.ofNat 8 payload.length :: payload)
  have hn : (BitVec.ofNat 8 payload.length).toNat = payload.length := by
    rw [BitVec.toNat_ofNat]; omega
  have hframe := shipComplete_frame a k payload
  have hbody := shipRxBytes_body a k payload.length [] (payload ++ [hi]) lo (by simp)
  have hrest : payload ++ [hi, lo] = (payload ++ [hi]) ++ [lo] := by simp
  rw [hcrc, hrest] at hframe
  have hlength : shipRxByte (.length a k) (BitVec.ofNat 8 payload.length) = (.body a k payload.length [], .nothing) := by
    rw [shipRxByte, hn, if_neg (by omega)]
  have hbytes : shipFrame a k payload = 0x5A#8 :: a :: k :: BitVec.ofNat 8 payload.length ::
      (payload ++ crcBytes (a :: k :: BitVec.ofNat 8 payload.length :: payload)) := rfl
  rw [hbytes, hcrc, hrest, shipRxBytes, show shipRxByte .hunt 0x5A#8 = (.address, .nothing) from rfl, shipRxBytes,
    show shipRxByte .address a = (.kind a, .nothing) from rfl, shipRxBytes,
    show shipRxByte (.kind a) k = (.length a k, .nothing) from rfl, shipRxBytes, hlength]
  dsimp only
  rw [hbody, List.nil_append, hframe]
  simp [List.replicate_succ]

/-- An event that leaves no report and no close to decide ends with its notices and the transmitter. -/
theorem exec_idle {c : Instr} {s : State} {t : Time} {op : Ev → Ev} (hc : exec c s = event t s op)
    (hr : (op (begin t s)).reports = []) (hu : (op (begin t s)).undecided = []) :
    exec c s = .next (op (begin t s)).queueNotices.arbitrate := by
  rw [hc, event, finish_idle _ hr hu]

/-- Settles O6: none of these events has work that outlasts it, and the ship receiver collects a body byte by byte. -/
theorem abandonedFramesAndPulses : Obligations.AbandonedFramesAndPulses := by
  intro s t
  refine ⟨fun c hc => ?_, ?_, fun l => ?_, fun a k payload h => shipRxBytes_shipFrame a k payload h, fun a k n h => ?_⟩
  · have h : exec c s = event t s Ev.abandonFrame := by obtain rfl | rfl | rfl | rfl := hc <;> rfl
    exact exec_idle h rfl rfl
  · have h : exec (.shipFrameError t) s = event t s Ev.shipHunt := rfl
    exact exec_idle h rfl rfl
  · have h : exec (.meterPulse t l) s =
      event t s (fun e => e.modFlow l (fun f => { f with gatePulses := f.gatePulses + 1 })) := rfl
    exact exec_idle h rfl rfl
  · simp [shipRxBytes, shipRxByte, h]

end Sys2Proof.Machine
end

section
/-! The step, the states after reset and power-on, the handshake of the terms, and the figures of a close. -/

namespace Sys2Proof.Machine
variable {x : Grade} {f g : TermsFields} {b : BargeTerms} {a : Bool}

/-- Settles O1: step is defined by the front of the queue. -/
theorem stepTakesTheFrontCommand : Obligations.StepTakesTheFrontCommand :=
  ⟨fun _ _ _ => rfl, fun s h => by rw [step, h]⟩

/-! ### The handshake -/

/-- The first usable word of an offer, another one having come before it (R159). -/
theorem Grade.take_offering_first (h : x.agreement = .offering) (hne : ∀ a, x.lastWord ≠ .usable f a) :
    x.take (.usable f a) = { x with matchCount := 1, lastWord := .usable f a } := by
  have hcount : offeringCount x f = 1 := by
    unfold offeringCount
    split
    · next f0 a0 hw =>
      rw [if_neg]
      rintro rfl
      exact hne _ hw
    · rfl
    · rfl
  simp [Grade.take, h, Grade.offeringStep, hcount, Config.termsMatches]

/-- A further equal word, with fewer than three in all (R159). -/
theorem Grade.take_offering_again (h : x.agreement = .offering) {a0 : Bool} (hw : x.lastWord = .usable f a0)
    (hn : x.matchCount + 1 ≠ Config.termsMatches) :
    x.take (.usable f a) = { x with matchCount := x.matchCount + 1, lastWord := .usable f a } := by
  have hcount : offeringCount x f = x.matchCount + 1 := by simp [offeringCount, hw]
  simp [Grade.take, h, Grade.offeringStep, hcount, hn]

/-- The third equal word is accepted (R159, R160). -/
theorem Grade.take_offering_third (h : x.agreement = .offering) {a0 : Bool} (hw : x.lastWord = .usable f a0)
    (hn : x.matchCount + 1 = Config.termsMatches) :
    x.take (.usable f a) =
      { x with agreement := .acking, accepted := some f, matchCount := 0, lastWord := .usable f a } := by
  have hcount : offeringCount x f = x.matchCount + 1 := by simp [offeringCount, hw]
  simp [Grade.take, h, Grade.offeringStep, hcount, hn]

/-- An acknowledging word, with fewer than three in all (R160). -/
theorem Grade.take_acking (h : x.agreement = .acking) (hf : x.accepted = some f)
    (hn : x.matchCount + 1 ≠ Config.termsMatches) :
    x.take (.usable f true) = { x with matchCount := x.matchCount + 1, lastWord := .usable f true } := by
  simp [Grade.take, h, Grade.ackingStep, hf, hn]

/-- The third acknowledging word agrees the stricter figures (R161). -/
theorem Grade.take_acking_third (h : x.agreement = .acking) (hf : x.accepted = some f)
    (hn : x.matchCount + 1 = Config.termsMatches) :
    x.take (.usable f true) = { x with
      agreement := .agreed, matchCount := Config.termsMatches, lastWord := .usable f true,
      agreed := x.barge.map (fun b => agreedTerms b f) } := by
  simp [Grade.take, h, Grade.ackingStep, hf, hn]

/-- Another usable word ends the agreement and is the first of a new offer (R162). -/
theorem Grade.take_agreed_other (h : x.agreement = .agreed) (hf : x.accepted = some f) (hne : g ≠ f) :
    x.take (.usable g a) = { x with
      agreement := .offering, accepted := none, agreed := none, matchCount := 1, lastWord := .usable g a } := by
  simp [Grade.take, h, Grade.keeps, hf, Ne.symm hne, Grade.reoffer, ShipWord.countOne]

/-- Settles O44: word by word through OFFERING and ACKING. -/
theorem threeEqualWordsThenThreeAcknowledged : Obligations.ThreeEqualWordsThenThreeAcknowledged := by
  intro x b f a1 a2 a3 hx hb hne y z
  let x1 : Grade := { x with matchCount := 1, lastWord := .usable f a1 }
  let x2 : Grade := { x1 with matchCount := 2, lastWord := .usable f a2 }
  let x3 : Grade := { x2 with agreement := .acking, accepted := some f, matchCount := 0, lastWord := .usable f a3 }
  let x4 : Grade := { x3 with matchCount := 1, lastWord := .usable f true }
  let x5 : Grade := { x4 with matchCount := 2, lastWord := .usable f true }
  have h1 : x.take (.usable f a1) = x1 := Grade.take_offering_first hx hne
  have h2 : x1.take (.usable f a2) = x2 := Grade.take_offering_again hx rfl (show (2 : Nat) ≠ 3 by decide)
  have h3 : x2.take (.usable f a3) = x3 := Grade.take_offering_third hx rfl rfl
  have h4 : x3.take (.usable f true) = x4 := Grade.take_acking rfl rfl (show (1 : Nat) ≠ 3 by decide)
  have h5 : x4.take (.usable f true) = x5 := Grade.take_acking rfl rfl (show (2 : Nat) ≠ 3 by decide)
  have h6 : x5.take (.usable f true) = { x5 with
      agreement := .agreed, matchCount := Config.termsMatches, lastWord := .usable f true,
      agreed := x.barge.map (fun b => agreedTerms b f) } := Grade.take_acking_third rfl rfl rfl
  have hy : y = x3 := by simp only [y, h1, h2, h3]
  have hz : z = _ := (show z = x5.take (.usable f true) by simp only [z, hy, h4, h5]).trans h6
  rw [hy, hz]
  refine ⟨rfl, rfl, rfl, by rw [hb]; rfl, fun g a hg => ?_⟩
  rw [Grade.take_agreed_other rfl rfl hg]
  exact ⟨rfl, rfl, rfl⟩

/-! ### The state after reset and power-on -/

/-- Settles O57: POWER_ON's state is written out, and each record is the same for every line, tank and grade. -/
theorem powerOnTakesItsValues : Obligations.PowerOnTakesItsValues := by
  intro s i
  refine ⟨_, rfl, rfl, rfl, fun l => ?_, fun l => ?_, fun k => ?_, fun k => ?_, fun g => ?_, fun g => ?_, rfl, rfl, rfl, rfl, rfl,
    rfl, rfl, rfl, rfl, rfl, rfl, rfl, fun x hx => ?_, rfl, rfl, rfl, rfl, fun p => ?_, rfl, rfl, rfl, rfl, rfl, rfl, rfl, rfl,
    rfl, rfl, rfl, rfl, rfl, rfl, rfl⟩
  · cases l <;> exact ⟨rfl, rfl, rfl, rfl, rfl, rfl, rfl, rfl, rfl, rfl, rfl, rfl, rfl, rfl⟩
  · cases l <;> exact ⟨rfl, rfl, rfl, rfl, rfl, rfl, rfl, rfl, rfl, rfl, rfl, rfl, rfl, rfl, rfl, rfl, rfl, rfl, rfl, rfl, rfl, rfl,
      rfl, rfl, rfl, rfl⟩
  · cases k <;> exact ⟨rfl, rfl, rfl, rfl⟩
  · cases k <;> exact ⟨rfl, rfl, rfl, rfl, rfl, rfl, rfl, rfl, rfl, rfl, rfl, rfl⟩
  · cases g <;> exact ⟨rfl, rfl, rfl⟩
  · cases g <;> exact ⟨rfl, rfl, rfl, rfl⟩
  · obtain rfl := List.eq_of_mem_replicate (n := 5) (a := Slot.idle) hx
    rfl
  · cases p <;> rfl

/-- Settles O11: nothing is at work after reset, the latch is set and both permits are withdrawn. -/
theorem resetMeetsTheInvariants : Obligations.ResetMeetsTheInvariants where
  notices := List.nodup_nil
  waiting := fun _ b g f hb => by cases hb
  lists := fun l => by cases l <;> exact ⟨List.nodup_nil, fun _ _ _ hk => nomatch hk⟩
  counts := ⟨fun k => by cases k <;> exact Nat.zero_le _, Nat.zero_le _⟩
  permits := fun p => by cases p <;> rfl
  rates := fun l r hr => by cases l <;> cases hr
  strokes := fun l h => by cases l <;> rfl
  followOns := fun l r hr => by cases l <;> cases hr
  pendingCloses := fun l r hr => by cases l <;> cases hr
  channels := fun l => by cases l <;> exact ⟨⟨nofun, nofun⟩, nofun⟩
  latched := fun _ l => by cases l <;> exact ⟨rfl, nofun, nofun, rfl⟩
  targets := fun l => by cases l <;> exact ⟨Nat.zero_le _, nofun, nofun, nofun⟩

/-! ### The figures of a close -/

theorem floorUsed_iff (p : LineProfile) (pressure : Nat) (fault : Bool) :
    floorUsed p pressure fault = true ↔ fault = true ∨ p.ratingKPa ≤ pressure + p.surgeMarginKPa + 50 := by
  rw [floorUsed, Bool.or_eq_true, decide_eq_true_eq]
  rfl

theorem surgeHeadroom_pos (p : LineProfile) (pressure : Nat) (fault : Bool) : 0 < surgeHeadroom p pressure fault := by
  unfold surgeHeadroom
  split
  · decide
  · next h => rw [floorUsed_iff] at h; omega

/-- The close time lies between the clamps. -/
theorem clampClose_bounds {p : LineProfile} (h : p.closeMinMs ≤ p.closeMaxMs) (t : Nat) :
    p.closeMinMs ≤ clampClose p t ∧ clampClose p t ≤ p.closeMaxMs := by
  unfold clampClose
  split
  · exact ⟨le_refl _, h⟩
  · split <;> omega

theorem clampClose_of_le {p : LineProfile} {t : Nat} (h : p.closeMinMs ≤ t) : clampClose p t = min t p.closeMaxMs := by
  unfold clampClose
  rw [if_neg (by omega)]
  split <;> omega

theorem closeFigures_spec (p : LineProfile) (density rate pressure : Nat) (fault : Bool) :
    let f := closeFigures p density rate pressure fault
    f.velocity = rate * 21221 / (p.boreMm * p.boreMm) ∧
    (fault = true ∨ p.ratingKPa ≤ pressure + p.surgeMarginKPa + 50 → f.headroom = 50) ∧
    (fault = false → pressure + p.surgeMarginKPa + 50 < p.ratingKPa →
      f.headroom = p.ratingKPa - pressure - p.surgeMarginKPa) ∧
    2 * density * p.lengthM * f.velocity ≤ f.tSurge * (1000 * f.headroom) ∧
    (∀ n, 2 * density * p.lengthM * f.velocity ≤ n * (1000 * f.headroom) → f.tSurge ≤ n) ∧
    (f.tSurge < p.closeMinMs → f.tClose = p.closeMinMs) ∧
    (p.closeMinMs ≤ f.tSurge → f.tClose = min f.tSurge p.closeMaxMs) ∧
    (f.limited = true ↔ fault = true ∨ p.ratingKPa ≤ pressure + p.surgeMarginKPa + 50 ∨ p.closeMaxMs < f.tSurge) := by
  intro f
  have hpos : 0 < 1000 * surgeHeadroom p pressure fault := Nat.mul_pos (by decide) (surgeHeadroom_pos p pressure fault)
  refine ⟨rfl, fun h => if_pos ((floorUsed_iff ..).mpr h), fun hf hp => if_neg ?_, le_ceilDiv_mul hpos _,
    fun n hn => (ceilDiv_le_iff hpos).mpr hn, fun h => if_pos h, fun h => clampClose_of_le h, ?_⟩
  · rw [floorUsed_iff, hf]
    simpa using hp
  · change (floorUsed p pressure fault || decide (p.closeMaxMs < f.tSurge)) = true ↔ _
    rw [Bool.or_eq_true, floorUsed_iff, decide_eq_true_eq, or_assoc]

/-- The stage targets are the fractions of the position, falling to 0 (R82). -/
theorem stageTargets_spec (position stages : Nat) (h : 0 < stages) :
    (stageTargets position stages).length = stages ∧ (stageTargets position stages).getLast? = some 0 ∧
    (stageTargets position stages).Pairwise (fun x y => y ≤ x) ∧
    (∀ k, 1 ≤ k → k ≤ stages → (stageTargets position stages)[k - 1]? = some (position * (stages - k) / stages)) ∧
    (∀ x ∈ stageTargets position stages, x ≤ position ∧ (0 < position → x < position)) := by
  have hlen : (stageTargets position stages).length = stages := by simp [stageTargets]
  have hget (k : Nat) (h1 : 1 ≤ k) (h2 : k ≤ stages) :
      (stageTargets position stages)[k - 1]? = some (position * (stages - k) / stages) := by
    have : k - 1 + 1 = k := by omega
    simp [stageTargets, List.getElem?_map, List.getElem?_range (show k - 1 < stages by omega), this]
  refine ⟨hlen, ?_, ?_, hget, fun x hx => ?_⟩
  · rw [List.getLast?_eq_getElem?, hlen, hget stages h (le_refl _)]
    simp
  · rw [stageTargets, List.pairwise_map]
    refine List.pairwise_lt_range.imp fun hij => ?_
    exact Nat.div_le_div_right (Nat.mul_le_mul_left _ (by omega))
  · obtain ⟨i, hi, rfl⟩ := List.mem_map.mp hx
    rw [List.mem_range] at hi
    have hle : position * (stages - (i + 1)) ≤ position * stages := Nat.mul_le_mul_left _ (by omega)
    refine ⟨Nat.div_le_of_le_mul (by rw [mul_comm stages]; exact hle), fun hp => ?_⟩
    rw [Nat.div_lt_iff_lt_mul h]
    exact Nat.mul_lt_mul_of_pos_left (by omega) hp

/-- The plan of a close off the seat (R82). -/
theorem State.makePlan_spec (s : State) (l : LineId) (r : Nat) (hsw : (s.valve l).closedSwitch = false)
    (hpos : 0 < (s.valve l).position) (hrate : (s.valve l).learnedRate = some r) (hr : 0 < r)
    (hn : 2 ≤ (s.profile l).closeStages) :
    let x := s.makePlan l
    let f := Machine.closeFigures (s.profile l) (s.density l) (s.flow l).rate (s.flow l).pressure (s.flow l).pressureFault
    let n := (s.profile l).closeStages
    x.rate = (s.flow l).rate ∧ x.pressure = (s.flow l).pressure ∧ x.sensorFault = (s.flow l).pressureFault ∧
    x.position = (s.valve l).position ∧ x.learnedRate = r ∧ x.velocity = f.velocity ∧ x.headroom = f.headroom ∧
    x.tSurge = f.tSurge ∧ x.tClose = f.tClose ∧ x.targets = stageTargets (s.valve l).position n ∧
    (∀ m, x.tTravel ≤ m ↔ (s.valve l).position * 1000 ≤ m * r) ∧
    (∀ m, x.dwell ≤ m ↔ x.tClose - x.tTravel ≤ m * (n - 1) ∧ pipePeriod (s.profile l) ≤ m) ∧
    x.planned = x.tTravel + (n - 1) * x.dwell ∧ x.tClose ≤ x.planned := by
  have hseat : ((s.valve l).closedSwitch || (s.valve l).position == 0) = false := by
    rw [hsw]; simpa using hpos.ne'
  intro x f n
  have htravel : x.tTravel = ceilDiv ((s.valve l).position * 1000) r := by simp [x, State.makePlan, hseat, hrate]
  have hdwell : x.dwell = max (ceilDiv (x.tClose - x.tTravel) (n - 1)) (pipePeriod (s.profile l)) := by
    simp [x, n, State.makePlan, hseat, hrate]
  have hstages : 0 < n - 1 := by omega
  refine ⟨rfl, rfl, rfl, rfl, by simp [x, State.makePlan, hrate], rfl, rfl, rfl, rfl, by simp [x, n, State.makePlan, hseat],
    fun m => ?_, fun m => ?_, rfl, ?_⟩
  · rw [htravel]; exact ceilDiv_le_iff hr
  · rw [hdwell, max_le_iff, ceilDiv_le_iff hstages]
  · have hd : x.tClose - x.tTravel ≤ (n - 1) * x.dwell := by
      calc x.tClose - x.tTravel ≤ ceilDiv (x.tClose - x.tTravel) (n - 1) * (n - 1) := le_ceilDiv_mul hstages _
        _ ≤ x.dwell * (n - 1) := Nat.mul_le_mul_right _ (by rw [hdwell]; exact le_max_left _ _)
        _ = (n - 1) * x.dwell := mul_comm _ _
    change x.tClose ≤ x.tTravel + (n - 1) * x.dwell
    omega

/-- Settles O59: the figures, the clamps, the targets and the plan. -/
theorem closePlansFallToZero : Obligations.ClosePlansFallToZero :=
  ⟨closeFigures_spec, fun _ _ _ _ _ h => clampClose_bounds h _, stageTargets_spec,
   fun s l r h1 h2 h3 h4 h5 => State.makePlan_spec s l r h1 h2 h3 h4 h5⟩

end Sys2Proof.Machine
end

section
/-! The console port: what waits, what is answered, and what the end of a transmission frees. -/

namespace Sys2Proof.Machine
variable {c : Instr} {s u v : State} {e : Ev} {t : Time} {tag : Byte} {r : Request} {b : BufId}

/-! ### The transmit arbiter -/

/-- The reply order stays, or its oldest reply is being sent (R182). -/
theorem State.arbitrate_replyOrder (v : State) : v.arbitrate.replyOrder = v.replyOrder ∨
    ∃ q x, v.replyOrder = q :: v.arbitrate.replyOrder ∧ v.arbitrate.tx = some (.reply q x) := by
  unfold State.arbitrate
  split
  · exact .inl rfl
  · split
    · next q qs h => exact .inr ⟨q, _, h, rfl⟩
    · exact .inl rfl
    · exact .inl rfl

/-- The line is free and no RESTART is due: the oldest reply, or else the first notice, is begun (R182). -/
theorem State.arbitrate_free (v : State) (htx : v.tx = none) (hr : v.restart = .idle) :
    (∀ q qs, v.replyOrder = q :: qs →
      v.arbitrate.tx = some (.reply q (v.replyAt q)) ∧ v.arbitrate.replyOrder = qs ∧ v.arbitrate.notices = v.notices) ∧
    (∀ n ns, v.replyOrder = [] → v.notices = n :: ns → v.arbitrate.tx = some (.notice n) ∧ v.arbitrate.notices = ns) ∧
    (v.replyOrder = [] → v.notices = [] → v.arbitrate.tx = none) := by
  have hfree : (v.tx.isSome || v.restart == .due) = false := by rw [htx, hr]; rfl
  unfold State.arbitrate
  rw [hfree]
  refine ⟨fun q qs h => ?_, fun n ns h hn => ?_, fun h hn => ?_⟩
  · rw [h]; exact ⟨rfl, rfl, rfl⟩
  · rw [h, hn]; exact ⟨rfl, rfl⟩
  · rw [h, hn]; exact htx

theorem State.arbitrate_due (v : State) (hr : v.restart = .due) : v.arbitrate = v := by
  unfold State.arbitrate
  rw [hr, if_pos (by simp)]

/-! ### A frame received -/

theorem State.freeBuf_empty (h : v.freeBuf = some b) : v.buf b = .empty := by
  unfold State.freeBuf at h
  split at h
  · next h1 => cases h; exact h1
  · split at h
    · next h2 => cases h; exact h2
    · cases h

theorem Ev.setBuf_sameBlocks (e : Ev) (b : BufId) (x : Buffer) : e.toState.sameBlocks (e.setBuf b x).toState := by
  cases b <;> simp [State.sameBlocks, Ev.setBuf]

/-- A frame received with a buffer free waits there behind the others. -/
theorem Ev.receive_some (h : e.freeBuf = some b) (tag : Byte) (f : Received) : e.receive tag f =
    { e.setBuf b (.waiting tag f) with waitOrder := e.waitOrder ++ [b] } := by
  unfold Ev.receive
  rw [h]
  cases b <;> rfl

/-- A frame received with both buffers occupied leaves its tag in the overrun slot. -/
theorem Ev.receive_none (h : e.freeBuf = none) (tag : Byte) (f : Received) : e.receive tag f =
    { e with overrun := some tag, replyOrder := if e.overrun.isSome then e.replyOrder else e.replyOrder ++ [.overrun] } := by
  unfold Ev.receive
  rw [h]

/-- Once an event that has touched no block but the port ends, a frame it received with a buffer free waits behind the others. -/
theorem finish_receive_some (s : State) (t : Time) (x : Rx) (h : s.freeBuf = some b) (tag : Byte) (f : Received) :
    let u := finish (Ev.receive { begin t s with rx := x } tag f)
    s.sameBlocks u ∧ u.rx = x ∧ s.waitsBehind u b tag f := by
  rw [Ev.receive_some (e := { begin t s with rx := x }) h]
  have hidle : finish { Ev.setBuf { begin t s with rx := x } b (.waiting tag f) with waitOrder := s.waitOrder ++ [b] } =
      State.arbitrate _ := finish_idle _ (by cases b <;> rfl) (by cases b <;> rfl)
  intro u
  have hu : u = State.arbitrate _ := hidle
  rw [hu]
  cases b
  · refine ⟨by simp [State.sameBlocks, Ev.setBuf, begin], by simp [Ev.setBuf], ?_, by simp, by simp [Ev.setBuf, begin], ?_⟩
    · simp [State.buf, Ev.setBuf]
    · intro y hy
      cases y
      · exact absurd rfl hy
      · simp [State.buf, Ev.setBuf, begin]
  · refine ⟨by simp [State.sameBlocks, Ev.setBuf, begin], by simp [Ev.setBuf], ?_, by simp, by simp [Ev.setBuf, begin], ?_⟩
    · simp [State.buf, Ev.setBuf]
    · intro y hy
      cases y
      · simp [State.buf, Ev.setBuf, begin]
      · exact absurd rfl hy

/-- With both buffers occupied its tag takes the overrun slot (R180). -/
theorem finish_receive_none (s : State) (t : Time) (x : Rx) (h : s.freeBuf = none) (tag : Byte) (f : Received) :
    let u := finish (Ev.receive { begin t s with rx := x } tag f)
    s.sameBlocks u ∧ u.rx = x ∧ s.overrunBy u tag := by
  rw [Ev.receive_none (e := { begin t s with rx := x }) h]
  intro u
  let w : State := { s with
    now := t, rx := x, overrun := some tag,
    replyOrder := if s.overrun.isSome then s.replyOrder else s.replyOrder ++ [.overrun] }
  have hu : u = w.arbitrate := finish_idle _ rfl rfl
  rw [hu]
  refine ⟨by simp [State.sameBlocks, w], by simp [w], by simp [w], by simp [w], fun y => ?_, ?_⟩
  · cases y <;> simp [State.buf, w]
  · rcases w.arbitrate_replyOrder with ho | ⟨q, y, ho, htx⟩
    · exact .inl ho
    · exact .inr ⟨q, y, ho, htx⟩

/-! ### A request that is not taken -/

theorem exec_row (s : State) (t : Time) (tag : Byte) (r : Request) :
    ∃ act, exec (r.row t tag) s = event t s (fun e => e.serve tag r act) := by
  cases r <;> exact ⟨_, rfl⟩

/-- A request taken neither as a waiting frame nor as a new one is received and no more. -/
theorem serve_untaken (h : s.takesIn tag r = none) (t : Time) (act : Ev → Taken) :
    (begin t s).serve tag r act = (begin t s).receive tag (.request r) := by
  unfold State.takesIn at h
  cases ha : s.awaits tag r with
  | some b => rw [ha] at h; cases h
  | none =>
    rw [ha] at h
    have hr := (receive_awaits s t tag r).trans h
    unfold Ev.serve
    rw [begin_awaits, ha]
    dsimp only
    rw [hr]

theorem Ev.receive_now (e : Ev) (tag : Byte) (f : Received) : (e.receive tag f).now = e.now ∧
    (e.receive tag f).pending = e.pending := by
  unfold Ev.receive
  split
  · next b _ => cases b <;> exact ⟨rfl, rfl⟩
  · exact ⟨rfl, rfl⟩

/-- Settles O4: the row of such a request receives it and no more. -/
theorem requestWaitsOrOverruns : Obligations.RequestWaitsOrOverruns := by
  intro s t tag r h
  obtain ⟨act, hc⟩ := exec_row s t tag r
  have hserve := serve_untaken h t act
  obtain ⟨hn, hp⟩ := Ev.receive_now (begin t s) tag (.request r)
  refine completes_of_event hc (by rw [hserve]; exact hp) (by rw [hserve]; exact hn) ?_
  rw [hserve]
  cases hf : s.freeBuf with
  | some b =>
    obtain ⟨hb, -, hw⟩ := finish_receive_some s t s.rx hf tag (.request r)
    exact ⟨hb, hw⟩
  | none =>
    obtain ⟨hb, -, hw⟩ := finish_receive_none s t s.rx hf tag (.request r)
    exact ⟨hb, hw⟩

/-! ### Frames no block sees -/

/-- The frame that may be taken is the first one, or a request of ESD_STOP during the wait of a RESTART. -/
theorem State.takable_cases (h : s.takable = some b) :
    (s.restart = .idle ∧ s.waitOrder.head? = some b) ∨ ∃ g, s.buf b = .waiting g (.request .esdStop) := by
  have found (hf : s.waitOrder.find? (fun b => match s.buf b with
      | .waiting _ (.request .esdStop) => true
      | _ => false) = some b) : ∃ g, s.buf b = .waiting g (.request .esdStop) := by
    have := List.find?_some hf
    split at this
    · next g hg => exact ⟨g, hg⟩
    · cases this
  unfold State.takable at h
  split at h
  · next hr => exact .inl ⟨hr, h⟩
  · exact .inr (found h)
  · exact .inr (found h)

/-- What may be taken is a request, when the frames that stand first are. -/
theorem State.takable_request (h : s.unreadAnswered) (hb : s.takable = some b) {g : Byte} {f : Received}
    (hw : s.buf b = .waiting g f) : ∃ r, f = .request r := by
  rcases State.takable_cases hb with ⟨hr, hh⟩ | ⟨g', hg⟩
  · exact h hr b g f hh hw
  · rw [hw] at hg; cases hg; exact ⟨_, rfl⟩

/-- Frames that stand first are requests: there is nothing to answer. -/
theorem Ev.answerUnread_same (h : e.unreadAnswered) (n : Nat) : e.answerUnread n = e := by
  cases n with
  | zero => rfl
  | succ n =>
    unfold Ev.answerUnread
    split
    · rfl
    · next b hb =>
      split
      · next g hw => obtain ⟨r, hr⟩ := State.takable_request h hb hw; cases hr
      · next g hw => obtain ⟨r, hr⟩ := State.takable_request h hb hw; cases hr
      · rfl
      · rfl
      · rfl

/-- A buffer holds a frame that no block sees. -/
def Buffer.unread : Buffer → Bool
  | .waiting _ .unknown => true
  | .waiting _ .badLength => true
  | _ => false

/-- How many buffers hold frames that no block sees. -/
def State.unreadCount (s : State) : Nat := s.buf1.unread.toNat + s.buf2.unread.toNat

theorem State.unreadCount_le (s : State) : s.unreadCount ≤ 2 := by
  have h1 := Bool.toNat_le s.buf1.unread
  have h2 := Bool.toNat_le s.buf2.unread
  unfold State.unreadCount
  omega

theorem Ev.take_answer_unreadCount (e : Ev) (b : BufId) (tag : Byte) (res : Result) (h : (e.buf b).unread = true) :
    (e.take b tag (fun x => x.answer res)).unreadCount + 1 = e.unreadCount := by
  cases b
  · change e.buf1.unread = true at h
    change (false.toNat + e.buf2.unread.toNat) + 1 = e.buf1.unread.toNat + e.buf2.unread.toNat
    rw [h, Bool.toNat_false, Bool.toNat_true]
    omega
  · change e.buf2.unread = true at h
    change (e.buf1.unread.toNat + false.toNat) + 1 = e.buf1.unread.toNat + e.buf2.unread.toNat
    rw [h, Bool.toNat_false, Bool.toNat_true]

/-- Once every frame no block sees could be answered, the frame that stands first is a request (R179). -/
theorem Ev.answerUnread_unread (n : Nat) (e : Ev) (h : e.unreadCount ≤ n) : (e.answerUnread n).unreadAnswered := by
  have seen (e : Ev) (b : BufId) (hb : (e.buf b).unread = false) (g : Byte) (f : Received) (hw : e.buf b = .waiting g f) :
      ∃ r, f = .request r := by
    rw [hw] at hb
    cases f with
    | request r => exact ⟨r, rfl⟩
    | unknown => cases hb
    | badLength => cases hb
  induction n generalizing e with
  | zero =>
    intro _ b g f _ hw
    refine seen e b ?_ g f hw
    unfold State.unreadCount at h
    cases b
    · change e.buf1.unread = false
      cases hx : e.buf1.unread <;> simp_all
    · change e.buf2.unread = false
      cases hx : e.buf2.unread <;> simp_all
  | succ n ih =>
    unfold Ev.answerUnread
    have stays (b : BufId) (htk : e.takable = some b) (hb : (e.buf b).unread = false) : e.unreadAnswered := by
      intro hr b' g f hh hw
      have : e.takable = some b' := by simp only [State.takable, hr]; exact hh
      rw [this] at htk
      obtain rfl := Option.some.inj htk
      exact seen e b' hb g f hw
    split
    · next htk =>
      intro hr b g f hh hw
      simp only [State.takable, hr] at htk
      rw [htk] at hh
      cases hh
    · next b htk =>
      split
      · next g hw =>
        refine ih _ ?_
        have := e.take_answer_unreadCount b g .unknownRequest (by rw [hw]; rfl)
        omega
      · next g hw =>
        refine ih _ ?_
        have := e.take_answer_unreadCount b g .length (by rw [hw]; rfl)
        omega
      · next hw => exact stays b htk (by rw [hw]; rfl)
      · next hw => exact stays b htk (by rw [hw]; rfl)
      · next hw => exact stays b htk (by rw [hw]; rfl)

end Sys2Proof.Machine
end

section
/-! The frame that stands first is a request: every command keeps it so; and the end of a transmission. -/

namespace Sys2Proof.Machine
variable {c : Instr} {s u v : State} {e : Ev} {t : Time} {tag : Byte} {r : Request} {b : BufId}

/-! ### RESTART's effect on the port -/

theorem Ev.restartLine_offline {w : OfflineView} (l : LineId) (hE : e.offline = w) : (e.restartLine l).offline = w := by
  have h3 := Ev.modValve_offline l (fun v => { v with pending := none, followOn := none }) (fun _ => rfl)
    (Ev.setClose_offline l none (Ev.clearPred_offline l
      (Ev.modFlow_offline l (fun f =>
        { f with watchActive := none, watchIncoming := none, overCount := 0, rateCount := 0, pressCount := 0 }) (fun _ => rfl)
        (Ev.modLine_offline l (fun x =>
          { x with
            holdReason := none, closeReason := none, tankEnd := none, baseline := none, provingStart := none,
            changeoverStart := none, throttle := 0 }) (fun _ => rfl)
          (Ev.setLate_offline l false (Ev.setSurge_offline l false (Ev.setList_offline l [] (Ev.zeroAccount_offline l hE))))))))
  unfold Ev.restartLine
  dsimp only
  split
  · exact Ev.setState_offline l _ h3
  · exact h3

theorem Ev.restartTank_offline {w : OfflineView} (k : TankId) (hE : e.offline = w) : (e.restartTank k).offline = w :=
  Ev.markIf_offline _ _ (Ev.modTank_offline k _ hE)

theorem Ev.restartLink_offline {w : OfflineView} (hE : e.offline = w) : e.restartLink.offline = w :=
  Ev.modLink_offline _ (Ev.enterSilent_offline hE)

theorem Ev.restartGrade_offline {w : OfflineView} (g : GradeId) (hE : e.offline = w) : (e.restartGrade g).offline = w :=
  Ev.modGrade_offline g _ (fun _ => rfl) hE

theorem Ev.restartEffect_offline (e : Ev) : e.restartEffect.offline = e.restartConsole.offline :=
  Ev.markIf_offline _ _ (Ev.restartGrade_offline _ (Ev.restartGrade_offline _ (Ev.restartLink_offline
    (Ev.eachTank_offline _ _ (fun k _ hx => Ev.restartTank_offline k hx)
      (Ev.eachLine_offline _ (fun l _ hx => Ev.restartLine_offline l hx) rfl)))))

/-! ### Who touches the buffers -/

/-- The commands that change the buffers or their order: requests, a frame received, the end of a transmission, RESTART's effect. -/
def touchesBuffers : Instr → Bool
  | .consoleFrameReceived _ _ _ _ => true
  | .transmitFrameEnd _ => true
  | .restartEffect _ => true
  | .powerOn _ => true
  | c => c.request.isSome

theorem offline_port {x y : State} (h : x.offline = y.offline) : x.portView = y.portView := congrArg Prod.fst h
theorem settled_port {x y : State} (h : x.settled = y.settled) : x.portView = y.portView := congrArg Prod.fst h

/-- Every other command is an event that leaves the port as it was when its work is done. -/
theorem exec_port (hc : touchesBuffers c = false) :
    ∃ t op, exec c s = event t s op ∧
      ((op (begin t s)).buf1 = s.buf1 ∧ (op (begin t s)).buf2 = s.buf2 ∧ (op (begin t s)).waitOrder = s.waitOrder ∧
        (op (begin t s)).restart = s.restart) := by
  have fields {t : Time} {e : Ev} (h : e.portView = (begin t s).portView) :
      e.buf1 = s.buf1 ∧ e.buf2 = s.buf2 ∧ e.waitOrder = s.waitOrder ∧ e.restart = s.restart := by
    simp only [State.portView, PortView.mk.injEq] at h
    obtain ⟨-, -, -, h1, h2, h3, -, -, -, -, h4⟩ := h
    exact ⟨h1, h2, h3, h4⟩
  have off {t : Time} {e : Ev} (h : e.offline = (begin t s).offline) := fields (offline_port h)
  have set {t : Time} {e : Ev} (h : e.settled = (begin t s).settled) := fields (settled_port h)
  cases c with
  | consoleGapTimeout t | consoleFramingError t | consoleLengthMismatch t | consoleBadCheck t =>
    exact ⟨t, Ev.abandonFrame, rfl, rfl, rfl, rfl, rfl⟩
  | marker t => exact ⟨t, Ev.marker, rfl, off (Ev.marker_offline rfl)⟩
  | panelSlotStart t => exact ⟨t, Ev.sendPanelPoll, rfl, off (Ev.sendPanelPoll_offline rfl)⟩
  | tankSlotStart t slot => exact ⟨t, fun e => e.sendTankPoll slot, rfl, off (Ev.sendTankPoll_offline slot rfl)⟩
  | panelReply t flags w1 w2 =>
    exact ⟨t, fun e => e.shipHunt.panelFrame (panelReplyOf flags w1 w2), rfl, off (Ev.panelFrame_offline _ rfl)⟩
  | panelReplyTimeout t => exact ⟨t, fun e => e.replyTimeout true, rfl, off (Ev.replyTimeout_offline true rfl)⟩
  | tankReplyTimeout t => exact ⟨t, fun e => e.replyTimeout false, rfl, off (Ev.replyTimeout_offline false rfl)⟩
  | reading t tank toggle flags level =>
    exact ⟨t, fun e => e.shipHunt.readingFrame tank toggle flags level, rfl, off (Ev.readingFrame_offline _ _ _ _ rfl)⟩
  | declaration t tank dec | declarationOnRead t tank dec =>
    exact ⟨t, fun e => e.shipHunt.declarationFrame tank dec, rfl, off (Ev.declarationFrame_offline _ _ rfl)⟩
  | wait t tank =>
    exact ⟨t, fun e => e.shipHunt.tankFrame tank (fun p x => x.closePoll p (.reply .wait))
      (fun p x => x.closePoll p (.reply .wait)), rfl,
      off (Ev.tankFrame_offline tank _ _ (fun p _ hx => Ev.closePoll_offline p _ hx) (fun p _ hx => Ev.closePoll_offline p _ hx) rfl)⟩
  | refuse t tank =>
    exact ⟨t, fun e => e.shipHunt.tankFrame tank (fun p x => (x.closePoll p (.reply .refuse)).refused tank)
      (fun p x => (x.closePoll p (.reply .refuse)).refused tank), rfl,
      off (Ev.tankFrame_offline tank _ _ (fun p _ hx => Ev.refused_offline tank (Ev.closePoll_offline p _ hx))
        (fun p _ hx => Ev.refused_offline tank (Ev.closePoll_offline p _ hx)) rfl)⟩
  | shipBadCheck t => exact ⟨t, fun e => e.shipHunt.badFrame .badCheck, rfl, off (Ev.badFrame_offline _ rfl)⟩
  | shipReplyUnlisted t => exact ⟨t, fun e => e.shipHunt.badFrame (.reply .unlisted), rfl, off (Ev.badFrame_offline _ rfl)⟩
  | shipFrameOtherAddress t => exact ⟨t, fun e => e.shipHunt.badFrame .noReply, rfl, off (Ev.badFrame_offline _ rfl)⟩
  | shipFrameError t => exact ⟨t, Ev.shipHunt, rfl, rfl, rfl, rfl, rfl⟩
  | silenceExpiry t =>
    refine ⟨t, fun e => if e.silenceOver then e.silenceEnds else e, rfl, ?_⟩
    dsimp only
    split
    · exact off (Ev.silenceEnds_offline rfl)
    · exact ⟨rfl, rfl, rfl, rfl⟩
  | provingTimeout t l => exact ⟨t, fun e => e.provingTimeout l, rfl, set (Ev.provingTimeout_settled l rfl)⟩
  | changeoverTimeout t l => exact ⟨t, fun e => e.changeoverTimeout l, rfl, set (Ev.changeoverTimeout_settled l rfl)⟩
  | settleDeadline t l => exact ⟨t, fun e => e.settleDeadline l, rfl, set (Ev.settleDeadline_settled l rfl)⟩
  | runDownExpiry t l => exact ⟨t, fun e => e.runDownExpiry l, rfl, set (Ev.runDownExpiry_settled l rfl)⟩
  | dwellEnd t l => exact ⟨t, fun e => e.dwellOver l, rfl, set (Ev.dwellOver_settled l rfl)⟩
  | gateEnd t => exact ⟨t, Ev.gateEnd, rfl, set (Ev.gateEnd_settled rfl)⟩
  | meterPulse t l =>
    exact ⟨t, fun e => e.modFlow l (fun f => { f with gatePulses := f.gatePulses + 1 }), rfl, rfl, rfl, rfl, rfl⟩
  | pressureSample t l x => exact ⟨t, fun e => e.pressureSample l x, rfl, set (Ev.pressureSample_settled l x rfl)⟩
  | positionSample t l x => exact ⟨t, fun e => e.positionSample l x, rfl, set (Ev.positionSample_settled l x rfl)⟩
  | turnaroundEnd t l => exact ⟨t, fun e => e.turnaroundEnd l, rfl, set (Ev.turnaroundEnd_settled l rfl)⟩
  | setupEnd t l => exact ⟨t, fun e => e.setupEnd l, rfl, set (Ev.setupEnd_settled l rfl)⟩
  | blankingEnd t l => exact ⟨t, fun e => e.blankingEnd l, rfl, set (Ev.blankingEnd_settled l rfl)⟩
  | simulatedArrival t l => exact ⟨t, fun e => e.simulatedArrival l, rfl, set (Ev.simulatedArrival_settled l rfl)⟩
  | travelTimeout t l => exact ⟨t, fun e => e.travelTimeout l, rfl, set (Ev.travelTimeout_settled l rfl)⟩
  | extensionExhausted t l => exact ⟨t, fun e => e.extensionExhausted l, rfl, set (Ev.extensionExhausted_settled l rfl)⟩
  | holdEnd t l => exact ⟨t, fun e => e.holdEnd l, rfl, set (Ev.holdEnd_settled l rfl)⟩
  | closedLimitSwitch t l a => exact ⟨t, fun e => e.closedSwitch l a, rfl, set (Ev.closedSwitch_settled l a rfl)⟩
  | openLimitSwitch t l a => exact ⟨t, fun e => e.openSwitch l a, rfl, set (Ev.openSwitch_settled l a rfl)⟩
  | accumulatorSample t x => exact ⟨t, fun e => e.accumulatorSample x, rfl, set (Ev.accumulatorSample_settled x rfl)⟩
  | esdLoopOpen t => exact ⟨t, Ev.loopOpens, rfl, set (Ev.loopOpens_settled rfl)⟩
  | esdLoopClosed t => exact ⟨t, Ev.loopCloses, rfl, set (Ev.loopCloses_settled rfl)⟩
  | loopDebounceExpiry t => exact ⟨t, Ev.debounceExpires, rfl, set (Ev.debounceExpires_settled rfl)⟩
  | _ => cases hc

/-! ### The frame that stands first -/

theorem unreadAnswered_congr {x y : State} (h : x.unreadAnswered) (h1 : y.buf1 = x.buf1) (h2 : y.buf2 = x.buf2)
    (hw : y.waitOrder = x.waitOrder) (hr : y.restart = x.restart) : y.unreadAnswered := by
  intro hi b g f hh hb
  refine h (hr ▸ hi) b g f (hw ▸ hh) ?_
  cases b
  · exact h1.symm.trans hb
  · exact h2.symm.trans hb

theorem finish_unreadAnswered (h : e.unreadAnswered) : (finish e).unreadAnswered :=
  unreadAnswered_congr h (by simp) (by simp) (by simp) (by simp)

/-- A request received leaves what stands first as it was, or stands first itself. -/
theorem Ev.receive_unreadAnswered (h : e.unreadAnswered) (tag : Byte) (r : Request) :
    (e.receive tag (.request r)).unreadAnswered := by
  cases hf : e.freeBuf with
  | none =>
    rw [Ev.receive_none hf]
    exact unreadAnswered_congr h rfl rfl rfl rfl
  | some b =>
    rw [Ev.receive_some hf]
    intro hi b' g f hh hw
    have hbuf : (e.setBuf b (.waiting tag (.request r))).buf b' = .waiting g f := hw
    have hrest : e.restart = .idle := by cases b <;> exact hi
    rw [Ev.buf_setBuf] at hbuf
    split at hbuf
    · cases hbuf; exact ⟨r, rfl⟩
    · next hne =>
      change (e.waitOrder ++ [b]).head? = some b' at hh
      cases hord : e.waitOrder with
      | nil => rw [hord] at hh; exact absurd (Option.some.inj hh).symm hne
      | cons x xs =>
        refine h hrest b' g f ?_ hbuf
        rw [hord] at hh ⊢
        exact hh

theorem Ev.serve_unreadAnswered (h : e.unreadAnswered) (tag : Byte) (r : Request) (act : Ev → Taken) :
    (e.serve tag r act).unreadAnswered := by
  unfold Ev.serve
  split
  · exact Ev.answerUnread_unread 2 _ (State.unreadCount_le _)
  · dsimp only
    split
    · exact Ev.answerUnread_unread 2 _ (State.unreadCount_le _)
    · exact Ev.receive_unreadAnswered h tag r

theorem Ev.endFrame_unreadAnswered (h : e.unreadAnswered) : e.endFrame.unreadAnswered := by
  unfold Ev.endFrame
  split
  · exact h
  · exact unreadAnswered_congr h rfl rfl rfl rfl
  · next src r _ =>
    intro hi b g f hh hw
    cases src with
    | overrun =>
      refine h ?_ b g f hh ?_
      · dsimp only at hi; split at hi
        · cases hi
        · exact hi
      · cases b <;> exact hw
    | buffer d =>
      have hbuf : (e.setBuf d .empty).buf b = .waiting g f := by cases b <;> exact hw
      rw [Ev.buf_setBuf] at hbuf
      split at hbuf
      · cases hbuf
      · refine h ?_ b g f ?_ hbuf
        · dsimp only at hi; split at hi
          · cases hi
          · cases d <;> exact hi
        · cases d <;> exact hh

theorem exec_of_request (hc : c.request = some (t, tag, r)) : ∃ act, exec c s = event t s (fun e => e.serve tag r act) := by
  obtain ⟨act, h⟩ := exec_row s t tag r
  have hrow : c = r.row t tag := by cases c <;> cases hc <;> rfl
  exact ⟨act, hrow ▸ h⟩

theorem exec_unreadAnswered (h : exec c s = .next u) (hs : s.unreadAnswered) : u.unreadAnswered := by
  have hs' (t : Time) : (begin t s).unreadAnswered := hs
  by_cases hb : touchesBuffers c = true
  · cases hreq : c.request with
    | some p =>
      obtain ⟨t, tag, r⟩ := p
      obtain ⟨act, ha⟩ := exec_of_request (s := s) hreq
      rw [ha] at h
      cases h
      exact finish_unreadAnswered (Ev.serve_unreadAnswered (hs' t) tag r act)
    | none =>
      cases c with
      | consoleFrameReceived t kind tag payload =>
        cases h
        exact finish_unreadAnswered (Ev.answerUnread_unread 2 _ (State.unreadCount_le _))
      | transmitFrameEnd t =>
        cases h
        exact finish_unreadAnswered (Ev.endFrame_unreadAnswered (hs' t))
      | restartEffect t =>
        cases h
        refine finish_unreadAnswered ?_
        dsimp only
        split
        · have hp := offline_port (Ev.restartEffect_offline (begin t s))
          intro _ b g f hh _
          have hw : (begin t s).restartEffect.waitOrder = [] := congrArg PortView.waitOrder hp
          rw [hw] at hh
          cases hh
        · exact hs
      | powerOn i =>
        cases h
        intro _ b g f hh _
        cases hh
      | _ => simp_all [touchesBuffers, Instr.request]
  · obtain ⟨t, op, hc, h1, h2, hw, hr⟩ := exec_port (c := c) (s := s) (by simpa using hb)
    rw [hc] at h
    cases h
    exact finish_unreadAnswered (unreadAnswered_congr hs h1 h2 hw hr)

/-! ### A frame received -/

theorem exec_consoleFrame (s : State) (t : Time) (kind tag : Byte) (payload : List Byte) :
    exec (.consoleFrameReceived t kind tag payload) s = event t s (fun e => e.consoleFrame kind tag payload) := rfl

theorem Ev.consoleFrame_now (e : Ev) (kind tag : Byte) (payload : List Byte) :
    (e.consoleFrame kind tag payload).now = e.now ∧ (e.consoleFrame kind tag payload).pending = e.pending := by
  unfold Ev.consoleFrame
  obtain ⟨x1, x2, w, ro, h, -⟩ := Ev.answerUnread_spec 2 (Ev.receive { e with rx := .hunt } tag (receivedOf kind payload))
  rw [h]
  exact Ev.receive_now _ _ _

/-- Behind a frame that stands first, during the wait of a RESTART or with both buffers occupied a frame is received and no
more. -/
theorem Ev.consoleFrame_waits {s : State} (h : s.unreadAnswered) (t : Time) (kind tag : Byte) (payload : List Byte)
    (hwait : ∀ b, s.freeBuf = some b → s.restart ≠ .idle ∨ ∃ x, s.waitOrder.head? = some x ∧ s.buf x ≠ .empty) :
    (begin t s).consoleFrame kind tag payload =
      Ev.receive { begin t s with rx := .hunt } tag (receivedOf kind payload) := by
  refine Ev.answerUnread_same ?_ 2
  cases hf : s.freeBuf with
  | none =>
    rw [Ev.receive_none (e := { begin t s with rx := .hunt }) hf]
    exact unreadAnswered_congr h rfl rfl rfl rfl
  | some b =>
    rw [Ev.receive_some (e := { begin t s with rx := .hunt }) hf]
    intro hi d g f hh hw
    have hidle : s.restart = .idle := by cases b <;> exact hi
    obtain ⟨x, hx, hne⟩ := (hwait b hf).resolve_left (fun hn => hn hidle)
    have hhead : (s.waitOrder ++ [b]).head? = some d := hh
    rw [List.head?_append, hx, Option.some_or, Option.some.injEq] at hhead
    subst hhead
    have hxb : x ≠ b := by
      rintro rfl
      exact hne (State.freeBuf_empty hf)
    have hbuf : (Ev.setBuf { begin t s with rx := .hunt } b (.waiting tag (receivedOf kind payload))).buf x = .waiting g f := hw
    rw [Ev.buf_setBuf, if_neg hxb] at hbuf
    exact h hidle x g f hx hbuf

/-- With no frame waiting and no RESTART there is nothing to answer. -/
theorem Ev.answerUnread_none (h : e.takable = none) (n : Nat) : e.answerUnread n = e := by
  cases n with
  | zero => rfl
  | succ n => unfold Ev.answerUnread; rw [h]

/-- A frame that no block sees is answered when nothing waits behind it (R179). -/
theorem Ev.answerUnread_first {f : Received} {res : Result} (htk : e.takable = some b) (hb : e.buf b = .waiting tag f)
    (hres : f = .unknown ∧ res = .unknownRequest ∨ f = .badLength ∧ res = .length)
    (hnext : (e.take b tag (fun x => x.answer res)).takable = none) :
    e.answerUnread 2 = e.take b tag (fun x => x.answer res) := by
  unfold Ev.answerUnread
  rw [htk]
  dsimp only
  rw [hb]
  obtain ⟨rfl, rfl⟩ | ⟨rfl, rfl⟩ := hres
  · exact Ev.answerUnread_none hnext 1
  · exact Ev.answerUnread_none hnext 1

/-- The event of a frame received into a free buffer with nothing waiting before it. -/
def receivedFirst (s : State) (t : Time) (b : BufId) (tag : Byte) (f : Received) : Ev :=
  { Ev.setBuf { begin t s with rx := .hunt } b (.waiting tag f) with waitOrder := [b] }

theorem receivedFirst_eq (t : Time) (hf : s.freeBuf = some b) (hord : s.waitOrder = []) (tag : Byte) (f : Received) :
    Ev.receive { begin t s with rx := .hunt } tag f = receivedFirst s t b tag f := by
  rw [Ev.receive_some (e := { begin t s with rx := .hunt }) hf, receivedFirst]
  have : (begin t s).waitOrder = [] := hord
  rw [this]
  rfl

theorem receivedFirst_takable (t : Time) (b : BufId) (tag : Byte) (f : Received) (hr : s.restart = .idle) :
    (receivedFirst s t b tag f).takable = some b ∧ (receivedFirst s t b tag f).buf b = .waiting tag f := by
  cases b <;> simp [receivedFirst, State.takable, Ev.setBuf, begin, hr, State.buf]

/-- A frame that no block sees, received with nothing waiting, is answered at once. -/
theorem receivedFirst_answered (t : Time) (b : BufId) (tag : Byte) {f : Received} {res : Result} (hr : s.restart = .idle)
    (hres : f = .unknown ∧ res = .unknownRequest ∨ f = .badLength ∧ res = .length) :
    let u := finish ((receivedFirst s t b tag f).answerUnread 2)
    s.sameBlocks u ∧ u.rx = .hunt ∧
      u.buf b = .answered { tag := tag, result := res, record := [], restart := false } ∧ u.replyStands b := by
  obtain ⟨htk, hb⟩ := receivedFirst_takable t b tag f hr
  have hnext : ((receivedFirst s t b tag f).take b tag (fun x => x.answer res)).takable = none := by
    cases b <;> simp [receivedFirst, Ev.take, Ev.answer, State.takable, Ev.setBuf, begin, hr]
  rw [Ev.answerUnread_first htk hb hres hnext]
  refine ⟨?_, ?_, ?_, finish_reply _ b ?_⟩
  · rw [finish_idle _ (by cases b <;> rfl) (by cases b <;> rfl)]
    cases b <;> simp [State.sameBlocks, receivedFirst, Ev.take, Ev.answer, Ev.setBuf, begin]
  · rw [finish_rx]
    cases b <;> rfl
  · cases b <;> simp [State.buf, receivedFirst, Ev.take, Ev.answer, Ev.setBuf, begin, hr]
  · cases b <;> simp [receivedFirst, Ev.take, Ev.answer, Ev.setBuf]

/-- A request received with nothing waiting waits for its own row, which takes it. -/
theorem receivedFirst_request (tag : Byte) (r : Request) (hf : s.freeBuf = some b) (hord : s.waitOrder = [])
    (hr : s.restart = .idle) : s.takesIn tag r = some b := by
  have hnone : s.awaits tag r = none := by simp [State.awaits, State.takable, hr, hord]
  have hev : (begin s.now s).receive tag (.request r) =
      { (begin s.now s).setBuf b (.waiting tag (.request r)) with waitOrder := [b] } := by
    rw [Ev.receive_some (e := begin s.now s) hf, show (begin s.now s).waitOrder = [] from hord]
    rfl
  rw [State.takesIn, hnone]
  dsimp only
  rw [hev]
  cases b <;> simp [State.awaits, State.takable, Ev.setBuf, begin, hr, State.buf]

theorem receivedOf_cases (kind : Byte) (payload : List Byte) :
    (decodeRequest kind payload = none → receivedOf kind payload = .unknown) ∧
    (decodeRequest kind payload = some none → receivedOf kind payload = .badLength) ∧
    (∀ r, decodeRequest kind payload = some (some r) → receivedOf kind payload = .request r) := by
  refine ⟨fun h => ?_, fun h => ?_, fun r h => ?_⟩ <;> simp [receivedOf, h]

/-- A frame received touches no block but the port. -/
theorem consoleFrame_blocks (s : State) (t : Time) (kind tag : Byte) (payload : List Byte) :
    s.sameBlocks (finish ((begin t s).consoleFrame kind tag payload)) ∧
      (finish ((begin t s).consoleFrame kind tag payload)).rx = .hunt := by
  obtain ⟨x1, x2, w, ro, h, -⟩ :=
    Ev.answerUnread_spec 2 (Ev.receive { begin t s with rx := .hunt } tag (receivedOf kind payload))
  rw [Ev.consoleFrame, h]
  cases hf : s.freeBuf with
  | none =>
    rw [Ev.receive_none (e := { begin t s with rx := .hunt }) hf, finish_idle _ rfl rfl]
    simp [State.sameBlocks, Ev.withPort, begin]
  | some b =>
    rw [Ev.receive_some (e := { begin t s with rx := .hunt }) hf, finish_idle _ (by cases b <;> rfl) (by cases b <;> rfl)]
    cases b <;> simp [State.sameBlocks, Ev.withPort, begin, Ev.setBuf]

/-- Settles O5: what stands first is a request, so a frame behind it is received and no more; one that stands first itself is
answered unless it is a request. -/
theorem receivedFrameIsBufferedOrAnswered : Obligations.ReceivedFrameIsBufferedOrAnswered := by
  refine ⟨fun s u hs h => step_keeps (P := State.unreadAnswered) (fun _ _ h => h)
    (fun _ _ _ h hv => exec_unreadAnswered h hv) h hs, fun s t kind tag payload hs => ?_,
    fun s t kind tag payload b hf hord hr => ?_⟩
  · obtain ⟨hn, hp⟩ := Ev.consoleFrame_now (begin t s) kind tag payload
    refine completes_of_event (exec_consoleFrame s t kind tag payload) hp hn ?_
    have hgeneral : s.sameBlocks (finish ((begin t s).consoleFrame kind tag payload)) ∧
        (finish ((begin t s).consoleFrame kind tag payload)).rx = .hunt := by
      exact consoleFrame_blocks s t kind tag payload
    refine ⟨hgeneral.1, hgeneral.2, fun hf => ?_, fun b hf hwait => ?_⟩
    · rw [Ev.consoleFrame_waits hs t kind tag payload fun b hb => by rw [hf] at hb; cases hb]
      exact (finish_receive_none s t .hunt hf tag _).2.2
    · rw [Ev.consoleFrame_waits hs t kind tag payload fun d hd => by rw [hf] at hd; cases hd; exact hwait]
      exact (finish_receive_some s t .hunt hf tag _).2.2
  · obtain ⟨hn, hp⟩ := Ev.consoleFrame_now (begin t s) kind tag payload
    refine completes_of_event (exec_consoleFrame s t kind tag payload) hp hn ?_
    have heq : (begin t s).consoleFrame kind tag payload =
        (receivedFirst s t b tag (receivedOf kind payload)).answerUnread 2 := by
      rw [Ev.consoleFrame, receivedFirst_eq t hf hord]
    obtain ⟨hunknown, hlength, hreq⟩ := receivedOf_cases kind payload
    rw [heq]
    obtain ⟨hb, hx⟩ := consoleFrame_blocks s t kind tag payload
    rw [heq] at hb hx
    refine ⟨hb, hx, fun h => ?_, fun h => ?_, fun r h => ?_⟩
    · rw [hunknown h]
      exact (receivedFirst_answered t b tag hr (.inl ⟨rfl, rfl⟩)).2.2
    · rw [hlength h]
      exact (receivedFirst_answered t b tag hr (.inr ⟨rfl, rfl⟩)).2.2
    · obtain ⟨htk, hbuf⟩ := receivedFirst_takable t b tag (.request r) hr
      have hsame : (receivedFirst s t b tag (.request r)).answerUnread 2 = receivedFirst s t b tag (.request r) := by
        unfold Ev.answerUnread
        rw [htk]
        dsimp only
        rw [hbuf]
      rw [hreq r h, hsame]
      refine ⟨?_, ?_, receivedFirst_request tag r hf hord hr⟩
      · cases b <;> simp [State.buf, receivedFirst, Ev.setBuf]
      · cases b <;> simp [receivedFirst]

/-! ### The end of a transmission -/

/-- The port once the last byte is sent: nothing in transmission, the buffer or slot of the reply empty, a RESTART due if the reply
was its own. -/
structure State.FrameEnded (s e : State) : Prop where
  blocks : s.sameBlocks e
  tx : e.tx = none
  orders : e.replyOrder = s.replyOrder ∧ e.notices = s.notices
  buffer : ∀ b r, s.tx = some (.reply (.buffer b) r) → e.buf b = .empty ∧ ∀ x, x ≠ b → e.buf x = s.buf x
  bufferKept : ∀ b, (∀ r, s.tx ≠ some (.reply (.buffer b) r)) → e.buf b = s.buf b
  slot : ∀ r, s.tx = some (.reply .overrun r) → e.overrun = none
  slotKept : (∀ r, s.tx ≠ some (.reply .overrun r)) → e.overrun = s.overrun
  due : ∀ q r, s.tx = some (.reply q r) → r.restart = true → e.restart = .due
  restartKept : (∀ q r, s.tx = some (.reply q r) → r.restart = false) → e.restart = s.restart

theorem Ev.endFrame_ended (s : State) (t : Time) : s.FrameEnded (begin t s).endFrame.toState := by
  cases htx : s.tx with
  | none =>
    have he : (begin t s).endFrame = begin t s := by
      unfold Ev.endFrame
      rw [show (begin t s).tx = none from htx]
    rw [he]
    exact ⟨by simp [State.sameBlocks, begin], htx, ⟨rfl, rfl⟩, fun b r h => by simp [htx] at h, fun b _ => rfl,
      fun r h => by simp [htx] at h, fun _ => rfl, fun q r h => by simp [htx] at h, fun _ => rfl⟩
  | some f =>
    cases f with
    | notice n =>
      have he : (begin t s).endFrame = { begin t s with tx := none } := by
        unfold Ev.endFrame
        rw [show (begin t s).tx = some (.notice n) from htx]
      rw [he]
      exact ⟨by simp [State.sameBlocks, begin], rfl, ⟨rfl, rfl⟩, fun b r h => by simp [htx] at h, fun b _ => rfl,
        fun r h => by simp [htx] at h, fun _ => rfl, fun q r h => by simp [htx] at h, fun _ => rfl⟩
    | reply src r =>
      cases src with
      | overrun =>
        have he : (begin t s).endFrame =
            { begin t s with overrun := none, tx := none, restart := if r.restart then .due else s.restart } := by
          unfold Ev.endFrame
          rw [show (begin t s).tx = some (.reply .overrun r) from htx]
          rfl
        rw [he]
        refine ⟨by simp [State.sameBlocks, begin], rfl, ⟨rfl, rfl⟩, fun b q h => by simp [htx] at h, fun b _ => rfl,
          fun _ _ => rfl, fun h => absurd htx (h r), fun q x h hr => ?_, fun h => ?_⟩
        · rw [htx] at h; cases h; exact if_pos hr
        · exact if_neg (by simp [h _ _ htx])
      | buffer b =>
        have he : (begin t s).endFrame = { (begin t s).setBuf b .empty with
            tx := none, restart := if r.restart then .due else s.restart } := by
          unfold Ev.endFrame
          rw [show (begin t s).tx = some (.reply (.buffer b) r) from htx]
          cases b <;> rfl
        have hbuf (x : BufId) : ({ (begin t s).setBuf b .empty with
            tx := none, restart := if r.restart then .due else s.restart } : Ev).buf x =
            if x = b then .empty else s.buf x := Ev.buf_setBuf (begin t s) b x .empty
        rw [he]
        refine ⟨by cases b <;> simp [State.sameBlocks, begin, Ev.setBuf], rfl, by cases b <;> exact ⟨rfl, rfl⟩,
          fun d q h => ?_, fun d h => ?_, fun q h => by simp [htx] at h, fun _ => by cases b <;> rfl, fun q x h hr => ?_,
          fun h => ?_⟩
        · rw [htx] at h
          cases h
          exact ⟨by rw [hbuf, if_pos rfl], fun x hx => by rw [hbuf, if_neg hx]⟩
        · rw [hbuf, if_neg]
          rintro rfl
          exact h r htx
        · rw [htx] at h; cases h; exact if_pos hr
        · exact if_neg (by simp [h _ _ htx])

/-- An end of transmission leaves no other work. -/
theorem Ev.endFrame_idle (s : State) (t : Time) : (begin t s).endFrame.reports = [] ∧ (begin t s).endFrame.undecided = [] ∧
    (begin t s).endFrame.dirty = [] ∧ (begin t s).endFrame.now = t ∧ (begin t s).endFrame.pending = s.pending := by
  unfold Ev.endFrame
  split
  · exact ⟨rfl, rfl, rfl, rfl, rfl⟩
  · exact ⟨rfl, rfl, rfl, rfl, rfl⟩
  · next src r _ =>
    cases src with
    | overrun => exact ⟨rfl, rfl, rfl, rfl, rfl⟩
    | buffer b => cases b <;> exact ⟨rfl, rfl, rfl, rfl, rfl⟩

/-- Settles O7: the frame's end frees the line, and the arbiter chooses. -/
theorem frameEndFreesTheLine : Obligations.FrameEndFreesTheLine := by
  intro s t
  obtain ⟨hrep, hund, hdirty, hnow, hpend⟩ := Ev.endFrame_idle s t
  have hc : exec (.transmitFrameEnd t) s = event t s Ev.endFrame := rfl
  have he := Ev.endFrame_ended s t
  refine completes_of_event hc hpend hnow ?_
  have hfin : finish (begin t s).endFrame = (begin t s).endFrame.toState.arbitrate := by
    rw [finish_idle _ hrep hund, Ev.queueNotices, hdirty]
    rfl
  rw [hfin]
  generalize (begin t s).endFrame.toState = e at he
  have hbufs (x : BufId) : e.arbitrate.buf x = e.buf x := by cases x <;> simp [State.buf]
  refine ⟨?_, fun b r htx => ⟨?_, fun x hx => ?_, fun hr => ?_⟩, fun r htx => ?_, fun hidle hno => ?_⟩
  · have hb := he.blocks
    simpa [State.sameBlocks] using hb
  · rw [hbufs]; exact (he.buffer b r htx).1
  · rw [hbufs]; exact (he.buffer b r htx).2 x hx
  · have hdue := he.due _ r htx hr
    rw [State.arbitrate_due e hdue]
    exact ⟨hdue, he.tx⟩
  · rw [State.arbitrate_overrun]; exact he.slot r htx
  · have hrest : e.restart = .idle := (he.restartKept hno).trans hidle
    obtain ⟨hreply, hnotice, hnone⟩ := e.arbitrate_free he.tx hrest
    obtain ⟨hro, hns⟩ := he.orders
    refine ⟨by rw [State.arbitrate_restart]; exact hrest, fun q qs hq => ?_, fun n ns hq hn => ?_, fun hq hn => ?_⟩
    · obtain ⟨h1, h2, h3⟩ := hreply q qs (hro.trans hq)
      refine ⟨⟨_, h1⟩, h2, h3.trans hns, fun hne => ⟨fun b x hqb hx => ?_, fun g hqo hg => ?_⟩⟩
      · subst hqb
        rw [h1, State.replyAt, he.bufferKept b hne, hx]
      · subst hqo
        rw [h1, State.replyAt, he.slotKept hne, hg]
        rfl
    · exact hnotice n ns (hro.trans hq) (hns.trans hn)
    · exact hnone (hro.trans hq) (hns.trans hn)

end Sys2Proof.Machine
end

section
/-! Requests and events whose effect leaves no report and no close for the end of the event: the state they leave is read off the
effect. START's refusals, MANUAL_TERMS, ESD_RESET, RENEGOTIATE, the starts of the slots and the settle deadline. -/

namespace Sys2Proof.Machine

/-! ### Effects that leave nothing to hand on -/

/-- An accepted request that leaves no report and no close leaves the blocks of its own effect, its notices noted. -/
theorem answers_of_effect {s : State} {c : Instr} {t : Time} {tag : Byte} {r : Request} {b : BufId} {act : Ev → Taken}
    {res : Result} {Q : State → Prop} (h : s.takesIn tag r = some b) (hc : exec c s = event t s (fun e => e.serve tag r act))
    (ha : ∀ x1 x2 w, ∃ e : Ev, act (takeEv s t x1 x2 w) = e.answer res ∧ e.pending = s.pending ∧
      e.now = t ∧ e.restart = s.restart ∧ e.reports = [] ∧ e.undecided = [] ∧
      ∀ v, e.toState.sameBlocks v → (∀ k ∈ e.dirty, v.announced k) → Q v) :
    Answers s c t b tag res [] Q := by
  refine answers_of_serve h hc (fun x1 x2 w => ?_) (fun x1 x2 w y1 y2 v ro => ?_)
  · obtain ⟨e, he, hp, hn, hr, -⟩ := ha x1 x2 w
    rw [he]
    exact ⟨rfl, rfl, hp, hn, hr⟩
  · obtain ⟨e, he, -, -, -, hrep, hund, hQ⟩ := ha x1 x2 w
    have hfinish := finish_idle (e.withPort y1 y2 v ro) hrep hund
    rw [he]
    refine (congrArg Q hfinish).mpr ?_
    exact hQ _ (Ev.closing_sameBlocks (e.withPort y1 y2 v ro)) fun k hk => announced_of_dirty _ k hk

/-- An event that leaves no report and no close leaves the blocks of its own work. -/
theorem completes_of_effect {s : State} {c : Instr} {t : Time} {op : Ev → Ev} {Q : State → Prop} (e : Ev)
    (hc : exec c s = event t s op) (he : op (begin t s) = e) (hp : e.pending = s.pending) (hn : e.now = t)
    (hr : e.reports = []) (hu : e.undecided = []) (hQ : ∀ v, e.toState.sameBlocks v → Q v) : Completes s c t Q := by
  refine completes_of_event hc (he ▸ hp) (he ▸ hn) ?_
  rw [he, finish_idle e hr hu]
  exact hQ _ (Ev.closing_sameBlocks e)

/-! ### START's refusals (R5) -/

theorem start_servesLine (t : Time) (tag : Byte) (n : Nat) : ServesLine (.start t tag n) t tag (.start n) n Ev.startLine :=
  fun _ => rfl

theorem Ev.startLine_wrongState {e : Ev} {l : LineId} (h : (e.line l).state ≠ .idle) :
    e.startLine l = e.answer .wrongState := if_pos h

theorem Ev.startLine_noFillOrder {e : Ev} {l : LineId} (h : (e.line l).state = .idle) (hl : e.list l = []) :
    e.startLine l = e.answer (.refused .noFillOrder) := by
  simp [Ev.startLine, h, hl]

theorem Ev.startLine_refused {e : Ev} {l : LineId} {k : TankId} {ks : List TankId} {r : Reason}
    (h : (e.line l).state = .idle) (hl : e.list l = k :: ks) (hr : e.startRefusal l = some r) :
    e.startLine l = e.answer (.refused r) := by
  simp [Ev.startLine, h, hl, hr]

/-- Settles O22: each condition of R5 that fails first is the refusal, and a refusal is a mere answer. -/
theorem startIsRefusedInOrder : Obligations.StartIsRefusedInOrder := by
  intro s t tag n l b hn hb
  have answered {r : Result} (h : ∀ x1 x2 w, (takeEv s t x1 x2 w).startLine l = (takeEv s t x1 x2 w).answer r) :
      Answers s (.start t tag n) t b tag r [] s.sameBlocks :=
    (answers_unchanged hb ((start_servesLine t tag n).exec_of_lineOf hn s) h).imp fun _ hu => hu.1
  refine ⟨fun h => answered fun _ _ _ => Ev.startLine_wrongState h, fun hst => ⟨fun hl =>
    answered fun _ _ _ => Ev.startLine_noFillOrder hst hl, fun k ks hl => ?_⟩⟩
  have refused {r : Reason} (h : s.startRefusal l = some r) :
      Answers s (.start t tag n) t b tag (.refused r) [] s.sameBlocks :=
    answered fun _ _ _ => Ev.startLine_refused hst hl h
  refine ⟨fun hlatch => refused ?_, fun hlatch hterms => refused ?_, fun hlatch hterms => ⟨fun hready => refused ?_,
    fun p hp hready => ⟨fun hstop => refused ?_, fun hstop hlive => refused ?_⟩⟩⟩
  · simp [State.startRefusal, hlatch]
  · simp [State.startRefusal, hlatch, hterms]
  · cases hp : s.link.panel with
    | none => simp [State.startRefusal, hlatch, hterms, hp]
    | some p => simp [State.startRefusal, hlatch, hterms, hp, hready p hp]
  · simp [State.startRefusal, hlatch, hterms, hp, hready, hstop]
  · simp [State.startRefusal, hlatch, hterms, hp, hready, hstop, hl, hlive]

/-! ### MANUAL_TERMS (R164) -/

theorem Ev.manualRequest_unknownGrade {e : Ev} {n : Nat} {m : ManualOperands} (hn : gradeOf n = none) :
    e.manualRequest n m = e.answer (.fieldRange 0) := by
  simp [Ev.manualRequest, hn]

theorem Ev.manualRequest_fieldRange {e : Ev} {n i : Nat} {m : ManualOperands} {g : GradeId} (hn : gradeOf n = some g)
    (hi : manualError m = some i) : e.manualRequest n m = e.answer (.fieldRange i) := by
  simp [Ev.manualRequest, hn, hi]

/-- The refusals of MANUAL_TERMS once its fields are in range, in their order (R164). -/
def State.manualRefusal (s : State) (g : GradeId) : Option Reason :=
  if (s.grade g).agreement = .undeclared then some .undeclaredGrade
  else if s.link.state ≠ .up then some .linkNotUp
  else if ((s.link.panel.map fun p => p.termsCapable).getD true) then some .panelCapable
  else if s.gradeActive g then some .linesActive
  else none

theorem Ev.manualRequest_eq {e : Ev} {n : Nat} {m : ManualOperands} {g : GradeId} (hn : gradeOf n = some g)
    (hm : manualError m = none) : e.manualRequest n m = match e.manualRefusal g with
      | some r => e.answer (.refused r)
      | none => (e.acceptManual g m).answer .ok := by
  cases hp : e.link.panel with
  | none =>
    simp only [Ev.manualRequest, hn, hm, State.manualRefusal, hp, Option.map_none, Option.getD_none, if_true]
    split
    · rfl
    · split
      · rfl
      · rfl
  | some p =>
    simp only [Ev.manualRequest, hn, hm, State.manualRefusal, hp, Option.map_some, Option.getD_some]
    split
    · rfl
    · split
      · rfl
      · split
        · rfl
        · split
          · rfl
          · rfl

/-- The record of a grade under accepted manual terms (R161, R164). -/
def manualGrade (x : Grade) (m : ManualOperands) : Grade :=
  let f : TermsFields := { maxRate := m.maxRate, maxPressure := m.maxPressure, changeoverOk := m.changeoverOk == 1 }
  { (x.cleared .manual) with console := some f, agreed := x.barge.map (fun b => agreedTerms b f) }

theorem Ev.acceptManual_writes (e : Ev) (g : GradeId) (m : ManualOperands) :
    ∃ d, e.acceptManual g m = { e with grades := e.grades.set g (manualGrade (e.grade g) m), dirty := d } ∧ .terms g ∈ d := by
  obtain ⟨d, hmark, hmem⟩ := Ev.mark_writes (e.modGrade g (fun x => manualGrade x m)) (.terms g)
  exact ⟨d, hmark, hmem⟩

theorem exec_manualTerms_serves (s : State) (t : Time) (tag : Byte) (n : Nat) (m : ManualOperands) :
    exec (.manualTerms t tag n m) s =
      event t s (fun e => e.serve tag (.manualTerms n m) (fun x => x.manualRequest n m)) := rfl

/-- Settles O31: each refusal is a mere answer, and the accepted terms write one grade's record. -/
theorem manualTermsAgreeTheStricterFigures : Obligations.ManualTermsAgreeTheStricterFigures := by
  intro s t tag n m b hb
  have answered {r : Result} (h : ∀ x1 x2 w, (takeEv s t x1 x2 w).manualRequest n m = (takeEv s t x1 x2 w).answer r) :
      Answers s (.manualTerms t tag n m) t b tag r [] s.sameBlocks :=
    (answers_unchanged hb (exec_manualTerms_serves s t tag n m) h).imp fun _ hu => hu.1
  refine ⟨fun hn => answered fun _ _ _ => Ev.manualRequest_unknownGrade hn, fun g hn => ⟨fun i hi =>
    answered fun _ _ _ => Ev.manualRequest_fieldRange hn hi, fun hm => ?_⟩⟩
  have refused {r : Reason} (h : s.manualRefusal g = some r) :
      Answers s (.manualTerms t tag n m) t b tag (.refused r) [] s.sameBlocks := by
    refine answered fun x1 x2 w => ?_
    have hr : (takeEv s t x1 x2 w).manualRefusal g = some r := h
    rw [Ev.manualRequest_eq hn hm, hr]
  refine ⟨fun hund => refused ?_, fun hdecl hlink => refused ?_, fun hdecl hlink p hp => ⟨fun hcap => refused ?_,
    fun hcap hact => refused ?_, fun hcap hquiet x hx => ?_⟩⟩
  · simp [State.manualRefusal, hund]
  · simp [State.manualRefusal, hdecl, hlink]
  · simp [State.manualRefusal, hdecl, hlink, hp, hcap]
  · simp [State.manualRefusal, hdecl, hlink, hp, hcap, State.gradeActive_iff.mpr hact]
  · have hnone : s.manualRefusal g = none := by
      simp [State.manualRefusal, hdecl, hlink, hp, hcap, State.gradeActive_eq_false_iff.mpr hquiet]
    refine answers_of_effect hb (exec_manualTerms_serves s t tag n m) fun x1 x2 w => ?_
    obtain ⟨d, heff, hmem⟩ := Ev.acceptManual_writes (takeEv s t x1 x2 w) g m
    refine ⟨{ takeEv s t x1 x2 w with grades := s.grades.set g (manualGrade (s.grade g) m), dirty := d }, ?_, rfl, rfl, rfl,
      rfl, rfl, fun v hv ha => ?_⟩
    · have hr : (takeEv s t x1 x2 w).manualRefusal g = none := hnone
      rw [Ev.manualRequest_eq hn hm, hr, heff]; rfl
    · have hbarge : (manualGrade (s.grade g) m).barge = some x := hx
      have hgrade : v.grade g = manualGrade (s.grade g) m := by rw [hv.grade]; exact Grades.get_set_same _ _ _
      refine ⟨by rw [hgrade]; rfl, by rw [hgrade]; exact hbarge, ?_, ?_, fun h hne => ?_, ha _ hmem, ?_⟩
      · rw [hgrade]; simp [manualGrade, hx, agreedTerms]
      · rw [hgrade]; simp [manualGrade, hx, agreedTerms, Grade.rateLimit, Grade.cleared]
      · rw [hv.grade]; exact (Grades.get_set _ _ _ _).trans (if_neg hne)
      · obtain ⟨h1, -, h3, -, -, -, h7, -, -, -, h11, -, h13, -⟩ := hv
        exact ⟨h1, h3, h7, h11, h13⟩

/-! ### ESD_RESET (R173) -/

theorem State.causePresent_iff {s : State} :
    s.causePresent = true ↔ ∃ x, (s.shut.causes.get x).isSome = true ∧ s.conditionHolds x = true := by
  simp only [State.causePresent, CauseSet.list, List.any_filter, List.any_eq_true, Bool.and_eq_true]
  exact ⟨fun ⟨x, _, h⟩ => ⟨x, h⟩, fun ⟨x, h⟩ => ⟨x, by cases x <;> decide, h⟩⟩

/-- The refusals of ESD_RESET in their order (R173). -/
def State.resetRefusal (s : State) : Option Reason :=
  if s.causePresent then some .causePresent else if allLines.any (fun l => s.closing l) then some .linesActive else none

theorem Ev.esdResetRequest_eq (e : Ev) : e.esdResetRequest = match e.resetRefusal with
    | some r => e.answer (.refused r)
    | none => if e.latch then e.resetLatch.answer .ok else e.answer .ok := by
  simp only [Ev.esdResetRequest, State.resetRefusal]
  split
  · rfl
  · split
    · rfl
    · rfl

theorem Ev.evalPermit_writes (e : Ev) (p : PumpId) : ∃ b d, e.evalPermit p =
    { e with shut := e.shut.setPermit p b, dirty := d } := by
  unfold Ev.evalPermit Ev.markIf Ev.mark
  split
  · split
    · exact ⟨_, _, rfl⟩
    · exact ⟨_, _, rfl⟩
  · exact ⟨_, _, rfl⟩

/-- The reset latch writes the cause set, the valve list and the permits alone (R173). -/
theorem Ev.resetLatch_writes (e : Ev) : ∃ sh d, e.resetLatch = { e with shut := sh, dirty := d } ∧ sh.causes = noCauses ∧
    sh.valveList = [] ∧ sh.loop = e.shut.loop ∧ sh.shipRun = e.shut.shipRun ∧ .esd ∈ d := by
  obtain ⟨b1, d1, h1⟩ := Ev.evalPermit_writes (e.modShut (fun x => { x with causes := noCauses, valveList := [] })) .p1
  obtain ⟨b2, d2, h2⟩ := Ev.evalPermit_writes
    ((e.modShut (fun x => { x with causes := noCauses, valveList := [] })).evalPermit .p1) .p2
  obtain ⟨d3, h3, hmem⟩ := Ev.mark_writes
    (((e.modShut (fun x => { x with causes := noCauses, valveList := [] })).evalPermit .p1).evalPermit .p2) .esd
  refine ⟨(({ e.shut with causes := noCauses, valveList := [] } : Shutdown).setPermit .p1 b1).setPermit .p2 b2, d3, ?_,
    rfl, rfl, rfl, rfl, hmem⟩
  rw [Ev.resetLatch, h3, h2, h1]
  rfl

/-- Settles O34: the two tests in their order, and the writes of the reset with the permits it leaves sound. -/
theorem esdResetClearsTheLatch : Obligations.EsdResetClearsTheLatch := by
  intro s t tag b hb
  have hserves : exec (.esdReset t tag) s = event t s (fun e => e.serve tag .esdReset (fun x => x.esdResetRequest)) := rfl
  have refused {r : Reason} (h : s.resetRefusal = some r) :
      Answers s (.esdReset t tag) t b tag (.refused r) [] s.sameBlocks := by
    refine (answers_unchanged hb hserves fun x1 x2 w => ?_).imp fun _ hu => hu.1
    have hr : (takeEv s t x1 x2 w).resetRefusal = some r := h
    rw [Ev.esdResetRequest_eq, hr]
    rfl
  refine ⟨fun hpresent => refused ?_, fun hgone => ?_⟩
  · simp [State.resetRefusal, State.causePresent_iff.mpr hpresent]
  have habsent : s.causePresent = false := by
    rw [Bool.eq_false_iff, Ne, State.causePresent_iff]
    rintro ⟨x, h1, h2⟩
    rw [hgone x h1] at h2
    cases h2
  refine ⟨fun hclosing => refused ?_, fun hopen => ?_⟩
  · simp [State.resetRefusal, habsent, mem_allLines, hclosing]
  have hnone (x1 x2 w) : (takeEv s t x1 x2 w).resetRefusal = none := by
    have : s.resetRefusal = none := by simp [State.resetRefusal, habsent, hopen]
    exact this
  refine ⟨fun hlatch => (answers_unchanged hb hserves fun x1 x2 w => ?_).imp fun _ hu => hu.1, fun hlatch => ?_⟩
  · have hl : (takeEv s t x1 x2 w).latch = false := hlatch
    rw [Ev.esdResetRequest_eq, hnone]
    simp only [hl]
    rfl
  · refine answers_of_effect hb hserves fun x1 x2 w => ?_
    obtain ⟨sh, d, heff, hc, hvl, hloop, hrun, hmem⟩ := Ev.resetLatch_writes (takeEv s t x1 x2 w)
    have hsound := Ev.resetLatch_sound (takeEv s t x1 x2 w)
    rw [heff] at hsound
    have hl : (takeEv s t x1 x2 w).latch = true := hlatch
    refine ⟨{ takeEv s t x1 x2 w with shut := sh, dirty := d }, ?_, rfl, rfl, rfl, rfl, rfl, fun v hv ha => ?_⟩
    · rw [Ev.esdResetRequest_eq, hnone]
      simp only [hl, heff, if_true]
    · have hshut : v.shut = sh := hv.shut
      refine ⟨by rw [State.latch, hshut, hc]; rfl, by rw [hshut, hc], by rw [hshut, hvl], by rw [hshut]; exact hloop,
        by rw [hshut]; exact hrun, ?_, ha _ hmem, ?_⟩
      · exact State.permitsSound_congr (fun l => by rw [State.flowing, hv.line]; rfl) (fun l => by rw [hv.line])
          (fun p => by rw [hshut]) (by rw [hshut]) hsound
      · obtain ⟨h1, -, h3, -, -, -, h7, -, -, -, h11, h12, -⟩ := hv
        exact ⟨h1, h3, h7, h11, h12⟩

/-! ### RENEGOTIATE (R141, R143, R158) -/

/-- A grade as the entry of the link to SILENT leaves it (R158). -/
def waitingGrade (x : Grade) : Grade := if x.agreement = .undeclared then x else x.cleared .waiting

theorem Ev.gradeWaiting_writes (e : Ev) (g : GradeId) :
    ∃ d, e.gradeWaiting g = { e with grades := e.grades.set g (waitingGrade (e.grade g)), dirty := d } := by
  unfold Ev.gradeWaiting waitingGrade
  split
  · refine ⟨e.dirty, ?_⟩
    have same : e.grades.set g (e.grade g) = e.grades := by cases g <;> rfl
    rw [same]
  · unfold Ev.markIf Ev.mark
    split
    · split
      · exact ⟨_, rfl⟩
      · exact ⟨_, rfl⟩
    · exact ⟨_, rfl⟩

/-- The entry to SILENT: the timer, the SHIP clear run, and every declared grade WAITING (R141, R158, R169). -/
theorem Ev.enterSilent_writes (e : Ev) : ∃ gs d, e.enterSilent = { e with
    link := { e.link with state := .silent, silenceStart := some e.now }, shut := { e.shut with shipRun := 0 },
    grades := gs, dirty := d } ∧ (∀ g, gs.get g = waitingGrade (e.grade g)) ∧ .link ∈ d := by
  let x := (e.modLink (fun x => { x with state := .silent, silenceStart := some e.now })).modShut (fun x =>
    { x with shipRun := 0 })
  obtain ⟨d1, h1⟩ := Ev.gradeWaiting_writes x .g1
  obtain ⟨d2, h2⟩ := Ev.gradeWaiting_writes (x.gradeWaiting .g1) .g2
  obtain ⟨d3, h3, hmem⟩ := Ev.mark_writes ((x.gradeWaiting .g1).gradeWaiting .g2) .link
  refine ⟨(e.grades.set .g1 (waitingGrade (e.grade .g1))).set .g2 (waitingGrade (e.grade .g2)), d3, ?_, fun g => ?_, hmem⟩
  · change ((x.gradeWaiting .g1).gradeWaiting .g2).mark .link = _
    rw [h3, h2, h1]
    rfl
  · cases g <;> rfl

theorem Ev.renegotiateRequest_linesActive {e : Ev} (h : e.anyActive = true) :
    e.renegotiateRequest = e.answer (.refused .linesActive) := if_pos h

theorem Ev.renegotiateRequest_linkNotUp {e : Ev} (h : e.anyActive = false) (hl : e.link.state ≠ .up) :
    e.renegotiateRequest = e.answer (.refused .linkNotUp) := by
  simp [Ev.renegotiateRequest, h, hl]

theorem Ev.renegotiateRequest_accepted {e : Ev} (h : e.anyActive = false) (hl : e.link.state = .up) :
    e.renegotiateRequest = e.enterSilent.answer .ok := by
  simp [Ev.renegotiateRequest, h, hl]

theorem State.anyActive_iff {s : State} : s.anyActive = true ↔ ∃ l, s.flowing l = true ∨ s.closing l = true := by
  simp [State.anyActive, mem_allLines]

theorem State.anyActive_eq_false_iff {s : State} :
    s.anyActive = false ↔ ∀ l, s.flowing l = false ∧ s.closing l = false := by
  simp [State.anyActive, mem_allLines]

/-- Settles O35: the two refusals in their order, and the writes of the entry to SILENT. -/
theorem renegotiateEntersSilence : Obligations.RenegotiateEntersSilence := by
  intro s t tag b hb
  have hserves : exec (.renegotiate t tag) s =
    event t s (fun e => e.serve tag .renegotiate (fun x => x.renegotiateRequest)) := rfl
  have answered {r : Result} (h : ∀ x1 x2 w, (takeEv s t x1 x2 w).renegotiateRequest = (takeEv s t x1 x2 w).answer r) :
      Answers s (.renegotiate t tag) t b tag r [] s.sameBlocks :=
    (answers_unchanged hb hserves h).imp fun _ hu => hu.1
  refine ⟨fun hactive => answered fun _ _ _ => Ev.renegotiateRequest_linesActive (State.anyActive_iff.mpr hactive),
    fun hquiet => ?_⟩
  have hq (x1 x2 w) : (takeEv s t x1 x2 w).anyActive = false := State.anyActive_eq_false_iff.mpr hquiet
  refine ⟨fun hl => answered fun _ _ _ => Ev.renegotiateRequest_linkNotUp (hq _ _ _) hl, fun hl => ?_⟩
  refine answers_of_effect hb hserves fun x1 x2 w => ?_
  obtain ⟨gs, d, heff, hgs, hmem⟩ := Ev.enterSilent_writes (takeEv s t x1 x2 w)
  refine ⟨{ takeEv s t x1 x2 w with
      link := { s.link with state := .silent, silenceStart := some t }, shut := { s.shut with shipRun := 0 },
      grades := gs, dirty := d },
    by rw [Ev.renegotiateRequest_accepted (hq _ _ _) hl, heff]; rfl, rfl, rfl, rfl, rfl, rfl, fun v hv ha => ?_⟩
  have hgrade (g : GradeId) : v.grade g = waitingGrade (s.grade g) := (hv.grade g).trans (hgs g)
  obtain ⟨h1, h2, h3, -, -, h6, h7, -, -, h10, h11, -, h13, -⟩ := hv
  refine ⟨h11, ha _ hmem, by rw [h13], by rw [h13], fun g hg => ?_, fun g hg => ?_, h1, h2, h3, h7, h6, h10⟩
  · rw [hgrade, waitingGrade, if_pos hg]
  · rw [hgrade, waitingGrade, if_neg hg]; rfl

/-! ### The starts of the slots (R134, R136, R137) -/

theorem beginSlot_getElem? (slots : List Slot) (i : Nat) :
    (beginSlot slots (i + 1))[i]? = slots[i]?.map (fun y => { y with begun := true }) := by
  simp [beginSlot, List.getElem?_mapIdx]

/-- What a slot start sends (R134, R137, R145). -/
def State.pollSent (s : State) (t : Time) (i : Nat) (x : Slot) : Link :=
  if x.begun then s.link
  else match x.plan with
    | .read k => { s.link with
        slots := beginSlot s.link.slots (i + 1), poll := some { kind := .read k, slot := i + 1, start := t },
        sent := some (.readPoll k ((s.tank k).toggle.getD false)) }
    | .declare k => { s.link with
        slots := beginSlot s.link.slots (i + 1), poll := some { kind := .declare k, slot := i + 1, start := t },
        sent := some (.declarePoll k) }
    | .declareTail _ => s.link
    | .idle => s.link

theorem Ev.sendTankPoll_eq {e : Ev} {i : Nat} {x : Slot} (hx : (e.link.slots.drop i).head? = some x) :
    e.sendTankPoll (i + 1) = { e with link := e.pollSent e.now i x } := by
  obtain ⟨plan, begun, outcome⟩ := x
  simp only [Ev.sendTankPoll, Nat.add_sub_cancel, hx, State.pollSent]
  cases begun with
  | true => rfl
  | false => cases plan <;> rfl

/-- Settles O37: the poll each start sends, read off the slot that the schedule gives it. -/
theorem slotsSendTheirPolls : Obligations.SlotsSendTheirPolls := by
  refine fun s t => ⟨?_, fun i x _ hx => ?_⟩
  · have hop : exec (.panelSlotStart t) s = event t s Ev.sendPanelPoll := rfl
    refine completes_of_effect ((begin t s).sendPanelPoll) hop rfl rfl rfl rfl rfl fun v hv => ?_
    obtain ⟨h1, -, h3, -, -, -, h7, -, -, -, h11, h12, h13, -⟩ := hv
    exact ⟨h11, h3, h1, h13, h12, h7⟩
  · have hop : exec (.tankSlotStart t (i + 1)) s = event t s (fun e => e.sendTankPoll (i + 1)) := rfl
    have heff : (begin t s).sendTankPoll (i + 1) = { begin t s with link := s.pollSent t i x } :=
      Ev.sendTankPoll_eq (e := begin t s) hx
    refine completes_of_effect { begin t s with link := s.pollSent t i x } hop heff rfl rfl rfl rfl fun v hv => ?_
    obtain ⟨h1, -, h3, -, -, -, h7, -, -, -, h11, h12, h13, -⟩ := hv
    have hlink : v.link = s.pollSent t i x := h11
    have hat : s.link.slots[i]? = some x := by rw [← hx, List.head?_drop]
    refine ⟨h3, h1, h13, h12, h7, fun k hk => ?_, fun k hk => ?_, fun hidle => ?_⟩
    · subst hk
      rw [hlink]
      refine ⟨rfl, rfl, ?_⟩
      rw [List.head?_drop, State.pollSent]
      simp [beginSlot_getElem?, hat]
    · subst hk
      rw [hlink]
      refine ⟨rfl, rfl, ?_⟩
      rw [List.head?_drop, State.pollSent]
      simp [beginSlot_getElem?, hat]
    · rw [hlink, State.pollSent]
      rcases hidle with h | h | ⟨k, h⟩
      · simp [h]
      · simp [h]
      · simp [h]

/-! ### The settle deadline (R63, R64) -/

/-- Settles O46: a deadline reached takes the settle to CLEAR or CARRY by the rise pair, and one not reached does nothing. -/
theorem settleDeadlineAdoptsOrCarries : Obligations.SettleDeadlineAdoptsOrCarries := by
  intro s t t0 t1 l hst hstart hdead
  have hop : exec (.settleDeadline t l) s = event t s (fun e => e.settleDeadline l) := rfl
  constructor
  · intro hreached
    have heff : (begin t s).settleDeadline l =
        (begin t s).modPred l (fun x => x.deadlineTaken ((begin t s).activePair l)) := by
      have hd : (begin t s).deadlineDue ((begin t s).pred l).deadline = true := by
        change (begin t s).deadlineDue (s.pred l).deadline = true
        rw [hdead]; exact hreached
      rw [Ev.settleDeadline, if_pos hd]
    refine completes_of_effect _ hop heff rfl rfl rfl rfl fun v hv => ?_
    obtain ⟨h1, -, h3, h4, h5, h6, h7, -, -, -, h11, -, h13, -⟩ := hv
    have hpred : v.pred l = (s.pred l).deadlineTaken (s.activePair l) := by
      rw [State.pred, h4]; exact Quad.get_set_same _ _ _
    refine ⟨fun p hp hprev hlatest => ?_, fun hnone => ?_, fun m hm => ?_, h1, h3, h7, h5, h6, h11, h13⟩
    · rw [hpred]
      simp [Predictor.deadlineTaken, hst, hp, hstart, Pair.postThrottle, hprev, hlatest, Predictor.settled]
    · rw [hpred]
      cases hp : s.activePair l with
      | none => simp [Predictor.deadlineTaken, hst, hstart]
      | some p =>
        have hpost : p.postThrottle t0 = false := by simpa [Pair.postThrottle] using hnone p hp
        simp [Predictor.deadlineTaken, hst, hstart, hpost]
    · rw [State.pred, h4]; exact Quad.get_set_ne _ _ hm
  · intro hnot
    have heff : (begin t s).settleDeadline l = begin t s := by
      have hd : (begin t s).deadlineDue ((begin t s).pred l).deadline = false := by
        change (begin t s).deadlineDue (s.pred l).deadline = false
        rw [hdead]; exact hnot
      rw [Ev.settleDeadline, if_neg (by simp [hd])]
    rw [exec_idle hop (by rw [heff]; rfl) (by rw [heff]; rfl), heff]
    rfl

end Sys2Proof.Machine
end

section
/-! RESTART (R189, R190): the request waits for its reply; the effect, its writes named block by block. -/

namespace Sys2Proof.Machine
variable {e e' : Ev} {s : State}

/-! ### A line at RESTART -/

theorem Ev.zeroAccount_lines (e : Ev) (l : LineId) : (e.zeroAccount l).lines =
    e.lines.set l { e.line l with delivered := 0, pendingVol := 0, fedSet := [] } := by
  obtain ⟨tk, d, h, -⟩ := Ev.zeroAccount_writes e l
  rw [h]; rfl

/-- The record of a line whose account, reasons and flags RESTART has cleared (R29). -/
def LineRec.wiped (x : LineRec) : LineRec :=
  { x with
    delivered := 0, pendingVol := 0, fedSet := [], surgeLimited := false, late := false, holdReason := none,
    closeReason := none, tankEnd := none, baseline := none, provingStart := none, changeoverStart := none, throttle := 0 }

/-- The record of a line that RESTART starts afresh (R29). -/
def LineRec.restarted (x : LineRec) : LineRec :=
  { x.wiped with state := if x.state = .held ∨ x.state = .complete then .idle else x.state }

/-- Work on line `l` at RESTART that leaves its record `y` empties its list and leaves the link, the grades, the supply and the ESD
causes alone. -/
structure Ev.Restarts (e e' : Ev) (l : LineId) (y : LineRec) : Prop where
  lines : e'.lines = e.lines.set l y
  lists : e'.lists = e.lists.set l []
  link : e'.link = e.link
  grades : e'.grades = e.grades
  supply : e'.supply = e.supply
  causes : e'.shut.causes = e.shut.causes
  now : e'.now = e.now
  reports : e'.reports = e.reports
  undecided : e'.undecided = e.undecided

/-- What RESTART does to a line before a HELD or COMPLETE one goes to IDLE (R29, R108). -/
def Ev.wipeLine (e : Ev) (l : LineId) : Ev :=
  let e1 := (((e.zeroAccount l).setList l []).setSurge l false).setLate l false
  let e2 := (e1.modLine l (fun x =>
    { x with
      holdReason := none, closeReason := none, tankEnd := none, baseline := none, provingStart := none,
      changeoverStart := none, throttle := 0 })).modFlow l (fun f =>
    { f with watchActive := none, watchIncoming := none, overCount := 0, rateCount := 0, pressCount := 0 })
  ((e2.clearPred l).setClose l none).modValve l (fun v => { v with pending := none, followOn := none })

theorem Ev.restartLine_eq (e : Ev) (l : LineId) : e.restartLine l =
    if (e.line l).state = .held ∨ (e.line l).state = .complete then (e.wipeLine l).setState l .idle else e.wipeLine l := rfl

theorem Ev.wipeLine_restarts (e : Ev) (l : LineId) : e.Restarts (e.wipeLine l) l (e.line l).wiped := by
  obtain ⟨tk, d, hz, -⟩ := Ev.zeroAccount_writes e l
  constructor
  all_goals simp [Ev.wipeLine, Ev.setSurge, Ev.setLate, Ev.clearPred, hz, Quad.set_set, LineRec.wiped, State.line]

theorem Ev.restartLine_restarts (e : Ev) (l : LineId) : e.Restarts (e.restartLine l) l (e.line l).restarted := by
  have h := Ev.wipeLine_restarts e l
  rw [Ev.restartLine_eq]
  split
  · next hst =>
    obtain ⟨sh, d, hs, hc⟩ := Ev.setState_writes (e.wipeLine l) l .idle
    rw [hs]
    refine ⟨?_, h.lists, h.link, h.grades, h.supply, hc.trans h.causes, h.now, h.reports, h.undecided⟩
    simp [h.lines, Quad.set_set, LineRec.restarted, hst]
  · next hst =>
    have same : (e.line l).restarted = (e.line l).wiped := by rw [LineRec.restarted, if_neg hst]; rfl
    rw [same]
    exact h

/-- Every line started afresh (R29). -/
structure Ev.AllRestarted (e e' : Ev) : Prop where
  line : ∀ l, e'.line l = (e.line l).restarted
  list : ∀ l, e'.list l = []
  link : e'.link = e.link
  grades : e'.grades = e.grades
  supply : e'.supply = e.supply
  causes : e'.shut.causes = e.shut.causes
  now : e'.now = e.now
  reports : e'.reports = e.reports
  undecided : e'.undecided = e.undecided

theorem Ev.AllRestarted.of_each {e a b c d : Ev} (ha : e.Restarts a .a (e.line .a).restarted)
    (hb : a.Restarts b .b (a.line .b).restarted) (hc : b.Restarts c .c (b.line .c).restarted)
    (hd : c.Restarts d .d (c.line .d).restarted) : e.AllRestarted d where
  line l := by
    rw [State.line, hd.lines, State.line, hc.lines, State.line, hb.lines, State.line, ha.lines]
    cases l <;> rfl
  list l := by
    rw [State.list, hd.lists, hc.lists, hb.lists, ha.lists]
    cases l <;> rfl
  link := hd.link.trans (hc.link.trans (hb.link.trans ha.link))
  grades := hd.grades.trans (hc.grades.trans (hb.grades.trans ha.grades))
  supply := hd.supply.trans (hc.supply.trans (hb.supply.trans ha.supply))
  causes := hd.causes.trans (hc.causes.trans (hb.causes.trans ha.causes))
  now := hd.now.trans (hc.now.trans (hb.now.trans ha.now))
  reports := hd.reports.trans (hc.reports.trans (hb.reports.trans ha.reports))
  undecided := hd.undecided.trans (hc.undecided.trans (hb.undecided.trans ha.undecided))

theorem Ev.restartLines_restarted (e : Ev) : e.AllRestarted (e.eachLine (fun l y => y.restartLine l)) :=
  .of_each (Ev.restartLine_restarts e .a) (Ev.restartLine_restarts _ .b) (Ev.restartLine_restarts _ .c)
    (Ev.restartLine_restarts _ .d)

/-! ### The tanks, the link and the grades -/

theorem mem_allTanks (k : TankId) : k ∈ allTanks := by
  cases k <;> decide

theorem Ev.restartTanks_writes (e : Ev) : ∃ tk d, e.eachTank allTanks (fun k x => x.restartTank k) =
    { e with tanks := tk, dirty := d } ∧ ∀ k, tk.get k = Tank.init := by
  have one (k : TankId) (x : Ev) : ∃ d, x.restartTank k = { x.modTank k (fun _ => Tank.init) with dirty := d } := by
    unfold Ev.restartTank Ev.markIf Ev.mark
    split
    · split
      · exact ⟨_, rfl⟩
      · exact ⟨_, rfl⟩
    · exact ⟨_, rfl⟩
  obtain ⟨tk, d, h, htk⟩ := Ev.eachTank_writes (g := fun _ _ => Tank.init) one allTanks (.inr fun _ _ => rfl) e
  exact ⟨tk, d, h, fun k => by rw [htk, if_pos (mem_allTanks k)]⟩

/-- A grade as RESTART leaves it: WAITING with nothing of the ship's, UNDECLARED without its last ship word (R154). -/
theorem cleared_waitingGrade (x : Grade) : (waitingGrade x).cleared (waitingGrade x).agreement =
    x.cleared (if x.agreement = .undeclared then .undeclared else .waiting) := by
  unfold waitingGrade
  split
  · next h => rw [h]
  · rfl

/-- The link and the grades at RESTART (R152, R154). -/
theorem Ev.restartLinkGrades_writes (e : Ev) (b : Bool) : ∃ gs ds slots poll,
    ((e.restartLink.restartGrade .g1).restartGrade .g2).markIf b .esd = { e with
      link := { e.link with
        state := .silent, silenceStart := some e.now, missCount := 0, pollPtr := .k1, prioPtr := .k1, slots := slots,
        poll := poll },
      shut := { e.shut with shipRun := 0 }, grades := gs, dirty := ds } ∧
    ∀ g, gs.get g = (e.grade g).cleared (if (e.grade g).agreement = .undeclared then .undeclared else .waiting) := by
  obtain ⟨gs, d, h, hgs, -⟩ := Ev.enterSilent_writes e
  have hgrades (g : GradeId) : ((gs.set .g1 ((gs.get .g1).cleared (gs.get .g1).agreement)).set .g2
      ((gs.get .g2).cleared (gs.get .g2).agreement)).get g =
        (e.grade g).cleared (if (e.grade g).agreement = .undeclared then .undeclared else .waiting) := by
    rw [← cleared_waitingGrade, ← hgs g]
    cases g <;> rfl
  refine ⟨(gs.set .g1 ((gs.get .g1).cleared (gs.get .g1).agreement)).set .g2 ((gs.get .g2).cleared (gs.get .g2).agreement),
    ?_⟩
  unfold Ev.restartLink
  rw [h]
  unfold Ev.markIf Ev.mark
  split
  · split
    · exact ⟨_, _, _, rfl, hgrades⟩
    · exact ⟨_, _, _, rfl, hgrades⟩
  · exact ⟨_, _, _, rfl, hgrades⟩

/-! ### The request -/

theorem Ev.restartRequest_refused {e : Ev} (h : (e.anyActive || e.strokeInProgress) = true) :
    e.restartRequest = e.answer (.refused .linesActive) := if_pos h

theorem Ev.restartRequest_accepted {e : Ev} (h : (e.anyActive || e.strokeInProgress) = false) :
    e.restartRequest = Ev.answer { e with restart := .replying, restartEsd := false } .ok :=
  if_neg (by simp [h])

theorem State.activeOrStroking_iff {s : State} : (s.anyActive || s.strokeInProgress) = true ↔
    ∃ l, s.flowing l = true ∨ s.closing l = true ∨ (s.valve l).stroke.isSome = true := by
  rw [Bool.or_eq_true, State.anyActive_iff]
  have : s.strokeInProgress = true ↔ ∃ l, (s.valve l).stroke.isSome = true := by
    simp [State.strokeInProgress, mem_allLines]
  rw [this, ← exists_or]
  simp only [or_assoc]

/-- An accepted RESTART waits for its reply to be sent (R189). -/
theorem restart_waits {s : State} {t : Time} {tag : Byte} {b : BufId} (hb : s.takesIn tag .restart = some b)
    (hidle : s.restart = .idle) (hquiet : (s.anyActive || s.strokeInProgress) = false) :
    Completes s (.restart t tag) t (fun v => s.sameBlocks v ∧ v.restart = .replying ∧
      v.buf b = .answered { tag := tag, result := .ok, record := [], restart := true } ∧ v.replyStands b) := by
  obtain ⟨x1, x2, w, hs⟩ := serve_taken hb t
  obtain ⟨y1, y2, v, ro, h1, h2, h3⟩ := hs (fun x => x.restartRequest)
  have hreq : (takeEv s t x1 x2 w).restartRequest =
      Ev.answer { takeEv s t x1 x2 w with restart := .replying, restartEsd := false } .ok :=
    Ev.restartRequest_accepted hquiet
  simp only [hreq, hidle] at h1 h3
  have hop : exec (.restart t tag) s = event t s (fun e => e.serve tag .restart (fun x => x.restartRequest)) := rfl
  refine completes_of_event hop (by rw [h1]; rfl) (by rw [h1]; rfl) ?_
  rw [h1, finish_idle _ rfl rfl]
  refine ⟨?_, ?_, ?_, ?_⟩
  · exact Ev.closing_sameBlocks (Ev.withPort { takeEv s t x1 x2 w with restart := .replying, restartEsd := false } _ _ _ _)
  · rw [State.arbitrate_restart]; rfl
  · have hbuf (x : State) : x.arbitrate.buf b = x.buf b := by cases b <;> simp [State.buf]
    rw [hbuf]
    exact h3
  · exact State.arbitrate_reply _ b (List.mem_append_right _ h2)

/-! ### The effect -/

/-- The writes of a RESTART's effect (R29, R54, R152, R154, R190). -/
theorem Ev.restartEffect_spec (e : Ev) : let x := e.restartEffect
    (∀ k, x.tank k = Tank.init) ∧ (∀ l, x.list l = []) ∧ (∀ l, x.line l = (e.line l).restarted) ∧
    (∃ slots poll, x.link = { e.link with
      state := .silent, silenceStart := some e.now, missCount := 0, pollPtr := .k1, prioPtr := .k1, slots := slots,
      poll := poll }) ∧
    x.shut.causes = e.shut.causes ∧ x.supply = e.supply ∧
    (∀ g, x.grade g = (e.grade g).cleared (if (e.grade g).agreement = .undeclared then .undeclared else .waiting)) ∧
    x.reports = e.reports ∧ x.undecided = e.undecided := by
  have hl := Ev.restartLines_restarted e.restartConsole
  have heq : e.restartEffect = ((((e.restartConsole.eachLine (fun l x => x.restartLine l)).eachTank allTanks (fun k x =>
    x.restartTank k)).restartLink.restartGrade .g1).restartGrade .g2).markIf e.restartEsd .esd := rfl
  generalize e.restartConsole.eachLine (fun l x => x.restartLine l) = y at hl heq
  obtain ⟨tk, d, htanks, htk⟩ := Ev.restartTanks_writes y
  obtain ⟨gs, ds, slots, poll, hlink, hgs⟩ := Ev.restartLinkGrades_writes { y with tanks := tk, dirty := d } e.restartEsd
  rw [htanks] at heq
  rw [heq, hlink]
  refine ⟨htk, hl.list, hl.line, ⟨slots, poll, ?_⟩, hl.causes, hl.supply, fun g => ?_, hl.reports, hl.undecided⟩
  · dsimp only
    rw [hl.link, hl.now]; rfl
  · refine (hgs g).trans ?_
    change (y.grades.get g).cleared (if (y.grades.get g).agreement = _ then _ else _) = _
    rw [hl.grades]; rfl

theorem LineRec.restarted_spec (x : LineRec) : x.restarted.state = (if x.state = .held ∨ x.state = .complete then .idle else
    x.state) ∧ x.restarted.profile = x.profile ∧ x.restarted.trip = x.trip ∧ x.restarted.delivered = 0 ∧
    x.restarted.fedSet = [] ∧ x.restarted.quietPending = x.quietPending := ⟨rfl, rfl, rfl, rfl, rfl, rfl⟩

/-- A buffer after RESTART's effect: waiting requests are dropped, answered ones stand (R190). -/
theorem restartEffect_port (e : Ev) : e.restartEffect.restart = .idle ∧ e.restartEffect.waitOrder = [] ∧
    ∀ b, e.restartEffect.buf b = (e.buf b).restarted := by
  have hp := offline_port (Ev.restartEffect_offline e)
  refine ⟨congrArg PortView.restart hp, congrArg PortView.waitOrder hp, fun b => ?_⟩
  cases b
  · exact congrArg PortView.buf1 hp
  · exact congrArg PortView.buf2 hp

/-- Settles O36: the request is a mere answer or waits, and the effect's writes are read block by block. -/
theorem restartWaitsThenStartsAfresh : Obligations.RestartWaitsThenStartsAfresh := by
  refine ⟨fun s t tag b hb hidle => ⟨fun hactive => ?_, fun hquiet => ?_⟩, fun s t => ⟨fun hnot => ?_, fun hdue => ?_⟩⟩
  · have hop : exec (.restart t tag) s = event t s (fun e => e.serve tag .restart (fun x => x.restartRequest)) := rfl
    exact (answers_unchanged hb hop fun _ _ _ =>
      Ev.restartRequest_refused (State.activeOrStroking_iff.mpr hactive)).imp fun _ hu => hu.1
  · refine restart_waits hb hidle (Bool.eq_false_iff.mpr fun h => ?_)
    obtain ⟨l, hl⟩ := State.activeOrStroking_iff.mp h
    obtain ⟨h1, h2, h3⟩ := hquiet l
    simp [h1, h2, h3] at hl
  · have hop : exec (.restartEffect t) s = event t s (fun e => if e.restart = .due then e.restartEffect else e) := rfl
    have heff : (if (begin t s).restart = .due then (begin t s).restartEffect else begin t s) = begin t s := if_neg hnot
    rw [exec_idle hop (by rw [heff]; rfl) (by rw [heff]; rfl), heff]
    rfl
  · have hop : exec (.restartEffect t) s = event t s (fun e => if e.restart = .due then e.restartEffect else e) := rfl
    have heff : (if (begin t s).restart = .due then (begin t s).restartEffect else begin t s) =
        (begin t s).restartEffect := if_pos hdue
    obtain ⟨htank, hlist, hline, ⟨slots, poll, hlink⟩, hcauses, hsupply, hgrade, hrep, hund⟩ :=
      Ev.restartEffect_spec (begin t s)
    obtain ⟨hrestart, hwait, hbuf⟩ := restartEffect_port (begin t s)
    have hp := offline_port (Ev.restartEffect_offline (begin t s))
    refine completes_of_event hop (by rw [heff]; exact congrArg PortView.pending hp)
      (by rw [heff]; exact congrArg PortView.now hp) ?_
    rw [heff, finish_idle _ hrep hund]
    have hv := Ev.closing_sameBlocks (begin t s).restartEffect
    have hvb (b : BufId) : (begin t s).restartEffect.queueNotices.arbitrate.buf b = (s.buf b).restarted := by
      refine Eq.trans ?_ (hbuf b)
      cases b <;> simp [State.buf]
    have hvl (l : LineId) : (begin t s).restartEffect.queueNotices.arbitrate.line l = (s.line l).restarted :=
      (hv.line l).trans (hline l)
    have hvlink := (hv.linkGrades).1.trans hlink
    refine ⟨?_, ?_, fun b g r hb => ?_, fun b r hb => ?_, fun k => (hv.tank k).trans (htank k), fun l =>
      (hv.list l).trans (hlist l), fun l => ?_, ?_⟩
    · rw [State.arbitrate_restart]; exact hrestart
    · rw [State.arbitrate_waitOrder]; exact hwait
    · rw [hvb, hb]; rfl
    · rw [hvb, hb]; rfl
    · rw [hvl]; exact LineRec.restarted_spec _
    · generalize (begin t s).restartEffect.queueNotices.arbitrate = v at hv hvlink
      rw [hvlink]
      exact ⟨rfl, rfl, rfl, rfl, rfl, rfl, by rw [hv.shut]; exact hcauses, fun g => (hv.grade g).trans (hgrade g),
        hv.supply.trans hsupply⟩

end Sys2Proof.Machine
end

section
/-! What the end of an event does to the records of a line and of a tank. With calm reports a line's records change in five ways
only: the settle begins, an OPEN arrives in STARTING, a running close goes on, or it ends on an active closed limit switch; and a
tank changes its use only at such an end. -/

namespace Sys2Proof.Machine
variable {e e' e'' x : Ev} {l m : LineId} {g : Ground} {k : TankId}

/-! ### The end of a close -/

/-- Of the records of line `l` only the close record has changed. -/
def Ev.CloseOnly (e e' : Ev) (l : LineId) : Prop := ∃ c, e'.lane l = (e.line l, e.list l, e.pred l, c, e.flow l)

theorem Ev.CloseOnly.of_lane (h : e'.lane l = e.lane l) : e.CloseOnly e' l := ⟨e.close l, h⟩

theorem Ev.CloseOnly.trans (h : e.CloseOnly e' l) (h' : e'.CloseOnly e'' l) : e.CloseOnly e'' l := by
  obtain ⟨c, hc⟩ := h
  obtain ⟨c', hc'⟩ := h'
  have hline : e'.line l = e.line l := congrArg (fun p => p.1) hc
  have hlist : e'.list l = e.list l := congrArg (fun p => p.2.1) hc
  have hpred : e'.pred l = e.pred l := congrArg (fun p => p.2.2.1) hc
  have hflow : e'.flow l = e.flow l := congrArg (fun p => p.2.2.2.2) hc
  exact ⟨c', by rw [hc', hline, hlist, hpred, hflow]⟩

theorem Ev.CloseOnly.line (h : e.CloseOnly e' l) : e'.line l = e.line l := by
  obtain ⟨c, hc⟩ := h
  exact congrArg (fun p => p.1) hc

theorem Ev.modClose_closeOnly (e : Ev) (l : LineId) (f : CloseRec → CloseRec) : e.CloseOnly (e.modClose l f) l :=
  ⟨(e.modClose l f).close l, rfl⟩

theorem Ev.requestStage_closeOnly (e : Ev) (l : LineId) (n : Nat) : e.CloseOnly (e.requestStage l n) l := by
  unfold Ev.requestStage
  split
  · exact .of_lane rfl
  · split
    · exact Ev.modClose_closeOnly e l _
    · exact (Ev.modClose_closeOnly e l _).trans (.of_lane (Ev.requestStroke_lane _ _ _ _ _ _))

theorem Ev.nextStage_closeOnly (e : Ev) (l : LineId) : e.CloseOnly (e.nextStage l) l := by
  unfold Ev.nextStage
  split
  · split
    · exact Ev.requestStage_closeOnly e l _
    · exact .of_lane rfl
  · exact .of_lane rfl

theorem Ev.plannerEnded_closeOnly (e : Ev) (l : LineId) : e.CloseOnly (e.plannerEnded l) l := by
  unfold Ev.plannerEnded
  split
  · exact (Ev.modClose_closeOnly e l _).trans (Ev.nextStage_closeOnly _ l)
  · exact .of_lane rfl

theorem Ev.setUse_tank (e : Ev) (k n : TankId) (u : TankUse) :
    (e.setUse k u).tank n = if n = k then { e.tank n with use := u } else e.tank n := by
  simp only [Ev.setUse, State.tank, Ev.markIf_tanks, Ev.modTank_tanks, Tanks.get_set]
  split
  · next h => rw [h]
  · rfl

theorem Ev.setState_lists (e : Ev) (l : LineId) (st : LineState) : (e.setState l st).lists = e.lists := by
  obtain ⟨sh, d, h, -⟩ := Ev.setState_writes e l st
  rw [h]

theorem Ev.setState_tanks (e : Ev) (l : LineId) (st : LineState) : (e.setState l st).tanks = e.tanks := by
  obtain ⟨sh, d, h, -⟩ := Ev.setState_writes e l st
  rw [h]

theorem Ev.setState_line (e : Ev) (l : LineId) (st : LineState) :
    (e.setState l st).line l = { e.line l with state := st } := by
  rw [State.line, Ev.setState_lines, Quad.get_set_same]
  rfl

/-- Settling the list of a completed line empties it and changes the uses of its tanks alone (R23). -/
theorem Ev.settleComplete_writes (e : Ev) (l : LineId) : ∃ tk d, e.settleComplete l =
    { e with tanks := tk, dirty := d, lists := e.lists.set l [] } ∧ ∀ n, tk.get n = if n ∈ e.list l
      then { e.tanks.get n with use := if (e.line l).fedSet.contains n then .done else .free } else e.tanks.get n := by
  obtain ⟨tk, d, hwalk, htk⟩ := Ev.eachTank_writes
    (f := fun k x => x.setUse k (if (e.line l).fedSet.contains k then .done else .free))
    (g := fun k y => { y with use := if (e.line l).fedSet.contains k then .done else .free })
    (fun k x => Ev.setUse_writes x k _) (e.list l) (.inr fun _ _ => rfl) e
  exact ⟨tk, d, by rw [Ev.settleComplete, hwalk]; rfl, htk⟩

theorem State.activeTank_mem {s : State} (h : s.activeTank l = some k) : k ∈ s.list l := List.mem_of_find?_eq_some h

/-- A close that ends: the line no longer closes for a reason or flows, its list stays or is emptied, and tanks that are not on it
keep their records (R20). -/
structure Ev.Ends (e e' : Ev) (l : LineId) : Prop where
  flowing : e'.flowing l = false
  list : e'.list l = e.list l ∨ e'.list l = []
  tanks : ∀ n, n ∉ e.list l → e'.tank n = e.tank n

theorem Ev.dropClose_recordsOnly (e : Ev) (l : LineId) : e.RecordsOnly (e.dropClose l) :=
  ((Ev.setClose_recordsOnly e l none).trans (Ev.modLine_recordsOnly _ l _)).trans (Ev.modFlow_recordsOnly _ l _)

theorem Ev.dropClose_line (e : Ev) (l : LineId) : (e.dropClose l).line l = { e.line l with closeReason := none } := by
  simp [Ev.dropClose, State.line]

theorem Ev.Ends.setState (h : ∀ n, n ∉ e.list l → x.tank n = e.tank n) (hl : x.list l = e.list l ∨ x.list l = [])
    (st : LineState) (hst : st.flowing = false) : e.Ends (x.setState l st) l where
  flowing := by rw [State.flowing, Ev.setState_line]; exact hst
  list := by rw [State.list, Ev.setState_lists]; exact hl
  tanks n hn := by rw [State.tank, Ev.setState_tanks]; exact h n hn

/-- The ACTIVE tank of a line takes use `u`, if there is one (R20). -/
def Ev.useActive (e y : Ev) (l : LineId) (u : TankUse) : Ev :=
  match e.activeTank l with
  | some k => y.setUse k u
  | none => y

theorem Ev.useActive_tank (e y : Ev) (u : TankUse) {n : TankId} (hn : n ∉ e.list l) :
    (e.useActive y l u).tank n = y.tank n := by
  unfold Ev.useActive
  split
  · next k hk =>
    rw [Ev.setUse_tank, if_neg]
    rintro rfl
    exact hn (State.activeTank_mem hk)
  · rfl

theorem Ev.useActive_lists (e y : Ev) (u : TankUse) : (e.useActive y l u).lists = y.lists := by
  unfold Ev.useActive
  split
  · exact Ev.setUse_lists y _ u
  · rfl

theorem Ev.closeEnd_eq (e : Ev) (l : LineId) : e.closeEnd l = match (e.line l).closeReason with
    | some .ending => (((e.dropClose l).settleComplete l).modLine l (fun x => { x with holdReason := none })).setState l .complete
    | some .tankEnd => (e.useActive (e.dropClose l) l .done).setState l .held
    | some .hold => (e.useActive (e.dropClose l) l .queued).setState l .held
    | some .trip => ((e.dropClose l).modLine l (fun x => { x with holdReason := none })).setState l .tripped
    | some .esd => ((e.dropClose l).modLine l (fun x => { x with holdReason := none })).setState l .tripped
    | none => e.dropClose l := rfl

theorem Ev.closeEnd_ends (e : Ev) (l : LineId) (hs : (e.line l).state = .closing) : e.Ends (e.closeEnd l) l := by
  have htanks : (e.dropClose l).tanks = e.tanks := rfl
  have hlists : (e.dropClose l).lists = e.lists := rfl
  have hline := Ev.dropClose_line e l
  rw [Ev.closeEnd_eq]
  generalize e.dropClose l = y at htanks hlists hline
  have hlist : y.list l = e.list l := congrArg (fun q => Quad.get q l) hlists
  have htank (n : TankId) : y.tank n = e.tank n := congrArg (fun q => Tanks.get q n) htanks
  split
  · obtain ⟨tk, d, h, htk⟩ := Ev.settleComplete_writes y l
    rw [h]
    refine .setState (fun n hn => ?_) (.inr ?_) _ rfl
    · exact (htk n).trans ((if_neg (hlist ▸ hn)).trans (htank n))
    · exact Quad.get_set_same _ _ _
  · refine .setState (fun n hn => (Ev.useActive_tank e _ _ hn).trans (htank n)) (.inl ?_) _ rfl
    rw [State.list, Ev.useActive_lists]; exact hlist
  · refine .setState (fun n hn => (Ev.useActive_tank e _ _ hn).trans (htank n)) (.inl ?_) _ rfl
    rw [State.list, Ev.useActive_lists]; exact hlist
  · exact .setState (x := y.modLine l _) (fun n _ => htank n) (.inl hlist) .tripped rfl
  · exact .setState (x := y.modLine l _) (fun n _ => htank n) (.inl hlist) .tripped rfl
  · refine ⟨?_, .inl hlist, fun n hn => htank n⟩
    rw [State.flowing, hline]
    simp [hs, LineState.flowing]

/-! ### The moves of a line's records -/

/-- What one calm report handed on, or one close decided, does to the records of line `l`. -/
inductive Ev.LaneMove (e e' : Ev) (l : LineId) : Prop
  | same (h : e'.lane l = e.lane l)
  | settling (y : Predictor) (hy : y.evaluation = (e.pred l).evaluation) (ht : (e.pred l).settle = .travel)
      (h : e'.lane l = (e.line l, e.list l, y, e.close l, e.flow l))
  | proving (b : Baseline) (w : Watch) (hs : (e.line l).state = .starting)
      (h : e'.lane l = ({ e.line l with baseline := some b, provingStart := some e.now, state := .proving }, e.list l, e.pred l,
        e.close l, { e.flow l with watchActive := some w }))
  | closing (b : Bool) (c : Option CloseRec) (hs : (e.line l).state = .closing)
      (h : e'.lane l = ({ e.line l with surgeLimited := b }, e.list l, e.pred l, c, e.flow l))
  | ended (hs : (e.line l).state = .closing) (hsw : (e.valve l).closedSwitch = true) (h : e.Ends e' l)

theorem Ev.LaneMove.of_closeOnly (hs : (e.line l).state = .closing) (h : e.CloseOnly e' l) : e.LaneMove e' l := by
  obtain ⟨c, hc⟩ := h
  exact .closing (e.line l).surgeLimited c hs hc

theorem State.closePhase_closing {s : State} {p : ClosePhase} (h : s.closePhase l = some p) : (s.line l).state = .closing := by
  unfold State.closePhase at h
  split at h
  · assumption
  · cases h

theorem Ev.calm.closedSwitch (h : e.calm g) (l : LineId) : (g.inputs l).closedSwitch = (e.valve l).closedSwitch := by
  rw [← h.1]; rfl

theorem Ev.plannerArrived_laneMove {target : Nat} (hsw : target = 0 → (e.valve l).closedSwitch = true) :
    e.LaneMove (e.plannerArrived l target) l := by
  unfold Ev.plannerArrived
  split
  · next hp =>
    have hs : (e.line l).state = .closing := hp.elim State.closePhase_closing State.closePhase_closing
    split
    · next ht => exact .ended hs (hsw ht) (Ev.closeEnd_ends e l hs)
    · exact .of_closeOnly hs (Ev.modClose_closeOnly e l _)
  · exact .same rfl

theorem Ev.settleArrival_laneMove (target : Nat) : e.LaneMove (e.settleArrival l target) l := by
  unfold Ev.settleArrival
  split
  · next h =>
    refine .settling ((e.settleArrival l target).pred l) ?_ h.1 ?_
    · rw [Ev.settleArrival, if_pos h]; simp [State.pred]
    · rw [Ev.settleArrival, if_pos h]; simp [State.lane, State.pred, State.line, State.list, State.close, State.flow]
  · exact .same rfl

theorem Ev.enterProving_laneMove (hs : (e.line l).state = .starting) : e.LaneMove (e.enterProving l) l := by
  refine .proving ((e.enterProving l).line l |>.baseline.getD { level := none, litres := 0 })
    ((e.enterProving l).flow l |>.watchActive.getD { base := none, peak := none, peakTime := 0 }) hs ?_
  unfold Ev.enterProving
  obtain ⟨sh, d, h, -⟩ := Ev.setState_writes ((e.modLine l (fun x => { x with
    baseline := some { level := ((e.activeTank l).bind (fun k => (e.tank k).latest)).map (fun h => h.level), litres := x.delivered },
    provingStart := some e.now })).modFlow l (fun x => { x with watchActive := some {
      base := ((e.activeTank l).bind (fun k => (e.tank k).latest)).map (fun h => h.level),
      peak := ((e.activeTank l).bind (fun k => (e.tank k).latest)).map (fun h => h.level), peakTime := e.now } })) l .proving
  dsimp only
  rw [h]
  simp [State.lane, State.line, State.list, State.pred, State.close, State.flow]

/-- The plan of a close made, from a state in which the close record alone has changed. -/
theorem Ev.startPlan_laneMove (hs : (e.line l).state = .closing) (h0 : e.CloseOnly x l) (hv : x.valve l = e.valve l)
    (ht : x.tanks = e.tanks) : e.LaneMove (x.startPlan l) l := by
  obtain ⟨c0, hc0⟩ := h0
  have hb : ((x.modClose l (fun c => { c with plan := some (x.makePlan l) })).setSurge l (x.closeFigures l).limited).lane l =
      ({ e.line l with surgeLimited := (x.closeFigures l).limited }, e.list l, e.pred l,
        c0.map (fun c => { c with plan := some (x.makePlan l) }), e.flow l) := by
    have h1 : x.lines.get l = e.line l := congrArg (fun p => p.1) hc0
    have h2 : x.lists.get l = e.list l := congrArg (fun p => p.2.1) hc0
    have h3 : x.preds.get l = e.pred l := congrArg (fun p => p.2.2.1) hc0
    have h4 : x.closes.get l = c0 := congrArg (fun p => p.2.2.2.1) hc0
    have h5 : x.flows.get l = e.flow l := congrArg (fun p => p.2.2.2.2) hc0
    simp [State.lane, Ev.setSurge, Ev.modClose, h1, h2, h3, h4, h5]
  have htank : ((x.modClose l (fun c => { c with plan := some (x.makePlan l) })).setSurge l
      (x.closeFigures l).limited).tanks = e.tanks := by simp [Ev.setSurge, ht]
  unfold Ev.startPlan
  dsimp only
  generalize (x.modClose l (fun c => { c with plan := some (x.makePlan l) })).setSurge l (x.closeFigures l).limited = y
    at hb htank
  have later {z : Ev} (h : y.CloseOnly z l) : e.LaneMove z l := by
    obtain ⟨c, hc⟩ := h
    refine .closing (x.closeFigures l).limited c hs (hc.trans ?_)
    have h1 : y.line l = _ := congrArg (fun p => p.1) hb
    have h2 : y.list l = _ := congrArg (fun p => p.2.1) hb
    have h3 : y.pred l = _ := congrArg (fun p => p.2.2.1) hb
    have h5 : y.flow l = _ := congrArg (fun p => p.2.2.2.2) hb
    rw [h1, h2, h3, h5]
  split
  · next hsw =>
    have hline : (y.line l).state = .closing := (congrArg (fun p => p.1.state) hb).trans hs
    have h := Ev.closeEnd_ends y l hline
    have hlist : y.list l = e.list l := congrArg (fun p => p.2.1) hb
    refine .ended hs (hv ▸ hsw) ⟨h.flowing, hlist ▸ h.list, fun n hn => ?_⟩
    rw [h.tanks n (hlist ▸ hn), State.tank, htank]
    rfl
  · split
    · exact later ((Ev.modClose_closeOnly y l _).trans (.of_lane (Ev.requestStroke_lane _ _ _ _ _ _)))
    · exact later (Ev.requestStage_closeOnly y l 1)

theorem Ev.decideClose_laneMove (e : Ev) (l m : LineId) : e.LaneMove (e.decideClose m) l := by
  by_cases hm : l = m
  · subst hm
    unfold Ev.decideClose
    split
    · next h =>
      have h1 := Ev.modClose_closeOnly e l (fun c => { c with runDownStart := some c.entry })
      have ended (y : Ev) (hy : e.CloseOnly y l) (hv : y.valve l = e.valve l) (ht : y.tanks = e.tanks) (r : RunDownEnd) :
          e.LaneMove (y.endRunDown l r) l :=
        Ev.startPlan_laneMove h.1 (hy.trans (Ev.modClose_closeOnly y l _)) hv ht
      dsimp only
      split
      · exact Ev.startPlan_laneMove h.1 (.of_lane rfl) rfl rfl
      · split
        · exact ended _ h1 rfl rfl .pressure
        · split
          · exact ended _ h1 rfl rfl .time
          · exact .of_closeOnly h.1 h1
    · exact .same rfl
  · exact .same (Ev.decideClose_lane e m hm)

/-- The line a report is about. -/
def Report.line : Report → LineId
  | .arrived l _ _ => l
  | .failed l _ _ => l
  | .ended l _ => l
  | .seated l => l

theorem Ev.handleReport_lane_of_calm (r : Report) (hr : r.calm g) (h : r.line ≠ l) :
    (e.handleReport r).lane l = e.lane l := by
  cases r with
  | arrived m cls target =>
    have hm : l ≠ m := Ne.symm h
    cases cls with
    | close => exact Ev.plannerArrived_lane e m target hm
    | throttle => exact Ev.settleArrival_lane e m target hm
    | opening =>
      simp only [Ev.handleReport]
      split
      · exact Ev.enterProving_lane e m hm
      · exact Ev.settleArrival_lane e m target hm
  | ended m cls =>
    cases cls with
    | close =>
      simp only [Ev.handleReport]
      split
      · exact Ev.requestStroke_lane e m _ _ _ l
      · exact Ev.plannerEnded_lane e m (Ne.symm h)
    | throttle => rfl
    | opening => rfl
  | failed m cls o => exact absurd hr id
  | seated m => exact absurd hr id

theorem Ev.handleReport_laneMove (hc : e.calm g) (r : Report) (hr : r.calm g) (l : LineId) :
    e.LaneMove (e.handleReport r) l := by
  by_cases hl : r.line = l
  · subst hl
    cases r with
    | arrived m cls target =>
      cases cls with
      | close => exact Ev.plannerArrived_laneMove fun ht => (hc.closedSwitch m).symm.trans (hr ht)
      | throttle => exact Ev.settleArrival_laneMove target
      | opening =>
        simp only [Ev.handleReport]
        split
        · next hs => exact Ev.enterProving_laneMove hs
        · exact Ev.settleArrival_laneMove target
    | ended m cls =>
      cases cls with
      | close =>
        simp only [Ev.handleReport]
        split
        · exact .same (Ev.requestStroke_lane e m _ _ _ m)
        · by_cases hp : e.closePhase m = some .dwell
          · exact .of_closeOnly (State.closePhase_closing hp) (Ev.plannerEnded_closeOnly e m)
          · exact .same (by rw [Ev.plannerEnded, if_neg hp])
      | throttle => exact .same rfl
      | opening => exact .same rfl
    | failed m cls o => exact absurd hr id
    | seated m => exact absurd hr id
  · exact .same (Ev.handleReport_lane_of_calm r hr hl)

/-! ### Moves as steps of a line's records -/

/-- The records of one line outside the Stroke Arbiter. -/
abbrev Lane := LineRec × List TankId × Predictor × Option CloseRec × Flow

/-- A step of a line's records at the end of an event whose reports are calm; `closed` is the line's closed limit switch. -/
inductive LaneStep (closed : Bool) (now : Time) (a : Lane) : Lane → Prop
  | settling (y : Predictor) (hy : y.evaluation = a.2.2.1.evaluation) (ht : a.2.2.1.settle = .travel) :
      LaneStep closed now a (a.1, a.2.1, y, a.2.2.2.1, a.2.2.2.2)
  | proving (b : Baseline) (w : Watch) (hs : a.1.state = .starting) :
      LaneStep closed now a ({ a.1 with baseline := some b, provingStart := some now, state := .proving }, a.2.1, a.2.2.1,
        a.2.2.2.1, { a.2.2.2.2 with watchActive := some w })
  | closing (b : Bool) (c : Option CloseRec) (hs : a.1.state = .closing) :
      LaneStep closed now a ({ a.1 with surgeLimited := b }, a.2.1, a.2.2.1, c, a.2.2.2.2)
  | ended (b : Lane) (hs : a.1.state = .closing) (hsw : closed = true) (hf : b.1.state.flowing = false)
      (hl : b.2.1 = a.2.1 ∨ b.2.1 = []) : LaneStep closed now a b

theorem Ev.LaneMove.step (h : e.LaneMove e' l) :
    e'.lane l = e.lane l ∨ LaneStep (e.valve l).closedSwitch e.now (e.lane l) (e'.lane l) := by
  cases h with
  | same h => exact .inl h
  | settling y hy ht h => rw [h]; exact .inr (.settling (a := e.lane l) y hy ht)
  | proving b w hs h => rw [h]; exact .inr (.proving (a := e.lane l) b w hs)
  | closing b c hs h => rw [h]; exact .inr (.closing (a := e.lane l) b c hs)
  | ended hs hsw h => exact .inr (.ended _ hs hsw h.flowing h.list)

/-- What every step of a line's records keeps, the end of an event keeps. -/
theorem Ev.drain_keeps_lane {P : Lane → Prop} (hc : e.calm g) (l : LineId)
    (hP : ∀ a b, P a → LaneStep (e.valve l).closedSwitch e.now a b → P b) (h : P (e.lane l)) : P (e.drain.lane l) := by
  have stays {y z : Ev} (hy : y.calm g) (h : P (y.lane l)) (hm : y.LaneMove z l) : P (z.lane l) := by
    rcases hm.step with heq | hstep
    · rw [heq]; exact h
    · rw [← hy.closedSwitch l, hc.closedSwitch l] at hstep
      have hnow : y.now = e.now := congrArg (fun g : Ground => g.port.now) (hy.1.trans hc.1.symm)
      rw [hnow] at hstep
      exact hP _ _ h hstep
  exact Ev.drain_calm_induction (P := fun y => P (y.lane l)) (fun y r hy hr h => stays hy h (Ev.handleReport_laneMove hy r hr l))
    (fun y m hy h => stays hy h (Ev.decideClose_laneMove y l m)) (fun _ _ h => h) (fun _ _ h => h) e hc h

/-! ### What the end of an event leaves -/

/-- A closing line with its valve off the closed limit switch goes on closing: of its record SURGE_LIMITED alone can change. -/
theorem Ev.drain_closing (hc : e.calm g) (hs : (e.line l).state = .closing) (hsw : (e.valve l).closedSwitch = false) :
    (∃ b, e.drain.line l = { e.line l with surgeLimited := b }) ∧ e.drain.list l = e.list l ∧
      (e.drain.pred l).evaluation = (e.pred l).evaluation ∧ e.drain.flow l = e.flow l := by
  refine Ev.drain_keeps_lane (P := fun b => (∃ x, b.1 = { e.line l with surgeLimited := x }) ∧ b.2.1 = e.list l ∧
    b.2.2.1.evaluation = (e.pred l).evaluation ∧ b.2.2.2.2 = e.flow l) hc l ?_ ⟨⟨_, rfl⟩, rfl, rfl, rfl⟩
  rintro a b ⟨⟨x, hx⟩, hlist, hpred, hflow⟩ hstep
  cases hstep with
  | settling y hy ht => exact ⟨⟨x, hx⟩, hlist, hy.trans hpred, hflow⟩
  | proving b w hst => rw [hx] at hst; rw [hs] at hst; cases hst
  | closing y c hst => exact ⟨⟨y, by rw [hx]⟩, hlist, hpred, hflow⟩
  | ended _ hst hsw' => rw [hsw] at hsw'; cases hsw'

/-- A line that neither closes nor starts keeps its record, its list, its close record and its figures; its settle may begin. -/
theorem Ev.drain_still (hc : e.calm g) (h1 : (e.line l).state ≠ .closing) (h2 : (e.line l).state ≠ .starting) :
    e.drain.line l = e.line l ∧ e.drain.list l = e.list l ∧ (e.drain.pred l).evaluation = (e.pred l).evaluation ∧
      e.drain.close l = e.close l ∧ e.drain.flow l = e.flow l := by
  refine Ev.drain_keeps_lane (P := fun b => b.1 = e.line l ∧ b.2.1 = e.list l ∧
    b.2.2.1.evaluation = (e.pred l).evaluation ∧ b.2.2.2.1 = e.close l ∧ b.2.2.2.2 = e.flow l) hc l ?_
    ⟨rfl, rfl, rfl, rfl, rfl⟩
  rintro a b ⟨hline, hlist, hpred, hclose, hflow⟩ hstep
  cases hstep with
  | settling y hy ht => exact ⟨hline, hlist, hy.trans hpred, hclose, hflow⟩
  | proving b w hst => exact absurd (hline ▸ hst) h2
  | closing y c hst => exact absurd (hline ▸ hst) h1
  | ended _ hst hsw' => exact absurd (hline ▸ hst) h1

/-- A line in STARTING stays there or enters PROVING; the rest of its record stays. -/
theorem Ev.drain_starting (hc : e.calm g) (hs : (e.line l).state = .starting) :
    (e.drain.line l = e.line l ∨ ∃ b, e.drain.line l =
      { e.line l with baseline := some b, provingStart := some e.now, state := .proving }) ∧
    e.drain.list l = e.list l ∧ e.drain.close l = e.close l ∧
    (e.drain.flow l = e.flow l ∨ ∃ w, e.drain.flow l = { e.flow l with watchActive := some w }) := by
  refine Ev.drain_keeps_lane (P := fun b => (b.1 = e.line l ∨ ∃ y, b.1 =
    { e.line l with baseline := some y, provingStart := some e.now, state := .proving }) ∧ b.2.1 = e.list l ∧
    b.2.2.2.1 = e.close l ∧ (b.2.2.2.2 = e.flow l ∨ ∃ w, b.2.2.2.2 = { e.flow l with watchActive := some w })) hc l ?_
    ⟨.inl rfl, rfl, rfl, .inl rfl⟩
  rintro a b ⟨hline, hlist, hclose, hflow⟩ hstep
  have hopen : a.1.state ≠ .closing := by
    rcases hline with h | ⟨y, h⟩
    · rw [h, hs]; decide
    · rw [h]; nofun
  cases hstep with
  | settling y hy ht => exact ⟨hline, hlist, hclose, hflow⟩
  | proving b w hst =>
    have hline' : a.1 = e.line l := by
      rcases hline with h | ⟨y, h⟩
      · exact h
      · rw [h] at hst; cases hst
    refine ⟨.inr ⟨b, by rw [hline']⟩, hlist, hclose, .inr ⟨w, ?_⟩⟩
    rcases hflow with h | ⟨w', h⟩
    · rw [h]
    · rw [h]
  | closing y c hst => exact absurd hst hopen
  | ended _ hst hsw' => exact absurd hst hopen

/-- No line starts to flow at the end of an event. -/
theorem Ev.drain_flowing (hc : e.calm g) (hf : e.flowing l = false) : e.drain.flowing l = false := by
  refine Ev.drain_keeps_lane (P := fun b => b.1.state.flowing = false) hc l ?_ hf
  rintro a b ha hstep
  cases hstep with
  | settling y hy ht => exact ha
  | proving b w hst => rw [hst] at ha; cases ha
  | closing y c hst => exact ha
  | ended _ hst hsw' hf => exact hf

/-! ### Tanks -/

theorem Ev.StrokesOnly.tank (h : e.StrokesOnly e') (n : TankId) : e'.tank n = e.tank n := by
  rw [State.tank, State.tank, h.tanks]

theorem Ev.requestStage_tanks (e : Ev) (l : LineId) (n : Nat) : (e.requestStage l n).tanks = e.tanks := by
  unfold Ev.requestStage
  split
  · rfl
  · split
    · rfl
    · exact (Ev.requestStroke_strokesOnly _ l _ _ _).tanks

theorem Ev.plannerEnded_tanks (e : Ev) (l : LineId) : (e.plannerEnded l).tanks = e.tanks := by
  unfold Ev.plannerEnded
  split
  · unfold Ev.nextStage
    split
    · split
      · exact Ev.requestStage_tanks _ l _
      · rfl
    · rfl
  · rfl

theorem Ev.enterProving_tanks (e : Ev) (l : LineId) : (e.enterProving l).tanks = e.tanks := Ev.setState_tanks _ l _

theorem Ev.settleArrival_tanks (e : Ev) (l : LineId) (target : Nat) : (e.settleArrival l target).tanks = e.tanks := by
  unfold Ev.settleArrival
  split
  · rfl
  · rfl

/-- A calm report handed on changes tanks only where it ends a close. -/
theorem Ev.handleReport_tank (hc : e.calm g) (r : Report) (hr : r.calm g) {n : TankId}
    (hn : ∀ m, n ∈ e.list m → (e.line m).state = .closing → (e.valve m).closedSwitch = false) :
    (e.handleReport r).tank n = e.tank n := by
  have same {y : Ev} (h : y.tanks = e.tanks) : y.tank n = e.tank n := by rw [State.tank, h]; rfl
  cases r with
  | arrived m cls target =>
    cases cls with
    | close =>
      simp only [Ev.handleReport, Ev.plannerArrived]
      split
      · next hp =>
        have hs : (e.line m).state = .closing := hp.elim State.closePhase_closing State.closePhase_closing
        split
        · next ht =>
          refine (Ev.closeEnd_ends e m hs).tanks n fun hmem => ?_
          have h1 := hn m hmem hs
          rw [← hc.closedSwitch, hr ht] at h1
          cases h1
        · rfl
      · rfl
    | throttle => exact same (Ev.settleArrival_tanks e m target)
    | opening =>
      simp only [Ev.handleReport]
      split
      · exact same (Ev.enterProving_tanks e m)
      · exact same (Ev.settleArrival_tanks e m target)
  | ended m cls =>
    cases cls with
    | close =>
      simp only [Ev.handleReport]
      split
      · exact same (Ev.requestStroke_strokesOnly e m _ _ _).tanks
      · exact same (Ev.plannerEnded_tanks e m)
    | throttle => rfl
    | opening => rfl
  | failed m cls o => exact absurd hr id
  | seated m => exact absurd hr id

theorem Ev.decideClose_tank (e : Ev) (m : LineId) {n : TankId}
    (hn : n ∈ e.list m → (e.line m).state = .closing → (e.valve m).closedSwitch = false) :
    (e.decideClose m).tank n = e.tank n := by
  have planned (x : Ev) (hl : x.list m = e.list m) (hst : x.line m = e.line m) (hv : x.valve m = e.valve m)
      (ht : x.tanks = e.tanks) (hs : (e.line m).state = .closing) : (x.startPlan m).tank n = e.tank n := by
    have h0 : ((x.modClose m (fun c => { c with plan := some (x.makePlan m) })).setSurge m
        (x.closeFigures m).limited).tanks = e.tanks := by simp [Ev.setSurge, ht]
    have h1 : ((x.modClose m (fun c => { c with plan := some (x.makePlan m) })).setSurge m
        (x.closeFigures m).limited).list m = e.list m := by simpa [Ev.setSurge, State.list] using hl
    have h2 : (((x.modClose m (fun c => { c with plan := some (x.makePlan m) })).setSurge m
        (x.closeFigures m).limited).line m).state = .closing := by
      rw [← hs, ← hst]; simp [Ev.setSurge, State.line]
    unfold Ev.startPlan
    dsimp only
    generalize (x.modClose m (fun c => { c with plan := some (x.makePlan m) })).setSurge m (x.closeFigures m).limited = y
      at h0 h1 h2
    have same {z : Ev} (h : z.tanks = e.tanks) : z.tank n = e.tank n := by rw [State.tank, h]; rfl
    split
    · next hsw =>
      refine ((Ev.closeEnd_ends y m h2).tanks n fun hmem => ?_).trans (same h0)
      rw [hv, hn (h1 ▸ hmem) hs] at hsw
      cases hsw
    · split
      · exact same ((Ev.requestStroke_strokesOnly _ m _ _ _).tanks.trans h0)
      · exact same ((Ev.requestStage_tanks y m 1).trans h0)
  unfold Ev.decideClose
  split
  · next h =>
    dsimp only
    split
    · exact planned e rfl rfl rfl rfl h.1
    · split
      · exact planned _ rfl rfl rfl rfl h.1
      · split
        · exact planned _ rfl rfl rfl rfl h.1
        · rfl
  · rfl

/-- A tank on no list of a line that closes on an active closed limit switch keeps its record to the end of the event. -/
theorem Ev.drain_tank (hc : e.calm g) {n : TankId}
    (hn : ∀ m, n ∈ e.list m → (e.line m).state = .closing → (e.valve m).closedSwitch = false) :
    e.drain.tank n = e.tank n := by
  let Safe (y : Ev) : Prop := ∀ m, n ∈ y.list m → (y.line m).state = .closing → (g.inputs m).closedSwitch = false
  have safe {y z : Ev} (hy : y.calm g) (h : Safe y) (hm : ∀ m, y.LaneMove z m) : Safe z := by
    intro m hmem hst
    cases hm m with
    | same heq =>
      have h1 : z.list m = y.list m := congrArg (fun p => p.2.1) heq
      have h2 : z.line m = y.line m := congrArg (fun p => p.1) heq
      exact h m (h1 ▸ hmem) (h2 ▸ hst)
    | settling p hp ht heq =>
      have h1 : z.list m = y.list m := congrArg (fun p => p.2.1) heq
      have h2 : z.line m = y.line m := congrArg (fun p => p.1) heq
      exact h m (h1 ▸ hmem) (h2 ▸ hst)
    | proving b w hs heq =>
      have h2 : (z.line m).state = .proving := congrArg (fun p => p.1.state) heq
      rw [h2] at hst
      cases hst
    | closing b c hs heq =>
      have h1 : z.list m = y.list m := congrArg (fun p => p.2.1) heq
      exact h m (h1 ▸ hmem) hs
    | ended hs hsw hend =>
      rcases hend.list with h1 | h1
      · exact h m (h1 ▸ hmem) hs
      · rw [h1] at hmem; cases hmem
  have open' {y : Ev} (hy : y.calm g) (h : Safe y) (m : LineId) (hmem : n ∈ y.list m) (hst : (y.line m).state = .closing) :
      (y.valve m).closedSwitch = false := (hy.closedSwitch m).symm.trans (h m hmem hst)
  refine (Ev.drain_calm_induction (P := fun y => Safe y ∧ y.tank n = e.tank n) (fun y r hy hr h => ?_) (fun y m hy h => ?_)
    (fun _ _ h => h) (fun _ _ h => h) e hc ⟨fun m h1 h2 => (hc.closedSwitch m).trans (hn m h1 h2), rfl⟩).2
  · exact ⟨safe hy h.1 (Ev.handleReport_laneMove hy r hr), (Ev.handleReport_tank hy r hr (open' hy h.1)).trans h.2⟩
  · exact ⟨safe hy h.1 (Ev.decideClose_laneMove y · m), (Ev.decideClose_tank y m (open' hy h.1 m)).trans h.2⟩

end Sys2Proof.Machine
end

section
/-! Trips that last to the end of the event: a line that has entered its close with its valve off the closed limit switch leaves the
event in CLOSING with its reason. The expired windows, WAIT, REFUSE and the end of the silence. -/

namespace Sys2Proof.Machine
variable {e e' x : Ev} {l m : LineId} {g : Ground} {k : TankId} {s u : State} {c : Instr} {t : Time} {op : Ev → Ev}
  {Q : State → Prop}

/-! ### Events that end in a drain -/

/-- A command of one event completes with the blocks that its drain leaves, its notices noted. -/
theorem completes_of_drain (e : Ev) (hc : exec c s = event t s op) (he : op (begin t s) = e) (hp : e.pending = s.pending)
    (hn : e.now = t) (hQ : ∀ v, e.drain.toState.sameBlocks v → (∀ k ∈ e.drain.dirty, v.announced k) → Q v) :
    Completes s c t Q := by
  refine completes_of_event hc (he ▸ hp) (he ▸ hn) ?_
  rw [he]
  exact hQ _ (Ev.closing_sameBlocks e.drain) fun k hk => finish_announced e k hk

theorem begin_calm (t : Time) (s : State) : (begin t s).calm (begin t s).ground := Ev.calm_of _ _ rfl rfl

/-- A command of one event whose operation does nothing leaves the state as it stood, its time apart. -/
theorem exec_nothing (hc : exec c s = event t s op) (he : op (begin t s) = begin t s) :
    exec c s = .next (State.arbitrate { s with now := t }) := by
  rw [exec_idle hc (by rw [he]; rfl) (by rw [he]; rfl), he]
  rfl

/-! ### What the ground of an event shows at its end -/

section
variable {y z : State}

theorem link_of_ground (h : z.ground = y.ground) : z.link = y.link := congrArg Ground.link h
theorem grades_of_ground (h : z.ground = y.ground) : z.grades = y.grades := congrArg Ground.grades h
theorem now_of_ground (h : z.ground = y.ground) : z.now = y.now := congrArg (fun g : Ground => g.port.now) h
theorem pending_of_ground (h : z.ground = y.ground) : z.pending = y.pending := congrArg (fun g : Ground => g.port.pending) h
theorem profile_of_ground (h : z.ground = y.ground) (l : LineId) : (z.line l).profile = (y.line l).profile :=
  congrFun (congrArg Ground.profiles h) l
theorem reading_of_ground (h : z.ground = y.ground) (k : TankId) : (z.tank k).reading = (y.tank k).reading :=
  congrFun (congrArg Ground.readings h) k
theorem inputs_of_ground (h : z.ground = y.ground) (l : LineId) : (z.valve l).inputs = (y.valve l).inputs :=
  congrFun (congrArg Ground.inputs h) l
theorem meter_of_ground (h : z.ground = y.ground) (l : LineId) : (z.flow l).meter = (y.flow l).meter :=
  congrFun (congrArg Ground.meters h) l
theorem closedSwitch_of_ground (h : z.ground = y.ground) (l : LineId) :
    (z.valve l).closedSwitch = (y.valve l).closedSwitch := congrArg ValveInputs.closedSwitch (inputs_of_ground h l)
theorem supply_of_ground (h : z.ground = y.ground) : z.supply.profile = y.supply.profile ∧
    z.supply.pressure = y.supply.pressure ∧ z.supply.fault = y.supply.fault ∧ z.supply.band = y.supply.band := by
  have h := congrArg Ground.supply h
  exact ⟨congrArg (fun p => p.1) h, congrArg (fun p => p.2.1) h, congrArg (fun p => p.2.2.1) h, congrArg (fun p => p.2.2.2) h⟩

end

/-! ### A close that has begun lasts -/

theorem State.closesWith_of_closed {y : State} {reason : CloseReason} {hold : Option HoldReason} {cause : Option TripCause}
    {z : LineRec} (h : z.Closed (y.line l) reason hold cause) : y.closesWith l reason hold cause :=
  ⟨h.state, h.closeReason, h.holdReason, h.throttle, fun x hx => by rw [h.trip, hx]; rfl⟩

theorem State.closesWith_congr {y z : State} {reason : CloseReason} {hold : Option HoldReason} {cause : Option TripCause}
    {b : Bool} (h : z.line l = { y.line l with surgeLimited := b }) (hy : y.closesWith l reason hold cause) :
    z.closesWith l reason hold cause := by
  rw [State.closesWith, h]
  exact hy

theorem Ev.drain_closesWith {reason : CloseReason} {hold : Option HoldReason} {cause : Option TripCause} (hc : e.calm g)
    (hsw : (e.valve l).closedSwitch = false) (h : e.toState.closesWith l reason hold cause) :
    e.drain.toState.closesWith l reason hold cause := by
  obtain ⟨⟨b, hb⟩, -⟩ := Ev.drain_closing hc h.1 hsw
  exact State.closesWith_congr hb h

theorem Ev.closeEntry_closesWith (e : Ev) (l : LineId) (reason : CloseReason) (hold : Option HoldReason)
    (cause : Option TripCause) : (e.closeEntry l reason hold cause).toState.closesWith l reason hold cause :=
  State.closesWith_of_closed (Ev.closeEntry_line e l reason hold cause)

theorem Ev.trip_of_flowing (hf : e.flowing l = true) (cause : TripCause) :
    e.trip l cause = e.closeEntry l .trip none (some cause) := if_pos hf

theorem State.sameBlocks.closesWith {y v : State} {reason : CloseReason} {hold : Option HoldReason}
    {cause : Option TripCause} (hv : y.sameBlocks v) (h : y.closesWith l reason hold cause) :
    v.closesWith l reason hold cause := by
  rw [State.closesWith, hv.line]
  exact h

theorem Ev.trip_causes (e : Ev) (l : LineId) (cause : TripCause) : (e.trip l cause).shut.causes = e.shut.causes :=
  congrArg Prod.fst (Ev.trip_alarms l cause (e := e) rfl)

theorem Ev.drain_causes (hc : e.calm g) : e.drain.shut.causes = e.shut.causes := congrArg Prod.fst (Ev.drain_alarms e hc)

/-- A flowing line that trips leaves the event in CLOSING for the cause, its pending volume given up (R17, R51). -/
theorem Ev.trip_drain_closesWith (hc : e.calm g) (hf : e.flowing l = true) (hsw : (e.valve l).closedSwitch = false)
    (cause : TripCause) : (e.trip l cause).drain.toState.closesWith l .trip none (some cause) ∧
      ((e.line l).state = .changeover → ((e.trip l cause).drain.line l).pendingVol = 0) := by
  have hcalm : (e.trip l cause).calm g := Ev.trip_calm l cause hc
  have hsw' : ((e.trip l cause).valve l).closedSwitch = false := by
    rw [← hcalm.closedSwitch, hc.closedSwitch]; exact hsw
  have hclosed := Ev.closeEntry_line e l .trip none (some cause)
  rw [← Ev.trip_of_flowing hf] at hclosed
  refine ⟨Ev.drain_closesWith hcalm hsw' (State.closesWith_of_closed hclosed), fun hst => ?_⟩
  obtain ⟨⟨b, hb⟩, -⟩ := Ev.drain_closing hcalm hclosed.state hsw'
  rw [hb]
  exact hclosed.pendingVol.trans (if_pos hst)

/-! ### The windows (R12, R49) -/

/-- A flowing line tripped by an event that does nothing else. -/
theorem completes_trip (hop : exec c s = event t s op) (hf : s.flowing l = true) {cause : TripCause}
    (he : op (begin t s) = (begin t s).trip l cause) (hsw : (s.valve l).closedSwitch = false) :
    Completes s c t (fun v => v.closesWith l .trip none (some cause) ∧
      ((s.line l).state = .changeover → (v.line l).pendingVol = 0) ∧ v.shut.causes = s.shut.causes ∧ v.link = s.link ∧
      v.grades = s.grades) := by
  have hcalm : ((begin t s).trip l cause).calm (begin t s).ground := Ev.trip_calm l cause (begin_calm t s)
  have hground : ((begin t s).trip l cause).drain.ground = (begin t s).ground := (Ev.drain_ground _).trans hcalm.1
  obtain ⟨hclose, hvol⟩ := Ev.trip_drain_closesWith (begin_calm t s) (l := l) hf hsw cause
  refine completes_of_drain _ hop he (pending_of_ground (y := (begin t s).toState) hcalm.1)
    (now_of_ground (y := (begin t s).toState) hcalm.1) fun v hv _ => ?_
  refine ⟨hv.closesWith hclose, fun hst => ?_, ?_, ?_, ?_⟩
  · rw [hv.line]; exact hvol hst
  · rw [hv.shut, Ev.drain_causes hcalm, Ev.trip_causes]; rfl
  · rw [(hv.linkGrades).1, link_of_ground hground]; rfl
  · rw [(hv.linkGrades).2, grades_of_ground hground]; rfl

/-- Settles O45: a window over in its state trips the line, whose close lasts to the end of the event; any other expiry does nothing. -/
theorem expiredWindowsTripTheLine : Obligations.ExpiredWindowsTripTheLine := by
  intro s t l
  have hprove : exec (.provingTimeout t l) s = event t s (fun e => e.provingTimeout l) := rfl
  have hchange : exec (.changeoverTimeout t l) s = event t s (fun e => e.changeoverTimeout l) := rfl
  refine ⟨fun t0 hst hstart => ⟨fun hover hsw => ?_, fun hleft => exec_nothing hprove (if_neg fun h => ?_)⟩,
    fun hst => exec_nothing hprove (if_neg fun h => hst h.1), fun t0 hst hstart => ⟨fun hover hsw => ?_, fun hleft =>
    exec_nothing hchange (if_neg fun h => ?_)⟩, fun hst => exec_nothing hchange (if_neg fun h => hst h.1)⟩
  · have hdue : (begin t s).due (s.line l).provingStart (s.profile l).proveWindowMs = true := by
      rw [hstart]; exact decide_eq_true hover
    obtain ⟨v, h1, h2, h3, h4, -, h6, h7, h8⟩ := completes_trip hprove (by rw [State.flowing, hst]; rfl)
      (if_pos ⟨hst, hdue⟩) hsw
    exact ⟨v, h1, h2, h3, h4, h6, h7, h8⟩
  · have hdue : (begin t s).due (s.line l).provingStart (s.profile l).proveWindowMs = true := h.2
    rw [hstart] at hdue
    exact absurd (of_decide_eq_true hdue) (Nat.not_le.mpr hleft)
  · have hdue : (begin t s).due (s.line l).changeoverStart (s.profile l).changeoverWindowMs = true := by
      rw [hstart]; exact decide_eq_true hover
    obtain ⟨v, h1, h2, h3, h4, h5, h6, h7, h8⟩ := completes_trip hchange (by rw [State.flowing, hst]; rfl)
      (if_pos ⟨hst, hdue⟩) hsw
    exact ⟨v, h1, h2, h3, h4, h5 hst, h6, h7, h8⟩
  · have hdue : (begin t s).due (s.line l).changeoverStart (s.profile l).changeoverWindowMs = true := h.2
    rw [hstart] at hdue
    exact absurd (of_decide_eq_true hdue) (Nat.not_le.mpr hleft)

/-! ### WAIT and REFUSE (R147, R149) -/

theorem State.awaiting_eq {q : Poll} (hq : s.link.poll = some q) (ht : elapsed s.now q.start < q.timeout) :
    s.awaiting = some q := by
  rw [State.awaiting, hq]
  exact if_pos ht

theorem Ev.tankFrame_read {q : Poll} (hq : e.link.poll = some q) (ht : elapsed e.now q.start < q.timeout)
    (hk : q.kind = .read k) (onRead onDeclare : Poll → Ev → Ev) : e.tankFrame k onRead onDeclare = onRead q e := by
  simp only [Ev.tankFrame, State.awaiting_eq hq ht, hk, if_true]

theorem Ev.tankFrame_declare {q : Poll} (hq : e.link.poll = some q) (ht : elapsed e.now q.start < q.timeout)
    (hk : q.kind = .declare k) (onRead onDeclare : Poll → Ev → Ev) : e.tankFrame k onRead onDeclare = onDeclare q e := by
  simp only [Ev.tankFrame, State.awaiting_eq hq ht, hk, if_true]

/-- The poll decided writes the link alone, and no poll waits then. -/
theorem Ev.closePoll_writes (e : Ev) (p : Poll) (o : SlotOutcome) : ∃ slots,
    e.closePoll p o = { e with link := { e.link with poll := none, slots := slots } } := ⟨_, rfl⟩

/-- A frame of the tank polled, handled the same for both kinds of poll. -/
theorem exec_tankFrame {q : Poll} {f : Poll → Ev → Ev} (hop : exec c s = event t s (fun e => e.shipHunt.tankFrame k f f))
    (hq : s.link.poll = some q) (hk : q.kind = .read k ∨ q.kind = .declare k) (ht : elapsed t q.start < q.timeout) :
    exec c s = event t s (fun e => f q e.shipHunt) := by
  rw [hop, event, event]
  refine congrArg (fun y => Host.Outcome.next (finish y)) ?_
  rcases hk with hk | hk
  · exact Ev.tankFrame_read (e := (begin t s).shipHunt) hq ht hk f f
  · exact Ev.tankFrame_declare (e := (begin t s).shipHunt) hq ht hk f f

theorem Ev.setHealth_writes (e : Ev) (k : TankId) (h : Health) (r : Option RefusalReason) : ∃ d, e.setHealth k h r =
    { e.modTank k (fun x => { x with health := h, refusal := r }) with dirty := d } := by
  unfold Ev.setHealth Ev.markIf Ev.mark
  split
  · split
    · exact ⟨_, rfl⟩
    · exact ⟨_, rfl⟩
  · exact ⟨_, rfl⟩

theorem TankUse.filling_iff {u : TankUse} : u.filling = true ↔ u = .active ∨ u = .incoming := by
  cases u <;> decide

/-- A tank taken off its line, tripped when it was ACTIVE or INCOMING and its line flowed (R50). -/
theorem Ev.tripHolder_drain (hc : e.calm g) (hl : e.listLine k = some l) (hf : e.flowing l = true)
    (hsw : (e.valve l).closedSwitch = false) (cause : TripCause) :
    (e.tripHolder k cause).drain.toState.closesWith l .trip none (some cause) := by
  unfold Ev.tripHolder
  rw [hl]
  exact (Ev.trip_drain_closesWith hc hf hsw cause).1

/-- A REFUSE: the tank is REFUSED by its unit, and a flowing line that it fills trips (R50, R149). -/
theorem refuse_completes {q : Poll} (hq : s.link.poll = some q) (hk : q.kind = .read k ∨ q.kind = .declare k)
    (ht : elapsed t q.start < q.timeout) : Completes s (.refuse t k) t (fun v =>
      v.link.poll = none ∧ (v.tank k).health = .refused ∧ (v.tank k).refusal = some .refusedByUnit ∧
      (v.tank k).decl = (s.tank k).decl ∧ (v.tank k).missCount = (s.tank k).missCount ∧
      (v.tank k).lastNew = (s.tank k).lastNew ∧ v.grades = s.grades ∧
      (∀ l, s.listLine k = some l → s.flowing l = true → (s.valve l).closedSwitch = false →
        if (s.tank k).use = .active ∨ (s.tank k).use = .incoming then v.closesWith l .trip none (some .tankLost)
        else v.line l = s.line l)) := by
  have hop := exec_tankFrame (f := fun p x => (x.closePoll p (.reply .refuse)).refused k) (c := .refuse t k) rfl hq hk ht
  obtain ⟨slots, hpoll⟩ := Ev.closePoll_writes (begin t s).shipHunt q (.reply .refuse)
  obtain ⟨d, hhealth⟩ := Ev.setHealth_writes ((begin t s).shipHunt.closePoll q (.reply .refuse)) k .refused
    (some .refusedByUnit)
  let y : Ev := { (begin t s) with
    link := { s.link with rx := .hunt, poll := none, slots := slots }, dirty := d,
    tanks := s.tanks.set k { s.tank k with health := .refused, refusal := some .refusedByUnit } }
  have hy : ((begin t s).shipHunt.closePoll q (.reply .refuse)).setHealth k .refused (some .refusedByUnit) = y := by
    rw [hhealth, hpoll]; rfl
  have hcalm : y.calm y.ground := Ev.calm_of _ _ rfl rfl
  have hrefused : ((begin t s).shipHunt.closePoll q (.reply .refuse)).refused k =
      if (s.tank k).use.filling then y.tripHolder k .tankLost else y := by
    rw [Ev.refused, hy]; rfl
  have hground : (if (s.tank k).use.filling then y.tripHolder k .tankLost else y).ground = y.ground := by
    split
    · exact (Ev.tripHolder_calm k .tankLost hcalm).1
    · rfl
  refine completes_of_drain _ hop hrefused (pending_of_ground (y := y.toState) hground)
    (now_of_ground (y := y.toState) hground) fun v hv _ => ?_
  have hend := (Ev.drain_ground _).trans hground
  have hreading : (v.tank k).reading =
      ({ s.tank k with health := .refused, refusal := some .refusedByUnit } : Tank).reading := by
    rw [hv.tank, reading_of_ground hend]
    exact congrArg Tank.reading (Tanks.get_set_same _ _ _)
  refine ⟨?_, congrArg TankReading.health hreading, congrArg TankReading.refusal hreading,
    congrArg TankReading.decl hreading, congrArg TankReading.missCount hreading, congrArg TankReading.lastNew hreading, ?_,
    fun l hl hf hsw => ?_⟩
  · rw [(hv.linkGrades).1, link_of_ground hend]
  · rw [(hv.linkGrades).2, grades_of_ground hend]; rfl
  · by_cases hu : (s.tank k).use = .active ∨ (s.tank k).use = .incoming
    · rw [if_pos hu]
      refine hv.closesWith ?_
      rw [if_pos (TankUse.filling_iff.mpr hu)]
      exact Ev.tripHolder_drain hcalm hl hf hsw .tankLost
    · rw [if_neg hu, hv.line, if_neg (mt TankUse.filling_iff.mp hu), Ev.drain_idle y rfl rfl]
      rfl

/-! ### The end of the silence (R142, R158) -/

theorem Ev.gradeOffering_writes (e : Ev) (g : GradeId) : ∃ d, e.gradeOffering g = { e with
    grades := e.grades.set g (if (e.grade g).agreement = .waiting then (e.grade g).cleared .offering else e.grade g),
    dirty := d } := by
  unfold Ev.gradeOffering
  split
  · obtain ⟨d, h, -⟩ := Ev.mark_writes (e.modGrade g (fun x => x.cleared .offering)) (.terms g)
    exact ⟨d, h⟩
  · refine ⟨e.dirty, ?_⟩
    have same : e.grades.set g (e.grade g) = e.grades := by cases g <;> rfl
    rw [same]

/-- The end of the silence: the link UP and every WAITING grade OFFERING (R142, R158). -/
theorem Ev.silenceEnds_writes (e : Ev) : ∃ gs d, e.silenceEnds = { e with
    link := { e.link with state := .up, silenceStart := none }, grades := gs, dirty := d } ∧ .link ∈ d ∧
    ∀ g, gs.get g = if (e.grade g).agreement = .waiting then (e.grade g).cleared .offering else e.grade g := by
  obtain ⟨d1, h1⟩ := Ev.gradeOffering_writes (e.modLink (fun x => { x with state := .up, silenceStart := none })) .g1
  obtain ⟨d2, h2⟩ := Ev.gradeOffering_writes
    ((e.modLink (fun x => { x with state := .up, silenceStart := none })).gradeOffering .g1) .g2
  obtain ⟨d3, h3, hmem⟩ := Ev.mark_writes
    (((e.modLink (fun x => { x with state := .up, silenceStart := none })).gradeOffering .g1).gradeOffering .g2) .link
  refine ⟨(e.grades.set .g1 (if (e.grade .g1).agreement = .waiting then (e.grade .g1).cleared .offering else e.grade .g1)).set
    .g2 (if (e.grade .g2).agreement = .waiting then (e.grade .g2).cleared .offering else e.grade .g2), d3, ?_, hmem,
    fun g => ?_⟩
  · rw [Ev.silenceEnds, h3, h2, h1]
    rfl
  · cases g <;> rfl

/-- Settles O43: WAIT changes the link alone, REFUSE takes the tank off its line, and the end of the silence writes the grades. -/
theorem waitRefuseAndTheEndOfSilence : Obligations.WaitRefuseAndTheEndOfSilence := by
  intro s t
  have hsilence : exec (.silenceExpiry t) s = event t s (fun e => if e.silenceOver then e.silenceEnds else e) := rfl
  refine ⟨fun k q hq hk ht => ⟨?_, refuse_completes hq hk ht⟩, fun t0 hst hstart hover => ?_, fun hst =>
    exec_nothing hsilence (if_neg fun h => ?_), fun t0 hstart hleft => exec_nothing hsilence (if_neg fun h => ?_)⟩
  · have hop := exec_tankFrame (f := fun p x => x.closePoll p (.reply .wait)) (c := .wait t k) rfl hq hk ht
    obtain ⟨slots, hpoll⟩ := Ev.closePoll_writes (begin t s).shipHunt q (.reply .wait)
    refine completes_of_effect _ hop hpoll rfl rfl rfl rfl fun v hv => ?_
    obtain ⟨h1, -, h3, -, -, -, h7, -, -, -, h11, h12, h13, -⟩ := hv
    exact ⟨by rw [h11], h3, h1, h12, h13, h7⟩
  · have hdue : (begin t s).silenceOver = true := by
      have h1 : (begin t s).link.state = .silent := hst
      have h2 : (begin t s).link.silenceStart = some t0 := hstart
      rw [State.silenceOver, h1, h2]
      exact decide_eq_true hover
    obtain ⟨gs, d, heff, hmem, hgs⟩ := Ev.silenceEnds_writes (begin t s)
    refine completes_of_drain { begin t s with
      link := { s.link with state := .up, silenceStart := none }, grades := gs, dirty := d } hsilence
      ((if_pos hdue).trans heff) rfl rfl fun v hv ha => ?_
    rw [Ev.drain_idle _ rfl rfl] at hv ha
    have hgrade (g : GradeId) := (hv.grade g).trans (hgs g)
    obtain ⟨h1, -, h3, -, -, -, -, -, -, -, h11, -, h13, -⟩ := hv
    refine ⟨h11, ha _ hmem, fun g hg => ?_, fun g hg => ?_, h1, h3, h13⟩
    · rw [hgrade]; exact if_neg hg
    · rw [hgrade]; exact if_pos hg
  · have h1 : (s.link.state == .silent) = true := ((Bool.and_eq_true _ _).mp h).1
    exact hst (by simpa using h1)
  · have h2 := ((Bool.and_eq_true _ _).mp h).2
    have h3 : (begin t s).link.silenceStart = some t0 := hstart
    rw [h3] at h2
    exact absurd (of_decide_eq_true h2) (Nat.not_le.mpr hleft)

end Sys2Proof.Machine
end

section
/-! What a grant leaves on each valve, and the shutdown: a cause raised anew leaves no line flowing, no permit and CLOSE work alone
to the end of its event. -/

namespace Sys2Proof.Machine
variable {e e' e'' x y z : Ev} {l m : LineId} {g : Ground} {s u v : State} {c : Instr} {t : Time} {op : Ev → Ev} {w : EsdCause}

/-! ### Grants, valve by valve -/

/-- The reports not yet handed on that are about a line. -/
def Ev.about (e : Ev) (l : LineId) : List Report := e.reports.filter (fun r => r.line = l)

/-- What a grant to some line leaves on the valve of line `l`: the valve as it stood, its request arrived at once, or its request
in a stroke of its own (R117 to R119). -/
inductive Ev.ValveGrant (e e' : Ev) (l : LineId) : Prop where
  | same (hv : e'.valve l = e.valve l) (hr : e'.about l = e.about l)
  | atOnce (r : StrokeReq) (hp : (e.valve l).pending = some r) (hat : e.atTarget l r = true)
      (hv : e'.valve l = { e.valve l with
        pending := none, commanded := r.target, lastOutcome := some (.arrivedAtOnce, e.now) })
      (hr : e'.about l = e.about l ++ [.arrived l r.cls r.target, .ended l r.cls])
  | started (r : StrokeReq) (suits : Bool) (hp : (e.valve l).pending = some r) (hat : e.atTarget l r = false)
      (hv : e'.valve l = { e.valve l with
        pending := none, commanded := r.target,
        stroke := some (newStroke r (if suits then .setup else .turnaround) e.now) })
      (hr : e'.about l = e.about l)

theorem State.atTarget_congr {y z : State} (hv : z.valve l = y.valve l) (hp : (z.line l).profile = (y.line l).profile)
    (r : StrokeReq) : z.atTarget l r = y.atTarget l r := by
  have hprof : z.profile l = y.profile l := by rw [State.profile, State.profile, hp]
  unfold State.atTarget
  rw [hv, hprof]

theorem Ev.grant_valveGrant (e : Ev) (m : LineId) (r : StrokeReq) (ch : ChanId) (hp : (e.valve m).pending = some r)
    (l : LineId) : e.ValveGrant (e.grant m r ch) l := by
  by_cases hl : l = m
  · subst hl
    cases hat : e.atTarget l r with
    | true =>
      refine .atOnce r hp hat ?_ ?_ <;> simp only [Ev.grant, hat, if_true]
      · simp only [State.valve, Ev.updatePump, Ev.modSupply_valves, Ev.report_valves, Ev.modValve_valves, Quad.get_set_same]
      · simp [Ev.about, Ev.updatePump, Ev.report, Ev.modSupply_reports, Report.line]
    | false =>
      refine .started r ((e.chan ch).suits r.cls.dir) hp hat ?_ ?_ <;>
        simp only [Ev.grant, hat, Bool.false_eq_true, if_false]
      · simp only [State.valve, Ev.modChan_valves, Ev.modValve_valves, Quad.get_set_same]
      · simp [Ev.about]
  · refine .same (Ev.grant_valve_ne e r ch hl) ?_
    unfold Ev.grant
    dsimp only
    split
    · simp [Ev.about, Ev.updatePump, Ev.report, Ev.modSupply_reports, Report.line, Ne.symm hl]
    · simp [Ev.about]

theorem Ev.ValveGrant.trans (h : e.ValveGrant e' l) (h' : e'.ValveGrant e'' l) (hnow : e'.now = e.now)
    (hprof : (e'.line l).profile = (e.line l).profile) : e.ValveGrant e'' l := by
  have once {P : Prop} {v : Valve} {r : StrokeReq} (hv : e'.valve l = v) (hn : v.pending = none)
      (hp : (e'.valve l).pending = some r) : P := by
    rw [hv, hn] at hp; cases hp
  cases h with
  | same hv hr =>
    cases h' with
    | same hv' hr' => exact .same (hv'.trans hv) (hr'.trans hr)
    | atOnce r hp hat hv' hr' =>
      exact .atOnce r (hv ▸ hp) ((State.atTarget_congr hv hprof r).symm.trans hat) (by rw [hv', hv, hnow]) (by rw [hr', hr])
    | started r ph hp hat hv' hr' =>
      exact .started r ph (hv ▸ hp) ((State.atTarget_congr hv hprof r).symm.trans hat) (by rw [hv', hv, hnow])
        (by rw [hr', hr])
  | atOnce r hp hat hv hr =>
    cases h' with
    | same hv' hr' => exact .atOnce r hp hat (hv'.trans hv) (hr'.trans hr)
    | atOnce _ hp' => exact once hv rfl hp'
    | started _ _ hp' => exact once hv rfl hp'
  | started r ph hp hat hv hr =>
    cases h' with
    | same hv' hr' => exact .started r ph hp hat (hv'.trans hv) (hr'.trans hr)
    | atOnce _ hp' => exact once hv rfl hp'
    | started _ _ hp' => exact once hv rfl hp'

theorem Ev.grantUpTo_valveGrant (n : Nat) (e : Ev) (l : LineId) : e.ValveGrant (e.grantUpTo n) l := by
  induction n generalizing e with
  | zero => exact .same rfl rfl
  | succ n ih =>
    unfold Ev.grantUpTo
    split
    · exact .same rfl rfl
    · next m r hg =>
      split
      · exact .same rfl rfl
      · next ch hch =>
        have hs := Ev.grant_strokesOnly e m r ch
        exact (Ev.grant_valveGrant e m r ch (State.nextGrant_pending hg) l).trans (ih _) hs.now (by rw [hs.line])

theorem Ev.considerGrants_valveGrant (e : Ev) (l : LineId) : e.ValveGrant e.considerGrants l := Ev.grantUpTo_valveGrant 4 e l

/-! ### CLOSE work alone, whatever the follow-ons -/

/-- A valve has CLOSE work alone, waiting or in progress. -/
def Valve.closeWork (v : Valve) : Prop :=
  (∀ r, v.pending = some r → r.cls = .close) ∧ ∀ k, v.stroke = some k → k.req.cls = .close

theorem Valve.dropped_closeWork (v : Valve) (now : Time) : (v.dropped now).closeWork :=
  ⟨fun _ hr => by simpa using (Option.filter_eq_some_iff.mp hr).2, fun _ hk => by
    simpa using (Option.filter_eq_some_iff.mp hk).2⟩

theorem Ev.ValveGrant.closeWork (h : e.ValveGrant e' l) (hw : (e.valve l).closeWork) : (e'.valve l).closeWork := by
  cases h with
  | same hv => rw [hv]; exact hw
  | atOnce r hp hat hv => rw [hv]; exact ⟨nofun, hw.2⟩
  | started r ph hp hat hv => rw [hv]; exact ⟨nofun, fun k hk => by cases hk; exact hw.1 r hp⟩

theorem Ev.cancelWork_closeWork (e : Ev) (m l : LineId) (hw : (e.valve l).closeWork) : ((e.cancelWork m).valve l).closeWork := by
  refine (Ev.considerGrants_valveGrant _ l).closeWork ?_
  by_cases hl : l = m
  · subst hl; rw [Ev.dropWork_valve]; exact Valve.dropped_closeWork _ _
  · rw [Ev.dropWork_valve_ne e hl]; exact hw

/-- What one line's turn brings about and no other line's turn undoes holds once every line has had its turn. -/
theorem Ev.eachLine_at {P Q : Ev → Prop} (f : LineId → Ev → Ev) (l : LineId) (h0 : P e)
    (hbefore : ∀ m y, m ≠ l → P y → P (f m y)) (hturn : ∀ y, P y → Q (f l y))
    (hafter : ∀ m y, m ≠ l → Q y → Q (f m y)) : Q (e.eachLine f) := by
  have ne {m n : LineId} (h : m ≠ n := by nofun) := h
  cases l with
  | a => exact hafter _ _ ne (hafter _ _ ne (hafter _ _ ne (hturn _ h0)))
  | b => exact hafter _ _ ne (hafter _ _ ne (hturn _ (hbefore _ _ ne h0)))
  | c => exact hafter _ _ ne (hturn _ (hbefore _ _ ne (hbefore _ _ ne h0)))
  | d => exact hturn _ (hbefore _ _ ne (hbefore _ _ ne (hbefore _ _ ne h0)))

theorem Ev.cancelAllWork_closeWork (e : Ev) (l : LineId) : (e.cancelAllWork.valve l).closeWork := by
  refine (Ev.considerGrants_valveGrant _ l).closeWork
    (Ev.eachLine_at (P := fun _ => True) (Q := fun y => (y.valve l).closeWork) (fun m y => y.dropWork m) l trivial
      (fun _ _ _ _ => trivial) (fun y _ => ?_) fun m y hm hy => ?_)
  · rw [Ev.dropWork_valve]; exact Valve.dropped_closeWork _ _
  · rw [Ev.dropWork_valve_ne y hm.symm]; exact hy

theorem Ev.closeEntry_closeWork (e : Ev) (m l : LineId) (reason : CloseReason) (hold : Option HoldReason)
    (cause : Option TripCause) (hw : (e.valve l).closeWork) : ((e.closeEntry m reason hold cause).valve l).closeWork := by
  rw [State.valve, Ev.closeEntry_valves]
  refine Ev.cancelWork_closeWork _ m l ?_
  rw [(Ev.closeBegun_recordsOnly e m reason hold cause).valve]
  exact hw

theorem Ev.esdToLine_closeWork (e : Ev) (m l : LineId) (hw : (e.valve l).closeWork) :
    ((e.esdToLine m).valve l).closeWork := by
  unfold Ev.esdToLine
  split
  · exact Ev.closeEntry_closeWork e m l _ _ _ hw
  · split
    · rw [(Ev.retripClosing_recordsOnly e m _ _).valve]; exact hw
    · exact hw

/-! ### The shutdown lasts to the end of its event -/

/-- The latch set, the permits sound, no line flowing and CLOSE work alone (R170, R174). -/
def State.isShut (s : State) : Prop := s.latch = true ∧ s.permitsSound ∧ ∀ l, s.flowing l = false ∧ (s.valve l).closeWork

theorem State.isShut.permit (h : s.isShut) (p : PumpId) : s.shut.permit p = false := by
  rw [h.2.1 p, h.1]; rfl

theorem CauseSet.latch_of_get {y : State} (h : (y.shut.causes.get w).isSome = true) : y.latch = true :=
  List.any_eq_true.mpr ⟨w, by cases w <;> decide, h⟩

theorem Ev.raiseCause_causes (e : Ev) (hx : e.shut.causes.get w = none) :
    (e.raiseCause w).shut.causes = e.shut.causes.add w e.now := by
  rw [Ev.raiseCause_new e w hx, Ev.mark_shut]
  have step (m : LineId) (y : Ev) (hy : y.shut.causes = e.shut.causes.add w e.now) :
      (y.esdToLine m).shut.causes = e.shut.causes.add w e.now := (Ev.esdToLine_causes y m).trans hy
  refine step _ _ (step _ _ (step _ _ (step _ _ ?_)))
  rw [(Ev.cancelAllWork_strokesOnly _).shut, Ev.causeAdded_causes]

theorem Ev.raiseCause_latch (e : Ev) (hx : e.shut.causes.get w = none) : (e.raiseCause w).latch = true := by
  refine CauseSet.latch_of_get (w := w) ?_
  rw [Ev.raiseCause_causes e hx, CauseSet.get_add, if_pos rfl]
  rfl

theorem Ev.raiseCause_isShut_at (e : Ev) (hx : e.shut.causes.get w = none) (l : LineId) :
    (e.raiseCause w).flowing l = false ∧ ((e.raiseCause w).valve l).closeWork := by
  rw [Ev.raiseCause_new e w hx]
  constructor
  · rw [State.flowing_congr (Ev.mark_lines _ _)]
    exact Ev.esdToLines_flowing _ l
  · rw [State.valve, Ev.mark_valves]
    have step (m : LineId) (y : Ev) (hy : (y.valve l).closeWork) : ((y.esdToLine m).valve l).closeWork :=
      Ev.esdToLine_closeWork y m l hy
    exact step _ _ (step _ _ (step _ _ (step _ _ (Ev.cancelAllWork_closeWork _ l))))

/-- A cause raised anew shuts the part down (R170). -/
theorem Ev.raiseCause_isShut (e : Ev) (hx : e.shut.causes.get w = none) : (e.raiseCause w).isShut := by
  refine ⟨Ev.raiseCause_latch e hx, ?_, Ev.raiseCause_isShut_at e hx⟩
  have hk := Ev.cancelAllWork_strokesOnly (e.causeAdded w)
  have step (m : LineId) (y : Ev) (hy : y.permitsSound) : (y.esdToLine m).permitsSound := Ev.esdToLine_sound y m hy
  rw [Ev.raiseCause_new e w hx]
  refine State.permitsSound_congr (fun l => State.flowing_congr (Ev.mark_lines _ _)) (fun l => by simp [State.line]) (by simp)
    (by simp) (step _ _ (step _ _ (step _ _ (step _ _ ?_))))
  exact State.permitsSound_congr hk.flowing (fun l => by rw [hk.line]) (fun p => by rw [hk.shut]) (by rw [hk.shut])
    (Ev.causeAdded_sound e w)

/-- A cause in the set stays there through every piece of work but the reset. -/
theorem Work.latch_kept (h : Work c s true e e') (hc : ∀ t tag, c ≠ .esdReset t tag) (hl : e.latch = true) :
    e'.latch = true := by
  have same (hcauses : e'.shut.causes = e.shut.causes) : e'.latch = true := (State.latch_of_causes hcauses).trans hl
  cases h with
  | tend hcore => exact same (congrArg (fun x : Core => x.shut.causes) hcore)
  | setState m st =>
    obtain ⟨sh, d, hw, hcauses⟩ := Ev.setState_writes e m st
    exact same (by rw [hw]; exact hcauses)
  | closeEntry m r hold cause => exact same (Ev.closeEntry_causes e m r hold cause)
  | raise x =>
    cases hx : e.shut.causes.get x with
    | some t => rw [Ev.raiseCause_old e x (by rw [hx]; rfl)]; exact hl
    | none => exact Ev.raiseCause_latch e hx
  | reset hreset => obtain ⟨t, tag, h⟩ := hreset; exact absurd h (hc t tag)
  | closing m f fine => cases fine
  | permit p fine => cases fine
  | cause x fine => cases fine
  | release m => exact same rfl
  | emptyQueue => exact same rfl
  | _ => exact same (by simp)

/-- With no line flowing, no valve is given OPEN or THROTTLE work again: what the command took its work from had no latch. -/
theorem ValveMove.closeWork {v v' : Valve} (h : ValveMove c s e l v v') (hs : s.latch = false) (hlatch : e.latch = true)
    (hflow : e.flowing l = false) (hv : v.closeWork) : v'.closeWork := by
  obtain ⟨hp, hst⟩ := hv
  cases h with
  | tended h =>
    refine ⟨fun r hr => hp r (h.pending ▸ hr), fun k hk => ?_⟩
    obtain ⟨k0, hk0, hreq⟩ := h.stroke_of hk
    exact hreq ▸ hst k0 hk0
  | input _ hpending hstroke => exact ⟨fun r hr => hp r (hpending ▸ hr), fun k hk => hst k (hstroke ▸ hk)⟩
  | released => exact ⟨hp, nofun⟩
  | unqueued => exact ⟨nofun, hst⟩
  | unfollowed => exact ⟨hp, hst⟩
  | enqueued r _ hr =>
    refine ⟨fun q hq => ?_, hst⟩
    cases hq
    rcases hr with ⟨-, hask⟩ | ⟨-, hc, -⟩
    · by_contra hne
      rw [hask hne] at hflow
      cases hflow
    · rw [State.latch_of_causes hc, hs] at hlatch
      cases hlatch
  | followed r k => exact ⟨hp, hst⟩
  | arrived r => exact ⟨nofun, hst⟩
  | granted r k hpending hk => exact ⟨nofun, fun q hq => by cases hq; rw [hk]; exact hp r hpending⟩
  | profiled old p =>
    obtain ⟨-, h1, h2, -⟩ := v.profiled_spec old p
    rw [Valve.closeWork, h1, h2]
    exact ⟨hp, hst⟩

theorem Work.keeps_shut (h : Work c s true e e') (hc : ∀ t tag, c ≠ .esdReset t tag) (hs : s.latch = false)
    (he : e.isShut) : e'.isShut := by
  obtain ⟨hlatch, hperm, hall⟩ := he
  refine ⟨h.latch_kept hc hlatch, h.keeps_permitsSound hperm, fun l => ?_⟩
  rcases h.moves_or_coarse with ⟨hm, -, hflow⟩ | ⟨m, r, hold, cause, rfl⟩ | ⟨x, rfl⟩
  · refine ⟨?_, (hm l).closeWork hs hlatch (hall l).1 (hall l).2⟩
    by_contra hy
    rcases hflow l (by simpa using hy) with hx | hx
    · rw [(hall l).1] at hx; cases hx
    · rw [hlatch] at hx; cases hx
  · refine ⟨?_, Ev.closeEntry_closeWork e m l r hold cause (hall l).2⟩
    rw [Ev.closeEntry_flowing]
    split
    · rfl
    · exact (hall l).1
  · cases hx : e.shut.causes.get x with
    | some t => rw [Ev.raiseCause_old e x (by rw [hx]; rfl)]; exact hall l
    | none => exact Ev.raiseCause_isShut_at e hx l

/-- The drain keeps the shutdown. -/
theorem Ev.drain_isShut (he : e.isShut) : e.drain.isShut :=
  (Ev.drain_works (c := .esdLoopOpen 0) (s := { e.toState with shut := { e.shut with causes := noCauses } })
    (Works.refl e)).keeps (fun _ _ hx hxy => hxy.keeps_shut (by nofun) rfl hx) he

end Sys2Proof.Machine
end

section
/-! What a raised cause leaves of each line; ESD_STOP and the ESD loop. -/

namespace Sys2Proof.Machine
variable {e e' x y z : Ev} {l m : LineId} {g : Ground} {s u v : State} {c : Instr} {t : Time} {op : Ev → Ev} {w : EsdCause}

theorem State.closesWith_of_line {y z : State} {reason : CloseReason} {hold : Option HoldReason} {cause : Option TripCause}
    (h : z.line l = y.line l) (hy : y.closesWith l reason hold cause) : z.closesWith l reason hold cause := by
  rw [State.closesWith, h]; exact hy

theorem State.flowing_of_line {y z : State} (h : z.line l = y.line l) : z.flowing l = y.flowing l := by
  rw [State.flowing, State.flowing, h]

/-- What each line's turn under the ESD makes of line `l`, its record before the raising `e`. -/
theorem Ev.raiseCause_at {Q : Ev → Prop} (hx : e.shut.causes.get w = none) (l : LineId)
    (hQ : ∀ y z : Ev, z.lane l = y.lane l → Q y → Q z)
    (hturn : ∀ y : Ev, y.lane l = e.lane l → Q (y.esdToLine l)) : Q (e.raiseCause w) := by
  rw [Ev.raiseCause_new e w hx]
  refine hQ _ _ (Ev.mark_lane _ _ _) (Ev.eachLine_at (P := fun y => y.lane l = e.lane l) (fun m y => y.esdToLine m) l ?_
    (fun m y hm hy => ?_) hturn fun m y hm hy => hQ y _ (Ev.esdToLine_lane y m hm.symm) hy)
  · rw [Ev.cancelAllWork_lane]; simp [Ev.causeAdded, Ev.evalPermit]; rfl
  · rw [Ev.esdToLine_lane y m hm.symm]; exact hy

/-- A line that flowed closes with reason ESD once a cause is raised anew (R170). -/
theorem Ev.raiseCause_closesWith (hx : e.shut.causes.get w = none) (hf : e.flowing l = true) :
    (e.raiseCause w).toState.closesWith l .esd none (some .esd) := by
  refine Ev.raiseCause_at (Q := fun y => y.toState.closesWith l .esd none (some .esd)) hx l
    (fun y z hz hy => State.closesWith_of_line (congrArg Prod.fst hz) hy) fun y hy => ?_
  rw [Ev.esdToLine, if_pos ((State.flowing_of_line (congrArg Prod.fst hy)).trans hf)]
  exact Ev.closeEntry_closesWith y l _ _ _

/-- A line that neither flowed nor closed is not told of the cause (R170). -/
theorem Ev.raiseCause_still (hx : e.shut.causes.get w = none) (hf : e.flowing l = false) (hc : e.closing l = false) :
    (e.raiseCause w).lane l = e.lane l := by
  refine Ev.raiseCause_at (Q := fun y => y.lane l = e.lane l) hx l (fun y z hz hy => hz.trans hy) fun y hy => ?_
  have hline : y.line l = e.line l := congrArg Prod.fst hy
  have hclosing : (e.line l).state ≠ .closing := by simpa [State.closing] using hc
  rw [Ev.esdToLine, if_neg (by rw [State.flowing_of_line hline, hf]; nofun), if_neg (by rw [hline]; exact fun h => hclosing h.1)]
  exact hy

/-! ### The shutdown to the end of its event -/

/-- What a cause raised anew in the blocks of `s` leaves at once (R170). -/
structure State.shuts (s y : State) : Prop where
  isShut : y.isShut
  closes : ∀ l, s.flowing l = true → y.closesWith l .esd none (some .esd)
  still : ∀ l, s.flowing l = false → s.closing l = false → y.line l = s.line l
  switch : ∀ l, (y.valve l).closedSwitch = (s.valve l).closedSwitch

theorem Ev.raiseCause_shuts (hx : e.shut.causes.get w = none) : e.toState.shuts (e.raiseCause w).toState where
  isShut := Ev.raiseCause_isShut e hx
  closes _ hf := Ev.raiseCause_closesWith hx hf
  still _ hf hc := congrArg Prod.fst (Ev.raiseCause_still hx hf hc)
  switch l := closedSwitch_of_ground (y := e.toState) (Ev.raiseCause_ground e w) l

theorem Ev.drain_shutDown (hc : e.calm g) (h : s.shuts e.toState) : s.shutDown e.drain.toState ∧
    ∀ l, s.flowing l = false → s.closing l = false → e.drain.line l = s.line l := by
  obtain ⟨hlatch, hperm, hall⟩ := Ev.drain_isShut h.isShut
  refine ⟨⟨hlatch, fun l => (hall l).1, (Ev.drain_isShut h.isShut).permit, fun l => (hall l).2.1, fun l => (hall l).2.2,
    fun l hf hsw => Ev.drain_closesWith hc ((h.switch l).trans hsw) (h.closes l hf)⟩, fun l hf hcl => ?_⟩
  have hline := h.still l hf hcl
  have hclosing : (s.line l).state ≠ .closing := by simpa [State.closing] using hcl
  have hstarting : (s.line l).state ≠ .starting := fun hs => by rw [State.flowing, hs] at hf; cases hf
  obtain ⟨hl, -⟩ := Ev.drain_still hc (l := l) (by rwa [hline]) (by rwa [hline])
  exact hl.trans hline

theorem State.sameBlocks.isShutDown {y : State} (hv : y.sameBlocks v) (h : s.shutDown y) : s.shutDown v := by
  obtain ⟨h1, h2, h3, h4, h5, h6⟩ := h
  have hflow (l : LineId) : v.flowing l = y.flowing l := State.flowing_of_line (hv.line l)
  refine ⟨(State.latch_of_causes (by rw [hv.shut])).trans h1, fun l => (hflow l).trans (h2 l), fun p => ?_, fun l r hr => ?_,
    fun l k hk => ?_, fun l hf hsw => hv.closesWith (h6 l hf hsw)⟩
  · rw [hv.shut]; exact h3 p
  · rw [hv.valve] at hr; exact h4 l r hr
  · rw [hv.valve] at hk; exact h5 l k hk

/-! ### Requests whose event ends in a drain -/

theorem Ev.calm.withPort (h : e.calm g) (x1 x2 : Buffer) (q : List BufId) (ro : List ReplySource) :
    (e.withPort x1 x2 q ro).calm (e.withPort x1 x2 q ro).ground := by
  refine ⟨rfl, fun r hr => ?_⟩
  have hcalm := h.2 r hr
  rw [← h.1] at hcalm
  exact hcalm

/-- An accepted request completes with the blocks that the drain of its effect leaves, its notices noted. -/
theorem answers_of_drain {tag : Byte} {r : Request} {b : BufId} {act : Ev → Taken} {res : Result} {Q : State → Prop}
    (h : s.takesIn tag r = some b) (hc : exec c s = event t s (fun e => e.serve tag r act))
    (ha : ∀ x1 x2 q, ∃ e : Ev, act (takeEv s t x1 x2 q) = e.answer res ∧ e.pending = s.pending ∧ e.now = t ∧
      e.restart = s.restart ∧ ∀ y1 y2 q' ro v, (e.withPort y1 y2 q' ro).drain.toState.sameBlocks v →
        (∀ k ∈ (e.withPort y1 y2 q' ro).drain.dirty, v.announced k) → Q v) :
    Answers s c t b tag res [] Q := by
  refine answers_of_serve h hc (fun x1 x2 w => ?_) (fun x1 x2 w y1 y2 v ro => ?_)
  · obtain ⟨e, he, hp, hn, hr, -⟩ := ha x1 x2 w
    rw [he]
    exact ⟨rfl, rfl, hp, hn, hr⟩
  · obtain ⟨e, he, -, -, -, hQ⟩ := ha x1 x2 w
    rw [he]
    exact hQ y1 y2 v ro _ (Ev.closing_sameBlocks _) fun k hk => finish_announced _ k hk

/-- A notice noted stays noted to the end of the event. -/
theorem Ev.drain_dirty (e : Ev) : e.dirty ⊆ e.drain.dirty :=
  (Ev.drain_works (c := .esdLoopOpen 0) (s := e.toState) (whole := false) (Works.refl e)).keeps (P := fun y => e.dirty ⊆ y.dirty)
    (fun _ _ hx hxy => List.Subset.trans hx (hxy.announces .a).1) (List.Subset.refl _)

theorem Ev.raiseCause_dirty (hx : e.shut.causes.get w = none) : .esd ∈ (e.raiseCause w).dirty := by
  rw [Ev.raiseCause_new e w hx]; exact Ev.mem_mark _ _

/-! ### ESD_STOP and the loop (R168, R172) -/

/-- Settles O33: the cause raised shuts the part down, and the drain keeps the shutdown; with the cause in the set nothing is done. -/
theorem esdStopShutsDown : Obligations.EsdStopShutsDown := by
  intro s t tag b hb
  have hop : exec (.esdStop t tag) s = event t s (fun e => e.serve tag .esdStop (fun x => x.esdStopRequest)) := rfl
  refine ⟨fun t0 h0 => (answers_unchanged hb hop fun x1 x2 q => ?_).imp fun _ hu => hu.1,
    fun h0 => answers_of_drain hb hop fun x1 x2 q => ?_⟩
  · rw [Ev.esdStopRequest, Ev.raiseCause_old _ .console (by change s.shut.causes.console.isSome = true; rw [h0]; rfl)]
    rfl
  · have hx : (takeEv s t x1 x2 q).shut.causes.get .console = none := h0
    have hg := Ev.raiseCause_ground (takeEv s t x1 x2 q) .console
    refine ⟨(takeEv s t x1 x2 q).raiseCause .console, rfl, pending_of_ground (y := (takeEv s t x1 x2 q).toState) hg,
      now_of_ground (y := (takeEv s t x1 x2 q).toState) hg, congrArg (fun g : Ground => g.port.restart) hg,
      fun y1 y2 q' ro v hv ha => ?_⟩
    have hcalm := (Ev.raiseCause_calm .console (Ev.calm_of _ (takeEv s t x1 x2 q) rfl rfl)).withPort y1 y2 q' ro
    have hshuts := Ev.raiseCause_shuts hx
    have hground := Ev.drain_ground (((takeEv s t x1 x2 q).raiseCause .console).withPort y1 y2 q' ro)
    obtain ⟨hdown, hstill⟩ := Ev.drain_shutDown (s := s) hcalm
      ⟨hshuts.isShut, hshuts.closes, hshuts.still, hshuts.switch⟩
    refine ⟨?_, hv.isShutDown hdown, ha _ (Ev.drain_dirty _ (Ev.raiseCause_dirty hx)), fun l hf hc => ?_, ?_, ?_⟩
    · rw [hv.shut, Ev.drain_causes hcalm]
      exact Ev.raiseCause_causes _ hx
    · rw [hv.line]; exact hstill l hf hc
    · rw [hv.linkGrades.1, link_of_ground hground]; exact congrArg Ground.link hg
    · rw [hv.linkGrades.2, grades_of_ground hground]; exact congrArg Ground.grades hg

/-- Settles O56: the loop's own events write the loop alone; an expiry that is due raises LOOP, which shuts the part down. -/
theorem theLoopIsDebounced : Obligations.TheLoopIsDebounced := by
  intro s t
  have hopen : exec (.esdLoopOpen t) s = event t s Ev.loopOpens := rfl
  have hclose : exec (.esdLoopClosed t) s = event t s Ev.loopCloses := rfl
  have hexp : exec (.loopDebounceExpiry t) s = event t s Ev.debounceExpires := rfl
  refine ⟨fun hl => ?_, fun hl => exec_nothing hopen ?_, exec_idle hclose rfl rfl, fun hleft => exec_nothing hexp ?_,
    fun t0 hl hover => ?_⟩
  · have heff : (begin t s).loopOpens = (begin t s).modShut (fun x => { x with loop := .debounce t }) := by
      have hl' : (begin t s).shut.loop = .closed := hl
      rw [Ev.loopOpens, hl']
      rfl
    rw [exec_idle hopen (by rw [heff]; rfl) (by rw [heff]; rfl), heff]
    rfl
  · have hl' : (begin t s).shut.loop ≠ .closed := hl
    unfold Ev.loopOpens
    split
    · contradiction
    · rfl
    · rfl
  · unfold Ev.debounceExpires
    split
    · rfl
    · next t0 h0 => exact if_neg (Nat.not_le.mpr (hleft t0 h0))
    · rfl
  have heff : (begin t s).debounceExpires = ((begin t s).modShut (fun x => { x with loop := .opened })).raiseCause .loop := by
    have hl' : (begin t s).shut.loop = .debounce t0 := hl
    rw [Ev.debounceExpires, hl']
    exact if_pos hover
  refine ⟨fun hx => ?_, fun t1 hx => ?_⟩
  · generalize he : (begin t s).modShut (fun x => { x with loop := .opened }) = e at heff
    have hloop : e.shut.loop = .opened := by rw [← he]; rfl
    have hcause : e.shut.causes.get .loop = none := by rw [← he]; exact hx
    have hcalm : (e.raiseCause .loop).calm e.ground :=
      Ev.raiseCause_calm .loop (Ev.calm_of _ e rfl (by rw [← he]; rfl))
    have hground := (Ev.drain_ground (e.raiseCause .loop)).trans hcalm.1
    have hshuts := Ev.raiseCause_shuts hcause
    obtain ⟨hdown, -⟩ := Ev.drain_shutDown (s := s) hcalm (by
      rw [← he] at hshuts ⊢
      exact ⟨hshuts.isShut, hshuts.closes, hshuts.still, hshuts.switch⟩)
    refine completes_of_drain _ hexp heff ((pending_of_ground (y := e.toState) hcalm.1).trans (by rw [← he]; rfl))
      ((now_of_ground (y := e.toState) hcalm.1).trans (by rw [← he]; rfl)) fun v hv ha => ?_
    refine ⟨?_, ?_, hv.isShutDown hdown, ha _ (Ev.drain_dirty _ (Ev.raiseCause_dirty hcause)), ?_, ?_⟩
    · rw [hv.shut]
      exact (congrArg Ground.loop hground).trans hloop
    · rw [hv.shut, Ev.drain_causes hcalm, Ev.raiseCause_causes e hcause, ← he]
      rfl
    · rw [hv.linkGrades.1, link_of_ground hground, ← he]; rfl
    · rw [hv.linkGrades.2, grades_of_ground hground, ← he]; rfl
  · have hold : (begin t s).debounceExpires = (begin t s).modShut (fun x => { x with loop := .opened }) := by
      rw [heff, Ev.raiseCause_old _ .loop (by change s.shut.causes.loop.isSome = true; rw [hx]; rfl)]
    rw [exec_idle hexp (by rw [hold]; rfl) (by rw [hold]; rfl), hold]
    rfl

end Sys2Proof.Machine
end

section
/-! FILL_ORDER (R39, R40): its tests in their order, and the accepted order written out. -/

namespace Sys2Proof.Machine
variable {e e' x y z : Ev} {l m : LineId} {g : Ground} {s u v : State} {c : Instr} {t : Time} {k : TankId} {ks : List TankId}

theorem fillOrder_servesLine (t : Time) (tag : Byte) (n : Nat) (o : OrderOperands) :
    ServesLine (.fillOrder t tag n o) t tag (.fillOrder n o) n (fun e l => e.fillOrderOf l o) := fun _ => rfl

/-! ### The tests (R39) -/

/-- The first position that names no tank is the one refused. -/
theorem badPosition_eq_some {ns : List Nat} {i j : Nat} (hi : i < ns.length)
    (hbefore : ∀ q, q < i → (tankOf (ns.getD q 0)).isSome = true) (hbad : tankOf (ns.getD i 0) = none) :
    badPosition j ns = some (i + j) := by
  induction ns generalizing i j with
  | nil => exact absurd hi (Nat.not_lt_zero i)
  | cons n ns ih =>
    cases i with
    | zero =>
      have hn : tankOf n = none := hbad
      simp [badPosition, hn]
    | succ i =>
      have hn : (tankOf n).isSome = true := hbefore 0 (Nat.succ_pos i)
      rw [badPosition, if_pos hn, ih (Nat.lt_of_succ_lt_succ hi) (fun q hq => hbefore (q + 1) (Nat.succ_lt_succ hq)) hbad]
      simp only [Option.some.injEq]
      omega

theorem badPosition_eq_none {ns : List Nat} {j : Nat} (h : ∀ x ∈ ns, (tankOf x).isSome = true) : badPosition j ns = none := by
  induction ns generalizing j with
  | nil => rfl
  | cons n ns ih =>
    rw [badPosition, if_pos (h n List.mem_cons_self)]
    exact ih fun x hx => h x (List.mem_cons_of_mem _ hx)

theorem orderNumbers_length (o : OrderOperands) (h : o.count ≤ 4) : (orderNumbers o).length = o.count := by
  simp [orderNumbers, h]

/-- The states in which a fill order is taken (R39). -/
def LineState.takesOrder (st : LineState) : Prop := st = .idle ∨ st = .held ∨ st = .complete

theorem Ev.fillOrderOf_wrongState {o : OrderOperands} (h : ¬ (e.line l).state.takesOrder) :
    e.fillOrderOf l o = e.answer .wrongState := by
  obtain ⟨h1, h2, h3⟩ : _ ∧ _ ∧ _ := by simpa [LineState.takesOrder] using h
  exact if_pos ⟨h1, h2, h3⟩

theorem Ev.fillOrderOf_admitted {o : OrderOperands} (h : (e.line l).state.takesOrder) : e.fillOrderOf l o =
    if inRange o.count (1, 4) = false then e.answer (.fieldRange 1)
    else match badPosition 2 (orderNumbers o) with
      | some i => e.answer (.fieldRange i)
      | none => match e.orderRefusal l ((orderNumbers o).filterMap tankOf) with
        | some r => e.answer (.refused r)
        | none => (e.acceptOrder l ((orderNumbers o).filterMap tankOf)).answer .ok := by
  refine if_neg fun hn => ?_
  rcases h with h | h | h
  · exact hn.1 h
  · exact hn.2.1 h
  · exact hn.2.2 h

/-- The tests of R39 on the tanks named, once they are numbers of tanks. -/
theorem State.orderRefusal_duplicate (h : ¬ ks.Nodup) : s.orderRefusal l ks = some .duplicateTank := by
  refine if_pos ?_
  by_contra hd
  exact h (hasDuplicate_eq_false_iff.mp (by simpa using hd))

theorem State.orderRefusal_of_nodup (h : ks.Nodup) : s.orderRefusal l ks =
    if !ks.all (fun k => (s.tank k).health == .live) then some .tankNotLive
    else if !ks.all (fun k => ((s.tank k).decl.map (fun d => d.grade)) == s.gradeOfLine l) then some .gradeMismatch
    else if ks.any (fun k => s.inOtherLine l k) then some .tankInUse
    else none := if_neg (by rw [hasDuplicate_eq_false_iff.mpr h]; nofun)

theorem State.inOtherLine_iff : s.inOtherLine l k = true ↔ ∃ m, m ≠ l ∧ (k ∈ s.list m ∨ k ∈ (s.line m).fedSet) := by
  simp [State.inOtherLine, mem_allLines]

/-! ### The accepted order (R40) -/

/-- The use of a tank after an order of tanks `ks` on a line whose list was `old` (R40). -/
def TankUse.ordered (u : TankUse) (k : TankId) (old ks : List TankId) : TankUse :=
  if k ∈ ks then .queued else if k ∈ old then if u = .done then .done else .free else u

/-- A tank that an order takes off a line's list is FREE, unless the order names it again or it is DONE (R40). -/
def Tank.leftBy (ks : List TankId) (k : TankId) (y : Tank) : Tank :=
  if ks.contains k ∨ y.use = .done then y else { y with use := .free }

theorem Tank.leftBy_leftBy (ks : List TankId) (k : TankId) (y : Tank) : (y.leftBy ks k).leftBy ks k = y.leftBy ks k := by
  by_cases h : ks.contains k ∨ y.use = .done
  · rw [Tank.leftBy, Tank.leftBy, if_pos h, if_pos h]
  · rw [Tank.leftBy, Tank.leftBy, if_neg h]
    split <;> rfl

theorem Tanks.set_get (ts : Tanks) (k : TankId) : ts.set k (ts.get k) = ts := by cases k <;> rfl

/-- An accepted order writes the line's list and account, the uses of the tanks, and a COMPLETE line is IDLE. -/
theorem Ev.acceptOrder_writes (e : Ev) (l : LineId) (hnd : ks.Nodup) : ∃ tk d sh fl, e.acceptOrder l ks = { e with
    tanks := tk, dirty := d, shut := sh, flows := fl, lists := e.lists.set l ks,
    lines := e.lines.set l { e.line l with
      delivered := 0, pendingVol := 0, fedSet := [],
      state := if (e.line l).state = .complete then .idle else (e.line l).state } } ∧ sh.causes = e.shut.causes ∧
    (∀ k, (tk.get k).use = (e.tank k).use.ordered k (e.list l) ks) ∧ ∀ k ∈ ks, (tk.get k).attributed = 0 := by
  have left (k : TankId) (x : Ev) : ∃ d, (if ks.contains k ∨ (x.tank k).use = .done then x else x.setUse k .free) =
      { x.modTank k (Tank.leftBy ks k) with dirty := d } := by
    by_cases h : ks.contains k ∨ (x.tank k).use = .done
    · have same : x.modTank k (Tank.leftBy ks k) = x := by
        rw [Ev.modTank, Tank.leftBy, if_pos (by exact h), Tanks.set_get]
      exact ⟨x.dirty, by rw [if_pos h, same]⟩
    · obtain ⟨d, hd⟩ := Ev.setUse_writes x k .free
      refine ⟨d, (if_neg h).trans (hd.trans ?_)⟩
      rw [Ev.modTank, Ev.modTank, Tank.leftBy, if_neg (by exact h)]
  have queued (k : TankId) (x : Ev) : ∃ d, (x.setUse k .queued).modTank k (fun y => { y with attributed := 0 }) =
      { x.modTank k (fun y => { y with use := .queued, attributed := 0 }) with dirty := d } := by
    obtain ⟨d, hd⟩ := Ev.setUse_writes x k .queued
    exact ⟨d, by rw [hd]; cases k <;> rfl⟩
  obtain ⟨tk1, d1, h1, ht1⟩ := Ev.eachTank_writes left (e.list l) (.inr fun k y => y.leftBy_leftBy ks k) e
  obtain ⟨tk2, d2, h2, ht2⟩ := Ev.zeroAccount_writes { e with tanks := tk1, dirty := d1 } l
  let zeroed : Ev := { e with
    tanks := tk2, dirty := d2, lists := e.lists.set l ks,
    lines := e.lines.set l { e.line l with delivered := 0, pendingVol := 0, fedSet := [] },
    flows := e.flows.set l { e.flow l with pulseTotal := 0, meterFactor := none } }
  obtain ⟨tk3, d3, h3, ht3⟩ := Ev.eachTank_writes queued ks (.inl hnd) zeroed
  have hwalk : e.acceptOrder l ks = if (e.line l).state = .complete then
      Ev.setState { zeroed with tanks := tk3, dirty := d3 } l .idle else { zeroed with tanks := tk3, dirty := d3 } := by
    rw [Ev.acceptOrder, h1, h2]
    rw [← h3]
    rfl
  have huse (k : TankId) : (tk3.get k).use = (e.tank k).use.ordered k (e.list l) ks := by
    have h2use : (tk2.get k).use = (tk1.get k).use := by
      rw [ht2]; split <;> rfl
    rw [ht3, TankUse.ordered]
    split
    · rfl
    · next hk =>
      rw [show zeroed.tanks.get k = tk2.get k from rfl, h2use, ht1]
      split
      · rw [Tank.leftBy]
        by_cases hd : (e.tank k).use = .done
        · rw [if_pos (by exact .inr hd), if_pos hd]; exact hd
        · rw [if_neg (fun h => h.elim (fun h => hk (by simpa using h)) hd), if_neg hd]
      · rfl
  have hattr (k : TankId) (hk : k ∈ ks) : (tk3.get k).attributed = 0 := by
    rw [ht3, if_pos hk]
  by_cases hcomplete : (e.line l).state = .complete
  · obtain ⟨sh, d, h4, hcauses⟩ := Ev.setState_writes { zeroed with tanks := tk3, dirty := d3 } l .idle
    refine ⟨tk3, d, sh, zeroed.flows, (hwalk.trans (if_pos hcomplete)).trans (h4.trans ?_), hcauses, huse, hattr⟩
    rw [if_pos hcomplete]
    simp only [zeroed, Quad.get_set_same, Quad.set_set]
  · refine ⟨tk3, d3, e.shut, zeroed.flows, (hwalk.trans (if_neg hcomplete)).trans ?_, rfl, huse, hattr⟩
    rw [if_neg hcomplete]

/-- Settles O29: each test refuses in its place, and an accepted order is written out. -/
theorem fillOrderReplacesTheList : Obligations.FillOrderReplacesTheList := by
  refine ⟨fun s t tag n b o hn hb =>
    ((fillOrder_servesLine t tag n o).answers_fieldRange hb hn).imp fun _ hu => hu.1, fun s t tag n l b o hn hb => ?_⟩
  have hop := (fillOrder_servesLine t tag n o).exec_of_lineOf hn s
  have answered {r : Result} (h : ∀ x1 x2 q, (takeEv s t x1 x2 q).fillOrderOf l o = (takeEv s t x1 x2 q).answer r) :
      Answers s (.fillOrder t tag n o) t b tag r [] s.sameBlocks := (answers_unchanged hb hop h).imp fun _ hu => hu.1
  have admitted (hst : (s.line l).state.takesOrder) (x1 x2 : Buffer) (q : List BufId) :=
    Ev.fillOrderOf_admitted (e := takeEv s t x1 x2 q) (o := o) hst
  refine ⟨fun h => answered fun _ _ _ => Ev.fillOrderOf_wrongState h, fun hst hcount => answered fun _ _ _ => ?_,
    fun hst h1 h4 => ?_⟩
  · refine (admitted hst _ _ _).trans (if_pos ?_)
    simpa [inRange] using hcount
  have hrange : ¬ inRange o.count (1, 4) = false := by simp [inRange, h1, h4]
  refine ⟨fun i hi hbefore hbad => answered fun _ _ _ => ?_, fun htanks => ?_⟩
  · rw [admitted hst, if_neg hrange, badPosition_eq_some ((orderNumbers_length o h4).symm ▸ hi) hbefore hbad]
  have tested (x1 x2 : Buffer) (q : List BufId) := (admitted hst x1 x2 q).trans
    ((if_neg hrange).trans (by rw [badPosition_eq_none htanks]))
  generalize hks : (orderNumbers o).filterMap tankOf = ks at tested ⊢
  have refused {r : Reason} (h : s.orderRefusal l ks = some r) :
      Answers s (.fillOrder t tag n o) t b tag (.refused r) [] s.sameBlocks :=
    answered fun x1 x2 q => (tested x1 x2 q).trans (by rw [show (takeEv s t x1 x2 q).orderRefusal l ks = some r from h])
  refine ⟨fun hdup => refused (State.orderRefusal_duplicate hdup), fun hnd hlive => refused ?_,
    fun hnd hlive hgrade => refused ?_, fun hnd hlive hgrade => ⟨fun huse => refused ?_, fun huse => ?_⟩⟩
  · rw [State.orderRefusal_of_nodup hnd, if_pos (by simpa using hlive)]
  · rw [State.orderRefusal_of_nodup hnd, if_neg (by simpa using hlive), if_pos (by simpa using hgrade)]
  · rw [State.orderRefusal_of_nodup hnd, if_neg (by simpa using hlive), if_neg (by simpa using hgrade), if_pos]
    simpa [State.inOtherLine_iff] using huse
  · have haccept : s.orderRefusal l ks = none := by
      rw [State.orderRefusal_of_nodup hnd, if_neg (by simpa using hlive), if_neg (by simpa using hgrade), if_neg]
      simp only [List.any_eq_true, State.inOtherLine_iff]
      rintro ⟨k, hk, m, hm, hin⟩
      exact hin.elim (huse k hk m hm).1 (huse k hk m hm).2
    refine answers_of_effect hb hop fun x1 x2 q => ?_
    obtain ⟨tk, d, sh, fl, heff, hcauses, huses, hattr⟩ := Ev.acceptOrder_writes (takeEv s t x1 x2 q) l hnd
    refine ⟨(takeEv s t x1 x2 q).acceptOrder l ks, (tested x1 x2 q).trans (by
      rw [show (takeEv s t x1 x2 q).orderRefusal l ks = none from haccept]), ?_, ?_, ?_, ?_, ?_, fun v hv _ => ?_⟩
    iterate 5 rw [heff]; rfl
    rw [heff] at hv
    have hline (m : LineId) := (hv.line m).trans (Quad.get_set _ _ _ _)
    have hlist (m : LineId) := (hv.list m).trans (Quad.get_set _ _ _ _)
    refine ⟨?_, fun m hm => ⟨?_, ?_⟩, ?_, ?_, ?_, fun k hk => ⟨?_, ?_⟩, fun k hk hnk => ?_, fun k hnk hnl => ?_,
      hv.2.2.2.2.2.2.1, hv.linkGrades.1, hv.linkGrades.2, ?_⟩
    · rw [hlist, if_pos rfl]
    · rw [hlist, if_neg hm]; rfl
    · rw [hline, if_neg hm]; rfl
    · rw [hline, if_pos rfl]; rfl
    · rw [hline, if_pos rfl]
    · rw [hline, if_pos rfl]
    · rw [hv.tank]; exact (huses k).trans (if_pos hk)
    · rw [hv.tank]; exact hattr k hk
    · rw [hv.tank]; exact (huses k).trans ((if_neg hnk).trans (if_pos hk))
    · rw [hv.tank]; exact (huses k).trans ((if_neg hnk).trans (if_neg hnl))
    · rw [hv.shut]; exact hcauses

end Sys2Proof.Machine
end

section
/-! LINE_PROFILE (R1 to R3): its tests in their order, and what an accepted profile leaves of its line and valve. -/

namespace Sys2Proof.Machine
variable {e e' x y z : Ev} {l m : LineId} {g : Ground} {s u v : State} {c : Instr} {t : Time} {p : LineProfile}

theorem lineProfile_servesLine (t : Time) (tag : Byte) (n : Nat) (p : LineProfile) :
    ServesLine (.lineProfile t tag n p) t tag (.lineProfile n p) n (fun e l => e.lineProfileOf l p) := fun _ => rfl

/-! ### The tests (R1) -/

/-- The states in which a profile is taken (R1). -/
def LineState.takesProfile (st : LineState) : Prop := st = .undeclared ∨ st = .idle ∨ st = .complete ∨ st = .tripped

theorem gradeOf_isSome {n : Nat} (h : 1 ≤ n ∧ n ≤ 2) : ∃ g, gradeOf n = some g := by
  obtain rfl | rfl : n = 1 ∨ n = 2 := by omega
  · exact ⟨_, rfl⟩
  · exact ⟨_, rfl⟩

theorem pumpOf_isSome {n : Nat} (h : 1 ≤ n ∧ n ≤ 2) : ∃ u, pumpOf n = some u := by
  obtain rfl | rfl : n = 1 ∨ n = 2 := by omega
  · exact ⟨_, rfl⟩
  · exact ⟨_, rfl⟩

/-- A profile without an error names a grade and a pump. -/
theorem named_of_profileError (hp : profileError p = none) : ∃ g u, gradeOf p.grade = some g ∧ pumpOf p.pump = some u := by
  obtain ⟨g, hg⟩ := gradeOf_isSome (inRange_of_profileError hp (r := (1, 2)) (v := p.grade) (by
    simp [profileRanges, profileFields]))
  obtain ⟨u, hu⟩ := pumpOf_isSome (inRange_of_profileError hp (r := (1, 2)) (v := p.pump) (by
    simp [profileRanges, profileFields]))
  exact ⟨g, u, hg, hu⟩

theorem Ev.lineProfileOf_wrongState (h : ¬ (e.line l).state.takesProfile) : e.lineProfileOf l p = e.answer .wrongState := by
  obtain ⟨h1, h2, h3, h4⟩ : _ ∧ _ ∧ _ ∧ _ := by simpa [LineState.takesProfile] using h
  exact if_pos ⟨h1, h2, h3, h4⟩

theorem Ev.lineProfileOf_admitted (h : (e.line l).state.takesProfile) : e.lineProfileOf l p = match profileError p with
    | some i => e.answer (.fieldRange i)
    | none =>
      match gradeOf p.grade, pumpOf p.pump with
      | some g, some u =>
        if (e.grade g).agreement = .undeclared then e.answer (.refused .undeclaredGrade)
        else if e.listGradeDiffers l g || e.pumpTaken l g u then e.answer (.refused .gradeMismatch)
        else (e.acceptProfile l (clampProfile p)).answer (if clampProfile p = p then .ok else .okAdjusted)
      | _, _ => e.answer (.fieldRange 1) := by
  refine if_neg fun ⟨h1, h2, h3, h4⟩ => ?_
  rcases h with h | h | h | h
  · exact h1 h
  · exact h2 h
  · exact h3 h
  · exact h4 h

theorem State.listGradeDiffers_iff {g : GradeId} :
    s.listGradeDiffers l g = true ↔ ∃ k d, k ∈ s.list l ∧ (s.tank k).decl = some d ∧ d.grade ≠ g := by
  unfold State.listGradeDiffers
  rw [List.any_eq_true]
  refine exists_congr fun k => ⟨fun ⟨hk, hd⟩ => ?_, fun ⟨d, hk, hd, hne⟩ => ⟨hk, ?_⟩⟩
  · split at hd
    · next d h => exact ⟨d, hk, h, by simpa using hd⟩
    · cases hd
  · rw [hd]; simpa using hne

theorem State.pumpTaken_iff {g : GradeId} {u : PumpId} :
    s.pumpTaken l g u = true ↔ ∃ m, m ≠ l ∧ s.pumpOfLine m = some u ∧ s.gradeOfLine m ≠ some g := by
  simp [State.pumpTaken, mem_allLines, and_assoc]

/-! ### The targets of a valve without work (R112) -/

/-- The valve's commanded target and its waiting request aim within `top`. -/
def Valve.aimsWithin (v : Valve) (top : Nat) : Prop := v.commanded ≤ top ∧ ∀ r, v.pending = some r → r.target ≤ top

theorem ValveMove.aimsWithin {v v' : Valve} (h : ValveMove c s e l v v') (hs : s.targetsBounded)
    (hc : ∀ t tag n p, c ≠ .lineProfile t tag n p) (hv : v.aimsWithin (e.profile l).bulkPos) :
    v'.aimsWithin (e.profile l).bulkPos := by
  obtain ⟨hcom, hpend⟩ := hv
  cases h with
  | tended h => exact ⟨h.commanded ▸ hcom, fun r hr => hpend r (h.pending ▸ hr)⟩
  | input hcommanded hpending => exact ⟨hcommanded ▸ hcom, fun r hr => hpend r (hpending ▸ hr)⟩
  | enqueued r _ hr =>
    refine ⟨hcom, fun q hq => ?_⟩
    cases hq
    rcases hr with hr | ⟨hr, -, hp⟩
    · exact hr.1
    · rw [hp]; exact hr.target_le hs
  | released | unfollowed | followed => exact ⟨hcom, hpend⟩
  | unqueued => exact ⟨hcom, nofun⟩
  | arrived r hpending => exact ⟨hpend r hpending, nofun⟩
  | granted r k hpending => exact ⟨hpend r hpending, nofun⟩
  | profiled old p hl =>
    obtain ⟨t, tag, n, q, hl⟩ := hl
    exact absurd hl (hc t tag n q)

/-- The line's profile and the aims of its valve within it. -/
def State.aims (s : State) (l : LineId) (p : LineProfile) : Prop := s.profile l = p ∧ (s.valve l).aimsWithin p.bulkPos

theorem Works.keeps_aims (h : Works c s false e e') (hc : ∀ t tag n p, c ≠ .lineProfile t tag n p) (hs : s.targetsBounded)
    (he : e.aims l p) : e'.aims l p := by
  refine h.keeps (P := fun y => y.aims l p) (fun x y hx hxy => ?_) he
  obtain ⟨hp, ha⟩ := hx
  have hprof : y.profile l = x.profile l := by
    rcases hxy.profile_cases l with hp | ⟨t, tag, n, p, hl, -⟩
    · rw [State.profile, State.profile, hp]
    · exact absurd hl (hc t tag n p)
  refine ⟨hprof.trans hp, ?_⟩
  rw [← hp] at ha ⊢
  exact (hxy.valveMove l).aimsWithin hs hc ha

/-- A state whose valves have no work. -/
def State.workless (s : State) : State := { s with valves := .all (Valve.init false false) }

theorem State.workless_targetsBounded (s : State) : s.workless.targetsBounded := by
  intro l
  have hv : s.workless.valve l = Valve.init false false := by cases l <;> rfl
  rw [hv]
  exact ⟨Nat.zero_le _, nofun, nofun, nofun⟩

theorem Ev.closeEntry_aims (he : e.aims l p) (m : LineId) (reason : CloseReason) (hold : Option HoldReason)
    (cause : Option TripCause) : (e.closeEntry m reason hold cause).aims l p :=
  (Ev.closeEntry_works (c := .esdLoopOpen 0) (s := e.workless) m reason hold cause (Works.refl e)).keeps_aims (by nofun)
    (State.workless_targetsBounded _) he

theorem Ev.drain_aims (he : e.aims l p) : e.drain.aims l p :=
  (Ev.drain_works (c := .esdLoopOpen 0) (s := e.workless) (Works.refl e)).keeps_aims (by nofun)
    (State.workless_targetsBounded _) he

/-! ### The accepted profile (R2, R3) -/

/-- The learned rate after a profile: the nominal rate where it differs from the old one or there was none (R3, R111). -/
theorem Valve.profiled_learnedRate (w : Valve) (old : Option LineProfile) (p : LineProfile) :
    (w.profiled old p).learnedRate =
      if old.map (fun q => q.nominalRate) = some p.nominalRate then w.learnedRate else some p.nominalRate := by
  have known (y : Valve) : (match y.sample with
      | some i => if p.feedbackPresent = 1 ∧ y.feedbackFault = false then { y with position := i, source := .transmitter } else y
      | none => y).learnedRate = y.learnedRate := by
    split
    · split <;> rfl
    · rfl
  refine (known _).trans ?_
  cases old with
  | none => rfl
  | some q => by_cases hq : q.nominalRate = p.nominalRate <;> simp [hq]

/-- The accepted profile on the records, before the line's state is seen to. -/
theorem Ev.profileStored_writes (e : Ev) (l : LineId) (p : LineProfile) : ∃ tk d ln fl,
    (let e1 := (e.modValve l (fun w => w.profiled (e.line l).profile p)).modLine l (fun x => { x with profile := some p })
     if (e.line l).state = .complete then e1.zeroAccount l else e1) = { e with
      tanks := tk, dirty := d, flows := fl, lines := e.lines.set l ln,
      valves := e.valves.set l ((e.valve l).profiled (e.line l).profile p) } ∧
    ln.profile = some p ∧ ln.state = (e.line l).state ∧
    ((e.line l).state = .complete → ln.delivered = 0 ∧ ln.fedSet = []) := by
  by_cases hc : (e.line l).state = .complete
  · obtain ⟨tk, d, h, -⟩ := Ev.zeroAccount_writes ((e.modValve l (fun w => w.profiled (e.line l).profile p)).modLine l
      (fun x => { x with profile := some p })) l
    refine ⟨tk, d, { e.line l with profile := some p, delivered := 0, pendingVol := 0, fedSet := [] },
      e.flows.set l { e.flow l with pulseTotal := 0, meterFactor := none }, ?_, rfl, rfl, fun _ => ⟨rfl, rfl⟩⟩
    dsimp only
    rw [if_pos hc, h]
    simp only [Ev.modLine_lines, Ev.modValve_lines, Quad.get_set_same, Quad.set_set]
    rfl
  · exact ⟨e.tanks, e.dirty, { e.line l with profile := some p }, e.flows, if_neg hc, rfl, rfl, fun h => absurd h hc⟩

/-- What an accepted profile leaves at once: `y` before the line's state is seen to, `z` after it. -/
structure Ev.Profiled (e z : Ev) (l : LineId) (p : LineProfile) : Prop where
  calm : z.calm z.ground
  profile : ∀ m, (z.line m).profile = if m = l then some p else (e.line m).profile
  rate : (z.valve l).learnedRate =
    if (e.line l).profile.map (fun q => q.nominalRate) = some p.nominalRate then (e.valve l).learnedRate else some p.nominalRate
  switch : (z.valve l).closedSwitch = (e.valve l).closedSwitch
  port : z.ground.port = e.ground.port
  linkGrades : z.link = e.link ∧ z.grades = e.grades
  causes : z.shut.causes = e.shut.causes
  aims : (e.valve l).pending = none → z.aims l p
  stays : (e.valve l).closedSwitch = true → z.reports = [] ∧ z.undecided = [] ∧
    (z.line l).state = (if (e.line l).state = .undeclared ∨ (e.line l).state = .complete then .idle else (e.line l).state) ∧
    ((e.line l).state = .complete → (z.line l).delivered = 0 ∧ (z.line l).fedSet = [])
  closes : (e.valve l).closedSwitch = false → z.toState.closesWith l .trip none (some .foundOpen)

theorem Ev.acceptProfile_profiled (e : Ev) (l : LineId) (p : LineProfile) (hr : e.reports = []) (hu : e.undecided = []) :
    e.Profiled (e.acceptProfile l p) l p := by
  obtain ⟨tk, d, ln, fl, hstored, hprof, hstate, hzero⟩ := Ev.profileStored_writes e l p
  generalize hy : ({ e with
      tanks := tk, dirty := d, flows := fl, lines := e.lines.set l ln,
      valves := e.valves.set l ((e.valve l).profiled (e.line l).profile p) } : Ev) = y at hstored
  have hline : y.line l = ln := by rw [← hy]; exact Quad.get_set_same _ _ _
  have hvalve : y.valve l = (e.valve l).profiled (e.line l).profile p := by rw [← hy]; exact Quad.get_set_same _ _ _
  obtain ⟨-, hpend, -, -, -, hsw, -, hcom⟩ := (e.valve l).profiled_spec (e.line l).profile p
  have haims (h : (e.valve l).pending = none) : y.aims l p := by
    refine ⟨by rw [State.profile, hline, hprof]; rfl, ?_⟩
    rw [hvalve, Valve.aimsWithin, hcom, hpend, h]
    exact ⟨Nat.min_le_right _ _, nofun⟩
  have hcalm : y.calm y.ground := Ev.calm_of _ y rfl (by rw [← hy]; exact hr)
  have built (z : Ev) (hz : z.ground = y.ground) (hzc : z.calm y.ground) (hcauses : z.shut.causes = y.shut.causes)
      (hza : y.aims l p → z.aims l p)
      (stays : (e.valve l).closedSwitch = true → z.reports = [] ∧ z.undecided = [] ∧
        (z.line l).state = (if (e.line l).state = .undeclared ∨ (e.line l).state = .complete then .idle
          else (e.line l).state) ∧
        ((e.line l).state = .complete → (z.line l).delivered = 0 ∧ (z.line l).fedSet = []))
      (closes : (e.valve l).closedSwitch = false → z.toState.closesWith l .trip none (some .foundOpen)) :
      e.Profiled z l p := by
    refine ⟨hz ▸ hzc, fun m => ?_, ?_, ?_, ?_, ⟨?_, ?_⟩, ?_, fun h => hza (haims h), stays, closes⟩
    · rw [profile_of_ground hz, ← hy]
      refine (congrArg LineRec.profile (Quad.get_set _ _ _ _)).trans ?_
      split
      · exact hprof
      · rfl
    · rw [show (z.valve l).learnedRate = (y.valve l).learnedRate from congrArg ValveInputs.learnedRate (inputs_of_ground hz l),
        hvalve, Valve.profiled_learnedRate]
    · rw [closedSwitch_of_ground hz, hvalve, hsw]
    · rw [hz, ← hy]; rfl
    · rw [link_of_ground hz, ← hy]
    · rw [grades_of_ground hz, ← hy]
    · rw [hcauses, ← hy]
  have haccept : e.acceptProfile l p = if (e.valve l).closedSwitch then
      (if (e.line l).state = .undeclared ∨ (e.line l).state = .complete then y.setState l .idle else y)
      else y.closeEntry l .trip none (some .foundOpen) := by
    rw [← hstored]; rfl
  rw [haccept]
  by_cases hclosed : (e.valve l).closedSwitch = true
  · have hopen {P : Prop} (h : (e.valve l).closedSwitch = false) : P := by rw [hclosed] at h; cases h
    rw [if_pos hclosed]
    split
    · next hidle =>
      obtain ⟨sh, d', heff, hcauses⟩ := Ev.setState_writes y l .idle
      refine built _ (Ev.setState_ground y l .idle) (Ev.setState_calm l .idle hcalm) (by rw [heff]; exact hcauses)
        (fun ha => ?_) (fun _ => ⟨?_, ?_, ?_, fun hc => ?_⟩) hopen
      · rw [heff, State.aims, State.profile, State.line, Quad.get_set_same]
        exact ha
      · rw [heff, ← hy]; exact hr
      · rw [heff, ← hy]; exact hu
      · rw [Ev.setState_line, if_pos hidle]
      · rw [Ev.setState_line, hline]; exact hzero hc
    · next hidle =>
      refine built y rfl hcalm rfl id (fun _ => ⟨by rw [← hy]; exact hr, by rw [← hy]; exact hu, ?_, fun hc => ?_⟩) hopen
      · rw [hline, hstate, if_neg hidle]
      · exact absurd (.inr hc) hidle
  · rw [if_neg hclosed]
    exact built _ (Ev.closeEntry_ground y l _ _ _) (Ev.closeEntry_calm l _ _ _ hcalm) (Ev.closeEntry_causes y l _ _ _)
      (fun ha => Ev.closeEntry_aims ha l _ _ _) (fun h => absurd h hclosed) fun _ => Ev.closeEntry_closesWith y l _ _ _

/-- Settles O28: each test refuses in its place; an accepted profile is stored, and a line off its closed limit switch closes. -/
theorem lineProfileIsTestedAndStored : Obligations.LineProfileIsTestedAndStored := by
  refine ⟨fun s t tag n b p hn hb =>
    ((lineProfile_servesLine t tag n p).answers_fieldRange hb hn).imp fun _ hu => hu.1, fun s t tag n l b p hn hb => ?_⟩
  have hop := (lineProfile_servesLine t tag n p).exec_of_lineOf hn s
  have answered {r : Result} (h : ∀ x1 x2 q, (takeEv s t x1 x2 q).lineProfileOf l p = (takeEv s t x1 x2 q).answer r) :
      Answers s (.lineProfile t tag n p) t b tag r [] s.sameBlocks := (answers_unchanged hb hop h).imp fun _ hu => hu.1
  have admitted (hst : (s.line l).state.takesProfile) (x1 x2 : Buffer) (q : List BufId) :=
    Ev.lineProfileOf_admitted (e := takeEv s t x1 x2 q) (p := p) hst
  refine ⟨fun h => answered fun _ _ _ => Ev.lineProfileOf_wrongState h, fun hst i hi => answered fun x1 x2 q => ?_,
    fun hst hp => ?_⟩
  · rw [admitted hst, hi]
  obtain ⟨g, u, hg, hu⟩ := named_of_profileError hp
  have tested (x1 x2 : Buffer) (q : List BufId) := (admitted hst x1 x2 q).trans (by rw [hp, hg, hu])
  refine ⟨g, u, hg, hu, fun hund => answered fun x1 x2 q => (tested x1 x2 q).trans (if_pos hund), fun hund =>
    ⟨fun hbad => answered fun x1 x2 q => (tested x1 x2 q).trans ((if_neg hund).trans (if_pos ?_)), fun hlist hpump => ?_⟩⟩
  · rw [Bool.or_eq_true]
    exact hbad.imp State.listGradeDiffers_iff.mpr State.pumpTaken_iff.mpr
  have hgood : ¬ (s.listGradeDiffers l g || s.pumpTaken l g u) = true := by
    rw [Bool.or_eq_true, State.listGradeDiffers_iff, State.pumpTaken_iff]
    rintro (⟨k, d, hk, hd, hne⟩ | ⟨m, hm, hu, hne⟩)
    · exact hne (hlist k d hk hd)
    · exact hne (hpump m hm hu)
  refine answers_of_drain hb hop fun x1 x2 q => ?_
  have hz := Ev.acceptProfile_profiled (takeEv s t x1 x2 q) l (clampProfile p) rfl rfl
  generalize hact : (takeEv s t x1 x2 q).acceptProfile l (clampProfile p) = z at hz
  refine ⟨z, (tested x1 x2 q).trans ((if_neg hund).trans ((if_neg hgood).trans (by rw [hact]))),
    congrArg PortView.pending hz.port, congrArg PortView.now hz.port, congrArg PortView.restart hz.port,
    fun y1 y2 q' ro v hv _ => ?_⟩
  have hcalm := hz.calm.withPort y1 y2 q' ro
  have hground := Ev.drain_ground (z.withPort y1 y2 q' ro)
  have hrate : (v.valve l).learnedRate = (z.valve l).learnedRate := by
    rw [hv.valve]; exact congrArg ValveInputs.learnedRate (inputs_of_ground hground l)
  have hprofile (m : LineId) : (v.line m).profile = if m = l then some (clampProfile p) else (s.line m).profile := by
    rw [hv.line, profile_of_ground hground]; exact hz.profile m
  refine ⟨by rw [hprofile, if_pos rfl], fun hne => ?_, fun heq => ?_, fun hpend => ?_, fun hclosed => ?_, fun hclosed hc => ?_,
    fun hopen => ?_, fun m hm => by rw [hprofile, if_neg hm], ?_, ?_, ?_⟩
  · rw [hrate, hz.rate]; exact if_neg hne
  · rw [hrate, hz.rate]; exact if_pos heq
  · rw [hv.valve]
    exact (Ev.drain_aims (e := z.withPort y1 y2 q' ro) (hz.aims hpend)).2.1
  · obtain ⟨hrep, hund, hstate, -⟩ := hz.stays hclosed
    rw [hv.line, Ev.drain_idle (z.withPort y1 y2 q' ro) hrep hund]
    refine hstate.trans ?_
    change (if (s.line l).state = .undeclared ∨ (s.line l).state = .complete then .idle else (s.line l).state) =
      if (s.line l).state = .tripped then .tripped else LineState.idle
    rcases hst with h | h | h | h <;> rw [h] <;> rfl
  · obtain ⟨hrep, hund, -, hzero⟩ := hz.stays hclosed
    rw [hv.line, Ev.drain_idle (z.withPort y1 y2 q' ro) hrep hund]
    exact hzero hc
  · exact hv.closesWith (Ev.drain_closesWith hcalm (hz.switch.trans hopen) (hz.closes hopen))
  · rw [hv.linkGrades.1, link_of_ground hground]; exact hz.linkGrades.1
  · rw [hv.linkGrades.2, grades_of_ground hground]; exact hz.linkGrades.2
  · rw [hv.shut, Ev.drain_causes hcalm]; exact hz.causes

end Sys2Proof.Machine
end

section
/-! What the reports of one line do to the valves and reports of another: grants apart, nothing. -/

namespace Sys2Proof.Machine
variable {e e' e'' x y z : Ev} {l m : LineId} {g : Ground} {s u v : State} {c : Instr} {t : Time}

/-! ### Work on the books alone -/

/-- `e'` has the valves, channels, supply, reports and undecided closes of `e`, and its time. -/
structure Ev.BooksOnly (e e' : Ev) : Prop where
  valves : e'.valves = e.valves
  chan1 : e'.chan1 = e.chan1
  chan2 : e'.chan2 = e.chan2
  supply : e'.supply = e.supply
  reports : e'.reports = e.reports
  undecided : e'.undecided = e.undecided
  now : e'.now = e.now

theorem Ev.BooksOnly.refl (e : Ev) : e.BooksOnly e := ⟨rfl, rfl, rfl, rfl, rfl, rfl, rfl⟩

theorem Ev.BooksOnly.trans (h : e.BooksOnly e') (h' : e'.BooksOnly e'') : e.BooksOnly e'' :=
  ⟨h'.valves.trans h.valves, h'.chan1.trans h.chan1, h'.chan2.trans h.chan2, h'.supply.trans h.supply,
    h'.reports.trans h.reports, h'.undecided.trans h.undecided, h'.now.trans h.now⟩

theorem Ev.BooksOnly.valve (h : e.BooksOnly e') (l : LineId) : e'.valve l = e.valve l := by
  rw [State.valve, State.valve, h.valves]

theorem Ev.RecordsOnly.books (h : e.RecordsOnly e') : e.BooksOnly e' :=
  ⟨h.valves, h.chans.1, h.chans.2, h.supply, h.reports, h.undecided, h.now⟩

theorem Ev.setState_booksOnly (e : Ev) (l : LineId) (st : LineState) : e.BooksOnly (e.setState l st) := by
  obtain ⟨sh, d, h, -⟩ := Ev.setState_writes e l st
  rw [h]; exact ⟨rfl, rfl, rfl, rfl, rfl, rfl, rfl⟩

theorem Ev.settleComplete_booksOnly (e : Ev) (l : LineId) : e.BooksOnly (e.settleComplete l) := by
  obtain ⟨tk, d, h, -⟩ := Ev.settleComplete_writes e l
  rw [h]; exact ⟨rfl, rfl, rfl, rfl, rfl, rfl, rfl⟩

theorem Ev.useActive_booksOnly (e y : Ev) (l : LineId) (u : TankUse) : y.BooksOnly (e.useActive y l u) := by
  unfold Ev.useActive
  split
  · exact (Ev.setUse_recordsOnly y _ u).books
  · exact .refl y

theorem Ev.closeEnd_booksOnly (e : Ev) (l : LineId) : e.BooksOnly (e.closeEnd l) := by
  have hdrop := (Ev.dropClose_recordsOnly e l).books
  rw [Ev.closeEnd_eq]
  split
  · exact ((hdrop.trans (Ev.settleComplete_booksOnly _ l)).trans (Ev.modLine_recordsOnly _ l _).books).trans
      (Ev.setState_booksOnly _ l _)
  · exact (hdrop.trans (Ev.useActive_booksOnly e _ l _)).trans (Ev.setState_booksOnly _ l _)
  · exact (hdrop.trans (Ev.useActive_booksOnly e _ l _)).trans (Ev.setState_booksOnly _ l _)
  · exact (hdrop.trans (Ev.modLine_recordsOnly _ l _).books).trans (Ev.setState_booksOnly _ l _)
  · exact (hdrop.trans (Ev.modLine_recordsOnly _ l _).books).trans (Ev.setState_booksOnly _ l _)
  · exact hdrop

theorem Ev.enterProving_booksOnly (e : Ev) (l : LineId) : e.BooksOnly (e.enterProving l) :=
  (((Ev.modLine_recordsOnly e l _).trans (Ev.modFlow_recordsOnly _ l _)).books).trans (Ev.setState_booksOnly _ l _)

theorem Ev.settleArrival_booksOnly (e : Ev) (l : LineId) (target : Nat) : e.BooksOnly (e.settleArrival l target) := by
  unfold Ev.settleArrival
  split
  · exact (Ev.modPred_recordsOnly e l _).books
  · exact .refl e

/-! ### Work that asks for one stroke -/

/-- The books change, and then at most one stroke is requested for line `l`. -/
inductive Ev.Asks (e : Ev) (l : LineId) : Ev → Prop where
  | none {e' : Ev} (h : e.BooksOnly e') : e.Asks l e'
  | stroke {y : Ev} (h : e.BooksOnly y) (cls : StrokeClass) (target : Nat) (retry : Bool) :
      e.Asks l (y.requestStroke l cls target retry)

theorem Ev.BooksOnly.asks (h : e.BooksOnly e') (h' : e'.Asks l e'') : e.Asks l e'' := by
  cases h' with
  | none h' => exact .none (h.trans h')
  | stroke h' cls target retry => exact .stroke (h.trans h') cls target retry

theorem Ev.requestStage_asks (e : Ev) (l : LineId) (k : Nat) : e.Asks l (e.requestStage l k) := by
  unfold Ev.requestStage
  split
  · exact .none (.refl e)
  · split
    · exact .none (Ev.modClose_recordsOnly e l _).books
    · exact .stroke (Ev.modClose_recordsOnly e l _).books _ _ _

theorem Ev.nextStage_asks (e : Ev) (l : LineId) : e.Asks l (e.nextStage l) := by
  unfold Ev.nextStage
  split
  · split
    · exact Ev.requestStage_asks e l _
    · exact .none (.refl e)
  · exact .none (.refl e)

theorem Ev.startPlan_asks (e : Ev) (l : LineId) : e.Asks l (e.startPlan l) := by
  have h1 := ((Ev.modClose_recordsOnly e l (fun c => { c with plan := some (e.makePlan l) })).trans
    (Ev.setSurge_recordsOnly _ l (e.closeFigures l).limited)).books
  unfold Ev.startPlan
  dsimp only
  split
  · exact .none (h1.trans (Ev.closeEnd_booksOnly _ l))
  · split
    · exact .stroke (h1.trans (Ev.modClose_recordsOnly _ l _).books) _ _ _
    · exact h1.asks (Ev.requestStage_asks _ l 1)

theorem Ev.endRunDown_asks (e : Ev) (l : LineId) (cause : RunDownEnd) : e.Asks l (e.endRunDown l cause) :=
  (Ev.modClose_recordsOnly e l _).books.asks (Ev.startPlan_asks _ l)

theorem Ev.decideClose_asks (e : Ev) (l : LineId) : e.Asks l (e.decideClose l) := by
  have h1 := (Ev.modClose_recordsOnly e l (fun c => { c with runDownStart := some c.entry })).books
  unfold Ev.decideClose
  dsimp only
  split
  · split
    · exact Ev.startPlan_asks e l
    · split
      · exact h1.asks (Ev.endRunDown_asks _ l _)
      · split
        · exact h1.asks (Ev.endRunDown_asks _ l _)
        · exact .none h1
  · exact .none (.refl e)

theorem Ev.plannerEnded_asks (e : Ev) (l : LineId) : e.Asks l (e.plannerEnded l) := by
  unfold Ev.plannerEnded
  split
  · exact (Ev.modClose_recordsOnly e l _).books.asks (Ev.nextStage_asks _ l)
  · exact .none (.refl e)

theorem Ev.plannerArrived_booksOnly (e : Ev) (l : LineId) (target : Nat) : e.BooksOnly (e.plannerArrived l target) := by
  unfold Ev.plannerArrived
  split
  · split
    · exact Ev.closeEnd_booksOnly e l
    · exact (Ev.modClose_recordsOnly e l _).books
  · exact .refl e

theorem Ev.handleReport_asks (r : Report) (hr : r.calm g) (e : Ev) : e.Asks r.line (e.handleReport r) := by
  cases r with
  | arrived m cls target =>
    cases cls with
    | close => exact .none (Ev.plannerArrived_booksOnly e m target)
    | throttle => exact .none (Ev.settleArrival_booksOnly e m target)
    | opening =>
      simp only [Ev.handleReport]
      split
      · exact .none (Ev.enterProving_booksOnly e m)
      · exact .none (Ev.settleArrival_booksOnly e m target)
  | ended m cls =>
    cases cls with
    | close =>
      simp only [Ev.handleReport]
      split
      · exact .stroke (.refl e) _ _ _
      · exact Ev.plannerEnded_asks e m
    | throttle => exact .none (.refl e)
    | opening => exact .none (.refl e)
  | failed m cls o => exact absurd hr id
  | seated m => exact absurd hr id

/-! ### What it leaves of another line -/

/-- Line `m` is left aside: a grant to its own waiting request apart, its valve and the reports about it stay, and its records. -/
structure Ev.Aside (e e' : Ev) (m : LineId) : Prop where
  grant : e.ValveGrant e' m
  lane : e'.lane m = e.lane m
  now : e'.now = e.now
  undecided : m ∈ e'.undecided ↔ m ∈ e.undecided

theorem Ev.Aside.refl (e : Ev) (m : LineId) : e.Aside e m := ⟨.same rfl rfl, rfl, rfl, Iff.rfl⟩

theorem Ev.Aside.trans (h : e.Aside e' m) (h' : e'.Aside e'' m) : e.Aside e'' m :=
  ⟨h.grant.trans h'.grant h.now (congrArg (fun q : Lane => q.1.profile) h.lane), h'.lane.trans h.lane, h'.now.trans h.now,
    h'.undecided.trans h.undecided⟩

theorem Ev.StrokesOnly.lane (h : e.StrokesOnly e') (m : LineId) : e'.lane m = e.lane m := by
  obtain ⟨_, _, _, _, _, rfl⟩ := h; rfl

theorem Ev.StrokesOnly.aside (h : e.StrokesOnly e') (hg : e.ValveGrant e' m) : e.Aside e' m :=
  ⟨hg, h.lane m, h.now, by rw [h.undecided]⟩

theorem Ev.considerGrants_aside (e : Ev) (m : LineId) : e.Aside e.considerGrants m :=
  (Ev.considerGrants_strokesOnly e).aside (Ev.considerGrants_valveGrant e m)

theorem Ev.about_congr (h : e'.reports = e.reports) (m : LineId) : e'.about m = e.about m := by
  rw [Ev.about, Ev.about, h]

theorem Ev.BooksOnly.aside (h : e.BooksOnly e') (hl : e'.lane m = e.lane m) : e.Aside e' m :=
  ⟨.same (h.valve m) (Ev.about_congr h.reports m), hl, h.now, by rw [h.undecided]⟩

theorem Ev.modValve_aside (e : Ev) (f : Valve → Valve) (hm : m ≠ l) : e.Aside (e.modValve l f) m :=
  ⟨.same (Ev.modValve_valve_ne e f hm) rfl, rfl, rfl, Iff.rfl⟩

theorem Ev.freeChannel_aside (e : Ev) (l m : LineId) : e.Aside (e.freeChannel l) m :=
  (Ev.freeChannel_strokesOnly e l).aside (.same (Ev.freeChannel_valve e l m) rfl)

theorem Ev.endStroke_aside (e : Ev) (o : StrokeOutcome) (hm : m ≠ l) : e.Aside (e.endStroke l o) m :=
  (Ev.modValve_aside e _ hm).trans (Ev.freeChannel_aside _ l m)

theorem Ev.enqueue_aside (e : Ev) (r : StrokeReq) (hm : m ≠ l) : e.Aside (e.enqueue l r) m :=
  (Ev.modValve_aside e _ hm).trans (Ev.considerGrants_aside _ m)

theorem Ev.requestStroke_aside (e : Ev) (cls : StrokeClass) (target : Nat) (retry : Bool) (hm : m ≠ l) :
    e.Aside (e.requestStroke l cls target retry) m := by
  unfold Ev.requestStroke
  dsimp only
  split
  · split
    · exact .refl e m
    · split
      · exact (Ev.endStroke_aside e _ hm).trans (Ev.enqueue_aside _ _ hm)
      · exact Ev.modValve_aside e _ hm
  · split
    · exact .refl e m
    · exact Ev.enqueue_aside e _ hm
  · exact Ev.enqueue_aside e _ hm

theorem Ev.Asks.aside (h : e.Asks l e') (hm : m ≠ l) (hl : e'.lane m = e.lane m) : e.Aside e' m := by
  cases h with
  | none h => exact h.aside hl
  | stroke h cls target retry =>
    exact (h.aside ((Ev.requestStroke_lane _ l cls target retry m).symm.trans hl)).trans
      (Ev.requestStroke_aside _ cls target retry hm)

theorem Ev.handleReport_aside (r : Report) (hr : r.calm g) (hm : m ≠ r.line) : e.Aside (e.handleReport r) m :=
  (Ev.handleReport_asks r hr e).aside hm (Ev.handleReport_lane_of_calm r hr hm.symm)

theorem Ev.decideClose_aside (e : Ev) (hm : m ≠ l) : e.Aside (e.decideClose l) m :=
  (Ev.decideClose_asks e l).aside hm (Ev.decideClose_lane e l hm)

theorem Ev.dropWork_aside (e : Ev) (hm : m ≠ l) : e.Aside (e.dropWork l) m := by
  have drop : e.Aside (match (e.valve l).pending with
      | some r => if r.cls = .close then e else e.modValve l (fun v => { v with pending := none })
      | none => e) m := by
    split
    · split
      · exact .refl e m
      · exact Ev.modValve_aside e _ hm
    · exact .refl e m
  unfold Ev.dropWork
  dsimp only
  split
  · split
    · exact drop
    · exact drop.trans (Ev.endStroke_aside _ _ hm)
  · exact drop

theorem Ev.cancelWork_aside (e : Ev) (hm : m ≠ l) : e.Aside (e.cancelWork l) m :=
  (Ev.dropWork_aside e hm).trans (Ev.considerGrants_aside _ m)

theorem Ev.evalPermitOf_booksOnly (e : Ev) (l : LineId) : e.BooksOnly (e.evalPermitOf l) := by
  obtain ⟨sh, d, h, -⟩ := Ev.evalPermitOf_writes e l
  rw [h]; exact ⟨rfl, rfl, rfl, rfl, rfl, rfl, rfl⟩

/-- A line that enters its close leaves every other line aside. -/
theorem Ev.closeEntry_aside (e : Ev) (reason : CloseReason) (hold : Option HoldReason) (cause : Option TripCause)
    (hm : m ≠ l) : e.Aside (e.closeEntry l reason hold cause) m := by
  have h1 := ((Ev.closeBegun_recordsOnly e l reason hold cause).books.aside (Ev.closeBegun_lane e reason hold cause hm)).trans
    (Ev.cancelWork_aside _ hm)
  have h2 := h1.trans ((Ev.evalPermitOf_booksOnly _ l).aside (m := m) (by simp))
  rw [Ev.closeEntry_eq]
  refine ⟨?_, h2.lane, h2.now, ?_⟩
  · cases h2.grant with
    | same hv hr => exact .same hv hr
    | atOnce r hp hat hv hr => exact .atOnce r hp hat hv hr
    | started r ph hp hat hv hr => exact .started r ph hp hat hv hr
  · rw [List.mem_append, h2.undecided]
    simp [hm]

end Sys2Proof.Machine
end

section
/-! Lines that close together: what a lost link and a panel reply do to the flowing lines. The misses of a poll (R138, R140, R146). -/

namespace Sys2Proof.Machine
variable {e e' e'' x y z : Ev} {l m : LineId} {g : Ground} {s u v : State} {c : Instr} {t : Time} {k : TankId}
  {reason : CloseReason} {hold : Option HoldReason} {cause : Option TripCause}

/-! ### A flowing line closes -/

/-- A line that flows enters its close; another is left as it is. -/
def Ev.closeFlowing (e : Ev) (l : LineId) (reason : CloseReason) (hold : Option HoldReason) (cause : Option TripCause) : Ev :=
  if e.flowing l then e.closeEntry l reason hold cause else e

theorem Ev.lineLinkLost_eq (e : Ev) (l : LineId) : e.lineLinkLost l = e.closeFlowing l .trip none (some .linkLost) := by
  unfold Ev.lineLinkLost Ev.closeFlowing
  split
  · next h => exact Ev.trip_of_flowing h _
  · rfl

theorem Ev.closeFlowing_calm (h : e.calm g) (l : LineId) (reason : CloseReason) (hold : Option HoldReason)
    (cause : Option TripCause) : (e.closeFlowing l reason hold cause).calm g := by
  unfold Ev.closeFlowing
  split
  · exact Ev.closeEntry_calm l reason hold cause h
  · exact h

theorem Ev.closeFlowing_lane (e : Ev) (h : m ≠ l) : (e.closeFlowing l reason hold cause).lane m = e.lane m := by
  unfold Ev.closeFlowing
  split
  · exact Ev.closeEntry_lane e l reason hold cause h
  · rfl

theorem Ev.closeFlowing_aside (e : Ev) (h : m ≠ l) : e.Aside (e.closeFlowing l reason hold cause) m := by
  unfold Ev.closeFlowing
  split
  · exact Ev.closeEntry_aside e reason hold cause h
  · exact .refl e m

theorem Ev.closeFlowing_causes (e : Ev) (l : LineId) : (e.closeFlowing l reason hold cause).shut.causes = e.shut.causes := by
  unfold Ev.closeFlowing
  split
  · exact Ev.closeEntry_causes e l reason hold cause
  · rfl

/-- A line closes or stays as it is, whether it is its own turn or another line's. -/
theorem Ev.closeFlowing_flowing (e : Ev) (l m : LineId) : (e.closeFlowing l reason hold cause).flowing m =
    if m = l then false else e.flowing m := by
  unfold Ev.closeFlowing
  split
  · exact Ev.closeEntry_flowing e l m reason hold cause
  · split
    · next h hm => rw [hm]; simpa using h
    · rfl

theorem Ev.closeFlowing_closesWith (hf : e.flowing l = true) :
    (e.closeFlowing l reason hold cause).toState.closesWith l reason hold cause := by
  rw [Ev.closeFlowing, if_pos hf]
  exact Ev.closeEntry_closesWith e l reason hold cause

/-- All flowing lines close. -/
def Ev.closeAll (e : Ev) (reason : CloseReason) (hold : Option HoldReason) (cause : Option TripCause) : Ev :=
  e.eachLine (fun l x => x.closeFlowing l reason hold cause)

theorem Ev.closeAll_calm (h : e.calm g) : (e.closeAll reason hold cause).calm g :=
  Ev.eachLine_calm _ (fun _ _ hx => Ev.closeFlowing_calm hx _ _ _ _) h

theorem Ev.closeFlowing_ground (e : Ev) (l : LineId) : (e.closeFlowing l reason hold cause).ground = e.ground := by
  unfold Ev.closeFlowing
  split
  · exact Ev.closeEntry_ground e l reason hold cause
  · rfl

theorem Ev.closeAll_ground (e : Ev) : (e.closeAll reason hold cause).ground = e.ground :=
  Ev.eachLine_ground e _ fun l x => Ev.closeFlowing_ground x l

theorem Ev.closeAll_flowing (e : Ev) (l : LineId) : (e.closeAll reason hold cause).flowing l = false :=
  Ev.eachLine_at (P := fun _ => True) (Q := fun y => y.flowing l = false) _ l trivial (fun _ _ _ _ => trivial)
    (fun y _ => by rw [Ev.closeFlowing_flowing, if_pos rfl]) fun m y hm hy => by
      rw [Ev.closeFlowing_flowing, if_neg hm.symm]; exact hy

theorem Ev.closeAll_closesWith (hf : e.flowing l = true) :
    (e.closeAll reason hold cause).toState.closesWith l reason hold cause :=
  Ev.eachLine_at (P := fun y => y.lane l = e.lane l) (Q := fun y => y.toState.closesWith l reason hold cause) _ l rfl
    (fun _ y hm hy => (Ev.closeFlowing_lane y hm.symm).trans hy)
    (fun _ hy => Ev.closeFlowing_closesWith ((State.flowing_of_line (congrArg Prod.fst hy)).trans hf))
    fun _ y hm hy => State.closesWith_of_line (congrArg Prod.fst (Ev.closeFlowing_lane y hm.symm)) hy

/-! ### Other grades, and notices -/

/-- The calm of an event looks at no grade record and no notice. -/
theorem Ev.calm.regraded (h : e.calm g) (gs : Grades) (ds : List NoticeKey) :
    Ev.calm { g with grades := gs } { e with grades := gs, dirty := ds } :=
  ⟨by rw [← h.1]; rfl, h.2⟩

theorem Ev.gradesWaiting_writes (e : Ev) : ∃ gs d, (((e.gradeWaiting .g1).gradeWaiting .g2).mark .link) =
    { e with grades := gs, dirty := d } ∧ (∀ g, gs.get g = waitingGrade (e.grade g)) ∧ .link ∈ d := by
  obtain ⟨d1, h1⟩ := Ev.gradeWaiting_writes e .g1
  obtain ⟨d2, h2⟩ := Ev.gradeWaiting_writes (e.gradeWaiting .g1) .g2
  obtain ⟨d3, h3, hmem⟩ := Ev.mark_writes ((e.gradeWaiting .g1).gradeWaiting .g2) .link
  refine ⟨(e.grades.set .g1 (waitingGrade (e.grade .g1))).set .g2 (waitingGrade (e.grade .g2)), d3, ?_, fun g => ?_, hmem⟩
  · rw [h3, h2, h1]; rfl
  · cases g <;> rfl

theorem waitingGrade_agreement {x : Grade} (h : x.agreement ≠ .undeclared) : (waitingGrade x).agreement = .waiting := by
  rw [waitingGrade, if_neg h]; rfl

/-- What the loss of the link leaves at once (R140). -/
theorem Ev.linkDown_writes (e : Ev) : ∃ gs d, e.linkDown = { Ev.closeAll { e with
      link := { e.link with state := .down, silenceStart := none, missCount := 0, panel := none },
      shut := { e.shut with shipRun := 0 } } .trip none (some .linkLost) with grades := gs, dirty := d } ∧
    (∀ g, gs.get g = waitingGrade (e.grade g)) ∧ .link ∈ d := by
  let w : Ev := { e with
    link := { e.link with state := .down, silenceStart := none, missCount := 0, panel := none },
    shut := { e.shut with shipRun := 0 } }
  obtain ⟨gs, d, h, hgs, hmem⟩ := Ev.gradesWaiting_writes (w.closeAll .trip none (some .linkLost))
  have hlost : (w.eachLine fun l x => x.lineLinkLost l) = w.closeAll .trip none (some .linkLost) := by
    unfold Ev.closeAll
    congr 1
    funext l x
    exact Ev.lineLinkLost_eq x l
  refine ⟨gs, d, (congrArg (fun y => Ev.mark (Ev.gradeWaiting (Ev.gradeWaiting y .g1) .g2) .link) hlost).trans h, fun g => ?_,
    hmem⟩
  have hgrades : (w.closeAll .trip none (some .linkLost)).grades = e.grades :=
    grades_of_ground (y := w.toState) (Ev.closeAll_ground w)
  rw [hgs, State.grade, hgrades]
  rfl

/-! ### A poll decided without a listed reply (R138, R140, R146) -/

/-- The event after a poll has been decided: nothing but the link has changed. -/
def pollDecided (s : State) (t : Time) (rx : ShipRx) (slots : List Slot) : Ev :=
  { begin t s with link := { s.link with rx := rx, poll := none, slots := slots } }

/-- A miss of a poll of this kind (R138, R146). -/
def Ev.missed (e : Ev) (kind : PollKind) : Ev :=
  match kind with
  | .panel => e.panelMiss
  | .read k => e.tankMiss k
  | .declare _ => e

theorem Ev.missPoll_eq (e : Ev) (q : Poll) (o : SlotOutcome) : e.missPoll q o = (e.closePoll q o).missed q.kind := rfl

theorem PollKind.isPanel_eq_false {p : PollKind} (h : p ≠ .panel) : p.isPanel = false := by
  cases p with
  | panel => exact absurd rfl h
  | read k => rfl
  | declare k => rfl

/-- Each of the commands that decide a poll without a listed reply counts a miss of it. -/
theorem exec_missPoll {q : Poll} (hq : s.link.poll = some q)
    (hc : (c = .shipBadCheck t ∨ c = .shipReplyUnlisted t ∨ c = .shipFrameOtherAddress t) ∧ elapsed t q.start < q.timeout ∨
      c = .panelReplyTimeout t ∧ q.kind = .panel ∧ q.timeout ≤ elapsed t q.start ∨
      c = .tankReplyTimeout t ∧ q.kind ≠ .panel ∧ q.timeout ≤ elapsed t q.start) :
    ∃ (op : Ev → Ev) (rx : ShipRx) (slots : List Slot), exec c s = event t s op ∧ op (begin t s) =
      (pollDecided s t rx slots).missed q.kind := by
  have bad (o : SlotOutcome) (ht : elapsed t q.start < q.timeout) :
      (begin t s).shipHunt.badFrame o = (begin t s).shipHunt.missPoll q o := by
    rw [Ev.badFrame, State.awaiting_eq (s := (begin t s).shipHunt.toState) hq ht]
  have timeout (b : Bool) (hk : q.kind.isPanel = b) (ht : q.timeout ≤ elapsed t q.start) :
      (begin t s).replyTimeout b = (begin t s).missPoll q .noReply := by
    have hq' : (begin t s).link.poll = some q := hq
    rw [Ev.replyTimeout, hq']
    exact if_pos ⟨hk, ht⟩
  have frame (o : SlotOutcome) : ∃ slots, (begin t s).shipHunt.closePoll q o = pollDecided s t .hunt slots := ⟨_, rfl⟩
  have plain (o : SlotOutcome) : ∃ slots, (begin t s).closePoll q o = pollDecided s t s.link.rx slots := ⟨_, rfl⟩
  rcases hc with ⟨rfl | rfl | rfl, ht⟩ | ⟨rfl, hk, ht⟩ | ⟨rfl, hk, ht⟩
  · obtain ⟨slots, h⟩ := frame .badCheck
    exact ⟨fun e => e.shipHunt.badFrame .badCheck, .hunt, slots, rfl, (bad .badCheck ht).trans (by rw [Ev.missPoll_eq, h])⟩
  · obtain ⟨slots, h⟩ := frame (.reply .unlisted)
    exact ⟨fun e => e.shipHunt.badFrame (.reply .unlisted), .hunt, slots, rfl,
      (bad (.reply .unlisted) ht).trans (by rw [Ev.missPoll_eq, h])⟩
  · obtain ⟨slots, h⟩ := frame .noReply
    exact ⟨fun e => e.shipHunt.badFrame .noReply, .hunt, slots, rfl, (bad .noReply ht).trans (by rw [Ev.missPoll_eq, h])⟩
  · obtain ⟨slots, h⟩ := plain .noReply
    exact ⟨fun e => e.replyTimeout true, s.link.rx, slots, rfl,
      (timeout true (by rw [hk]; rfl) ht).trans (by rw [Ev.missPoll_eq, h])⟩
  · obtain ⟨slots, h⟩ := plain .noReply
    exact ⟨fun e => e.replyTimeout false, s.link.rx, slots, rfl,
      (timeout false (PollKind.isPanel_eq_false hk) ht).trans (by rw [Ev.missPoll_eq, h])⟩

/-- A missed panel poll: nothing while DOWN, one more below the limit, and the link DOWN at the limit (R138, R140). -/
theorem completes_panelMiss {op : Ev → Ev} {rx : ShipRx} {slots : List Slot} (hop : exec c s = event t s op)
    (he : op (begin t s) = (pollDecided s t rx slots).panelMiss) : Completes s c t (fun v =>
      v.link.poll = none ∧ (∀ k, (v.tank k).health = (s.tank k).health) ∧
      (s.link.state = .down → v.link.state = .down ∧ v.link.missCount = s.link.missCount ∧ v.grades = s.grades) ∧
      (s.link.state ≠ .down → s.link.missCount + 1 < 5 → v.link.state = s.link.state ∧
        v.link.missCount = s.link.missCount + 1 ∧ v.link.panel = s.link.panel ∧ v.grades = s.grades ∧
        v.lines = s.lines) ∧
      (s.link.state ≠ .down → 5 ≤ s.link.missCount + 1 → v.link.state = .down ∧ v.link.missCount = 0 ∧
        v.link.panel = none ∧ v.link.silenceStart = none ∧ v.shut.shipRun = 0 ∧ v.announced .link ∧
        (∀ g, (s.grade g).agreement ≠ .undeclared → (v.grade g).agreement = .waiting) ∧
        (∀ l, v.flowing l = false) ∧
        (∀ l, s.flowing l = true → (s.valve l).closedSwitch = false →
          v.closesWith l .trip none (some .linkLost)))) := by
  by_cases hdown : s.link.state = .down
  · have heff : op (begin t s) = pollDecided s t rx slots := he.trans (if_pos hdown)
    refine completes_of_effect _ hop heff rfl rfl rfl rfl fun v hv => ?_
    refine ⟨by rw [hv.linkGrades.1]; rfl, fun k => by rw [hv.tank]; rfl, fun _ => ⟨?_, ?_, hv.linkGrades.2⟩,
      fun h => absurd hdown h, fun h => absurd hdown h⟩
    · rw [hv.linkGrades.1]; exact hdown
    · rw [hv.linkGrades.1]; rfl
  by_cases hfew : s.link.missCount + 1 < 5
  · have heff : op (begin t s) = (pollDecided s t rx slots).modLink (fun x => { x with missCount := x.missCount + 1 }) :=
      he.trans ((if_neg hdown).trans (if_pos hfew))
    refine completes_of_effect _ hop heff rfl rfl rfl rfl fun v hv => ?_
    refine ⟨by rw [hv.linkGrades.1]; rfl, fun k => by rw [hv.tank]; rfl, fun h => absurd h hdown,
      fun _ _ => ⟨?_, ?_, ?_, hv.linkGrades.2, hv.1⟩, fun _ h => absurd hfew (Nat.not_lt.mpr h)⟩
    all_goals rw [hv.linkGrades.1]; rfl
  · obtain ⟨gs, d, hwrites, hgs, hmem⟩ := Ev.linkDown_writes (pollDecided s t rx slots)
    have heff := he.trans ((if_neg hdown).trans ((if_neg hfew).trans hwrites))
    generalize hw : ({ pollDecided s t rx slots with
      link := { (pollDecided s t rx slots).link with state := .down, silenceStart := none, missCount := 0, panel := none },
      shut := { (pollDecided s t rx slots).shut with shipRun := 0 } } : Ev) = w at heff
    have hcalm : (w.closeAll .trip none (some .linkLost)).calm w.ground :=
      Ev.closeAll_calm (Ev.calm_of _ w rfl (by rw [← hw]; rfl))
    have hregraded := hcalm.regraded gs d
    have hground := (Ev.drain_ground _).trans hregraded.1
    have hport : ({ w.ground with grades := gs } : Ground).port = (begin t s).ground.port := by rw [← hw]; rfl
    refine completes_of_drain _ hop heff ?_ ?_ fun v hv ha => ?_
    · exact (congrArg (fun g : Ground => g.port.pending) hregraded.1).trans (congrArg PortView.pending hport)
    · exact (congrArg (fun g : Ground => g.port.now) hregraded.1).trans (congrArg PortView.now hport)
    have hlink : v.link = { s.link with
        rx := rx, poll := none, slots := slots, state := .down, silenceStart := none, missCount := 0, panel := none } := by
      rw [hv.linkGrades.1]
      exact (congrArg Ground.link hground).trans (by rw [← hw]; rfl)
    refine ⟨by rw [hlink], fun k => ?_, fun h => absurd h hdown, fun _ h => absurd h hfew, fun _ _ => ⟨by rw [hlink],
      by rw [hlink], by rw [hlink], by rw [hlink], ?_, ha _ (Ev.drain_dirty _ hmem), fun g hg => ?_, fun l => ?_,
      fun l hf hsw => ?_⟩⟩
    · rw [hv.tank]
      exact (congrArg (fun g : Ground => (g.readings k).health) hground).trans (by rw [← hw]; rfl)
    · rw [hv.shut]
      exact (congrArg Ground.shipRun hground).trans (by rw [← hw]; rfl)
    · rw [hv.grade]
      refine (congrArg (fun x : Ground => (x.grades.get g).agreement) hground).trans ?_
      refine (congrArg Grade.agreement (hgs g)).trans (waitingGrade_agreement hg)
    · rw [State.flowing_of_line (hv.line l)]
      exact Ev.drain_flowing hregraded (Ev.closeAll_flowing w l)
    · refine hv.closesWith (Ev.drain_closesWith hregraded ?_ (Ev.closeAll_closesWith (e := w) (by rw [← hw]; exact hf)))
      exact (congrArg ValveInputs.closedSwitch (inputs_of_ground (Ev.closeAll_ground w) l)).trans (by rw [← hw]; exact hsw)

/-- An event that trips the line of a tank, when it does, after a change of no line, list or valve. -/
theorem completes_tripHolder {op : Ev → Ev} {b : Prop} [Decidable b] {y : Ev} {cause : TripCause} (hop : exec c s = event t s op)
    (he : op (begin t s) = if b then y.tripHolder k cause else y) (hp : y.pending = s.pending) (hn : y.now = t)
    (hr : y.reports = []) (hu : y.undecided = []) (hlines : y.lines = s.lines) (hlists : y.lists = s.lists)
    (hvalves : y.valves = s.valves) : Completes s c t (fun v => v.link = y.link ∧ v.grades = y.grades ∧
      (∀ n, (v.tank n).reading = (y.tank n).reading) ∧ (¬ b → v.tanks = y.tanks ∧ v.lines = s.lines ∧ v.shut = y.shut) ∧
      (b → ∀ l, s.listLine k = some l → s.flowing l = true → (s.valve l).closedSwitch = false →
        v.closesWith l .trip none (some cause))) := by
  have hcalm : y.calm y.ground := Ev.calm_of _ y rfl hr
  have hground : (if b then y.tripHolder k cause else y).ground = y.ground := by
    split
    · exact (Ev.tripHolder_calm k cause hcalm).1
    · rfl
  refine completes_of_drain _ hop he ((pending_of_ground hground).trans hp) ((now_of_ground hground).trans hn) fun v hv _ => ?_
  have hend := (Ev.drain_ground _).trans hground
  refine ⟨?_, ?_, fun n => ?_, fun hb => ?_, fun hb l hl hf hsw => ?_⟩
  · rw [hv.linkGrades.1, link_of_ground hend]
  · rw [hv.linkGrades.2, grades_of_ground hend]
  · rw [hv.tank, reading_of_ground hend]
  · rw [if_neg hb, Ev.drain_idle y hr hu] at hv
    exact ⟨hv.2.2.1, hv.1.trans hlines, hv.shut⟩
  · rw [if_pos hb] at hv
    refine hv.closesWith (Ev.tripHolder_drain hcalm ?_ ?_ ?_ cause)
    · rw [← hl, State.listLine, State.listLine]
      simp only [State.list, hlists]
    · rw [State.flowing, State.line, hlines]; exact hf
    · rw [State.valve, hvalves]; exact hsw

/-- The health of a tank after a miss that makes its count `n` (R146). -/
def Health.missed (h : Health) (n : Nat) : Health :=
  if n = Config.staleMisses ∧ h = .live then .stale else if n = Config.lostMisses ∧ h = .stale then .lost else h

/-- A missed READ poll writes the tank's count and health, and trips its line when a tank that fills it is LOST (R50, R146). -/
theorem Ev.tankMiss_writes (e : Ev) (k : TankId) : ∃ r d,
    e.tankMiss k = (if ((e.tank k).missCount + 1 = Config.lostMisses ∧ (e.tank k).health = .stale) ∧
        (e.tank k).use.filling = true then Ev.tripHolder { e with
          tanks := e.tanks.set k { e.tank k with
            missCount := min ((e.tank k).missCount + 1) Config.lostMisses,
            health := (e.tank k).health.missed ((e.tank k).missCount + 1), refusal := r },
          dirty := d } k .tankLost
      else { e with
        tanks := e.tanks.set k { e.tank k with
          missCount := min ((e.tank k).missCount + 1) Config.lostMisses,
          health := (e.tank k).health.missed ((e.tank k).missCount + 1), refusal := r },
        dirty := d }) := by
  generalize hn : (e.tank k).missCount + 1 = n
  let e1 := e.modTank k (fun x => { x with missCount := min n Config.lostMisses })
  have he1 : e1.tank k = { e.tank k with missCount := min n Config.lostMisses } := Tanks.get_set_same _ _ _
  have hset (h : Health) (r : Option RefusalReason) : ∃ d, e1.setHealth k h r = { e with
      tanks := e.tanks.set k { e.tank k with missCount := min n Config.lostMisses, health := h, refusal := r }, dirty := d } := by
    obtain ⟨d, hd⟩ := Ev.setHealth_writes e1 k h r
    refine ⟨d, hd.trans ?_⟩
    cases k <;> rfl
  by_cases hstale : n = Config.staleMisses ∧ (e.tank k).health = .live
  · obtain ⟨d, hd⟩ := hset .stale none
    refine ⟨none, d, ?_⟩
    rw [if_neg (fun h => by rw [hstale.2] at h; cases h.1.2), Health.missed, if_pos hstale, ← hd, Ev.tankMiss]
    rw [hn, if_pos hstale]
  by_cases hlost : n = Config.lostMisses ∧ (e.tank k).health = .stale
  · obtain ⟨d, hd⟩ := hset .lost none
    refine ⟨none, d, ?_⟩
    rw [Health.missed, if_neg hstale, if_pos hlost, ← hd, Ev.tankMiss]
    rw [hn, if_neg hstale, if_pos hlost]
    change e1.loseTank k = _
    rw [Ev.loseTank, he1]
    dsimp only
    simp only [hlost, true_and]
  · refine ⟨(e.tank k).refusal, e.dirty, ?_⟩
    rw [if_neg (fun h => hlost h.1), Health.missed, if_neg hstale, if_neg hlost, Ev.tankMiss]
    rw [hn, if_neg hstale, if_neg hlost]
    rfl

/-- A missed READ poll: the count goes up, a LIVE tank is STALE at 3 and a STALE one LOST at 15, its flowing line tripped
when it fills it (R50, R146). -/
theorem completes_tankMiss {op : Ev → Ev} {rx : ShipRx} {slots : List Slot} (hop : exec c s = event t s op)
    (he : op (begin t s) = (pollDecided s t rx slots).tankMiss k) : Completes s c t (fun v =>
      v.link.poll = none ∧ v.grades = s.grades ∧
        (v.tank k).missCount = min ((s.tank k).missCount + 1) 15 ∧ (v.tank k).latest = (s.tank k).latest ∧
        (v.tank k).health =
          (if (s.tank k).missCount + 1 = 3 ∧ (s.tank k).health = .live then .stale
           else if (s.tank k).missCount + 1 = 15 ∧ (s.tank k).health = .stale then .lost
           else (s.tank k).health) ∧
        (∀ l, s.listLine k = some l → s.flowing l = true → (s.valve l).closedSwitch = false →
          if (s.tank k).missCount + 1 = 15 ∧ (s.tank k).health = .stale ∧
              ((s.tank k).use = .active ∨ (s.tank k).use = .incoming) then
            v.closesWith l .trip none (some .tankLost)
          else v.line l = s.line l)) := by
  obtain ⟨r, d, hwrites⟩ := Ev.tankMiss_writes (pollDecided s t rx slots) k
  obtain ⟨u, h1, h2, h3, hlink, hgrades, hread, hsame, htrip⟩ := completes_tripHolder hop (he.trans hwrites) rfl rfl rfl rfl rfl rfl rfl
  have hk := (hread k).trans (congrArg Tank.reading (Tanks.get_set_same _ _ _))
  refine ⟨u, h1, h2, h3, by rw [hlink]; rfl, hgrades, congrArg TankReading.missCount hk, congrArg TankReading.latest hk,
    congrArg TankReading.health hk, fun l hl hf hsw => ?_⟩
  by_cases hb : ((s.tank k).missCount + 1 = 15 ∧ (s.tank k).health = .stale) ∧ (s.tank k).use.filling = true
  · rw [if_pos ⟨hb.1.1, hb.1.2, TankUse.filling_iff.mp hb.2⟩]
    exact htrip hb l hl hf hsw
  · rw [if_neg fun h => hb ⟨⟨h.1, h.2.1⟩, TankUse.filling_iff.mpr h.2.2⟩, State.line, (hsame hb).2.1]
    rfl

end Sys2Proof.Machine
end

section
/-! The end of an event as one line sees it: its reports come up in their order, and all that other lines do to it is to let a
freed channel take its waiting request. -/

namespace Sys2Proof.Machine
variable {e e' e'' x y z : Ev} {l m : LineId} {g : Ground} {s u v : State} {c : Instr} {t : Time} {r : Report}

/-! ### Reports in their order -/

theorem Ev.about_cons (h : r.line = m) : Ev.about { e with reports := r :: e.reports } m = r :: e.about m :=
  List.filter_cons_of_pos (by simpa using h)

theorem Ev.about_cons_ne (h : r.line ≠ m) : Ev.about { e with reports := r :: e.reports } m = e.about m :=
  List.filter_cons_of_neg (by simpa using h)

theorem Ev.popReport_aside (h : m ≠ r.line) : Ev.Aside { e with reports := r :: e.reports } e m :=
  ⟨.same rfl (Ev.about_cons_ne h.symm).symm, rfl, rfl, Iff.rfl⟩

theorem Ev.popUndecided_aside (h : m ≠ l) : Ev.Aside { e with undecided := l :: e.undecided } e m :=
  ⟨.same rfl rfl, rfl, rfl, by simp [h]⟩

/-- The end of an event, seen from line `m`: other lines leave it aside, its own reports and its own close are handed on. -/
theorem Ev.drain_line_induction {P : Ev → Prop} (m : LineId)
    (hother : ∀ x y : Ev, x.calm g → x.Aside y m → P x → P y)
    (hreport : ∀ (y : Ev) (r : Report), y.calm g → r.calm g → r.line = m → P { y with reports := r :: y.reports } →
      P (y.handleReport r))
    (hclose : ∀ y : Ev, y.calm g → y.reports = [] → P { y with undecided := m :: y.undecided } → P (y.decideClose m))
    (hc : e.calm g) (h : P e) : P e.drain := by
  refine (Ev.drain_induction (P := fun y => y.calm g ∧ P y) (fun y r rs hy hrs => ?_) (fun y l ls hy hr hls => ?_) e ⟨hc, h⟩).2
  · obtain ⟨hcy, hP⟩ := hy
    have hr : r.calm g := hcy.2 r (by rw [hrs]; exact List.mem_cons_self)
    have hcy1 := Ev.setReports_calm hcy hrs
    have hsame : ({ ({ y with reports := rs } : Ev) with reports := r :: rs } : Ev) = y := by rw [← hrs]
    refine ⟨Ev.handleReport_calm r hr hcy1, ?_⟩
    by_cases hm : r.line = m
    · exact hreport _ r hcy1 hr hm (by rw [hsame]; exact hP)
    · have haside := (Ev.popReport_aside (e := { y with reports := rs }) (r := r) (Ne.symm hm)).trans
        (Ev.handleReport_aside r hr (Ne.symm hm))
      rw [hsame] at haside
      exact hother _ _ hcy haside hP
  · obtain ⟨hcy, hP⟩ := hy
    have hcy1 := Ev.setUndecided_calm ls hcy
    have hsame : ({ ({ y with undecided := ls } : Ev) with undecided := l :: ls } : Ev) = y := by rw [← hls]
    refine ⟨Ev.decideClose_calm l hcy1, ?_⟩
    by_cases hm : l = m
    · subst hm
      exact hclose _ hcy1 hr (by rw [hsame]; exact hP)
    · have haside := (Ev.popUndecided_aside (e := { y with undecided := ls }) (l := l) (Ne.symm hm)).trans
        (Ev.decideClose_aside _ (Ne.symm hm))
      rw [hsame] at haside
      exact hother _ _ hcy haside hP

/-! ### A line that nothing asks -/

/-- The line as its waiting request arrived at once leaves it: in PROVING when it was STARTING and the request its OPEN (R8,
R118), otherwise as it stood in `z`. -/
def Ev.goesOn (z e : Ev) (m : LineId) : Prop :=
  e.line m = z.line m ∨ (z.line m).state = .starting ∧ (e.line m).state = .proving ∧
    ∃ r, (z.valve m).pending = some r ∧ r.cls = .opening ∧ z.atTarget m r = true

/-- A line that nothing asks: its waiting request waits still, or it has been granted and its reports come up. -/
def Ev.unasked (z e : Ev) (m : LineId) : Prop :=
  m ∉ e.undecided ∧ z.goesOn e m ∧ (e.line m).profile = (z.line m).profile ∧
    (e.valve m = z.valve m ∧ e.about m = [] ∨
      (e.valve m).pending = none ∧ (e.about m = [] ∨ ∃ r, (z.valve m).pending = some r ∧ z.atTarget m r = true ∧
        (e.about m = [.arrived m r.cls r.target, .ended m r.cls] ∨ e.about m = [.ended m r.cls])))

theorem Ev.unasked.aside (h : z.unasked e m) (ha : e.Aside e' m) : z.unasked e' m := by
  obtain ⟨hund, hgo, hprof, hwork⟩ := h
  obtain ⟨hgrant, hlane, -, hiff⟩ := ha
  have hline : e'.line m = e.line m := congrArg Prod.fst hlane
  refine ⟨fun h => hund (hiff.mp h), ?_, by rw [hline]; exact hprof, ?_⟩
  · rw [Ev.goesOn, hline]; exact hgo
  rcases hwork with ⟨hv, hq⟩ | ⟨hp, hq⟩
  · cases hgrant with
    | same hv' hr' => exact .inl ⟨hv'.trans hv, hr'.trans hq⟩
    | atOnce r hp hat hv' hr' =>
      exact .inr ⟨by rw [hv'], .inr ⟨r, hv ▸ hp, (State.atTarget_congr hv hprof r).symm.trans hat, .inl (by rw [hr', hq]; rfl)⟩⟩
    | started r ph hp hat hv' hr' => exact .inr ⟨by rw [hv'], .inl (hr'.trans hq)⟩
  · cases hgrant with
    | same hv' hr' => exact .inr ⟨by rw [hv', hp], by rw [hr']; exact hq⟩
    | atOnce r hp' => rw [hp] at hp'; cases hp'
    | started r ph hp' => rw [hp] at hp'; cases hp'

theorem Ev.enterProving_line (e : Ev) (l : LineId) : ∃ b, (e.enterProving l).line l =
    { e.line l with baseline := some b, provingStart := some e.now, state := .proving } := by
  refine ⟨{ level := ((e.activeTank l).bind (fun k => (e.tank k).latest)).map (fun h => h.level), litres := (e.line l).delivered },
    (Ev.setState_line _ l .proving).trans ?_⟩
  simp only [State.line, Ev.modFlow_lines, Ev.modLine_lines, Quad.get_set_same]

theorem Ev.settleArrival_line (e : Ev) (l m : LineId) (target : Nat) : (e.settleArrival l target).line m = e.line m := by
  unfold Ev.settleArrival
  split
  · rfl
  · rfl

/-- A line that nothing asks, its waiting request no CLOSE, goes through the end of the event so (R8, R118). -/
theorem Ev.drain_unasked (hc : e.calm g) (hcls : ∀ r, (z.valve m).pending = some r → r.cls ≠ .close) (h : z.unasked e m) :
    z.unasked e.drain m := by
  refine Ev.drain_line_induction (P := fun y => z.unasked y m) m (fun _ _ _ ha hx => hx.aside ha) (fun y r _ _ hm hP => ?_)
    (fun y _ _ hP => absurd List.mem_cons_self hP.1) hc h
  obtain ⟨hund, hgo, hprof, hwork⟩ := hP
  rw [Ev.about_cons hm] at hwork
  -- the report handed on is one of a request that arrived at once
  rcases hwork with ⟨-, hq⟩ | ⟨hp, hq | ⟨q, hzq, hat, hq⟩⟩
  · cases hq
  · cases hq
  have hq0 := hcls q hzq
  -- an own report changes the books alone: what is left of the line is seen to case by case
  have rest (y' : Ev) (hb : y.BooksOnly y') (hline : z.goesOn y' m) (hprof' : (y'.line m).profile = (z.line m).profile)
      (habout : y.about m = [] ∨ y.about m = [.ended m q.cls]) : z.unasked y' m := by
    refine ⟨by rw [hb.undecided]; exact hund, hline, hprof', .inr ⟨by rw [hb.valve]; exact hp, ?_⟩⟩
    rw [Ev.about_congr hb.reports]
    exact habout.imp id fun h => ⟨q, hzq, hat, .inr h⟩
  rcases hq with hq | hq
  · obtain ⟨rfl, htail⟩ := List.cons.inj hq
    have settled : z.unasked (y.settleArrival m q.target) m := by
      refine rest _ (Ev.settleArrival_booksOnly y m _) ?_ ?_ (.inr htail)
      · rw [Ev.goesOn, Ev.settleArrival_line]; exact hgo
      · rw [Ev.settleArrival_line]; exact hprof
    cases hcq : q.cls with
    | close => exact absurd hcq hq0
    | throttle => exact settled
    | opening =>
      simp only [Ev.handleReport]
      split
      · next hs =>
        obtain ⟨b, hb⟩ := Ev.enterProving_line y m
        refine rest _ (Ev.enterProving_booksOnly y m) (.inr ⟨?_, by rw [hb], q, hzq, hcq, hat⟩) (by rw [hb]; exact hprof)
          (.inr htail)
        rcases hgo with hl | ⟨-, hst, -⟩
        · rw [← hl]; exact hs
        · have hst : (y.line m).state = .proving := hst
          rw [hs] at hst; cases hst
      · exact settled
  · obtain ⟨rfl, htail⟩ := List.cons.inj hq
    cases hcq : q.cls with
    | close => exact absurd hcq hq0
    | throttle => exact rest y (.refl y) hgo hprof (.inl htail)
    | opening => exact rest y (.refl y) hgo hprof (.inl htail)

end Sys2Proof.Machine
end

section
/-! The panel reply (R138, R139, R141, R156, R162, R169): what is stored, and what its flags and words do to the lines, in
whichever order its acts are taken. -/

namespace Sys2Proof.Machine
variable {e e' e'' x y z : Ev} {l m : LineId} {g : Ground} {s u v : State} {c : Instr} {t : Time} {p : PanelReply}

/-! ### What is stored -/

theorem Ev.markIf_writes (e : Ev) (b : Bool) (k : NoticeKey) : ∃ d, e.markIf b k = { e with dirty := d } := by
  cases b with
  | false => exact ⟨e.dirty, rfl⟩
  | true => obtain ⟨d, h, -⟩ := Ev.mark_writes e k; exact ⟨d, h⟩

theorem Ev.takeWord_writes (e : Ev) (g : GradeId) (w : ShipWord) :
    ∃ d, e.takeWord g w = { e with grades := e.grades.set g ((e.grade g).take w), dirty := d } :=
  Ev.markIf_writes (e.modGrade g (fun x => x.take w)) _ (.terms g)

/-- The grade record to which a panel reply hands its word: of a link that was DOWN, a WAITING one (R141, R158). -/
def State.offered (s : State) (g : GradeId) : Grade := if s.link.state = .down then waitingGrade (s.grade g) else s.grade g

/-- The word of a panel reply for a grade (R156). -/
def PanelReply.word (p : PanelReply) : GradeId → ShipWord
  | .g1 => judgeWord .g1 p.word1
  | .g2 => judgeWord .g2 p.word2

/-- The grades whose agreement a panel reply ends (R162). -/
def State.endedGrades (s : State) (p : PanelReply) : List GradeId :=
  (if (s.offered .g1).withdrawn (p.word .g1) then [GradeId.g1] else []) ++
    (if (s.offered .g2).withdrawn (p.word .g2) then [GradeId.g2] else [])

/-- The link after a panel reply (R138, R141). -/
def Link.replied (x : Link) (p : PanelReply) (now : Time) : Link :=
  { x with
    missCount := 0, panel := some p, state := if x.state = .down then .silent else x.state,
    silenceStart := if x.state = .down then some now else x.silenceStart }

/-- The SHIP clear run after a panel reply (R169). -/
def State.nextRun (s : State) (p : PanelReply) : Nat :=
  if p.shipEsd then 0 else if s.link.state = .up then min (s.shut.shipRun + 1) 3 else 0

/-- A panel reply stores itself, counts and judges, and then acts. -/
theorem Ev.panelReply_writes (e : Ev) (p : PanelReply) : ∃ gs d, e.panelReply p = Ev.panelActsDo { e with
      link := e.link.replied p e.now, shut := { e.shut with shipRun := e.nextRun p }, grades := gs, dirty := d }
    (panelActs p (e.endedGrades p)) (e.endedGrades p) ∧ ∀ g, gs.get g = (e.offered g).take (p.word g) := by
  -- the link and the grades before the reply itself is taken
  have opened : ∃ gs d, (if e.link.state = .down then e.enterSilent else e) = { e with
      link := { e.link with
        state := if e.link.state = .down then .silent else e.link.state,
        silenceStart := if e.link.state = .down then some e.now else e.link.silenceStart },
      shut := { e.shut with shipRun := if e.link.state = .down then 0 else e.shut.shipRun },
      grades := gs, dirty := d } ∧ ∀ g, gs.get g = e.offered g := by
    by_cases hd : e.link.state = .down
    · obtain ⟨gs, d, h, hgs, -⟩ := Ev.enterSilent_writes e
      refine ⟨gs, d, ?_, fun g => ?_⟩
      · simp only [hd, if_true]; exact h
      · rw [hgs, State.offered, if_pos hd]
    · refine ⟨e.grades, e.dirty, ?_, fun g => ?_⟩
      · simp only [hd, if_false]
      · rw [State.offered, if_neg hd]; rfl
  obtain ⟨gs, d, hopen, hgs⟩ := opened
  have hrun : nextShipRun (if e.link.state = .down then 0 else e.shut.shipRun) (e.link.state == .up) p.shipEsd = e.nextRun p := by
    unfold nextShipRun State.nextRun
    cases e.link.state <;> rfl
  -- the reply stored and counted, its words not yet taken
  generalize hz : ({ e with
      link := e.link.replied p e.now, shut := { e.shut with shipRun := e.nextRun p }, grades := gs } : Ev) = z0
  have stored (b : Bool) : ∃ d', (((Ev.modLink { e with
      link := { e.link with
        state := if e.link.state = .down then .silent else e.link.state,
        silenceStart := if e.link.state = .down then some e.now else e.link.silenceStart },
      shut := { e.shut with shipRun := if e.link.state = .down then 0 else e.shut.shipRun },
      grades := gs, dirty := d } (fun x => { x with missCount := 0, panel := some p })).markIf b .link).modShut
        (fun x => { x with shipRun := nextShipRun x.shipRun (e.link.state == .up) p.shipEsd })) = { z0 with dirty := d' } := by
    obtain ⟨d', h⟩ := Ev.markIf_writes (Ev.modLink { e with
      link := { e.link with
        state := if e.link.state = .down then .silent else e.link.state,
        silenceStart := if e.link.state = .down then some e.now else e.link.silenceStart },
      shut := { e.shut with shipRun := if e.link.state = .down then 0 else e.shut.shipRun },
      grades := gs, dirty := d } (fun x => { x with missCount := 0, panel := some p })) b .link
    refine ⟨d', ?_⟩
    rw [h, ← hz, ← hrun]
    rfl
  obtain ⟨d1, h1⟩ := stored (match e.link.panel with
    | some q => !sameFlags p q
    | none => true)
  obtain ⟨d2, h2⟩ := Ev.takeWord_writes { z0 with dirty := d1 } .g1 (p.word .g1)
  obtain ⟨d3, h3⟩ := Ev.takeWord_writes (Ev.takeWord { z0 with dirty := d1 } .g1 (p.word .g1)) .g2 (p.word .g2)
  have hg (g : GradeId) : z0.grade g = e.offered g := by rw [← hgs, ← hz]; rfl
  have hended : (if (z0.grade .g1).withdrawn (judgeWord .g1 p.word1) then [GradeId.g1] else []) ++
      (if (z0.grade .g2).withdrawn (judgeWord .g2 p.word2) then [GradeId.g2] else []) = e.endedGrades p := by
    rw [hg, hg]; rfl
  refine ⟨(z0.grades.set .g1 ((z0.grade .g1).take (p.word .g1))).set .g2 ((z0.grade .g2).take (p.word .g2)), d3, ?_, fun g => ?_⟩
  · unfold Ev.panelReply
    rw [hopen]
    refine (congrArg (fun y : Ev => Ev.panelActsDo ((y.takeWord .g1 (p.word .g1)).takeWord .g2 (p.word .g2))
      (panelActs p ((if (y.grade .g1).withdrawn (judgeWord .g1 p.word1) then [GradeId.g1] else []) ++
        (if (y.grade .g2).withdrawn (judgeWord .g2 p.word2) then [GradeId.g2] else [])))
      ((if (y.grade .g1).withdrawn (judgeWord .g1 p.word1) then [GradeId.g1] else []) ++
        (if (y.grade .g2).withdrawn (judgeWord .g2 p.word2) then [GradeId.g2] else []))) h1).trans ?_
    dsimp only
    rw [h3, h2, show (({ z0 with dirty := d1 } : Ev).grade .g1) = z0.grade .g1 from rfl,
      show (({ z0 with dirty := d1 } : Ev).grade .g2) = z0.grade .g2 from rfl, hended, ← hz]
    rfl
  · cases g
    · exact congrArg (fun x : Grade => x.take (p.word .g1)) (hg .g1)
    · exact congrArg (fun x : Grade => x.take (p.word .g2)) (hg .g2)

end Sys2Proof.Machine
end

section
/-! The acts of a panel reply (R139, R162): what each does to a line, and what they leave whichever is taken first. -/

namespace Sys2Proof.Machine
variable {e e' e'' x y z : Ev} {l m : LineId} {g : Ground} {s u v : State} {c : Instr} {t : Time} {p : PanelReply}
  {gs : List GradeId} {K P Q : Ev → Prop}

/-! ### Folds -/

theorem foldl_keeps {α : Type} {f : Ev → α → Ev} {as : List α} (h : ∀ a ∈ as, ∀ x, P x → P (f x a)) (h0 : P e) :
    P (as.foldl f e) := by
  induction as generalizing e with
  | nil => exact h0
  | cons a as ih => exact ih (fun b hb => h b (List.mem_cons_of_mem _ hb)) (h a List.mem_cons_self e h0)

/-- What one member of a fold brings about, what holds before it being kept until then and the result after it, holds at the end. -/
theorem foldl_reaches {α : Type} {f : Ev → α → Ev} {as : List α} {a : α} (ha : a ∈ as)
    (hP : ∀ b ∈ as, b ≠ a → ∀ x, P x → P (f x b)) (hturn : ∀ x, P x → Q (f x a)) (hQ : ∀ b ∈ as, ∀ x, Q x → Q (f x b))
    (h0 : P e) : Q (as.foldl f e) := by
  induction as generalizing e with
  | nil => cases ha
  | cons b bs ih =>
    have hQ' : ∀ d ∈ bs, ∀ x, Q x → Q (f x d) := fun d hd => hQ d (List.mem_cons_of_mem _ hd)
    by_cases hb : b = a
    · subst hb
      exact foldl_keeps (as := bs) hQ' (hturn e h0)
    · exact ih ((List.mem_cons.mp ha).resolve_left (Ne.symm hb)) (fun d hd => hP d (List.mem_cons_of_mem _ hd)) hQ'
        (hP b List.mem_cons_self hb e h0)

/-! ### The acts -/

/-- The acts of a reply are done in some order, a free value apart. -/
theorem Ev.panelActsDo_eq (e : Ev) (acts : List PanelAct) (gs : List GradeId) : ∃ (n : Nat) (as : List PanelAct),
    e.panelActsDo acts gs = as.foldl (fun x a => x.panelAct gs a) { e with freeCtr := n } ∧ ∀ a, a ∈ as ↔ a ∈ acts := by
  have all (n : Nat) (a : PanelAct) : a ∈ actOrder n := by
    unfold actOrder
    split <;> cases a <;> decide
  unfold Ev.panelActsDo
  split
  · exact ⟨e.freeCtr, acts, rfl, fun _ => Iff.rfl⟩
  · exact ⟨_, _, rfl, fun a => by simp [all]⟩

theorem mem_panelActs : (PanelAct.esd ∈ panelActs p gs ↔ p.shipEsd = true) ∧
    (PanelAct.stop ∈ panelActs p gs ↔ p.shipStop = true) ∧ (PanelAct.terms ∈ panelActs p gs ↔ gs ≠ []) := by
  refine ⟨?_, ?_, ?_⟩ <;> unfold panelActs <;> cases p.shipEsd <;> cases p.shipStop <;> cases gs <;> simp

theorem Ev.panelAct_stop (e : Ev) (gs : List GradeId) : e.panelAct gs .stop = e.closeAll .hold (some .shipStop) none := rfl

theorem Ev.holdGrade_eq (e : Ev) (g : GradeId) : e.holdGrade g = e.eachLine (fun l x =>
    if x.gradeOfLine l = some g then x.closeFlowing l .hold (some .termsChanged) none else x) := rfl

/-- The turns of a grade's lines keep what every line's closing keeps. -/
theorem Ev.eachLine_keeps {f : LineId → Ev → Ev} (h : ∀ l x, P x → P (f l x)) (h0 : P e) : P (e.eachLine f) :=
  h _ _ (h _ _ (h _ _ (h _ _ h0)))

/-- What the closing of any line for reason HOLD keeps, the acts but the ESD keep. -/
theorem Ev.panelAct_keeps (hk : ∀ m why x, why = .shipStop ∨ why = .termsChanged → K x →
    K (x.closeFlowing m .hold (some why) none)) (a : PanelAct) (ha : a ≠ .esd)
    (h : K e) : K (e.panelAct gs a) := by
  cases a with
  | esd => exact absurd rfl ha
  | stop => exact Ev.eachLine_keeps (fun m x hx => hk m .shipStop x (.inl rfl) hx) h
  | terms =>
    refine foldl_keeps (fun g _ x hx => Ev.eachLine_keeps (fun m y hy => ?_) hx) h
    split
    · exact hk m .termsChanged y (.inr rfl) hy
    · exact hy

/-- What the closing of any other line keeps, the ending of other grades' agreements keeps. -/
theorem Ev.terms_keeps (hk : ∀ m x, m ≠ l → K x → K (x.closeFlowing m .hold (some .termsChanged) none))
    (hg : ∀ x, K x → ∀ g ∈ gs, x.gradeOfLine l ≠ some g) (h : K e) : K (e.panelAct gs .terms) := by
  refine foldl_keeps (fun g hgs x hx => Ev.eachLine_keeps (fun m y hy => ?_) hx) h
  split
  · next hm =>
    refine hk m y ?_ hy
    rintro rfl
    exact hg y hy g hgs hm
  · exact hy

theorem State.gradeOfLine_of_ground {y z : State} (h : z.ground = y.ground) (l : LineId) : z.gradeOfLine l = y.gradeOfLine l := by
  rw [State.gradeOfLine, State.gradeOfLine, show (z.line l).profile = (y.line l).profile from Machine.profile_of_ground h l]

theorem Ev.panelAct_calm (h : e.calm g) (gs : List GradeId) (a : PanelAct) : (e.panelAct gs a).calm g := by
  cases a with
  | esd => exact Ev.raiseCause_calm .ship h
  | stop => exact Ev.panelAct_keeps (K := fun x => x.calm g) (fun m why x _ hx => Ev.closeFlowing_calm hx _ _ _ _) _ nofun h
  | terms => exact Ev.panelAct_keeps (K := fun x => x.calm g) (fun m why x _ hx => Ev.closeFlowing_calm hx _ _ _ _) _ nofun h

theorem Ev.panelAct_ground (e : Ev) (gs : List GradeId) (a : PanelAct) : (e.panelAct gs a).ground = e.ground := by
  have hk (b : PanelAct) (hb : b ≠ .esd) : (e.panelAct gs b).ground = e.ground :=
    Ev.panelAct_keeps (K := fun x => x.ground = e.ground) (fun m _ x _ hx => (Ev.closeFlowing_ground x m).trans hx) b hb rfl
  cases a with
  | esd => exact Ev.raiseCause_ground e .ship
  | stop => exact hk _ nofun
  | terms => exact hk _ nofun

/-! ### The causes -/

/-- The causes after SHIP has been raised at time `t`, unless it was in the set (R169). -/
def CauseSet.shipRaised (x : CauseSet) (t : Time) : CauseSet := if x.ship.isSome then x else x.add .ship t

theorem CauseSet.shipRaised_ship (x : CauseSet) (t : Time) : (x.shipRaised t).ship = some (x.ship.getD t) := by
  unfold CauseSet.shipRaised
  cases hx : x.ship with
  | some t0 => simp [hx]
  | none => rfl

theorem Ev.raiseShip_causes (e : Ev) : (e.raiseCause .ship).shut.causes = e.shut.causes.shipRaised e.now := by
  cases hx : e.shut.causes.ship with
  | some t0 =>
    rw [Ev.raiseCause_old e .ship (by change e.shut.causes.ship.isSome = true; rw [hx]; rfl), CauseSet.shipRaised, if_pos (by
      rw [hx]; rfl)]
  | none => rw [Ev.raiseCause_causes (w := .ship) e hx, CauseSet.shipRaised, if_neg (by rw [hx]; nofun)]

/-- The acts but the ESD leave the causes. -/
theorem Ev.panelAct_causes (a : PanelAct) (ha : a ≠ .esd) : (e.panelAct gs a).shut.causes = e.shut.causes :=
  Ev.panelAct_keeps (K := fun x => x.shut.causes = e.shut.causes)
    (fun m _ x _ hx => (Ev.closeFlowing_causes x m).trans hx) a ha rfl

/-! ### The lines -/

/-- The ESD among the acts: whichever goes first, the line ends up closing for ESD (R139). -/
theorem Ev.closeFlowing_hold (why : HoldReason) (m : LineId)
    (h : e.flowing l = true ∨ (e.line l).state = .closing ∧ (e.line l).closeReason = some .hold ∧ (e.line l).throttle = 0) :
    let e' := e.closeFlowing m .hold (some why) none
    e'.flowing l = true ∨ (e'.line l).state = .closing ∧ (e'.line l).closeReason = some .hold ∧ (e'.line l).throttle = 0 := by
  by_cases hm : l = m
  · subst hm
    rcases h with hf | h
    · obtain ⟨h1, h2, -, h4, -⟩ := Ev.closeFlowing_closesWith (reason := .hold) (hold := some why) (cause := none) hf
      exact .inr ⟨h1, h2, h4⟩
    · refine .inr ?_
      rw [Ev.closeFlowing, if_neg (by rw [State.flowing, h.1]; nofun)]
      exact h
  · have hline : (e.closeFlowing m .hold (some why) none).line l = e.line l := congrArg Prod.fst (Ev.closeFlowing_lane e hm)
    dsimp only
    rw [State.flowing_of_line hline, hline]
    exact h

/-- A line that closes stays as it is while other lines close. -/
theorem Ev.closeFlowing_line_of_not_flowing {reason : CloseReason} {hold : Option HoldReason} {cause : Option TripCause}
    (m : LineId) (h : e.flowing l = false) : (e.closeFlowing m reason hold cause).line l = e.line l := by
  by_cases hm : l = m
  · subst hm; rw [Ev.closeFlowing, if_neg (by rw [h]; nofun)]
  · exact congrArg Prod.fst (Ev.closeFlowing_lane e hm)

theorem State.closesWith.not_flowing {reason : CloseReason} {hold : Option HoldReason} {cause : Option TripCause}
    (h : s.closesWith l reason hold cause) : s.flowing l = false := by
  rw [State.flowing, h.1]; rfl

theorem Ev.closeFlowing_keeps_closesWith {reason reason' : CloseReason} {hold hold' : Option HoldReason}
    {cause cause' : Option TripCause} (m : LineId) (h : e.toState.closesWith l reason hold cause) :
    (e.closeFlowing m reason' hold' cause').toState.closesWith l reason hold cause :=
  State.closesWith_of_line (Ev.closeFlowing_line_of_not_flowing m h.not_flowing) h

/-- A line that closes for another reason takes reason ESD when a cause is raised anew (R89, R170). -/
theorem Ev.raiseCause_retrips {w : EsdCause} (hx : e.shut.causes.get w = none) (hs : (e.line l).state = .closing)
    (hr : (e.line l).closeReason ≠ some .esd) (ht : (e.line l).throttle = 0) :
    (e.raiseCause w).toState.closesWith l .esd none (some .esd) := by
  refine Ev.raiseCause_at (Q := fun y => y.toState.closesWith l .esd none (some .esd)) hx l
    (fun y z hz hy => State.closesWith_of_line (congrArg Prod.fst hz) hy) fun y hy => ?_
  have hline : y.line l = e.line l := congrArg Prod.fst hy
  rw [Ev.esdToLine, if_neg (by rw [State.flowing, hline, hs]; nofun), if_pos (by rw [hline]; exact ⟨hs, hr⟩)]
  obtain ⟨r, hr, hl⟩ := Ev.retripClosing_lines y l .esd .esd
  have hnew : (y.retripClosing l .esd .esd).line l =
      { y.line l with trip := some r, closeReason := some .esd, holdReason := none } := by
    rw [State.line, hl, Quad.get_set_same]
  rw [State.closesWith, hnew, hline]
  refine ⟨hs, rfl, rfl, ht, fun x hx => ?_⟩
  cases hx
  exact congrArg some hr

theorem Ev.raiseCause_not_flowing {w : EsdCause} (h : e.flowing l = false) : (e.raiseCause w).flowing l = false := by
  cases hx : e.shut.causes.get w with
  | some t0 => rw [Ev.raiseCause_old e w (by rw [hx]; rfl)]; exact h
  | none => exact (Ev.raiseCause_isShut_at e hx l).1

/-- No act makes a line flow. -/
theorem Ev.panelAct_not_flowing (a : PanelAct) (h : e.flowing l = false) : (e.panelAct gs a).flowing l = false := by
  have hk (b : PanelAct) (hb : b ≠ .esd) : (e.panelAct gs b).flowing l = false :=
    Ev.panelAct_keeps (K := fun x => x.flowing l = false) (fun m _ x _ hx => by
      rw [State.flowing_of_line (Ev.closeFlowing_line_of_not_flowing m hx)]; exact hx) b hb h
  cases a with
  | esd => exact Ev.raiseCause_not_flowing h
  | stop => exact hk _ nofun
  | terms => exact hk _ nofun

/-- The acts but the ESD leave a close as it is. -/
theorem Ev.panelAct_keeps_closesWith {reason : CloseReason} {hold : Option HoldReason} {cause : Option TripCause}
    (a : PanelAct) (ha : a ≠ .esd) (h : e.toState.closesWith l reason hold cause) :
    (e.panelAct gs a).toState.closesWith l reason hold cause :=
  Ev.panelAct_keeps (K := fun x => x.toState.closesWith l reason hold cause)
    (fun m _ _ _ hx => Ev.closeFlowing_keeps_closesWith m hx) a ha h

/-- A flowing line whose grade's agreement the reply ends closes with TERMS_CHANGED (R162). -/
theorem Ev.terms_closesWith {g : GradeId} (hg : g ∈ gs) (hl : e.gradeOfLine l = some g) (hf : e.flowing l = true) :
    (e.panelAct gs .terms).toState.closesWith l .hold (some .termsChanged) none := by
  have kept (m : LineId) (y : Ev) (hml : l ≠ m) (hy : y.gradeOfLine l = some g ∧ y.flowing l = true) :
      (y.holdLine m .termsChanged).gradeOfLine l = some g ∧ (y.holdLine m .termsChanged).flowing l = true :=
    ⟨(State.gradeOfLine_of_ground (Ev.closeFlowing_ground y m) l).trans hy.1,
      (State.flowing_of_line (congrArg Prod.fst (Ev.closeFlowing_lane y hml))).trans hy.2⟩
  refine foldl_reaches (P := fun x => x.gradeOfLine l = some g ∧ x.flowing l = true)
    (Q := fun x => x.toState.closesWith l .hold (some .termsChanged) none) hg (fun g' _ hne x hx => ?_) (fun x hx => ?_)
    (fun g' _ x hx => ?_) ⟨hl, hf⟩
  · refine Ev.eachLine_keeps (P := fun x => x.gradeOfLine l = some g ∧ x.flowing l = true) (fun m y hy => ?_) hx
    split
    · next hm =>
      have hml : l ≠ m := by
        rintro rfl
        exact hne (Option.some.inj (hm.symm.trans hy.1))
      exact kept m y hml hy
    · exact hy
  · refine Ev.eachLine_at (P := fun x => x.gradeOfLine l = some g ∧ x.flowing l = true)
      (Q := fun x => x.toState.closesWith l .hold (some .termsChanged) none) _ l hx (fun m y hm hy => ?_) (fun y hy => ?_)
      fun m y hm hy => ?_
    · split
      · exact kept m y hm.symm hy
      · exact hy
    · rw [if_pos hy.1]; exact Ev.closeFlowing_closesWith hy.2
    · split
      · exact Ev.closeFlowing_keeps_closesWith m hy
      · exact hy
  · refine Ev.eachLine_keeps (P := fun x => x.toState.closesWith l .hold (some .termsChanged) none) (fun m y hy => ?_) hx
    split
    · exact Ev.closeFlowing_keeps_closesWith m hy
    · exact hy

/-! ### What a panel reply leaves at once -/

theorem State.mem_endedGrades (s : State) (p : PanelReply) (g : GradeId) : g ∈ s.endedGrades p ↔
    s.link.state ≠ .down ∧ (s.grade g).agreement = .agreed ∧ (s.grade g).keeps (p.word g) = false := by
  have hmem : g ∈ s.endedGrades p ↔ (s.offered g).withdrawn (p.word g) = true := by
    unfold State.endedGrades
    cases g <;> simp
  have hwithdrawn (x : Grade) : x.withdrawn (p.word g) = true ↔ x.agreement = .agreed ∧ x.keeps (p.word g) = false := by
    simp [Grade.withdrawn]
  rw [hmem, hwithdrawn, State.offered]
  by_cases hd : s.link.state = .down
  · rw [if_pos hd]
    refine ⟨fun ⟨h, _⟩ => ?_, fun ⟨h, _⟩ => absurd hd h⟩
    by_cases hu : (s.grade g).agreement = .undeclared
    · rw [waitingGrade, if_pos hu, hu] at h; cases h
    · rw [waitingGrade_agreement hu] at h; cases h
  · rw [if_neg hd]
    exact ⟨fun h => ⟨hd, h⟩, fun h => h.2⟩

/-- What the acts of a panel reply `p`, which ends the agreements of `gs`, leave of the state `s` in which they are done. -/
structure Ev.PanelDone (s y : Ev) (p : PanelReply) (gs : List GradeId) : Prop where
  causes : y.shut.causes = if p.shipEsd then s.shut.causes.shipRaised s.now else s.shut.causes
  still : p.shipEsd = true ∧ s.shut.causes.ship = none ∨ p.shipStop = true → ∀ l, y.flowing l = false
  esd : p.shipEsd = true → s.shut.causes.ship = none → ∀ l, s.flowing l = true → y.closesWith l .esd none (some .esd)
  stop : p.shipEsd = false → p.shipStop = true → ∀ l, s.flowing l = true → (∀ g ∈ gs, s.gradeOfLine l ≠ some g) →
    y.closesWith l .hold (some .shipStop) none
  terms : p.shipEsd = false → p.shipStop = false → ∀ l, s.flowing l = true → (∃ g ∈ gs, s.gradeOfLine l = some g) →
    y.closesWith l .hold (some .termsChanged) none
  both : p.shipEsd = false → p.shipStop = true → ∀ l, s.flowing l = true →
    y.closesWith l .hold (some .shipStop) none ∨ y.closesWith l .hold (some .termsChanged) none
  aside : p.shipEsd = false → p.shipStop = false → ∀ l, (∀ g ∈ gs, s.gradeOfLine l ≠ some g) → s.Aside y l

theorem Ev.panelActs_done (s : Ev) {as : List PanelAct} (gs : List GradeId)
    (hmem : ∀ a, a ∈ as ↔ a ∈ panelActs p gs) : s.PanelDone (as.foldl (fun x a => x.panelAct gs a) s) p gs := by
  have hesd : PanelAct.esd ∈ as ↔ p.shipEsd = true := (hmem _).trans mem_panelActs.1
  have hstop : PanelAct.stop ∈ as ↔ p.shipStop = true := (hmem _).trans mem_panelActs.2.1
  have hterms : PanelAct.terms ∈ as ↔ gs ≠ [] := (hmem _).trans mem_panelActs.2.2
  have noEsd (h : p.shipEsd = false) : ∀ a ∈ as, a ≠ .esd := by
    rintro a ha rfl
    rw [hesd.mp ha] at h; cases h
  have noStop (h : p.shipStop = false) : ∀ a ∈ as, a ≠ .stop := by
    rintro a ha rfl
    rw [hstop.mp ha] at h; cases h
  refine ⟨?_, fun h => ?_, fun h hx l hf => ?_, fun h h' l hf hg => ?_, fun h h' l hf hg => ?_, fun h h' l hf => ?_,
    fun h h' l hg => ?_⟩
  · cases h : p.shipEsd with
    | true =>
      refine foldl_reaches (P := fun x => x.shut.causes = s.shut.causes ∧ x.now = s.now)
        (Q := fun x => x.shut.causes = s.shut.causes.shipRaised s.now) (hesd.mpr h) (fun b _ hb x hx => ?_) (fun x hx => ?_)
        (fun b _ x hx => ?_) ⟨rfl, rfl⟩
      · exact ⟨(Ev.panelAct_causes b hb).trans hx.1,
          (now_of_ground (y := x.toState) (Ev.panelAct_ground x gs b)).trans hx.2⟩
      · exact (Ev.raiseShip_causes x).trans (by rw [hx.1, hx.2])
      · by_cases hb : b = .esd
        · subst hb
          refine (Ev.raiseShip_causes x).trans ?_
          rw [hx, CauseSet.shipRaised, if_pos (by rw [CauseSet.shipRaised_ship]; rfl)]
        · exact (Ev.panelAct_causes b hb).trans hx
    | false =>
      exact foldl_keeps (P := fun x => x.shut.causes = s.shut.causes)
        (fun a ha x hx => (Ev.panelAct_causes a (noEsd h a ha)).trans hx) rfl
  · have kept : ∀ b ∈ as, ∀ x : Ev, (∀ l, x.flowing l = false) → ∀ l, (x.panelAct gs b).flowing l = false :=
      fun b _ x hx l => Ev.panelAct_not_flowing b (hx l)
    rcases h with ⟨h, hx⟩ | h
    · exact foldl_reaches (P := fun x => x.shut.causes.ship = none) (Q := fun x => ∀ l, x.flowing l = false) (hesd.mpr h)
        (fun b _ hb x hx => by rw [Ev.panelAct_causes b hb]; exact hx)
        (fun x hx l => (Ev.raiseCause_isShut_at (w := .ship) x hx l).1) kept hx
    · exact foldl_reaches (P := fun _ => True) (Q := fun x => ∀ l, x.flowing l = false) (hstop.mpr h) (fun _ _ _ _ h => h)
        (fun x _ l => Ev.closeAll_flowing x l) kept trivial
  · refine (foldl_reaches (P := fun x => x.shut.causes.ship = none ∧ (x.flowing l = true ∨
        (x.line l).state = .closing ∧ (x.line l).closeReason = some .hold ∧ (x.line l).throttle = 0))
      (Q := fun x => x.shut.causes.ship.isSome = true ∧ x.toState.closesWith l .esd none (some .esd)) (hesd.mpr h)
      (fun b _ hb x hx => ?_) (fun x hx => ⟨?_, ?_⟩) (fun b _ x hx => ?_) ⟨hx, .inl hf⟩).2
    · refine Ev.panelAct_keeps (K := fun x => x.shut.causes.ship = none ∧ (x.flowing l = true ∨
        (x.line l).state = .closing ∧ (x.line l).closeReason = some .hold ∧ (x.line l).throttle = 0))
        (fun m why y _ hy => ⟨?_, Ev.closeFlowing_hold why m hy.2⟩) b hb hx
      rw [Ev.closeFlowing_causes]; exact hy.1
    · rw [show (x.panelAct gs .esd).shut.causes = x.shut.causes.shipRaised x.now from Ev.raiseShip_causes x,
        CauseSet.shipRaised_ship]
      rfl
    · rcases hx.2 with hf | ⟨h1, h2, h3⟩
      · exact Ev.raiseCause_closesWith (w := .ship) hx.1 hf
      · exact Ev.raiseCause_retrips (w := .ship) hx.1 h1 (by rw [h2]; nofun) h3
    · by_cases hb : b = .esd
      · subst hb
        rw [show x.panelAct gs .esd = x from Ev.raiseCause_old x .ship hx.1]
        exact hx
      · exact ⟨by rw [Ev.panelAct_causes b hb]; exact hx.1, Ev.panelAct_keeps_closesWith b hb hx.2⟩
  · refine foldl_reaches (P := fun x => x.ground = s.ground ∧ x.flowing l = true)
      (Q := fun x => x.toState.closesWith l .hold (some .shipStop) none) (hstop.mpr h') (fun b hb hne x hx => ?_)
      (fun x hx => Ev.closeAll_closesWith hx.2) (fun b hb x hx => Ev.panelAct_keeps_closesWith b (noEsd h b hb) hx) ⟨rfl, hf⟩
    have hb' : b = .terms := by
      cases b with
      | esd => exact absurd rfl (noEsd h _ hb)
      | stop => exact absurd rfl hne
      | terms => rfl
    subst hb'
    refine Ev.terms_keeps (l := l) (K := fun x => x.ground = s.ground ∧ x.flowing l = true) (fun m y hm hy => ?_)
      (fun y hy g hgs => ?_) hx
    · exact ⟨(Ev.closeFlowing_ground y m).trans hy.1,
        (State.flowing_of_line (congrArg Prod.fst (Ev.closeFlowing_lane y hm.symm))).trans hy.2⟩
    · rw [State.gradeOfLine_of_ground hy.1]; exact hg g hgs
  · obtain ⟨g, hgs, hl⟩ := hg
    have only : ∀ b ∈ as, b = .terms := fun b hb => by
      cases b with
      | esd => exact absurd rfl (noEsd h _ hb)
      | stop => exact absurd rfl (noStop h' _ hb)
      | terms => rfl
    exact foldl_reaches (P := fun x => x.gradeOfLine l = some g ∧ x.flowing l = true)
      (Q := fun x => x.toState.closesWith l .hold (some .termsChanged) none) (hterms.mpr (List.ne_nil_of_mem hgs))
      (fun b hb hne => absurd (only b hb) hne) (fun x hx => Ev.terms_closesWith hgs hx.1 hx.2)
      (fun b hb x hx => Ev.panelAct_keeps_closesWith b (noEsd h b hb) hx) ⟨hl, hf⟩
  · have hk (m : LineId) (why : HoldReason) (x : Ev) (hwhy : why = .shipStop ∨ why = .termsChanged)
        (hx : x.flowing l = true ∨ (x.toState.closesWith l .hold (some .shipStop) none ∨
          x.toState.closesWith l .hold (some .termsChanged) none)) :
        let y := x.closeFlowing m .hold (some why) none
        y.flowing l = true ∨ (y.toState.closesWith l .hold (some .shipStop) none ∨
          y.toState.closesWith l .hold (some .termsChanged) none) := by
      rcases hx with hf | hc | hc
      · by_cases hm : l = m
        · subst hm
          rcases hwhy with rfl | rfl
          · exact .inr (.inl (Ev.closeFlowing_closesWith hf))
          · exact .inr (.inr (Ev.closeFlowing_closesWith hf))
        · exact .inl ((State.flowing_of_line (congrArg Prod.fst (Ev.closeFlowing_lane x hm))).trans hf)
      · exact .inr (.inl (Ev.closeFlowing_keeps_closesWith m hc))
      · exact .inr (.inr (Ev.closeFlowing_keeps_closesWith m hc))
    refine foldl_reaches (P := fun x => x.flowing l = true ∨ (x.toState.closesWith l .hold (some .shipStop) none ∨
        x.toState.closesWith l .hold (some .termsChanged) none))
      (Q := fun x => x.toState.closesWith l .hold (some .shipStop) none ∨
        x.toState.closesWith l .hold (some .termsChanged) none) (hstop.mpr h')
      (fun b hb _ x hx => Ev.panelAct_keeps hk b (noEsd h b hb) hx) (fun x hx => ?_) (fun b hb x hx => ?_) (.inl hf)
    · rcases hx with hf | hc
      · exact .inl (Ev.closeAll_closesWith hf)
      · exact hc.imp (Ev.panelAct_keeps_closesWith .stop nofun) (Ev.panelAct_keeps_closesWith .stop nofun)
    · exact hx.imp (Ev.panelAct_keeps_closesWith b (noEsd h b hb)) (Ev.panelAct_keeps_closesWith b (noEsd h b hb))
  · refine foldl_keeps (P := fun x => s.Aside x l) (fun b hb x hx => ?_) (.refl s l)
    cases b with
    | esd => exact absurd rfl (noEsd h _ hb)
    | stop => exact absurd rfl (noStop h' _ hb)
    | terms =>
      refine Ev.terms_keeps (l := l) (K := fun x => s.Aside x l) (fun m y hm hy => hy.trans (Ev.closeFlowing_aside y hm.symm))
        (fun y hy g hgs => ?_) hx
      have hprof : (y.line l).profile = (s.line l).profile := congrArg (fun q : Lane => q.1.profile) hy.lane
      rw [State.gradeOfLine, hprof]
      exact hg g hgs

end Sys2Proof.Machine
end

section
/-! The panel reply and the misses, settled. -/

namespace Sys2Proof.Machine
variable {l : LineId} {s v : State} {t : Time} {p : PanelReply}

/-- The event of a panel reply once it has been stored, its acts to come. -/
def panelStored (s : State) (t : Time) (slots : List Slot) (p : PanelReply) (gs : Grades) (d : List NoticeKey) : Ev :=
  { pollDecided s t .hunt slots with
    link := (pollDecided s t .hunt slots).link.replied p t, shut := { s.shut with shipRun := s.nextRun p }, grades := gs,
    dirty := d }

/-- The event of a panel reply that answers its poll: the reply stored, then its acts, in some order. -/
theorem panelReply_effect {q : Poll} {flags : Byte} {w1 w2 : WireWord} (hq : s.link.poll = some q) (hk : q.kind = .panel)
    (ht : elapsed t q.start < 30) : ∃ (b : Ev) (as : List PanelAct) (op : Ev → Ev),
      let p := panelReplyOf flags w1 w2
      exec (.panelReply t flags w1 w2) s = event t s op ∧
      op (begin t s) = as.foldl (fun x a => x.panelAct (s.endedGrades p) a) b ∧
      (∀ a, a ∈ as ↔ a ∈ panelActs p (s.endedGrades p)) ∧
      (∀ g, b.grade g = (s.offered g).take (p.word g)) ∧ b.reports = [] ∧ b.undecided = [] ∧
      b.link.panel = some p ∧ b.link.missCount = 0 ∧ b.link.poll = none ∧
      b.link.state = (if s.link.state = .down then .silent else s.link.state) ∧
      b.link.silenceStart = (if s.link.state = .down then some t else s.link.silenceStart) ∧
      b.shut.shipRun = s.nextRun p ∧ b.shut.causes = s.shut.causes ∧ b.now = t ∧ b.pending = s.pending ∧
      b.lines = s.lines ∧ b.valves = s.valves := by
  have htimeout : elapsed t q.start < q.timeout := by rw [Poll.timeout, hk]; exact ht
  have hframe : (begin t s).shipHunt.panelFrame (panelReplyOf flags w1 w2) =
      ((begin t s).shipHunt.closePoll q .pending).panelReply (panelReplyOf flags w1 w2) := by
    rw [Ev.panelFrame, State.awaiting_eq (s := (begin t s).shipHunt.toState) hq htimeout]
    dsimp only
    rw [hk]
    rfl
  obtain ⟨slots, hpoll⟩ : ∃ slots, (begin t s).shipHunt.closePoll q .pending = pollDecided s t .hunt slots := ⟨_, rfl⟩
  obtain ⟨gs, d, hreply, hgs⟩ := Ev.panelReply_writes (pollDecided s t .hunt slots) (panelReplyOf flags w1 w2)
  obtain ⟨n, as, hacts, hmem⟩ := Ev.panelActsDo_eq (panelStored s t slots (panelReplyOf flags w1 w2) gs d)
    (panelActs (panelReplyOf flags w1 w2) (s.endedGrades (panelReplyOf flags w1 w2)))
    (s.endedGrades (panelReplyOf flags w1 w2))
  refine ⟨{ panelStored s t slots (panelReplyOf flags w1 w2) gs d with freeCtr := n }, as, fun e => e.shipHunt.panelFrame (panelReplyOf flags w1 w2), rfl, ?_, hmem, hgs, rfl, rfl, rfl, rfl, rfl, rfl, rfl,
    rfl, rfl, rfl, rfl, rfl, rfl⟩
  refine hframe.trans ?_
  rw [hpoll, hreply]
  exact hacts

/-- The grade record a word is handed to, as section 7.4 words it. -/
theorem State.offered_eq (s : State) (g : GradeId) : s.offered g =
    if s.link.state = .down ∧ (s.grade g).agreement ≠ .undeclared then (s.grade g).cleared .waiting else s.grade g := by
  unfold State.offered waitingGrade
  by_cases hd : s.link.state = .down
  · by_cases hu : (s.grade g).agreement = .undeclared
    · rw [if_pos hd, if_pos hu, if_neg fun h => h.2 hu]
    · rw [if_pos hd, if_neg hu, if_pos ⟨hd, hu⟩]
  · rw [if_neg hd, if_neg fun h => hd h.1]

/-- Settles O39: the reply is stored and handed on, its acts close or shut down the lines whichever goes first, and a line that
none of them reaches goes through the end of the event as a line that nothing asks. -/
theorem panelReplyIsStoredAndActs : Obligations.PanelReplyIsStoredAndActs := by
  intro s t flags w1 w2
  refine ⟨fun hq => ?_, fun q hq hk ht => ?_⟩
  · have hop : exec (.panelReply t flags w1 w2) s = event t s (fun e => e.shipHunt.panelFrame (panelReplyOf flags w1 w2)) := rfl
    have hnone : (begin t s).shipHunt.awaiting = none := by
      have hq' : (begin t s).shipHunt.link.poll = none := hq
      rw [State.awaiting, hq']
    refine completes_of_effect (begin t s).shipHunt hop ?_ rfl rfl rfl rfl fun v hv => hv
    rw [Ev.panelFrame, hnone]
  obtain ⟨b, as, op, hop, heff, hmem, hgrades, hrep, hund, hpanel, hmiss, hpoll, hstate, hsilence, hrun, hcauses, hnow, hpend,
    hlines, hvalves⟩ := panelReply_effect (flags := flags) (w1 := w1) (w2 := w2) hq hk ht
  have hdone := Ev.panelActs_done b (s.endedGrades (panelReplyOf flags w1 w2)) hmem
  have hcalm : (as.foldl (fun x a => x.panelAct (s.endedGrades (panelReplyOf flags w1 w2)) a) b).calm b.ground :=
    foldl_keeps (P := fun x => x.calm b.ground) (fun a _ x hx => Ev.panelAct_calm hx _ a) (Ev.calm_of _ b rfl hrep)
  generalize as.foldl (fun x a => x.panelAct (s.endedGrades (panelReplyOf flags w1 w2)) a) b = y at heff hdone hcalm
  have hw1 : (panelReplyOf flags w1 w2).word .g1 = judgeWord .g1 w1 := rfl
  have hw2 : (panelReplyOf flags w1 w2).word .g2 = judgeWord .g2 w2 := rfl
  generalize panelReplyOf flags w1 w2 = p at *
  have hground := (Ev.drain_ground y).trans hcalm.1
  refine completes_of_drain y hop heff ((pending_of_ground hcalm.1).trans hpend) ((now_of_ground hcalm.1).trans hnow) fun v hv _ => ?_
  have hline (l : LineId) : b.line l = s.line l := by rw [State.line, State.line, hlines]
  have hflow (l : LineId) : b.flowing l = s.flowing l := State.flowing_of_line (hline l)
  have hvalve (l : LineId) : b.valve l = s.valve l := by rw [State.valve, State.valve, hvalves]
  have hlink : v.link = b.link := by rw [hv.linkGrades.1, link_of_ground hground]
  have hship : v.shut.causes = if p.shipEsd then s.shut.causes.shipRaised t else s.shut.causes := by
    rw [hv.shut, Ev.drain_causes hcalm, hdone.causes, hcauses, hnow]
  have stays {l : LineId} (h : y.flowing l = false) : v.flowing l = false :=
    (State.flowing_of_line (hv.line l)).trans (Ev.drain_flowing hcalm h)
  have closes {l : LineId} {reason : CloseReason} {hold : Option HoldReason} {cause : Option TripCause}
      (hsw : (s.valve l).closedSwitch = false) (h : y.toState.closesWith l reason hold cause) :
      v.closesWith l reason hold cause := by
    refine hv.closesWith (Ev.drain_closesWith hcalm ?_ h)
    rw [closedSwitch_of_ground hcalm.1, hvalve, hsw]
  refine ⟨by rw [hlink, hpanel], by rw [hlink, hmiss], by rw [hlink, hpoll], by rw [hlink, hstate], by rw [hlink, hsilence], ?_,
    fun g => ?_, fun h => ⟨?_, ?_⟩, fun h hx l => stays (hdone.still (.inl ⟨h, hcauses ▸ hx⟩) l),
    fun h l => stays (hdone.still (.inr h) l), fun h => ?_, fun l hf hsw => ?_⟩
  · rw [hv.shut]
    exact (congrArg Ground.shipRun hground).trans hrun
  · rw [hv.grade]
    refine (congrArg (fun x : Ground => x.grades.get g) hground).trans ((hgrades g).trans ?_)
    rw [State.offered_eq]
    cases g
    · rw [hw1]
    · rw [hw2]
  · refine CauseSet.latch_of_get (w := .ship) ?_
    change v.shut.causes.ship.isSome = true
    rw [hship, if_pos h, CauseSet.shipRaised_ship]; rfl
  · rw [hship, if_pos h, CauseSet.shipRaised_ship]
  · rw [hship, if_neg (by rw [h]; nofun)]
  · have hwithdrawn : ((s.gradeOfLine l = some .g1 ∧ s.link.state ≠ .down ∧ (s.grade .g1).agreement = .agreed ∧
          (s.grade .g1).keeps (judgeWord .g1 w1) = false) ∨
        (s.gradeOfLine l = some .g2 ∧ s.link.state ≠ .down ∧ (s.grade .g2).agreement = .agreed ∧
          (s.grade .g2).keeps (judgeWord .g2 w2) = false)) ↔ ∃ g ∈ s.endedGrades p, b.gradeOfLine l = some g := by
      have hgrade : b.gradeOfLine l = s.gradeOfLine l := by rw [State.gradeOfLine, State.gradeOfLine, hline]
      rw [hgrade, ← hw1, ← hw2]
      refine ⟨fun h => ?_, fun ⟨g, hg, hl⟩ => ?_⟩
      · rcases h with ⟨hl, h⟩ | ⟨hl, h⟩
        · exact ⟨.g1, (s.mem_endedGrades p .g1).mpr h, hl⟩
        · exact ⟨.g2, (s.mem_endedGrades p .g2).mpr h, hl⟩
      · have h := (s.mem_endedGrades p g).mp hg
        cases g
        · exact .inl ⟨hl, h⟩
        · exact .inr ⟨hl, h⟩
    have hnone (h : ¬ ∃ g ∈ s.endedGrades p, b.gradeOfLine l = some g) : ∀ g ∈ s.endedGrades p, b.gradeOfLine l ≠ some g :=
      fun g hg hl => h ⟨g, hg, hl⟩
    dsimp only
    rw [hwithdrawn]
    refine ⟨fun h hx => closes hsw (hdone.esd h (hcauses ▸ hx) l ((hflow l).trans hf)),
      fun h h' hn => closes hsw (hdone.stop h h' l ((hflow l).trans hf) (hnone hn)),
      fun h h' hn => closes hsw (hdone.terms h h' l ((hflow l).trans hf) hn),
      fun h h' _ => (hdone.both h h' l ((hflow l).trans hf)).imp (closes hsw) (closes hsw), fun hpc h h' hn => ?_⟩
    have haside := hdone.aside h h' l (hnone hn)
    have hstart : b.unasked b l :=
      ⟨by rw [hund]; nofun, .inl rfl, rfl, .inl ⟨rfl, by rw [Ev.about, hrep]; rfl⟩⟩
    have hcls : ∀ r, (b.valve l).pending = some r → r.cls ≠ .close := fun r hr hcls => by
      rw [hvalve] at hr
      have hphase : s.closePhase l = none := by
        refine if_neg fun hs => ?_
        rw [State.flowing, hs] at hf; cases hf
      rcases hpc l r hr hcls with h | h <;> rw [hphase] at h <;> cases h
    obtain ⟨-, hgo, -⟩ := Ev.drain_unasked hcalm hcls (hstart.aside haside)
    rw [hv.line]
    refine hgo.imp (fun h => h.trans (hline l)) fun ⟨h1, h2, r, h3, h4, h5⟩ => ⟨?_, h2, r, ?_, h4, ?_⟩
    · rw [← hline]; exact h1
    · rw [← hvalve]; exact h3
    · rw [← State.atTarget_congr (hvalve l) (by rw [hline]) r]; exact h5

/-- Settles O40: a reply in time zeroes the panel's count; a poll decided without one is a miss of its kind. -/
theorem missesCountToTheirLimits : Obligations.MissesCountToTheirLimits := by
  refine ⟨fun s t flags w1 w2 q hq hk ht => ?_, fun s t c q hq hc => ?_⟩
  · obtain ⟨u, h1, h2, h3, hpanel, hmiss, hpoll, -⟩ := (panelReplyIsStoredAndActs s t flags w1 w2).2 q hq hk ht
    exact ⟨u, h1, h2, h3, hpoll, hmiss, hpanel⟩
  obtain ⟨op, rx, slots, hop, heff⟩ := exec_missPoll hq hc
  cases hk : q.kind with
  | panel =>
    rw [hk] at heff
    obtain ⟨u, h1, h2, h3, hpoll, h⟩ := completes_panelMiss hop heff
    exact ⟨u, h1, h2, h3, hpoll, fun _ => h, nofun, nofun⟩
  | read k =>
    rw [hk] at heff
    obtain ⟨u, h1, h2, h3, hpoll, h⟩ := completes_tankMiss hop heff
    exact ⟨u, h1, h2, h3, hpoll, nofun, fun n hn => by cases hn; exact h, nofun⟩
  | declare k =>
    rw [hk] at heff
    refine completes_of_effect _ hop heff rfl rfl rfl rfl fun v hv => ?_
    exact ⟨by rw [hv.linkGrades.1]; rfl, nofun, nofun, fun n _ => ⟨hv.2.2.1, hv.1, hv.linkGrades.2, hv.shut⟩⟩

end Sys2Proof.Machine
end

section
/-! The tests of a line at a reading or a marker: what each looks at, and what it leaves at once. -/

namespace Sys2Proof.Machine
variable {e e' x y z : Ev} {l m : LineId} {g : Ground} {s u v : State} {t : Time} {k n : TankId}

/-! ### What the tests look at -/

/-- What a test of a line looks at in the record of a tank on its list. -/
structure TankMeasures where
  use : TankUse
  decl : Option Declaration
  latest : Option Half
  pairPrev : Option Half
  pairLatest : Option Half

def Tank.measures (x : Tank) : TankMeasures :=
  { use := x.use, decl := x.decl, latest := x.latest, pairPrev := x.pairPrev, pairLatest := x.pairLatest }

/-- A test of line `l` finds in `y` the figures it finds in `x`: profile and list, predictor, meter, time and terms, and what it
looks at in the tanks of the list. -/
structure State.Sees (x y : State) (l : LineId) : Prop where
  profile : (y.line l).profile = (x.line l).profile
  list : y.list l = x.list l
  pred : y.pred l = x.pred l
  meter : (y.flow l).meter = (x.flow l).meter
  now : y.now = x.now
  grades : y.grades = x.grades
  tanks : ∀ n ∈ x.list l, (y.tank n).measures = (x.tank n).measures

namespace State.Sees
variable {x y : State} (h : x.Sees y l)
include h

theorem profileOf : y.profile l = x.profile l := by rw [State.profile, State.profile, h.profile]

theorem use (hn : n ∈ x.list l) : (y.tank n).use = (x.tank n).use := congrArg TankMeasures.use (h.tanks n hn)

theorem activeTank : y.activeTank l = x.activeTank l := by
  rw [State.activeTank, State.activeTank, h.list]
  exact List.find?_congr fun n hn => by rw [h.use hn]

theorem incomingTank : y.incomingTank l = x.incomingTank l := by
  rw [State.incomingTank, State.incomingTank, h.list]
  exact List.find?_congr fun n hn => by rw [h.use hn]

/-- A figure of the ACTIVE tank's measures. -/
theorem active_bind {α : Type} (f : Tank → Option α) (hf : ∀ a b : Tank, a.measures = b.measures → f a = f b) :
    (y.activeTank l).bind (fun k => f (y.tank k)) = (x.activeTank l).bind (fun k => f (x.tank k)) := by
  rw [h.activeTank]
  cases hk : x.activeTank l with
  | none => rfl
  | some k => exact hf _ _ (h.tanks k (State.activeTank_mem hk))

theorem activePair : y.activePair l = x.activePair l :=
  h.active_bind Tank.pair fun a b hab => by
    rw [Tank.pair, Tank.pair, show a.pairPrev = b.pairPrev from congrArg TankMeasures.pairPrev hab,
      show a.pairLatest = b.pairLatest from congrArg TankMeasures.pairLatest hab]

theorem latest : (y.activeTank l).bind (fun k => (y.tank k).latest) = (x.activeTank l).bind (fun k => (x.tank k).latest) :=
  h.active_bind Tank.latest fun _ _ hab => congrArg TankMeasures.latest hab

theorem decl : (y.activeTank l).bind (fun k => (y.tank k).decl) = (x.activeTank l).bind (fun k => (x.tank k).decl) :=
  h.active_bind Tank.decl fun _ _ hab => congrArg TankMeasures.decl hab

theorem pairInUse : y.pairInUse l = x.pairInUse l := by
  rw [State.pairInUse, State.pairInUse, h.pred, h.activePair]

theorem projected : y.projected l = x.projected l := by
  rw [State.projected, State.projected, h.latest, h.pairInUse, h.now]

theorem levelReaches (mark : Nat) : y.levelReaches l mark = x.levelReaches l mark := by
  rw [State.levelReaches, State.levelReaches, h.latest, h.projected]

theorem timeToFinal (mark : Nat) : y.timeToFinal l mark = x.timeToFinal l mark := by
  rw [State.timeToFinal, State.timeToFinal, h.projected, h.pairInUse]

theorem gradeOfLine : y.gradeOfLine l = x.gradeOfLine l := by rw [State.gradeOfLine, State.gradeOfLine, h.profile]

theorem changeoverAgreed : y.changeoverAgreed l = x.changeoverAgreed l := by
  simp only [State.changeoverAgreed, h.gradeOfLine, State.grade, h.grades]

theorem closeFigures : y.closeFigures l = x.closeFigures l := by
  have hd : y.density l = x.density l := by simp only [State.density, h.gradeOfLine, State.grade, h.grades]
  rw [State.closeFigures, State.closeFigures, h.profileOf, hd, show (y.flow l).rate = (x.flow l).rate from
    congrArg MeterFigures.rate h.meter, show (y.flow l).pressure = (x.flow l).pressure from
    congrArg MeterFigures.pressure h.meter, show (y.flow l).pressureFault = (x.flow l).pressureFault from
    congrArg MeterFigures.pressureFault h.meter]

theorem closeLead : y.closeLead l = x.closeLead l := by
  rw [State.closeLead, State.closeLead, h.closeFigures, h.profileOf]

theorem pairHalves : y.pairHalves l = x.pairHalves l := by
  rw [State.pairHalves, State.pairHalves, h.pred, h.activeTank]
  split
  · rfl
  · cases hk : x.activeTank l with
    | none => rfl
    | some k =>
      have hm := h.tanks k (State.activeTank_mem hk)
      exact Prod.ext (congrArg TankMeasures.pairPrev hm) (congrArg TankMeasures.pairLatest hm)

theorem evaluationNow (mark : Nat) : y.evaluationNow l mark = x.evaluationNow l mark := by
  simp only [State.evaluationNow, h.now, h.pred, h.pairHalves, h.pairInUse, h.projected, h.timeToFinal, h.closeLead]

end State.Sees

/-! ### What a test of a line sees decides it -/

section
variable {x y v : State} {mark : Nat} {d : Declaration} {target : Option TankId} {te : Option Bool}

theorem State.Sees.closeStartTested (h : x.Sees y l) (hlate : (y.line l).late = (x.line l).late) (hv : y.closeStartTested v l te mark) : x.closeStartTested v l te mark := by
  unfold State.closeStartTested at hv ⊢
  rw [h.levelReaches, h.evaluationNow, hlate] at hv
  exact hv

theorem State.Sees.overruns (h : x.Sees y l) (hline : y.line l = x.line l) (hv : y.overruns v l mark) : x.overruns v l mark := by
  unfold State.overruns at hv ⊢
  rw [h.levelReaches, hline] at hv
  exact hv

theorem State.Sees.changesOver (h : x.Sees y l) (hline : y.line l = x.line l) (hn : n ∈ x.list l) (hv : y.changesOver v l n) : x.changesOver v l n := by
  unfold State.changesOver at hv ⊢
  rw [hline, h.now, h.profileOf, show (y.tank n).latest = (x.tank n).latest from
    congrArg TankMeasures.latest (h.tanks n hn)] at hv
  exact hv

/-- What sees a state sees it with its throttle taken by the predictor too. -/
theorem State.Sees.throttled (h : x.Sees y l) :
    State.Sees { x with preds := x.preds.set l ((x.pred l).throttled (x.activePair l)) }
      { y with preds := y.preds.set l ((y.pred l).throttled (y.activePair l)) } l where
  profile := h.profile
  list := h.list
  pred := by
    refine (Quad.get_set_same _ _ _).trans (Eq.trans ?_ (Quad.get_set_same _ _ _).symm)
    rw [h.pred, h.activePair]
  meter := h.meter
  now := h.now
  grades := h.grades
  tanks := h.tanks

theorem State.Sees.topsOff (h : x.Sees y l) (hline : y.line l = x.line l) (hv : y.topsOff v l mark) : x.topsOff v l mark := by
  unfold State.topsOff at hv ⊢
  obtain ⟨hv1, hv2⟩ := hv
  rw [h.profileOf, hline] at hv1 hv2
  refine ⟨?_, hv2⟩
  rw [h.list] at hv1
  split
  · next hl => rw [if_pos hl] at hv1; exact h.throttled.closeStartTested (congrArg LineRec.late hline) hv1
  · next hl => rw [if_neg hl] at hv1; exact h.closeStartTested (congrArg LineRec.late hline) hv1

theorem State.Sees.marksEvaluated (h : x.Sees y l) (hline : y.line l = x.line l) (hn : ∀ n, target = some n → n ∈ x.list l)
    (hv : y.marksEvaluated v l d target) : x.marksEvaluated v l d target := by
  cases target with
  | none =>
    unfold State.marksEvaluated at hv ⊢
    dsimp only at hv ⊢
    rw [h.levelReaches, hline] at hv
    split at hv
    · next hl => rw [if_pos hl]; exact h.topsOff hline hv
    · next hl => rw [if_neg hl]; exact hv
  | some n =>
    unfold State.marksEvaluated at hv ⊢
    dsimp only at hv ⊢
    rw [h.levelReaches, hline] at hv
    split at hv
    · next hl => rw [if_pos hl]; exact h.changesOver hline (hn n rfl) hv
    · next hl => rw [if_neg hl]; exact hv

end

/-! ### The tests at once -/

variable {d : Declaration}

theorem Ev.setLate_line (e : Ev) (l : LineId) (b : Bool) : (e.setLate l b).line l = { e.line l with late := b } := by
  simp [Ev.setLate, State.line]

theorem Ev.closeStartTest_tested (hst : (e.line l).state = .topping)
    (hd : (e.activeTank l).bind (fun k => (e.tank k).decl) = some d) :
    e.toState.closeStartTested (e.closeStartTest l).toState l (e.line l).tankEnd d.finalMm := by
  have htest : e.closeStartTest l =
      if e.levelReaches l d.finalMm || (e.evaluationNow l d.finalMm).leads then
        (let e1 := e.modPred l (fun x => { x with evaluation := some (e.evaluationNow l d.finalMm) })
         let e2 := if e.levelReaches l d.finalMm then e1.setLate l true else e1
         if (e.line l).tankEnd = some true then e2.closeEntry l .tankEnd (some .tankEnd) none
         else e2.closeEntry l .ending none none)
      else e.modPred l (fun x => { x with evaluation := some (e.evaluationNow l d.finalMm) }) := by
    rw [Ev.closeStartTest, hd]
  rw [htest, State.closeStartTested]
  by_cases hclose : e.levelReaches l d.finalMm = true ∨ (e.evaluationNow l d.finalMm).leads = true
  · have hor : (e.levelReaches l d.finalMm || (e.evaluationNow l d.finalMm).leads) = true := by simpa using hclose
    rw [if_pos hclose, if_pos hor]
    dsimp only
    generalize hy : (if e.levelReaches l d.finalMm = true then
      (e.modPred l (fun x => { x with evaluation := some (e.evaluationNow l d.finalMm) })).setLate l true
      else e.modPred l (fun x => { x with evaluation := some (e.evaluationNow l d.finalMm) })) = y
    have hlate : (y.line l).late = (e.levelReaches l d.finalMm || (e.line l).late) := by
      rw [← hy]
      split
      · next h => rw [Ev.setLate_line, h]; rfl
      · next h => rw [Bool.eq_false_iff.mpr h]; rfl
    split
    · exact ⟨Ev.closeEntry_closesWith y l _ _ _, (Ev.closeEntry_line y l _ _ _).kept.2.2.2.2.1.trans hlate⟩
    · exact ⟨Ev.closeEntry_closesWith y l _ _ _, (Ev.closeEntry_line y l _ _ _).kept.2.2.2.2.1.trans hlate⟩
  · have hor : ¬ (e.levelReaches l d.finalMm || (e.evaluationNow l d.finalMm).leads) = true := by simpa using hclose
    rw [if_neg hclose, if_neg hor]
    exact ⟨hst, rfl, rfl, congrArg Predictor.evaluation (Quad.get_set_same _ _ _)⟩

theorem Ev.overrunTest_overruns (hst : (e.line l).state = .changeover)
    (hd : (e.activeTank l).bind (fun k => (e.tank k).decl) = some d) :
    e.toState.overruns (e.overrunTest l).toState l d.finalMm := by
  have hf : e.flowing l = true := by rw [State.flowing, hst]; rfl
  have htest : e.overrunTest l = if e.levelReaches l d.finalMm then e.trip l .changeoverOverrun else e := by
    rw [Ev.overrunTest, hd]
  rw [htest, State.overruns]
  split
  · rw [Ev.trip_of_flowing hf]
    exact ⟨Ev.closeEntry_closesWith e l _ _ _, (Ev.closeEntry_line e l _ _ _).pendingVol.trans (if_pos hst)⟩
  · rfl

/-- A THROTTLE requested for a delivering line: its throttle position set, the predictor takes it, the cap counts begin again
(R16, R61, R99). -/
theorem Ev.throttleTo_records (hst : (e.line l).state = .topping ∨ (e.line l).state = .changeover) (pos : Nat) :
    let z := e.throttleTo l pos
    z.lines = e.lines.set l { e.line l with throttle := pos } ∧ z.lists = e.lists ∧ z.tanks = e.tanks ∧
    z.preds = e.preds.set l ((e.pred l).throttled (e.activePair l)) ∧
    z.flows = e.flows.set l { e.flow l with rateCount := 0, pressCount := 0 } ∧ z.now = e.now ∧ z.grades = e.grades := by
  obtain ⟨y, hy, hz⟩ : ∃ y : Ev, y = { e with
      lines := e.lines.set l { e.line l with throttle := pos },
      preds := e.preds.set l ((e.pred l).throttled (e.activePair l)),
      flows := e.flows.set l { e.flow l with rateCount := 0, pressCount := 0 } } ∧
      e.throttleTo l pos = y.requestStroke l .throttle pos false := by
    refine ⟨_, rfl, ?_⟩
    rcases hst with h | h
    · rw [Ev.throttleTo, h]; rfl
    · rw [Ev.throttleTo, h]; rfl
  have hs := Ev.requestStroke_strokesOnly y l .throttle pos false
  dsimp only
  rw [hz, hs.lines, hs.lists, hs.tanks, hs.preds, hs.flows, hs.now, hs.grades, hy]
  exact ⟨rfl, rfl, rfl, rfl, rfl, rfl, rfl⟩

/-- The throttle of a line lowered to topping_pos when it stood above it (R14, R15). -/
theorem lowered_throttle (pos throttle : Nat) : (if pos < throttle then pos else throttle) = min throttle pos := by
  split <;> omega

theorem Ev.enterChangeover_changesOver (e : Ev) (l : LineId) (k : TankId) :
    e.toState.changesOver (e.enterChangeover l k).toState l k := by
  let y : Ev := (((e.setUse k .incoming).modTank k (fun x =>
    { x with
      changeoverBase := (e.tank k).latest.map (fun h => h.level), highWater := (e.tank k).latest.map (fun h => h.level),
      pairPrev := none, pairLatest := none })).modLine l (fun x =>
        { x with pendingVol := 0, changeoverStart := some e.now })).modFlow l (fun x =>
    { x with watchIncoming := some {
      base := (e.tank k).latest.map (fun h => h.level), peak := (e.tank k).latest.map (fun h => h.level), peakTime := e.now } })
  have hentered : e.enterChangeover l k = if (e.profile l).toppingPos < (e.line l).throttle then
      (y.setState l .changeover).throttleTo l (e.profile l).toppingPos else y.setState l .changeover := rfl
  have hline : (y.setState l .changeover).line l = { e.line l with
      pendingVol := 0, changeoverStart := some e.now, state := .changeover } := by
    rw [Ev.setState_line]
    simp [y, State.line, Ev.setUse]
  have htank : (y.setState l .changeover).tank k = { e.tank k with
      use := .incoming, changeoverBase := (e.tank k).latest.map (fun h => h.level),
      highWater := (e.tank k).latest.map (fun h => h.level), pairPrev := none, pairLatest := none } := by
    rw [State.tank, Ev.setState_tanks]
    simp [y, Ev.setUse, State.tank]
  have hflow : ((y.setState l .changeover).flow l).watchIncoming = some {
      base := (e.tank k).latest.map (fun h => h.level), peak := (e.tank k).latest.map (fun h => h.level), peakTime := e.now } := by
    obtain ⟨sh, d, h, -⟩ := Ev.setState_writes y l .changeover
    rw [h]
    simp [y, State.flow]
  have hthrottle := lowered_throttle (e.profile l).toppingPos (e.line l).throttle
  rw [hentered, State.changesOver]
  split
  · next hlow =>
    rw [if_pos hlow] at hthrottle
    obtain ⟨hl, -, ht, -, hf, -⟩ := Ev.throttleTo_records (e := y.setState l .changeover) (.inr (by rw [hline]))
      (e.profile l).toppingPos
    rw [State.line, hl, Quad.get_set_same, hline, State.tank, ht, State.flow, hf, Quad.get_set_same]
    exact ⟨rfl, rfl, rfl, hthrottle, congrArg Tank.use htank, congrArg Tank.changeoverBase htank,
      congrArg Tank.highWater htank, congrArg Tank.pairPrev htank, congrArg Tank.pairLatest htank, hflow⟩
  · next hlow =>
    rw [if_neg hlow] at hthrottle
    rw [hline, htank]
    exact ⟨rfl, rfl, rfl, hthrottle, rfl, rfl, rfl, rfl, rfl, hflow⟩

end Sys2Proof.Machine
end

section
/-! The marks of BULK and the tests of CHANGEOVER, at once; what they leave stands through the rest of the event. -/

namespace Sys2Proof.Machine
variable {e e' x y z : Ev} {l m : LineId} {g : Ground} {s u v : State} {t : Time} {k n old new : TankId} {d : Declaration}

/-! ### Entry to TOPPING (R14) -/

theorem Ev.closeStartTest_line (e : Ev) (l : LineId) :
    (e.closeStartTest l).line l = e.line l ∨ ((e.closeStartTest l).line l).state = .closing := by
  unfold Ev.closeStartTest
  split
  · exact .inl rfl
  · dsimp only
    split
    · split
      · exact .inr (Ev.closeEntry_closesWith _ l _ _ _).1
      · exact .inr (Ev.closeEntry_closesWith _ l _ _ _).1
    · exact .inl rfl

/-- The entry to TOPPING up to its close-start test. -/
def Ev.toppingBegun (e : Ev) (l : LineId) : Ev :=
  (e.modLine l (fun x => { x with tankEnd := some (decide (1 < (e.list l).length)) })).setState l .topping

theorem Ev.toppingBegun_writes (e : Ev) (l : LineId) : ∃ sh d, e.toppingBegun l = { e with
    shut := sh, dirty := d,
    lines := e.lines.set l { e.line l with tankEnd := some (decide (1 < (e.list l).length)), state := .topping } } := by
  obtain ⟨sh, d, h, -⟩ := Ev.setState_writes
    (e.modLine l (fun x => { x with tankEnd := some (decide (1 < (e.list l).length)) })) l .topping
  exact ⟨sh, d, h.trans (by simp only [Ev.modLine, Quad.get_set_same, Quad.set_set]; rfl)⟩

theorem Ev.enterTopping_topsOff (hd : (e.activeTank l).bind (fun k => (e.tank k).decl) = some d) :
    e.toState.topsOff (e.enterTopping l).toState l d.finalMm := by
  obtain ⟨sh, dd, hb⟩ := Ev.toppingBegun_writes e l
  have hbline : (e.toppingBegun l).line l =
      { e.line l with tankEnd := some (decide (1 < (e.list l).length)), state := .topping } := by
    rw [hb]; exact Quad.get_set_same _ _ _
  have hbsees : State.Sees e.toState (e.toppingBegun l).toState l := by
    have hprofile := congrArg LineRec.profile hbline
    rw [hb] at hprofile ⊢
    exact ⟨hprofile, rfl, rfl, rfl, rfl, rfl, fun _ _ => rfl⟩
  have htop : e.enterTopping l = (if (e.profile l).toppingPos < (e.line l).throttle then
      (e.toppingBegun l).throttleTo l (e.profile l).toppingPos else e.toppingBegun l).closeStartTest l := rfl
  have hthrottle := lowered_throttle (e.profile l).toppingPos (e.line l).throttle
  rw [htop, State.topsOff]
  by_cases hlow : (e.profile l).toppingPos < (e.line l).throttle
  · rw [if_pos hlow] at hthrottle
    rw [if_pos hlow, decide_eq_true hlow, if_pos rfl]
    obtain ⟨hlines, hlists, htanks, hpreds, hflows, hnow, hgrades⟩ :=
      Ev.throttleTo_records (e := e.toppingBegun l) (l := l) (.inl (by rw [hbline])) (e.profile l).toppingPos
    generalize (e.toppingBegun l).throttleTo l (e.profile l).toppingPos = z at *
    have hline : z.line l = { (e.toppingBegun l).line l with throttle := (e.profile l).toppingPos } := by
      rw [State.line, hlines]; exact Quad.get_set_same _ _ _
    have hsees : State.Sees { (e.toppingBegun l).toState with
        preds := (e.toppingBegun l).preds.set l (((e.toppingBegun l).pred l).throttled ((e.toppingBegun l).activePair l)) } z.toState l :=
      { profile := (congrArg LineRec.profile hline :)
        list := by rw [State.list, hlists]; rfl
        pred := by rw [State.pred, hpreds]; rfl
        meter := by rw [State.flow, hflows, Quad.get_set_same]; rfl
        now := hnow
        grades := hgrades
        tanks := fun n _ => by rw [State.tank, htanks]; rfl }
    have hact : (z.activeTank l).bind (fun k => (z.tank k).decl) = some d :=
      (hsees.decl.trans hbsees.throttled.decl).trans hd
    have htest := Ev.closeStartTest_tested (e := z) (l := l) (by rw [hline, hbline]) hact
    rw [hline, hbline] at htest
    refine ⟨hbsees.throttled.closeStartTested (congrArg LineRec.late hbline :)
      (hsees.closeStartTested (congrArg LineRec.late hline :) htest), fun htopping => ?_⟩
    rcases Ev.closeStartTest_line z l with hkeep | hclosing
    · rw [hkeep, hline]; exact hthrottle
    · rw [hclosing] at htopping; cases htopping
  · rw [if_neg hlow] at hthrottle
    rw [if_neg hlow, decide_eq_false hlow, if_neg nofun]
    have htest := Ev.closeStartTest_tested (e := e.toppingBegun l) (l := l) (by rw [hbline]) (hbsees.decl.trans hd)
    rw [hbline] at htest
    refine ⟨hbsees.closeStartTested (congrArg LineRec.late hbline :) htest, fun htopping => ?_⟩
    rcases Ev.closeStartTest_line (e.toppingBegun l) l with hkeep | hclosing
    · rw [hkeep, hbline]; exact hthrottle
    · rw [hclosing] at htopping; cases htopping

/-! ### The marks of BULK (R13) -/

theorem Ev.evaluateMarks_evaluated (hd : (e.activeTank l).bind (fun k => (e.tank k).decl) = some d) :
    e.toState.marksEvaluated (e.evaluateMarks l).toState l d (e.changeoverTarget l) := by
  rw [Ev.evaluateMarks, hd]
  unfold State.marksEvaluated
  cases e.changeoverTarget l with
  | none =>
    dsimp only
    split
    · exact Ev.enterTopping_topsOff hd
    · rfl
  | some n =>
    dsimp only
    split
    · exact Ev.enterChangeover_changesOver e l n
    · rfl

/-! ### What a test promises stands through the rest of the event -/

/-- From `z` to `v` nothing changes of line `l` but SURGE_LIMITED of a close, and nothing of the tanks in `ks`. -/
structure State.Stands (z v : State) (l : LineId) (ks : List TankId) : Prop where
  line : ∃ b, v.line l = { z.line l with surgeLimited := b }
  same : (z.line l).state ≠ .closing → v.line l = z.line l
  list : v.list l = z.list l
  evaluation : (v.pred l).evaluation = (z.pred l).evaluation
  flow : v.flow l = z.flow l
  tanks : ∀ n ∈ ks, v.tank n = z.tank n

section
variable {x z v w : State} {ks : List TankId} {mark : Nat} {target : Option TankId} {te : Option Bool}

theorem State.Stands.refl (z : State) (l : LineId) (ks : List TankId) : z.Stands z l ks :=
  ⟨⟨_, rfl⟩, fun _ => rfl, rfl, rfl, rfl, fun _ _ => rfl⟩

theorem State.Stands.trans (h : z.Stands v l ks) (h' : v.Stands w l ks) : z.Stands w l ks where
  line := by
    obtain ⟨b, hb⟩ := h.line
    obtain ⟨b', hb'⟩ := h'.line
    exact ⟨b', by rw [hb', hb]⟩
  same hst := by
    have hv := h.same hst
    exact (h'.same (by rwa [hv])).trans hv
  list := h'.list.trans h.list
  evaluation := h'.evaluation.trans h.evaluation
  flow := h'.flow.trans h.flow
  tanks n hn := (h'.tanks n hn).trans (h.tanks n hn)

/-- What stays as it was in a line that does not close. -/
theorem State.Stands.line_eq {a : LineRec} (h : z.Stands v l ks) (ha : a.state ≠ .closing) (hz : z.line l = a) : v.line l = a :=
  (h.same (by rwa [hz])).trans hz

theorem State.Stands.closesWith {reason : CloseReason} {hold : Option HoldReason} {cause : Option TripCause}
    (h : z.Stands v l ks) (hz : z.closesWith l reason hold cause) : v.closesWith l reason hold cause := by
  obtain ⟨b, hb⟩ := h.line
  exact State.closesWith_congr hb hz

theorem State.Stands.closeStartTested (h : z.Stands v l ks) (hz : x.closeStartTested z l te mark) :
    x.closeStartTested v l te mark := by
  obtain ⟨b, hb⟩ := h.line
  unfold State.closeStartTested at hz ⊢
  split
  · next hclose =>
    rw [if_pos hclose] at hz
    refine ⟨?_, by rw [hb]; exact hz.2⟩
    split
    · next hte => rw [if_pos hte] at hz; exact h.closesWith hz.1
    · next hte => rw [if_neg hte] at hz; exact h.closesWith hz.1
  · next hclose =>
    rw [if_neg hclose] at hz
    rw [h.same (by rw [hz.1]; nofun), h.evaluation]
    exact hz

theorem State.Stands.overruns (h : z.Stands v l ks) (hx : (x.line l).state ≠ .closing) (hz : x.overruns z l mark) :
    x.overruns v l mark := by
  obtain ⟨b, hb⟩ := h.line
  unfold State.overruns at hz ⊢
  split
  · next hr => rw [if_pos hr] at hz; exact ⟨h.closesWith hz.1, by rw [hb]; exact hz.2⟩
  · next hr => rw [if_neg hr] at hz; exact h.line_eq hx hz

theorem State.Stands.changesOver (h : z.Stands v l ks) (hn : n ∈ ks) (hz : x.changesOver z l n) : x.changesOver v l n := by
  unfold State.changesOver at hz ⊢
  dsimp only at hz ⊢
  rw [h.same (by rw [hz.1]; nofun), h.tanks n hn, h.flow]
  exact hz

theorem State.Stands.topsOff (h : z.Stands v l ks) (hz : x.topsOff z l mark) : x.topsOff v l mark := by
  unfold State.topsOff at hz ⊢
  dsimp only at hz ⊢
  obtain ⟨b, hb⟩ := h.line
  refine ⟨h.closeStartTested hz.1, fun hst => ?_⟩
  have hst' : (z.line l).state = .topping := by rw [hb] at hst; exact hst
  rw [hb]
  exact hz.2 hst'

theorem State.Stands.marksEvaluated (h : z.Stands v l ks) (hx : (x.line l).state ≠ .closing)
    (hn : ∀ n, target = some n → n ∈ ks) (hz : x.marksEvaluated z l d target) : x.marksEvaluated v l d target := by
  cases target with
  | none =>
    unfold State.marksEvaluated at hz ⊢
    dsimp only at hz ⊢
    split
    · next hr => rw [if_pos hr] at hz; exact h.topsOff hz
    · next hr => rw [if_neg hr] at hz; exact h.line_eq hx hz
  | some n =>
    unfold State.marksEvaluated at hz ⊢
    dsimp only at hz ⊢
    split
    · next hr => rw [if_pos hr] at hz; exact h.changesOver (hn n rfl) hz
    · next hr => rw [if_neg hr] at hz; exact h.line_eq hx hz

theorem State.sameBlocks.stands (h : z.sameBlocks v) (l : LineId) (ks : List TankId) : z.Stands v l ks :=
  ⟨⟨(z.line l).surgeLimited, h.line l⟩, fun _ => h.line l, h.list l, by rw [State.pred, h.2.2.2.1]; rfl, h.flow l,
    fun n _ => h.tank n⟩

end

/-- The drain lets stand what a test promises of a line that is not in STARTING, of tanks that are on no other line's list. -/
theorem Ev.drain_stands {ks : List TankId} (hc : e.calm g) (hsw : (e.valve l).closedSwitch = false)
    (hst : (e.line l).state ≠ .starting) (hks : ∀ n ∈ ks, ∀ m, m ≠ l → n ∉ e.list m) :
    e.toState.Stands e.drain.toState l ks := by
  have htanks (n : TankId) (hn : n ∈ ks) : e.drain.tank n = e.tank n :=
    Ev.drain_tank hc fun m hm _ => by
      by_cases hml : m = l
      · rw [hml]; exact hsw
      · exact absurd hm (hks n hn m hml)
  by_cases hclosing : (e.line l).state = .closing
  · obtain ⟨hline, hlist, heval, hflow⟩ := Ev.drain_closing hc hclosing hsw
    exact ⟨hline, fun h => absurd hclosing h, hlist, heval, hflow, htanks⟩
  · obtain ⟨hline, hlist, heval, -, hflow⟩ := Ev.drain_still hc hclosing hst
    exact ⟨⟨(e.line l).surgeLimited, hline⟩, fun _ => hline, hlist, heval, hflow, htanks⟩

end Sys2Proof.Machine
end

section
/-! The tests of a line touch the tanks of its own list alone. -/

namespace Sys2Proof.Machine
variable {e e' e'' x y z : Ev} {l m : LineId} {g : Ground} {s u v : State} {t : Time} {k n old new : TankId} {d : Declaration}

/-- From `e` to `e'` no list changes and no tank but those on the list of line `m`. -/
structure Ev.OnList (e e' : Ev) (m : LineId) : Prop where
  lists : e'.lists = e.lists
  tank : ∀ n ∉ e.list m, e'.tank n = e.tank n

theorem Ev.OnList.of_tanks (hl : e'.lists = e.lists) (ht : e'.tanks = e.tanks) : e.OnList e' m :=
  ⟨hl, fun _ _ => by rw [State.tank, ht]; rfl⟩

theorem Ev.OnList.refl (e : Ev) (m : LineId) : e.OnList e m := .of_tanks rfl rfl

theorem Ev.OnList.list (h : e.OnList e' m) (l : LineId) : e'.list l = e.list l := by rw [State.list, h.lists]; rfl

theorem Ev.OnList.trans (h : e.OnList e' m) (h' : e'.OnList e'' m) : e.OnList e'' m :=
  ⟨h'.lists.trans h.lists, fun n hn => (h'.tank n (by rwa [h.list])).trans (h.tank n hn)⟩

theorem Ev.StrokesOnly.onList (h : e.StrokesOnly e') (m : LineId) : e.OnList e' m := .of_tanks h.lists h.tanks

theorem Ev.modTank_onList (f : Tank → Tank) (hk : k ∈ e.list m) : e.OnList (e.modTank k f) m :=
  ⟨rfl, fun _ hn => Tanks.get_set_ne _ _ (ne_of_mem_of_not_mem hk hn).symm⟩

theorem Ev.setUse_onList (u : TankUse) (hk : k ∈ e.list m) : e.OnList (e.setUse k u) m :=
  ⟨by simp [Ev.setUse], fun n hn => by rw [Ev.setUse_tank, if_neg (ne_of_mem_of_not_mem hk hn).symm]⟩

theorem Ev.setState_onList (e : Ev) (l : LineId) (st : LineState) (m : LineId) : e.OnList (e.setState l st) m :=
  .of_tanks (Ev.setState_lists e l st) (Ev.setState_tanks e l st)

theorem State.incomingTank_mem (h : s.incomingTank l = some n) : n ∈ s.list l := List.mem_of_find?_eq_some h

theorem Ev.writeTrip_onList (e : Ev) (l : LineId) (c : TripCause) (m : LineId) : e.OnList (e.writeTrip l c) m :=
  .of_tanks (by simp [Ev.writeTrip]) (by simp [Ev.writeTrip])

theorem Ev.changeoverExit_onList (e : Ev) (l : LineId) (reason : CloseReason) : e.OnList (e.changeoverExit l reason) l := by
  have credited : e.OnList (match e.activeTank l with
      | some k => e.credit k (e.line l).pendingVol
      | none => e) l := by
    split
    · next k hk => exact Ev.modTank_onList _ (State.activeTank_mem hk)
    · exact .refl e l
  have emptied : e.OnList (((match e.activeTank l with
      | some k => e.credit k (e.line l).pendingVol
      | none => e).modLine l (fun x => { x with pendingVol := 0, changeoverStart := none })).modFlow l
        (fun x => { x with watchIncoming := none })) l := credited.trans (.of_tanks rfl rfl)
  have freed (y : Ev) (hy : e.OnList y l) : e.OnList (match e.incomingTank l with
      | some k =>
        let z := y.modTank k (fun x => { x with changeoverBase := none })
        if reason = .hold then z.setUse k .queued else z
      | none => y) l := by
    split
    · next k hk =>
      have hmem := State.incomingTank_mem hk
      have based := hy.trans (Ev.modTank_onList (k := k) (fun x => { x with changeoverBase := none })
        (by rw [hy.list]; exact hmem))
      dsimp only
      split
      · exact based.trans (Ev.setUse_onList .queued (by rw [based.list]; exact hmem))
      · exact based
    · exact hy
  exact freed _ emptied

theorem Ev.closeEntry_onList (e : Ev) (l : LineId) (reason : CloseReason) (hold : Option HoldReason)
    (cause : Option TripCause) : e.OnList (e.closeEntry l reason hold cause) l := by
  have tripped : e.OnList (match cause with
      | some c => e.writeTrip l c
      | none => e) l := by
    split
    · exact Ev.writeTrip_onList e l _ l
    · exact .refl e l
  have exited (y : Ev) : y.OnList (if (e.line l).state = .changeover then y.changeoverExit l reason else y) l := by
    split
    · exact Ev.changeoverExit_onList y l reason
    · exact .refl y l
  have begun : e.OnList (e.closeBegun l reason hold cause) l := by
    refine (tripped.trans (exited _)).trans (.of_tanks ?_ ?_)
    · simp [Ev.closeBegun, Ev.clearPred] <;> rfl
    · simp [Ev.closeBegun, Ev.clearPred] <;> rfl
  rw [Ev.closeEntry_eq]
  obtain ⟨sh, ds, hpermit, -⟩ := Ev.evalPermitOf_writes ((e.closeBegun l reason hold cause).cancelWork l) l
  refine (begun.trans ((Ev.cancelWork_strokesOnly _ l).onList l)).trans (.of_tanks ?_ ?_)
  · rw [hpermit]
  · rw [hpermit]

theorem Ev.trip_onList (e : Ev) (l : LineId) (c : TripCause) : e.OnList (e.trip l c) l := by
  unfold Ev.trip
  split
  · exact Ev.closeEntry_onList e l _ _ _
  · split
    · exact .of_tanks (by simp [Ev.retripClosing, Ev.writeTrip]) (by simp [Ev.retripClosing, Ev.writeTrip])
    · split
      · have moved : e.OnList ((e.writeTrip l c).modLine l (fun x => { x with holdReason := none })) l :=
          (Ev.writeTrip_onList e l c l).trans (.of_tanks rfl rfl)
        exact moved.trans (Ev.setState_onList _ l .tripped l)
      · exact .refl e l

theorem Ev.closeStartTest_onList (e : Ev) (l : LineId) : e.OnList (e.closeStartTest l) l := by
  unfold Ev.closeStartTest
  split
  · exact .refl e l
  · next d hd =>
    dsimp only
    have recorded : e.OnList (e.modPred l (fun x => { x with evaluation := some (e.evaluationNow l d.finalMm) })) l :=
      .of_tanks rfl rfl
    have late : e.OnList (if e.levelReaches l d.finalMm = true then
        (e.modPred l (fun x => { x with evaluation := some (e.evaluationNow l d.finalMm) })).setLate l true
        else e.modPred l (fun x => { x with evaluation := some (e.evaluationNow l d.finalMm) })) l := by
      split
      · exact recorded.trans (.of_tanks (by simp [Ev.setLate]) (by simp [Ev.setLate]))
      · exact recorded
    split
    · split
      · exact late.trans (Ev.closeEntry_onList _ l _ _ _)
      · exact late.trans (Ev.closeEntry_onList _ l _ _ _)
    · exact recorded

theorem Ev.throttleTo_onList (e : Ev) (l : LineId) (pos : Nat) (m : LineId) : e.OnList (e.throttleTo l pos) m := by
  unfold Ev.throttleTo
  dsimp only
  refine .trans ?_ ((Ev.requestStroke_strokesOnly _ l .throttle pos false).onList m)
  split <;> exact .of_tanks rfl rfl

theorem Ev.enterTopping_onList (e : Ev) (l : LineId) : e.OnList (e.enterTopping l) l := by
  have throttled (y : Ev) : y.OnList (if (e.profile l).toppingPos < (e.line l).throttle then
      y.throttleTo l (e.profile l).toppingPos else y) l := by
    split
    · exact Ev.throttleTo_onList y l _ l
    · exact .refl y l
  have begun : e.OnList (e.toppingBegun l) l := by
    obtain ⟨sh, ds, h⟩ := Ev.toppingBegun_writes e l
    rw [h]
    exact .of_tanks rfl rfl
  exact (begun.trans (throttled _)).trans (Ev.closeStartTest_onList _ l)

theorem Ev.enterChangeover_onList (e : Ev) (l : LineId) (hk : k ∈ e.list l) : e.OnList (e.enterChangeover l k) l := by
  have throttled (y : Ev) : y.OnList (if (e.profile l).toppingPos < (e.line l).throttle then
      y.throttleTo l (e.profile l).toppingPos else y) l := by
    split
    · exact Ev.throttleTo_onList y l _ l
    · exact .refl y l
  have used : e.OnList (e.setUse k .incoming) l := Ev.setUse_onList _ hk
  have based := used.trans (Ev.modTank_onList (k := k) (fun x => { x with
      changeoverBase := (e.tank k).latest.map (fun h => h.level), highWater := (e.tank k).latest.map (fun h => h.level),
      pairPrev := none, pairLatest := none }) (by rw [used.list]; exact hk))
  have watched (y : Ev) (hy : e.OnList y l) : e.OnList ((y.modLine l (fun x =>
      { x with pendingVol := 0, changeoverStart := some e.now })).modFlow l (fun x => { x with watchIncoming := some {
        base := (e.tank k).latest.map (fun h => h.level), peak := (e.tank k).latest.map (fun h => h.level),
        peakTime := e.now } })) l := hy.trans (.of_tanks rfl rfl)
  exact ((watched _ based).trans (Ev.setState_onList _ l .changeover l)).trans (throttled _)

theorem State.changeoverTarget_mem (h : s.changeoverTarget l = some n) : n ∈ s.list l := by
  unfold State.changeoverTarget at h
  split at h
  · next k hk =>
    split at h
    · cases h
      unfold State.successor at hk
      exact List.drop_subset _ _ (List.mem_of_head? hk)
    · cases h
  · cases h

theorem Ev.evaluateMarks_onList (e : Ev) (l : LineId) : e.OnList (e.evaluateMarks l) l := by
  unfold Ev.evaluateMarks
  split
  · exact .refl e l
  · split
    · next k hk =>
      split
      · exact Ev.enterChangeover_onList e l (State.changeoverTarget_mem hk)
      · exact .refl e l
    · split
      · exact Ev.enterTopping_onList e l
      · exact .refl e l

theorem Ev.overrunTest_onList (e : Ev) (l : LineId) : e.OnList (e.overrunTest l) l := by
  unfold Ev.overrunTest
  split
  · exact .refl e l
  · split
    · exact Ev.trip_onList e l _
    · exact .refl e l

theorem Ev.markerLine_onList (e : Ev) (l : LineId) : e.OnList (e.markerLine l) l := by
  unfold Ev.markerLine
  split
  · exact Ev.evaluateMarks_onList e l
  · exact Ev.overrunTest_onList e l
  · exact Ev.closeStartTest_onList e l
  all_goals exact .refl e l

end Sys2Proof.Machine
end

section
/-! MARKER: the time thresholds of the tanks. -/

namespace Sys2Proof.Machine
variable {e e' e'' x y z : Ev} {l m : LineId} {g : Ground} {s u v : State} {t : Time} {j k n : TankId} {d : Declaration}

/-! ### What a trip leaves of the tanks -/

theorem Ev.changeoverExit_use (e : Ev) (l : LineId) {reason : CloseReason} (h : reason ≠ .hold) (n : TankId) :
    ((e.changeoverExit l reason).tank n).use = (e.tank n).use := by
  have moded (y : Ev) (k : TankId) (f : Tank → Tank) (hf : ∀ a, (f a).use = a.use) :
      ((y.modTank k f).tank n).use = (y.tank n).use := by
    rw [State.tank, Ev.modTank_tanks, Tanks.get_set]
    split
    · next hn => rw [hn]; exact hf _
    · rfl
  have credited : ((match e.activeTank l with
      | some k => e.credit k (e.line l).pendingVol
      | none => e).tank n).use = (e.tank n).use := by
    split
    · exact moded e _ _ fun _ => rfl
    · rfl
  have freed (y : Ev) (hy : (y.tank n).use = (e.tank n).use) : ((match e.incomingTank l with
      | some k =>
        let z := y.modTank k (fun x => { x with changeoverBase := none })
        if reason = CloseReason.hold then z.setUse k .queued else z
      | none => y).tank n).use = (e.tank n).use := by
    split
    · dsimp only
      rw [if_neg h]
      exact (moded y _ (fun x => { x with changeoverBase := none }) fun _ => rfl).trans hy
    · exact hy
  exact freed _ credited

theorem Ev.closeEntry_use (e : Ev) (l : LineId) {reason : CloseReason} (h : reason ≠ .hold) (hold : Option HoldReason)
    (cause : Option TripCause) (n : TankId) : ((e.closeEntry l reason hold cause).tank n).use = (e.tank n).use := by
  have tripped : ((match cause with
      | some c => e.writeTrip l c
      | none => e).tank n).use = (e.tank n).use := by
    split
    · simp [Ev.writeTrip, State.tank]
    · rfl
  have exited (y : Ev) : ((if (e.line l).state = .changeover then y.changeoverExit l reason else y).tank n).use =
      (y.tank n).use := by
    split
    · exact Ev.changeoverExit_use y l h n
    · rfl
  have begun : ((e.closeBegun l reason hold cause).tank n).use = (e.tank n).use := by
    refine Eq.trans ?_ ((exited _).trans tripped)
    simp [Ev.closeBegun, Ev.clearPred, State.tank] <;> rfl
  rw [Ev.closeEntry_eq]
  obtain ⟨sh, ds, hpermit, -⟩ := Ev.evalPermitOf_writes ((e.closeBegun l reason hold cause).cancelWork l) l
  rw [hpermit]
  exact (congrArg (fun tk : Tanks => (tk.get n).use) (Ev.cancelWork_strokesOnly _ l).tanks).trans begun

theorem Ev.trip_use (e : Ev) (l : LineId) (c : TripCause) (n : TankId) : ((e.trip l c).tank n).use = (e.tank n).use := by
  unfold Ev.trip
  split
  · exact Ev.closeEntry_use e l (reason := .trip) nofun _ _ n
  · split
    · simp [Ev.retripClosing, Ev.writeTrip, State.tank]
    · split
      · rw [State.tank, Ev.setState_tanks]; simp [Ev.writeTrip, State.tank]
      · rfl

theorem Ev.tripHolder_use (e : Ev) (k : TankId) (c : TripCause) (n : TankId) :
    ((e.tripHolder k c).tank n).use = (e.tank n).use := by
  unfold Ev.tripHolder
  split
  · exact Ev.trip_use e _ c n
  · rfl

theorem Ev.tripHolder_lists (e : Ev) (k : TankId) (c : TripCause) : (e.tripHolder k c).lists = e.lists := by
  unfold Ev.tripHolder
  split
  · exact (Ev.trip_onList e _ c).lists
  · rfl

/-- A trip of a line that flows, or that a trip of the same cause closes already, leaves it closing for the cause. -/
theorem Ev.trip_closesWith {c : TripCause} (h : e.flowing l = true ∨ e.toState.closesWith l .trip none (some c)) :
    (e.trip l c).toState.closesWith l .trip none (some c) := by
  by_cases hf : e.flowing l = true
  · rw [Ev.trip_of_flowing hf]
    exact Ev.closeEntry_closesWith e l _ _ _
  · have hcl := h.resolve_left hf
    rw [Ev.trip, if_neg hf, if_pos hcl.1]
    obtain ⟨r, hr, hlines⟩ := Ev.retripClosing_lines e l .trip c
    have hline : (e.retripClosing l .trip c).line l =
        { e.line l with trip := some r, closeReason := some .trip, holdReason := none } := by
      rw [State.line, hlines]; exact Quad.get_set_same _ _ _
    rw [State.closesWith, hline]
    refine ⟨hcl.1, rfl, rfl, hcl.2.2.2.1, fun x hx => ?_⟩
    cases hx
    exact congrArg some hr

theorem State.listLine_mem (h : s.listLine k = some l) : k ∈ s.list l := by
  have := List.find?_some h
  simpa using this

/-! ### The thresholds of one tank (R147) -/

/-- The health that the time thresholds give a tank. -/
def Tank.aged (now : Time) (x : Tank) : Health :=
  if x.health.read = true then
    if Config.lostMs ≤ elapsed now x.lastNew then .lost
    else if Config.staleMs ≤ elapsed now x.lastNew ∧ x.health = .live then .stale else x.health
  else x.health

/-- The health of a tank written, with what a notice of it notes. -/
def Ev.withHealth (e : Ev) (k : TankId) (h : Health) (r : Option RefusalReason) (ds : List NoticeKey) : Ev :=
  { e with tanks := e.tanks.set k { e.tank k with health := h, refusal := r }, dirty := ds }

theorem Ev.thresholds_writes (e : Ev) (k : TankId) : ∃ r ds,
    e.thresholds k = (if ((e.tank k).health.read = true ∧ Config.lostMs ≤ elapsed e.now (e.tank k).lastNew) ∧
        (e.tank k).use.filling = true then (e.withHealth k ((e.tank k).aged e.now) r ds).tripHolder k .tankLost
      else e.withHealth k ((e.tank k).aged e.now) r ds) := by
  have hset (h : Health) : ∃ ds, e.setHealth k h none = e.withHealth k h none ds :=
    Ev.setHealth_writes e k h none
  have hkeep : e = e.withHealth k (e.tank k).health (e.tank k).refusal e.dirty := by
    have htanks : e.tanks.set k { e.tank k with health := (e.tank k).health, refusal := (e.tank k).refusal } = e.tanks :=
      Tanks.set_get _ _
    rw [Ev.withHealth, htanks]
  unfold Ev.thresholds Tank.aged
  by_cases hread : (e.tank k).health.read = true
  · rw [if_pos hread, if_pos hread]
    dsimp only
    by_cases hlost : Config.lostMs ≤ elapsed e.now (e.tank k).lastNew
    · obtain ⟨ds, hds⟩ := hset .lost
      refine ⟨none, ds, ?_⟩
      rw [if_pos hlost, if_pos hlost, Ev.loseTank, hds]
      simp only [hread, hlost, true_and]
    · rw [if_neg hlost, if_neg hlost]
      by_cases hstale : Config.staleMs ≤ elapsed e.now (e.tank k).lastNew ∧ (e.tank k).health = .live
      · obtain ⟨ds, hds⟩ := hset .stale
        exact ⟨none, ds, by rw [if_pos hstale, if_pos hstale, if_neg (fun h => hlost h.1.2), hds]⟩
      · exact ⟨_, _, by rw [if_neg hstale, if_neg hstale, if_neg (fun h => hlost h.1.2)]; exact hkeep⟩
  · exact ⟨_, _, by rw [if_neg hread, if_neg hread, if_neg (fun h => hread h.1.1)]; exact hkeep⟩

/-! ### The thresholds of all tanks -/

theorem Ev.calm.retanked (h : e.calm g) (tk : Tanks) (ds : List NoticeKey) :
    Ev.calm { e with tanks := tk, dirty := ds }.ground { e with tanks := tk, dirty := ds } := by
  refine ⟨rfl, fun r hr => ?_⟩
  have hcalm := h.2 r hr
  rw [← h.1] at hcalm
  exact hcalm

/-- What the thresholds of some tanks leave alone from `e` to `x`. -/
structure Ev.Ages (e x : Ev) : Prop where
  ground : x.ground = { e.ground with readings := x.ground.readings }
  calm : x.calm x.ground
  lists : x.lists = e.lists
  tank : ∀ n, (x.tank n).use = (e.tank n).use ∧
    ∃ h r, (x.tank n).reading = { (e.tank n).reading with health := h, refusal := r }

theorem Ev.Ages.refl (h : e.calm g) : e.Ages e := ⟨rfl, h.1 ▸ h, rfl, fun _ => ⟨rfl, _, _, rfl⟩⟩

theorem Ev.Ages.now (h : e.Ages x) : x.now = e.now := congrArg (fun g : Ground => g.port.now) h.ground

theorem Ev.Ages.lastNew (h : e.Ages x) (n : TankId) : (x.tank n).lastNew = (e.tank n).lastNew := by
  obtain ⟨-, hh, r, hr⟩ := h.tank n
  exact congrArg TankReading.lastNew hr

theorem Ev.withHealth_tank (e : Ev) (k n : TankId) (h : Health) (r : Option RefusalReason) (ds : List NoticeKey) :
    (e.withHealth k h r ds).tank n = if n = k then { e.tank n with health := h, refusal := r } else e.tank n := by
  rw [State.tank, Ev.withHealth, Tanks.get_set]
  split
  · next hn => rw [hn]
  · rfl

theorem Ev.Ages.withHealth (h : e.Ages x) (k : TankId) (hh : Health) (r : Option RefusalReason) (ds : List NoticeKey) :
    e.Ages (x.withHealth k hh r ds) where
  ground := congrArg (fun g : Ground => { g with readings := (x.withHealth k hh r ds).ground.readings }) h.ground
  calm := h.calm.retanked _ _
  lists := h.lists
  tank n := by
    obtain ⟨huse, hn, rn, hrn⟩ := h.tank n
    rw [Ev.withHealth_tank]
    split
    · exact ⟨huse, hh, r, congrArg (fun y : TankReading => { y with health := hh, refusal := r }) hrn⟩
    · exact ⟨huse, hn, rn, hrn⟩

theorem Ev.Ages.tripHolder (h : e.Ages x) (k : TankId) (c : TripCause) : e.Ages (x.tripHolder k c) where
  ground := by rw [Ev.tripHolder_ground]; exact h.ground
  calm := by rw [Ev.tripHolder_ground]; exact Ev.tripHolder_calm k c h.calm
  lists := (Ev.tripHolder_lists x k c).trans h.lists
  tank n := by
    rw [Ev.tripHolder_use, reading_of_ground (Ev.tripHolder_ground x k c) (k := n)]
    exact h.tank n

theorem Ev.thresholds_ages (h : e.Ages x) (k : TankId) : e.Ages (x.thresholds k) := by
  obtain ⟨r, ds, hw⟩ := Ev.thresholds_writes x k
  rw [hw]
  split
  · exact (h.withHealth k _ r ds).tripHolder k _
  · exact h.withHealth k _ r ds

/-- The reading that the thresholds of tank `j` leave of a tank. -/
theorem Ev.thresholds_reading (e : Ev) (j k : TankId) : ∃ r, ((e.thresholds j).tank k).reading =
    if k = j then { (e.tank k).reading with health := (e.tank k).aged e.now, refusal := r } else (e.tank k).reading := by
  obtain ⟨r, ds, hw⟩ := Ev.thresholds_writes e j
  have hwritten : ((e.withHealth j ((e.tank j).aged e.now) r ds).tank k).reading =
      if k = j then { (e.tank k).reading with health := (e.tank k).aged e.now, refusal := r } else (e.tank k).reading := by
    rw [Ev.withHealth_tank]
    split
    · next h => rw [h]
    · rfl
  refine ⟨r, ?_⟩
  rw [hw]
  split
  · exact (reading_of_ground (Ev.tripHolder_ground _ j .tankLost) k).trans hwritten
  · exact hwritten

theorem Tank.aged_aged {now : Time} {a b : Tank} (hb : b.health = a.aged now) (hn : b.lastNew = a.lastNew) :
    b.aged now = a.aged now := by
  by_cases hread : a.health.read = true
  · by_cases hlost : Config.lostMs ≤ elapsed now a.lastNew
    · have ha : a.aged now = .lost := by rw [Tank.aged, if_pos hread, if_pos hlost]
      rw [Tank.aged, hb, ha]; rfl
    · by_cases hstale : Config.staleMs ≤ elapsed now a.lastNew ∧ a.health = .live
      · have ha : a.aged now = .stale := by rw [Tank.aged, if_pos hread, if_neg hlost, if_pos hstale]
        rw [Tank.aged, hb, ha, hn, if_neg hlost]; simp
      · have ha : a.aged now = a.health := by rw [Tank.aged, if_pos hread, if_neg hlost, if_neg hstale]
        rw [Tank.aged, hb, ha, if_pos hread, hn, if_neg hlost, if_neg hstale]
  · have ha : a.aged now = a.health := by rw [Tank.aged, if_neg hread]
    rw [Tank.aged, hb, ha, if_neg hread]

/-- Each tank's health once the thresholds have been applied to all. -/
theorem Ev.eachTank_thresholds (h : e.calm g) : let y := e.eachTank allTanks (fun k x => x.thresholds k)
    e.Ages y ∧ ∀ k, (y.tank k).health = (e.tank k).aged e.now := by
  have hages {as : List TankId} {x : Ev} (hx : e.Ages x) : e.Ages (as.foldl (fun x k => x.thresholds k) x) :=
    foldl_keeps (fun k _ _ hx => Ev.thresholds_ages hx k) hx
  refine ⟨hages (.refl h), fun k => ?_⟩
  have hturn (x : Ev) (hx : e.Ages x) (hk : (x.tank k).aged x.now = (e.tank k).aged e.now) :
      ((x.thresholds k).tank k).health = (e.tank k).aged e.now := by
    obtain ⟨r, hr⟩ := Ev.thresholds_reading x k k
    rw [if_pos rfl] at hr
    exact (congrArg TankReading.health hr).trans hk
  have hother (x : Ev) (j : TankId) (hj : k ≠ j) : ((x.thresholds j).tank k).reading = (x.tank k).reading := by
    obtain ⟨r, hr⟩ := Ev.thresholds_reading x j k
    rwa [if_neg hj] at hr
  refine (foldl_reaches (P := fun x => e.Ages x ∧ (x.tank k).reading = (e.tank k).reading)
    (Q := fun x => e.Ages x ∧ (x.tank k).health = (e.tank k).aged e.now) (mem_allTanks k)
    (fun j _ hj x hx => ⟨Ev.thresholds_ages hx.1 j, (hother x j hj.symm).trans hx.2⟩)
    (fun x hx => ⟨Ev.thresholds_ages hx.1 k, hturn x hx.1 ?_⟩) (fun j _ x hx => ⟨Ev.thresholds_ages hx.1 j, ?_⟩)
    ⟨.refl h, rfl⟩).2
  · rw [Tank.aged, Tank.aged, hx.1.now, hx.1.lastNew, show (x.tank k).health = (e.tank k).health from
      congrArg TankReading.health hx.2]
  · by_cases hj : k = j
    · subst hj
      exact hturn x hx.1 (by rw [hx.1.now]; exact Tank.aged_aged hx.2 (hx.1.lastNew k))
    · exact (congrArg TankReading.health (hother x j hj)).trans hx.2

end Sys2Proof.Machine
end

section
/-! MARKER: the lines that the thresholds trip, the schedule, and the tests of the lines. -/

namespace Sys2Proof.Machine
variable {e e' e'' x y z : Ev} {l m : LineId} {g : Ground} {s u v : State} {t : Time} {j k n : TankId} {d : Declaration}

/-! ### What the thresholds leave of a line -/

/-- A tank lost to the thresholds of time. -/
abbrev Tank.expired (now : Time) (x : Tank) : Prop := x.health.read = true ∧ Config.lostMs ≤ elapsed now x.lastNew

theorem Ev.thresholds_lane (h : e.listLine j = some l → ¬ (e.tank j).expired e.now) : (e.thresholds j).lane l = e.lane l := by
  obtain ⟨r, ds, hw⟩ := Ev.thresholds_writes e j
  rw [hw]
  split
  · next hlost =>
    rw [Ev.tripHolder, show (e.withHealth j ((e.tank j).aged e.now) r ds).listLine j = e.listLine j from rfl]
    split
    · next m hm => exact Ev.trip_lane _ m _ fun hml => h (hml ▸ hm) hlost.1
    · rfl
  · rfl

/-- A tank that no other line lists keeps what the tests look at, while its own line loses no tank. -/
theorem Ev.thresholds_measures (h : e.listLine j = some l → ¬ (e.tank j).expired e.now)
    (hn : ∀ m, m ≠ l → n ∉ e.list m) : ((e.thresholds j).tank n).measures = (e.tank n).measures := by
  obtain ⟨r, ds, hw⟩ := Ev.thresholds_writes e j
  have hwritten : ((e.withHealth j ((e.tank j).aged e.now) r ds).tank n).measures = (e.tank n).measures := by
    rw [Ev.withHealth_tank]
    split <;> rfl
  rw [hw]
  split
  · next hlost =>
    rw [Ev.tripHolder, show (e.withHealth j ((e.tank j).aged e.now) r ds).listLine j = e.listLine j from rfl]
    split
    · next m hm =>
      have hnm : n ∉ e.list m := hn m fun hml => h (hml ▸ hm) hlost.1
      exact (congrArg Tank.measures ((Ev.trip_onList (e.withHealth j ((e.tank j).aged e.now) r ds) m .tankLost).tank n hnm)).trans
        hwritten
    · exact hwritten
  · exact hwritten

/-- A flowing line that a lost tank trips closes for it, and stays so when more of its tanks are lost. -/
theorem Ev.thresholds_closesWith (h : e.flowing l = true ∨ e.toState.closesWith l .trip none (some .tankLost)) :
    ((e.thresholds j).line l = e.line l ∨ (e.thresholds j).toState.closesWith l .trip none (some .tankLost)) ∧
    (e.listLine j = some l → (e.tank j).expired e.now → (e.tank j).use.filling = true →
      (e.thresholds j).toState.closesWith l .trip none (some .tankLost)) := by
  have htrips (hl : e.listLine j = some l) (hlost : (e.tank j).expired e.now ∧ (e.tank j).use.filling = true) :
      (e.thresholds j).toState.closesWith l .trip none (some .tankLost) := by
    obtain ⟨r, ds, hw⟩ := Ev.thresholds_writes e j
    rw [hw, if_pos hlost, Ev.tripHolder, show (e.withHealth j ((e.tank j).aged e.now) r ds).listLine j = some l from hl]
    exact Ev.trip_closesWith h
  refine ⟨?_, fun hl he hu => htrips hl ⟨he, hu⟩⟩
  by_cases hl : e.listLine j = some l ∧ (e.tank j).expired e.now ∧ (e.tank j).use.filling = true
  · exact .inr (htrips hl.1 hl.2)
  · refine .inl ?_
    obtain ⟨r, ds, hw⟩ := Ev.thresholds_writes e j
    rw [hw]
    split
    · next hlost =>
      rw [Ev.tripHolder, show (e.withHealth j ((e.tank j).aged e.now) r ds).listLine j = e.listLine j from rfl]
      split
      · next m hm => exact congrArg Prod.fst (Ev.trip_lane _ m _ fun hml : l = m => hl ⟨hml ▸ hm, hlost⟩)
      · rfl
    · rfl

theorem Ev.Ages.expired (h : e.Ages x) (hr : (x.tank k).reading = (e.tank k).reading) (he : (e.tank k).expired e.now) :
    (x.tank k).expired x.now := by
  rw [Tank.expired, h.now, h.lastNew, show (x.tank k).health = (e.tank k).health from congrArg TankReading.health hr]
  exact he

theorem Ev.Ages.listLine (h : e.Ages x) (k : TankId) : x.listLine k = e.listLine k := by
  simp only [State.listLine, State.list, h.lists]

/-- The thresholds close the flowing line of an ACTIVE or INCOMING tank they lose (R50, R147). -/
theorem Ev.eachTank_closesWith (h : e.calm g) (hl : e.listLine k = some l) (hf : e.flowing l = true)
    (hk : (e.tank k).expired e.now) (hu : (e.tank k).use.filling = true) :
    (e.eachTank allTanks (fun k x => x.thresholds k)).toState.closesWith l .trip none (some .tankLost) := by
  have hlive (x : Ev) (hx : x.line l = e.line l ∨ x.toState.closesWith l .trip none (some .tankLost)) :
      x.flowing l = true ∨ x.toState.closesWith l .trip none (some .tankLost) :=
    hx.imp_left fun hx => (State.flowing_of_line hx).trans hf
  refine (foldl_reaches
    (P := fun x => e.Ages x ∧ (x.tank k).reading = (e.tank k).reading ∧
      (x.line l = e.line l ∨ x.toState.closesWith l .trip none (some .tankLost)))
    (Q := fun x => x.toState.closesWith l .trip none (some .tankLost)) (mem_allTanks k)
    (fun j _ hj x ⟨ha, hr, hx⟩ => ⟨Ev.thresholds_ages ha j, ?_, ?_⟩)
    (fun x ⟨ha, hr, hx⟩ => (Ev.thresholds_closesWith (hlive x hx)).2 ((ha.listLine k).trans hl) (ha.expired hr hk) ?_)
    (fun j _ x hx => ?_) ⟨.refl h, rfl, .inl rfl⟩)
  · obtain ⟨r, hread⟩ := Ev.thresholds_reading x j k
    rw [if_neg hj.symm] at hread
    exact hread.trans hr
  · rcases (Ev.thresholds_closesWith (j := j) (hlive x hx)).1 with hsame | hcl
    · rcases hx with hx | hx
      · exact .inl (hsame.trans hx)
      · exact .inr (State.closesWith_of_line hsame hx)
    · exact .inr hcl
  · rw [(ha.tank k).1]; exact hu
  · rcases (Ev.thresholds_closesWith (j := j) (.inr hx)).1 with hsame | hcl
    · exact State.closesWith_of_line hsame hx
    · exact hcl

/-- A line that loses no tank keeps its records through the thresholds, and its tanks what the tests look at. -/
theorem Ev.eachTank_kept (h : e.calm g) (hlist : ∀ n ∈ e.list l, ¬ Config.lostMs ≤ elapsed e.now (e.tank n).lastNew)
    (hapart : ∀ n ∈ e.list l, ∀ m, m ≠ l → n ∉ e.list m) :
    let y := e.eachTank allTanks (fun k x => x.thresholds k)
    y.lane l = e.lane l ∧ ∀ n ∈ e.list l, (y.tank n).measures = (e.tank n).measures := by
  have hlist' (x : Ev) (hx : e.Ages x) (m : LineId) : x.list m = e.list m := by rw [State.list, hx.lists]; rfl
  have hkeep (x : Ev) (hx : e.Ages x) (j : TankId) (hj : x.listLine j = some l) : ¬ (x.tank j).expired x.now := by
    intro he
    have hmem := State.listLine_mem hj
    rw [hlist' x hx] at hmem
    refine hlist j hmem ?_
    rw [← hx.now, ← hx.lastNew]
    exact he.2
  refine (foldl_keeps (P := fun x => e.Ages x ∧ x.lane l = e.lane l ∧
    ∀ n ∈ e.list l, (x.tank n).measures = (e.tank n).measures) (as := allTanks)
    (fun j _ x ⟨hx, hlane, hm⟩ => ⟨Ev.thresholds_ages hx j, ?_, fun n hn => ?_⟩) ⟨.refl h, rfl, fun _ _ => rfl⟩).2
  · exact (Ev.thresholds_lane (hkeep x hx j)).trans hlane
  · refine (Ev.thresholds_measures (hkeep x hx j) fun m hml => ?_).trans (hm n hn)
    rw [hlist' x hx]
    exact hapart n hn m hml

/-! ### The schedule (R136, R137) -/

theorem Walk.visit_length (h : Health) (w : Walk) (k : TankId) (hw : w.slots.length ≤ 5) : (w.visit h k).slots.length ≤ 5 := by
  unfold Walk.visit
  split
  · split
    · simp only [List.length_append, List.length_singleton]; omega
    · exact hw
  · split
    · simp only [List.length_append, List.length_cons, List.length_nil]; omega
    · split <;> exact hw

theorem State.priorityPolls_length (s : State) : s.priorityPolls.1.length ≤ 5 := by
  unfold State.priorityPolls
  dsimp only
  split
  · assumption
  · exact (List.length_take_le _ _)

theorem State.walk_length (s : State) : s.walk.slots.length ≤ 5 := by
  unfold State.walk
  refine List.foldlRecOn (motive := fun w : Walk => w.slots.length ≤ 5) _ _ ?_ fun w hw k _ => w.visit_length _ k hw
  rw [List.length_map]
  exact s.priorityPolls_length

theorem Ev.makeSchedule_length (e : Ev) : e.makeSchedule.link.slots.length = 5 := by
  have := e.walk_length
  simp only [Ev.makeSchedule, Ev.modLink, List.length_append, List.length_replicate]
  omega

/-- The schedule writes the link alone, and keeps of it what the polls and the panel left. -/
theorem Ev.makeSchedule_writes (e : Ev) : ∃ k : Link, e.makeSchedule = { e with link := k } ∧ k.cycle = e.link.cycle ∧
    k.sent = e.link.sent ∧ k.state = e.link.state ∧ k.panel = e.link.panel ∧ k.missCount = e.link.missCount ∧
    k.poll = e.link.poll ∧ k.slots.length = 5 :=
  ⟨_, rfl, rfl, rfl, rfl, rfl, rfl, rfl, e.makeSchedule_length⟩

/-! ### The tests of a line at a marker (R135) -/

theorem Ev.markerLine_ground (e : Ev) (l : LineId) : (e.markerLine l).ground = e.ground := by
  unfold Ev.markerLine
  split <;> simp

theorem Ev.markerLine_lane (e : Ev) (l : LineId) (h : m ≠ l) : (e.markerLine l).lane m = e.lane m := by
  unfold Ev.markerLine
  split <;> simp [h]

theorem Ev.markerLine_calm (h : e.calm g) (l : LineId) : (e.markerLine l).calm g := by
  unfold Ev.markerLine
  split
  · exact Ev.evaluateMarks_calm l h
  · exact Ev.overrunTest_calm l h
  · exact Ev.closeStartTest_calm l h
  all_goals exact h

/-- A line in CLOSING is not tested. -/
theorem Ev.markerLine_closing (h : (e.line l).state = .closing) : e.markerLine l = e := by
  rw [Ev.markerLine, h]

section
variable {x v : State} {mark : Nat} {target : Option TankId} {te : Option Bool}

theorem State.closeStartTested.not_starting (h : x.closeStartTested v l te mark) : (v.line l).state ≠ .starting := by
  unfold State.closeStartTested at h
  split at h
  · split at h
    · rw [h.1.1]; nofun
    · rw [h.1.1]; nofun
  · rw [h.1]; nofun

theorem State.overruns.not_starting (hx : (x.line l).state ≠ .starting) (h : x.overruns v l mark) :
    (v.line l).state ≠ .starting := by
  unfold State.overruns at h
  split at h
  · rw [h.1.1]; nofun
  · rwa [h]

theorem State.marksEvaluated.not_starting (hx : (x.line l).state ≠ .starting) (h : x.marksEvaluated v l d target) :
    (v.line l).state ≠ .starting := by
  cases target with
  | none =>
    unfold State.marksEvaluated at h
    dsimp only at h
    split at h
    · exact h.1.not_starting
    · rwa [h]
  | some n =>
    unfold State.marksEvaluated at h
    dsimp only at h
    split at h
    · rw [h.1]; nofun
    · rwa [h]

end

end Sys2Proof.Machine
end

section
/-! O38: MARKER opens a cycle. -/

namespace Sys2Proof.Machine
variable {e e' e'' x y z w : Ev} {l m : LineId} {g : Ground} {s u v : State} {t : Time} {j k n : TankId} {d : Declaration}

/-! ### The tests of the lines at a marker, one after the other -/

/-- Line `l` stands in `x` as in `y`: its records and the tanks of its list, with all the lists and the ground. -/
structure Ev.Standing (y x : Ev) (l : LineId) : Prop where
  lane : x.lane l = y.lane l
  tanks : ∀ n ∈ y.list l, x.tank n = y.tank n
  lists : x.lists = y.lists
  ground : x.ground = y.ground

theorem State.Stands.of_lane {z v : Ev} {ks : List TankId} (hl : v.lane l = z.lane l) (ht : ∀ n ∈ ks, v.tank n = z.tank n) :
    z.toState.Stands v.toState l ks where
  line := ⟨_, congrArg Prod.fst hl⟩
  same _ := congrArg Prod.fst hl
  list := congrArg (fun p => p.2.1) hl
  evaluation := congrArg (fun p => p.2.2.1.evaluation) hl
  flow := congrArg (fun p => p.2.2.2.2) hl
  tanks := ht

/-- The tests of the other lines before and after that of a line change nothing that it sees or that its test promises. -/
theorem Ev.eachLine_markerLine (hapart : ∀ n ∈ y.list l, ∀ m, m ≠ l → n ∉ y.list m) :
    let z := y.eachLine (fun l x => x.markerLine l)
    z.lists = y.lists ∧ ∃ x : Ev, y.Standing x l ∧ (x.markerLine l).toState.Stands z.toState l (y.list l) := by
  have hnot {x : Ev} (hx : x.lists = y.lists) {m : LineId} {n : TankId} (hn : n ∈ y.list l) (hm : m ≠ l) : n ∉ x.list m := by
    rw [State.list, hx]
    exact hapart n hn m hm
  refine Ev.eachLine_at (P := fun x => y.Standing x l)
    (Q := fun z => z.lists = y.lists ∧ ∃ x : Ev, y.Standing x l ∧ (x.markerLine l).toState.Stands z.toState l (y.list l))
    (fun l x => x.markerLine l) l ⟨rfl, fun _ _ => rfl, rfl, rfl⟩ (fun m x hm hx => ?_) (fun x hx => ?_)
    (fun m z hm ⟨hz, x, hx, hstands⟩ => ?_)
  · have hon := Ev.markerLine_onList x m
    exact ⟨(Ev.markerLine_lane x m hm.symm).trans hx.lane,
      fun n hn => (hon.tank n (hnot hx.lists hn hm)).trans (hx.tanks n hn), hon.lists.trans hx.lists,
      (Ev.markerLine_ground x m).trans hx.ground⟩
  · exact ⟨(Ev.markerLine_onList x l).lists.trans hx.lists, x, hx, .refl _ l _⟩
  · have hon := Ev.markerLine_onList z m
    exact ⟨hon.lists.trans hz, x, hx, hstands.trans
      (.of_lane (Ev.markerLine_lane z m hm.symm) fun n hn => hon.tank n (hnot hz hn hm))⟩

/-- A line that closes is left alone by the tests of the lines. -/
theorem Ev.eachLine_markerLine_closing (h : (y.line l).state = .closing) :
    (y.eachLine (fun l x => x.markerLine l)).line l = y.line l := by
  refine Ev.eachLine_keeps (P := fun x => x.line l = y.line l) (fun m x hx => ?_) rfl
  by_cases hm : l = m
  · subst hm
    rw [Ev.markerLine_closing (by rwa [hx])]
    exact hx
  · exact (congrArg Prod.fst (Ev.markerLine_lane x m hm)).trans hx

/-! ### What a marker's tests see -/

/-- The state in which the lines are tested at a marker. -/
def Ev.scheduled (e : Ev) : Ev := (e.eachTank allTanks (fun k x => x.thresholds k)).makeSchedule

theorem Ev.Standing.health (h : y.Standing x l) (k : TankId) : (x.tank k).health = (y.tank k).health :=
  congrArg TankReading.health (reading_of_ground h.ground k)

/-- A line whose tanks are not lost at the marker sees at its test what it saw before. -/
theorem Ev.scheduled_sees (h : e.calm g) (hlist : ∀ n ∈ e.list l, ¬ Config.lostMs ≤ elapsed e.now (e.tank n).lastNew)
    (hapart : ∀ n ∈ e.list l, ∀ m, m ≠ l → n ∉ e.list m) (hx : e.scheduled.Standing x l) :
    e.toState.Sees x.toState l ∧ x.line l = e.line l ∧ ∀ k, (x.tank k).health = (e.tank k).aged e.now := by
  obtain ⟨hages, hhealth⟩ := Ev.eachTank_thresholds h
  obtain ⟨hlane, hmeasures⟩ := Ev.eachTank_kept h hlist hapart
  obtain ⟨kl, hk, -⟩ := Ev.makeSchedule_writes (e.eachTank allTanks (fun k x => x.thresholds k))
  have hs : e.scheduled = { e.eachTank allTanks (fun k x => x.thresholds k) with link := kl } := hk
  rw [hs] at hx
  generalize e.eachTank allTanks (fun k x => x.thresholds k) = y at *
  have hlane' : x.lane l = e.lane l := hx.lane.trans hlane
  have hlist' : y.list l = e.list l := congrArg (fun p => p.2.1) hlane
  have hline : x.line l = e.line l := congrArg Prod.fst hlane'
  refine ⟨⟨congrArg LineRec.profile hline, congrArg (fun p => p.2.1) hlane', congrArg (fun p => p.2.2.1) hlane',
    congrArg (fun p => p.2.2.2.2.meter) hlane', ?_, ?_, fun n hn => ?_⟩, hline, fun k => (hx.health k).trans (hhealth k)⟩
  · exact (now_of_ground hx.ground).trans hages.now
  · exact (grades_of_ground hx.ground).trans (congrArg Ground.grades hages.ground)
  · exact (congrArg Tank.measures (hx.tanks n (hlist' ▸ hn))).trans (hmeasures n hn)

/-- A tank that the thresholds do not lose is LIVE after them when its last new reading is not 3000 ms old. -/
theorem Tank.aged_live {now : Time} {a : Tank} (h : ¬ Config.lostMs ≤ elapsed now a.lastNew) :
    (a.aged now == .live) = (a.health == .live && decide (elapsed now a.lastNew < 3000)) := by
  rw [Tank.aged, if_neg h]
  by_cases hlive : a.health = .live
  · rw [hlive]
    by_cases hfresh : elapsed now a.lastNew < 3000
    · have hstale : ¬ Config.staleMs ≤ elapsed now a.lastNew := Nat.not_le.mpr hfresh
      simp [hstale, hfresh]
    · have hstale : Config.staleMs ≤ elapsed now a.lastNew := Nat.not_lt.mp hfresh
      simp [hstale, hfresh, Health.read]
  · simp [hlive]

/-- The successor of a line at a marker: still LIVE when its last new reading is not 3000 ms old. -/
theorem State.Sees.changeoverTarget {x y : State} (h : x.Sees y l) (hlist : ∀ n ∈ x.list l, ¬ Config.lostMs ≤ elapsed t (x.tank n).lastNew)
    (hh : ∀ k, (y.tank k).health = (x.tank k).aged t) : y.changeoverTarget l =
      (x.changeoverTarget l).filter (fun n => decide (elapsed t (x.tank n).lastNew < 3000)) := by
  have hsucc : y.successor l = x.successor l := by rw [State.successor, State.successor, h.list]
  unfold State.changeoverTarget
  rw [hsucc, h.changeoverAgreed]
  cases hk : x.successor l with
  | none => rfl
  | some k =>
    have hmem : k ∈ x.list l := List.drop_subset _ _ (List.mem_of_head? hk)
    dsimp only
    rw [hh, Tank.aged_live (hlist k hmem)]
    rw [← Bool.and_assoc]
    cases x.changeoverAgreed l && (x.tank k).health == .live
    · rfl
    · rw [Bool.true_and]
      rfl

theorem Ev.calm.relinked (h : e.calm g) (k : Link) : Ev.calm { e with link := k }.ground { e with link := k } := by
  refine ⟨rfl, fun r hr => ?_⟩
  have hcalm := h.2 r hr
  rw [← h.1] at hcalm
  exact hcalm

/-- The tests of the lines start from the calm in which the thresholds ended. -/
theorem Ev.scheduled_ground (h : e.calm g) : e.scheduled.lists = e.lists ∧ e.scheduled.calm e.scheduled.ground ∧
    e.scheduled.ground = { e.ground with
      link := e.scheduled.link, readings := e.scheduled.ground.readings } := by
  obtain ⟨hages, -⟩ := Ev.eachTank_thresholds h
  obtain ⟨k, hk, -⟩ := Ev.makeSchedule_writes (e.eachTank allTanks (fun k x => x.thresholds k))
  have hs : e.scheduled = { e.eachTank allTanks (fun k x => x.thresholds k) with link := k } := hk
  have hcalm := hages.calm.relinked k
  rw [hs]
  exact ⟨hages.lists, hcalm, congrArg (fun g : Ground => { g with link := k }) hages.ground⟩

/-- What a marker's test of a line promises, the line's tanks not lost and its valve off the closed limit switch. -/
theorem Ev.scheduled_tests (h : e.calm g) (hapart : e.listsApart)
    (hd : (e.activeTank l).bind (fun k => (e.tank k).decl) = some d) (hsw : (e.valve l).closedSwitch = false)
    (hlist : ∀ n ∈ e.list l, ¬ Config.lostMs ≤ elapsed e.now (e.tank n).lastNew) :
    let v := (e.scheduled.eachLine (fun l x => x.markerLine l)).drain.toState
    ((e.line l).state = .bulk → e.toState.marksEvaluated v l d
      ((e.changeoverTarget l).filter (fun n => decide (elapsed e.now (e.tank n).lastNew < 3000)))) ∧
    ((e.line l).state = .changeover → e.toState.overruns v l d.finalMm) ∧
    ((e.line l).state = .topping → e.toState.closeStartTested v l (e.line l).tankEnd d.finalMm) := by
  obtain ⟨hlists, hcalm, hground⟩ := Ev.scheduled_ground h
  have hlisted (m : LineId) : e.scheduled.list m = e.list m := by rw [State.list, hlists]; rfl
  have hapart' : ∀ n ∈ e.list l, ∀ m, m ≠ l → n ∉ e.list m := fun n hn m hm => (hapart l).2 m hm n hn
  obtain ⟨hzlists, x, hx, hstands⟩ := Ev.eachLine_markerLine (y := e.scheduled) (l := l) (by simpa only [hlisted] using hapart')
  obtain ⟨hsees, hline, hhealth⟩ := Ev.scheduled_sees h hlist hapart' hx
  have hd' : (x.activeTank l).bind (fun k => (x.tank k).decl) = some d := hsees.decl.trans hd
  have hzcalm := Ev.eachLine_calm (g := e.scheduled.ground) (e := e.scheduled) (fun l x => x.markerLine l)
    (fun l x hx => Ev.markerLine_calm hx l) hcalm
  have hzsw : ((e.scheduled.eachLine (fun l x => x.markerLine l)).valve l).closedSwitch = false :=
    (congrArg (fun g : Ground => (g.inputs l).closedSwitch) (hzcalm.1.trans hground)).trans hsw
  rw [hlisted] at hstands
  generalize e.scheduled.eachLine (fun l x => x.markerLine l) = z at *
  have hstands' (hns : ((x.markerLine l).line l).state ≠ .starting) :
      (x.markerLine l).toState.Stands z.drain.toState l (e.list l) := by
    refine hstands.trans (Ev.drain_stands hzcalm hzsw ?_ fun n hn m hm => ?_)
    · obtain ⟨b, hb⟩ := hstands.line
      rwa [hb]
    · rw [State.list, hzlists]
      change n ∉ e.scheduled.list m
      rw [hlisted]
      exact hapart' n hn m hm
  refine ⟨fun hs => ?_, fun hs => ?_, fun hs => ?_⟩
  · have hxs : (x.line l).state = .bulk := by rwa [hline]
    have hm : x.markerLine l = x.evaluateMarks l := by rw [Ev.markerLine, hxs]
    have htested := Ev.evaluateMarks_evaluated (e := x) (l := l) hd'
    rw [← hm] at htested
    have hst := hstands' (htested.not_starting (by rw [hxs]; nofun))
    rw [← hsees.changeoverTarget hlist hhealth]
    have htarget : ∀ n, x.changeoverTarget l = some n → n ∈ e.list l :=
      fun n hn => hsees.list ▸ State.changeoverTarget_mem hn
    exact hst.marksEvaluated (by rw [hs]; nofun) htarget (hsees.marksEvaluated hline htarget htested)
  · have hxs : (x.line l).state = .changeover := by rwa [hline]
    have hm : x.markerLine l = x.overrunTest l := by rw [Ev.markerLine, hxs]
    have htested := Ev.overrunTest_overruns (e := x) (l := l) hxs hd'
    rw [← hm] at htested
    have hst := hstands' (htested.not_starting (by rw [hxs]; nofun))
    exact hst.overruns (by rw [hs]; nofun) (hsees.overruns hline htested)
  · have hxs : (x.line l).state = .topping := by rwa [hline]
    have hm : x.markerLine l = x.closeStartTest l := by rw [Ev.markerLine, hxs]
    have htested := Ev.closeStartTest_tested (e := x) (l := l) hxs hd'
    rw [← hm, hline] at htested
    exact (hstands' htested.not_starting).closeStartTested
      (hsees.closeStartTested (congrArg LineRec.late hline) htested)

theorem Health.read_iff {h : Health} : h.read = true ↔ h = .live ∨ h = .stale := by cases h <;> decide

theorem Tank.aged_eq (now : Time) (a : Tank) : a.aged now = if a.health = .live ∨ a.health = .stale then
    if 15000 ≤ elapsed now a.lastNew then .lost else if 3000 ≤ elapsed now a.lastNew then .stale else a.health
    else a.health := by
  unfold Tank.aged
  simp only [Health.read_iff, Config.lostMs, Config.staleMs]
  by_cases hlost : 15000 ≤ elapsed now a.lastNew
  · simp only [hlost, if_true]
  · by_cases hlive : a.health = .live
    · simp [hlive, hlost]
    · by_cases hstale : a.health = .stale
      · simp [hstale, hlost]
      · simp [hlive, hstale]

/-- Settles O38: the thresholds are applied tank by tank, the schedule writes the link, and the tests of the other lines leave
a line and the tanks of its list alone. -/
theorem markerOpensACycle : Obligations.MarkerOpensACycle := by
  intro s t
  have hop : exec (.marker t) s = event t s Ev.marker := rfl
  obtain ⟨e, he⟩ : ∃ e : Ev, e = (begin t s).modLink (fun x => { x with
    cycle := some (nextCycle s.link.cycle),
    sent := some (.marker (nextCycle s.link.cycle) s.latch s.summaries (s.bargeWord .g1) (s.bargeWord .g2)) }) := ⟨_, rfl⟩
  have hz : (begin t s).marker = e.scheduled.eachLine (fun l x => x.markerLine l) := by rw [he]; rfl
  have hcalm : e.calm e.ground := by rw [he]; exact Ev.calm_of _ _ rfl rfl
  obtain ⟨hages, hhealth⟩ := Ev.eachTank_thresholds hcalm
  obtain ⟨hlists, hscalm, hground⟩ := Ev.scheduled_ground hcalm
  obtain ⟨kl, hk, hcycle, hsent, hstate, hpanel, hmiss, hpoll, hslots⟩ :=
    Ev.makeSchedule_writes (e.eachTank allTanks (fun k x => x.thresholds k))
  have hs : e.scheduled = { e.eachTank allTanks (fun k x => x.thresholds k) with link := kl } := hk
  have hlink : (e.eachTank allTanks (fun k x => x.thresholds k)).link = e.link := congrArg Ground.link hages.ground
  have hzcalm := Ev.eachLine_calm (g := e.scheduled.ground) (e := e.scheduled) (fun l x => x.markerLine l)
    (fun l x hx => Ev.markerLine_calm hx l) hscalm
  have hread (k : TankId) : (e.scheduled.tank k).reading =
      ((e.eachTank allTanks (fun k x => x.thresholds k)).tank k).reading := by rw [hs]; rfl
  have hgz := hzcalm.1
  have hend := (Ev.drain_ground _).trans hgz
  have hall := hend.trans hground
  have hpend : e.pending = s.pending ∧ e.now = t ∧ e.grades = s.grades := by rw [he]; exact ⟨rfl, rfl, rfl⟩
  have hblocks : (∀ k, e.tank k = s.tank k) ∧ (∀ l, e.line l = s.line l) ∧ (∀ l, e.valve l = s.valve l) ∧
      (∀ k, e.listLine k = s.listLine k) := by rw [he]; exact ⟨fun _ => rfl, fun _ => rfl, fun _ => rfl, fun _ => rfl⟩
  obtain ⟨htank, hline, hvalve, hlistLine⟩ := hblocks
  refine completes_of_drain _ hop hz ?_ ?_ fun v hv _ => ?_
  · exact (congrArg (fun g : Ground => g.port.pending) (hgz.trans hground)).trans hpend.1
  · exact (congrArg (fun g : Ground => g.port.now) (hgz.trans hground)).trans hpend.2.1
  have hvlink : v.link = kl := by rw [hv.linkGrades.1, link_of_ground hend, hs]
  have htanks (k : TankId) : ∃ r, (v.tank k).reading =
      { (s.tank k).reading with health := (s.tank k).aged t, refusal := r } := by
    obtain ⟨-, h, r, hr⟩ := hages.tank k
    refine ⟨r, ?_⟩
    have hh : h = (e.tank k).aged e.now := (congrArg TankReading.health hr).symm.trans (hhealth k)
    rw [hv.tank, reading_of_ground hend, hread, hr, hh, htank, hpend.2.1]
  have hlostMs : Config.lostMs = 15000 := rfl
  have hstaleMs : Config.staleMs = 3000 := rfl
  refine ⟨?_, ?_, ?_, ?_, ?_, ?_, ?_, fun k => ?_, fun k => ?_, ?_, fun l k hl hf hsw huse hlive hlost => ?_,
    fun hapart l k d hk hd hsw hlist => ?_⟩
  · rw [hvlink, hcycle, hlink, he]; rfl
  · rw [hvlink, hsent, hlink, he]; rfl
  · rw [hvlink, hstate, hlink, he]; rfl
  · rw [hvlink, hpanel, hlink, he]; rfl
  · rw [hvlink, hmiss, hlink, he]; rfl
  · rw [hvlink, hpoll, hlink, he]; rfl
  · rw [hvlink]; exact hslots
  · obtain ⟨r, hr⟩ := htanks k
    refine (congrArg TankReading.health hr).trans ?_
    exact Tank.aged_eq _ _
  · obtain ⟨r, hr⟩ := htanks k
    exact ⟨congrArg TankReading.latest hr, congrArg TankReading.missCount hr⟩
  · exact (hv.linkGrades.2.trans (congrArg Ground.grades hall)).trans hpend.2.2
  · -- the tank is lost to the thresholds, and its line trips
    have hexpired : (e.tank k).expired e.now := by
      rw [htank, hpend.2.1]
      exact ⟨Health.read_iff.mpr hlive, hlost⟩
    have hcloses := Ev.eachTank_closesWith hcalm ((hlistLine k).trans hl) ((State.flowing_of_line (hline l)).trans hf) hexpired
      (by rw [htank]; exact TankUse.filling_iff.mpr huse)
    have hscloses : e.scheduled.toState.closesWith l .trip none (some .tankLost) := by
      rw [hs]; exact State.closesWith_of_line (y := (e.eachTank allTanks (fun k x => x.thresholds k)).toState) rfl hcloses
    refine hv.closesWith (Ev.drain_closesWith hzcalm ?_
      (State.closesWith_of_line (Ev.eachLine_markerLine_closing hscloses.1) hscloses))
    exact (congrArg (fun g : Ground => (g.inputs l).closedSwitch) (hgz.trans hground)).trans
      ((congrArg Valve.closedSwitch (hvalve l)).trans hsw)
  · have hst := Ev.scheduled_tests (e := e) (l := l) (d := d) hcalm (by rw [he]; exact hapart)
      (by rw [he]; exact (congrArg (fun o : Option TankId => o.bind (fun k => (s.tank k).decl)) hk).trans hd)
      ((congrArg Valve.closedSwitch (hvalve l)).trans hsw) (by rw [he]; exact fun n hn => Nat.not_le.mpr (hlist n hn))
    have hsees : State.Sees { s with now := t } e.toState l := by
      rw [he]; exact ⟨rfl, rfl, rfl, rfl, rfl, rfl, fun _ _ => rfl⟩
    have htarget : e.changeoverTarget l = State.changeoverTarget { s with now := t } l := by rw [he]; rfl
    have hfilter : (e.changeoverTarget l).filter (fun n => decide (elapsed e.now (e.tank n).lastNew < 3000)) =
        (State.changeoverTarget { s with now := t } l).filter (fun n => decide (elapsed t (s.tank n).lastNew < 3000)) := by
      rw [htarget, hpend.2.1]
      simp only [htank]
    have hmem : ∀ n, (State.changeoverTarget { s with now := t } l).filter
        (fun n => decide (elapsed t (s.tank n).lastNew < 3000)) = some n → n ∈ s.list l := fun n hn =>
      State.changeoverTarget_mem (s := { s with now := t }) (Option.filter_eq_some_iff.mp hn).1
    obtain ⟨hbulk, hchangeover, htopping⟩ := hst
    rw [hline] at hbulk hchangeover htopping
    rw [hfilter] at hbulk
    have hstands := hv.stands l (s.list l)
    refine ⟨fun h => ?_, fun h => ?_, fun h => ?_⟩
    · exact hstands.marksEvaluated (by change (s.line l).state ≠ _; rw [h]; nofun) hmem
        (hsees.marksEvaluated (hline l) hmem (hbulk h))
    · exact hstands.overruns (by change (s.line l).state ≠ _; rw [h]; nofun) (hsees.overruns (hline l) (hchangeover h))
    · exact hstands.closeStartTested (hsees.closeStartTested (congrArg LineRec.late (hline l)) (htopping h))

end Sys2Proof.Machine
end

section
/-! The tests of CHANGEOVER and PROVING at a new reading (R10, R11, R45 to R48). -/

namespace Sys2Proof.Machine
variable {e e' e'' x y z w : Ev} {l m : LineId} {g : Ground} {s u v : State} {t : Time} {j k n old new : TankId}
  {d : Declaration} {ks : List TankId}

/-! ### States in which a reading is tested alike -/

/-- For the tests of line `l`, `y` holds what `x` holds: lines, lists, tanks, predictors, terms and time, and the line's meter. -/
structure State.Alike (x y : State) (l : LineId) : Prop where
  lines : y.lines = x.lines
  lists : y.lists = x.lists
  tanks : y.tanks = x.tanks
  preds : y.preds = x.preds
  grades : y.grades = x.grades
  now : y.now = x.now
  meter : (y.flow l).meter = (x.flow l).meter

namespace State.Alike
variable {x y : State} (h : x.Alike y l)
include h

theorem line : y.line l = x.line l := by rw [State.line, h.lines]; rfl
theorem list : y.list l = x.list l := by rw [State.list, h.lists]; rfl
theorem tank (k : TankId) : y.tank k = x.tank k := by rw [State.tank, h.tanks]; rfl

theorem sees : x.Sees y l :=
  ⟨congrArg LineRec.profile h.line, h.list, by rw [State.pred, h.preds]; rfl, h.meter, h.now, h.grades,
    fun n _ => congrArg Tank.measures (h.tank n)⟩

theorem profile : y.profile l = x.profile l := h.sees.profileOf

theorem changeoverTarget : y.changeoverTarget l = x.changeoverTarget l := by
  have hsucc : y.successor l = x.successor l := by rw [State.successor, State.successor, h.list]
  simp only [State.changeoverTarget, hsucc, h.sees.changeoverAgreed, h.tank]

theorem incomingRise : y.incomingRise l = x.incomingRise l := by
  simp only [State.incomingRise, h.sees.incomingTank, h.tank, h.profile]

theorem stopConfirmed : y.stopConfirmed l = x.stopConfirmed l := by
  simp only [State.stopConfirmed, h.sees.activeTank, h.tank, h.profile, h.now]

theorem incomingShare (k : TankId) : y.incomingShare l k = x.incomingShare l k := by
  simp only [State.incomingShare, h.tank, h.line]

theorem marksEvaluated (hv : y.marksEvaluated v l d (y.changeoverTarget l)) :
    x.marksEvaluated v l d (x.changeoverTarget l) := by
  rw [h.changeoverTarget] at hv
  exact h.sees.marksEvaluated h.line (fun _ hn => State.changeoverTarget_mem hn) hv

end State.Alike

/-! ### The changeover's success, as the tests see it (R46, R47) -/

/-- What a successful changeover leaves for the marks of the new ACTIVE tank, its credits apart. -/
def State.changedOver (x : State) (l : LineId) (old new : TankId) : State :=
  { x with lists := x.lists.set l ((x.list l).drop 1), preds := x.preds.set l Predictor.init,
           tanks := (x.tanks.set old { x.tank old with use := .done }).set new
             { x.tank new with use := .active, changeoverBase := none },
           lines := x.lines.set l { x.line l with
             state := .bulk, throttle := (x.profile l).bulkPos, pendingVol := 0, changeoverStart := none,
             fedSet := if (x.line l).fedSet.contains new then (x.line l).fedSet else (x.line l).fedSet ++ [new],
             baseline := some { level := (x.tank new).changeoverBase,
                                litres := (x.line l).delivered - x.incomingShare l new } } }

theorem State.Alike.changedOver {x y : State} (h : x.Alike y l) (old new : TankId) :
    (x.changedOver l old new).Alike (y.changedOver l old new) l := by
  refine ⟨?_, ?_, ?_, ?_, h.grades, h.now, h.meter⟩
  · simp only [State.changedOver, h.lines, h.line, h.profile, h.tank, h.incomingShare]
  · simp only [State.changedOver, h.lists, h.list]
  · simp only [State.changedOver, h.tanks, h.tank]
  · simp only [State.changedOver, h.preds]

/-- What the success of a changeover leaves of it at once (R45 to R47). -/
def State.succeeds (x v : State) (l : LineId) (old new : TankId) : Prop :=
  (v.tank old).use = .done ∧ (v.tank new).use = .active ∧ v.list l = (x.list l).drop 1 ∧
  (v.tank new).attributed = (x.tank new).attributed + x.incomingShare l new ∧
  (v.tank old).attributed = (x.tank old).attributed + ((x.line l).pendingVol - x.incomingShare l new) ∧
  ∀ d, (x.tank new).decl = some d →
    (x.changedOver l old new).marksEvaluated v l d ((x.changedOver l old new).changeoverTarget l)

theorem State.changeoverTested_iff {x v : State} {mark : Nat} : x.changeoverTested v l old new mark ↔
    if x.levelReaches l mark = false ∧ x.incomingRise l = true ∧ x.stopConfirmed l = true then x.succeeds v l old new
    else x.overruns v l mark := Iff.rfl

theorem State.Alike.changeoverTested {x y : State} {mark : Nat} (h : x.Alike y l)
    (hv : y.changeoverTested v l old new mark) : x.changeoverTested v l old new mark := by
  rw [State.changeoverTested_iff] at hv ⊢
  rw [h.sees.levelReaches, h.incomingRise, h.stopConfirmed] at hv
  split at hv
  · next hs =>
    rw [if_pos hs]
    obtain ⟨hold, hnew, hlist, hshare, hrest, hmarks⟩ := hv
    rw [h.list] at hlist
    rw [h.tank, h.incomingShare] at hshare
    rw [h.tank, h.line, h.incomingShare] at hrest
    refine ⟨hold, hnew, hlist, hshare, hrest, fun d hd => (h.changedOver old new).marksEvaluated (hmarks d ?_)⟩
    rw [h.tank]; exact hd
  · next hs => rw [if_neg hs]; exact h.sees.overruns h.line hv

/-- The rest of the event lets the promise of a reading in CHANGEOVER stand. -/
theorem State.Stands.changeoverTested {x z : State} {mark : Nat} (h : z.Stands v l (x.list l))
    (hx : (x.line l).state = .changeover) (hold : old ∈ x.list l) (hnew : new ∈ x.list l) (hz : x.changeoverTested z l old new mark) :
    x.changeoverTested v l old new mark := by
  rw [State.changeoverTested_iff] at hz ⊢
  split
  · next hs =>
    rw [if_pos hs] at hz
    obtain ⟨hdone, hactive, hlist, hshare, hrest, hmarks⟩ := hz
    refine ⟨?_, ?_, h.list.trans hlist, ?_, ?_, fun d hd => h.marksEvaluated ?_ (fun n hn => ?_) (hmarks d hd)⟩
    · rw [h.tanks old hold]; exact hdone
    · rw [h.tanks new hnew]; exact hactive
    · rw [h.tanks new hnew]; exact hshare
    · rw [h.tanks old hold]; exact hrest
    · rw [State.line, State.changedOver, Quad.get_set_same]; nofun
    · refine List.drop_subset 1 _ ?_
      have hmem := State.changeoverTarget_mem hn
      rwa [State.list, State.changedOver, Quad.get_set_same] at hmem
  · next hs =>
    rw [if_neg hs] at hz
    exact h.overruns (by rw [hx]; nofun) hz

/-! ### The success of a changeover at once -/

theorem Ev.throttleTo_tanks (e : Ev) (l : LineId) (pos : Nat) : (e.throttleTo l pos).tanks = e.tanks := by
  unfold Ev.throttleTo
  dsimp only
  refine (Ev.requestStroke_strokesOnly _ l .throttle pos false).tanks.trans ?_
  split <;> rfl

theorem Ev.closeStartTest_use (e : Ev) (l : LineId) (n : TankId) : ((e.closeStartTest l).tank n).use = (e.tank n).use := by
  unfold Ev.closeStartTest
  split
  · rfl
  · next d hd =>
    dsimp only
    have late : ((if e.levelReaches l d.finalMm = true then
        (e.modPred l (fun x => { x with evaluation := some (e.evaluationNow l d.finalMm) })).setLate l true
        else e.modPred l (fun x => { x with evaluation := some (e.evaluationNow l d.finalMm) })).tank n).use =
        (e.tank n).use := by
      split
      · simp [Ev.setLate, State.tank]
      · rfl
    split
    · split
      · exact (Ev.closeEntry_use _ l (reason := .tankEnd) nofun _ _ n).trans late
      · exact (Ev.closeEntry_use _ l (reason := .ending) nofun _ _ n).trans late
    · rfl

theorem Ev.enterChangeover_use (hn : n ≠ k) : ((e.enterChangeover l k).tank n).use = (e.tank n).use := by
  have throttled (y : Ev) : ((if (e.profile l).toppingPos < (e.line l).throttle then
      y.throttleTo l (e.profile l).toppingPos else y).tank n).use = (y.tank n).use := by
    split
    · rw [State.tank, Ev.throttleTo_tanks]; rfl
    · rfl
  have used : (e.setUse k .incoming).tank n = e.tank n := by rw [Ev.setUse_tank, if_neg hn]
  have based (y : Ev) (f : Tank → Tank) (hy : y.tank n = e.tank n) : (y.modTank k f).tank n = e.tank n :=
    (Tanks.get_set_ne _ _ hn).trans hy
  have entered (y : Ev) (f : LineRec → LineRec) (a : Flow → Flow) (hy : y.tank n = e.tank n) :
      (((y.modLine l f).modFlow l a).setState l .changeover).tank n = e.tank n :=
    (congrArg (fun tk : Tanks => tk.get n) (Ev.setState_tanks _ l .changeover)).trans hy
  exact (throttled _).trans (congrArg Tank.use (entered _ _ _ (based _ _ used)))

/-- The marks evaluated keep the use of every tank but the successor's. -/
theorem Ev.evaluateMarks_use (hn : ∀ k, e.changeoverTarget l = some k → n ≠ k) :
    ((e.evaluateMarks l).tank n).use = (e.tank n).use := by
  have throttled (y : Ev) : ((if (e.profile l).toppingPos < (e.line l).throttle then
      y.throttleTo l (e.profile l).toppingPos else y).tank n).use = (y.tank n).use := by
    split
    · rw [State.tank, Ev.throttleTo_tanks]; rfl
    · rfl
  unfold Ev.evaluateMarks
  split
  · rfl
  · split
    · next k hk =>
      split
      · exact Ev.enterChangeover_use (hn k hk)
      · rfl
    · split
      · refine (Ev.closeStartTest_use _ l n).trans ((throttled _).trans ?_)
        rw [State.tank, Ev.setState_tanks]; rfl
      · rfl

/-- The event of a successful changeover before its OPEN is requested. -/
def Ev.changeoverBooked (e : Ev) (l : LineId) (old new : TankId) : Ev :=
  let share := e.incomingShare l new
  let base := (e.tank new).changeoverBase
  let e1 := (e.credit new share).credit old ((e.line l).pendingVol - share)
  let e2 := (e1.setUse old .done).setList l ((e.list l).drop 1)
  let e3 := (e2.setUse new .active).modTank new (fun x => { x with changeoverBase := none })
  let e4 := e3.modLine l (fun x =>
    { x with pendingVol := 0, changeoverStart := none, throttle := (e.profile l).bulkPos,
             fedSet := if x.fedSet.contains new then x.fedSet else x.fedSet ++ [new],
             baseline := some { level := base, litres := x.delivered - share } })
  (e4.modFlow l (fun x => { x with watchActive := x.watchIncoming, watchIncoming := none })).clearPred l

/-- The event of a successful changeover before the marks of the new ACTIVE tank. -/
def Ev.changeoverMoved (e : Ev) (l : LineId) (old new : TankId) : Ev :=
  ((e.changeoverBooked l old new).requestStroke l .opening (e.profile l).bulkPos false).setState l .bulk

theorem Ev.changeoverSuccess_eq (e : Ev) (l : LineId) (old new : TankId) :
    e.changeoverSuccess l old new = (e.changeoverMoved l old new).evaluateMarks l := rfl

theorem Ev.changeoverBooked_tank (e : Ev) (l : LineId) {old new : TankId} (hne : old ≠ new) (n : TankId) :
    ∃ a, (e.changeoverBooked l old new).tank n = { (e.changedOver l old new).tank n with attributed := a } := by
  refine ⟨((e.changeoverBooked l old new).tank n).attributed, ?_⟩
  by_cases hnew : n = new
  · subst hnew
    simp [Ev.changeoverBooked, Ev.setUse, Ev.credit, Ev.clearPred, State.changedOver, State.tank, Tanks.get_set, hne, hne.symm]
  · by_cases hold : n = old
    · subst hold
      simp [Ev.changeoverBooked, Ev.setUse, Ev.credit, Ev.clearPred, State.changedOver, State.tank, Tanks.get_set, hnew]
    · simp [Ev.changeoverBooked, Ev.setUse, Ev.credit, Ev.clearPred, State.changedOver, State.tank, Tanks.get_set, hnew, hold]

/-- The changeover's success leaves, its credits apart, what the marks of the new ACTIVE tank are said to see. -/
theorem Ev.changeoverMoved_leaves (e : Ev) (l : LineId) {old new : TankId} (hne : old ≠ new) :
    let w := e.changeoverMoved l old new
    let y := e.changedOver l old new
    y.Sees w.toState l ∧ w.line l = y.line l ∧ w.changeoverTarget l = y.changeoverTarget l ∧ w.list l = y.list l ∧
    ∀ n, (w.tank n).use = (y.tank n).use := by
  have hs := Ev.requestStroke_strokesOnly (e.changeoverBooked l old new) l .opening (e.profile l).bulkPos false
  obtain ⟨sh, ds, hstate, -⟩ := Ev.setState_writes
    ((e.changeoverBooked l old new).requestStroke l .opening (e.profile l).bulkPos false) l .bulk
  have hlines : (e.changeoverMoved l old new).lines = (e.changedOver l old new).lines := by
    rw [Ev.changeoverMoved, hstate, hs.lines]
    simp [Ev.changeoverBooked, Ev.setUse, Ev.credit, Ev.clearPred, State.changedOver, State.line, Quad.set_set]
  have hlists : (e.changeoverMoved l old new).lists = (e.changedOver l old new).lists := by
    rw [Ev.changeoverMoved, hstate, hs.lists]
    simp [Ev.changeoverBooked, Ev.setUse, Ev.credit, Ev.clearPred, State.changedOver]
  have hpreds : (e.changeoverMoved l old new).preds = (e.changedOver l old new).preds := by
    rw [Ev.changeoverMoved, hstate, hs.preds]
    simp [Ev.changeoverBooked, Ev.setUse, Ev.credit, Ev.clearPred, State.changedOver]
  have hmeter : ((e.changeoverMoved l old new).flow l).meter = ((e.changedOver l old new).flow l).meter := by
    rw [Ev.changeoverMoved, hstate, State.flow, hs.flows]
    simp [Ev.changeoverBooked, Ev.setUse, Ev.credit, Ev.clearPred, State.changedOver, State.flow]
  have hgrades : (e.changeoverMoved l old new).grades = (e.changedOver l old new).grades := by
    rw [Ev.changeoverMoved, hstate, hs.grades]
    simp [Ev.changeoverBooked, Ev.setUse, Ev.credit, Ev.clearPred, State.changedOver]
  have hnow : (e.changeoverMoved l old new).now = (e.changedOver l old new).now := by
    rw [Ev.changeoverMoved, hstate, hs.now]
    simp [Ev.changeoverBooked, Ev.setUse, Ev.credit, Ev.clearPred, State.changedOver]
  have htank (n : TankId) : ∃ a, (e.changeoverMoved l old new).tank n =
      { (e.changedOver l old new).tank n with attributed := a } := by
    rw [Ev.changeoverMoved, hstate, State.tank, hs.tanks]
    exact Ev.changeoverBooked_tank e l hne n
  generalize e.changeoverMoved l old new = w at *
  have hline : w.line l = (e.changedOver l old new).line l := by rw [State.line, hlines]; rfl
  have hlist : w.list l = (e.changedOver l old new).list l := by rw [State.list, hlists]; rfl
  have hsees : State.Sees (e.changedOver l old new) w.toState l :=
    ⟨congrArg LineRec.profile hline, hlist, by rw [State.pred, hpreds]; rfl, hmeter, hnow, hgrades, fun n _ => by
      obtain ⟨a, ha⟩ := htank n
      rw [ha]; rfl⟩
  refine ⟨hsees, hline, ?_, hlist, fun n => ?_⟩
  · have hsucc : w.successor l = (e.changedOver l old new).successor l := by
      rw [State.successor, State.successor, hlist]
    unfold State.changeoverTarget
    rw [hsucc, hsees.changeoverAgreed]
    cases (e.changedOver l old new).successor l with
    | none => rfl
    | some k =>
      obtain ⟨a, ha⟩ := htank k
      dsimp only
      rw [ha]
  · obtain ⟨a, ha⟩ := htank n
    rw [ha]

/-! ### The tests of a line in CHANGEOVER -/

/-- The first tank of a list in CHANGEOVER is the ACTIVE one, the second the INCOMING one. -/
theorem State.changeover_tanks {ks : List TankId} (hlist : s.list l = old :: new :: ks) (hold : (s.tank old).use = .active)
    (hnew : (s.tank new).use = .incoming) : s.activeTank l = some old ∧ s.incomingTank l = some new := by
  rw [State.activeTank, State.incomingTank, hlist]
  simp [hold, hnew]

theorem Ev.changeoverSuccess_succeeds {ks : List TankId} (hlist : e.list l = old :: new :: ks) (hnd : (e.list l).Nodup) :
    e.toState.succeeds (e.changeoverSuccess l old new).toState l old new := by
  rw [hlist] at hnd
  have hne : old ≠ new := fun h => (List.nodup_cons.mp hnd).1 (h ▸ List.mem_cons_self)
  have holdks : old ∉ new :: ks := (List.nodup_cons.mp hnd).1
  have hnewks : new ∉ ks := (List.nodup_cons.mp (List.nodup_cons.mp hnd).2).1
  obtain ⟨-, hnewL, holdL, -⟩ := changeoverDividesThePendingVolume e l old new hne
  obtain ⟨hsees, hline, htarget, hwlist, huse⟩ := Ev.changeoverMoved_leaves e l hne
  have hylist : (e.changedOver l old new).list l = new :: ks := by
    rw [State.list, State.changedOver, Quad.get_set_same]
    rw [hlist]; rfl
  have hytarget (k : TankId) (hk : (e.changeoverMoved l old new).changeoverTarget l = some k) : k ∈ ks := by
    rw [htarget] at hk
    unfold State.changeoverTarget State.successor at hk
    rw [hylist] at hk
    cases hks : ks with
    | nil => rw [hks] at hk; cases hk
    | cons a as =>
      rw [hks] at hk
      simp only [List.drop_succ_cons, List.drop_zero, List.head?_cons] at hk
      split at hk
      · cases hk; exact List.mem_cons_self
      · cases hk
  have hyold : ((e.changedOver l old new).tank old).use = .done := by
    rw [State.tank, State.changedOver, Tanks.get_set_ne _ _ hne, Tanks.get_set_same]
  have hynew : ((e.changedOver l old new).tank new).use = .active := by
    rw [State.tank, State.changedOver, Tanks.get_set_same]
  refine ⟨?_, ?_, ?_, hnewL, holdL, fun d hd => ?_⟩
  · rw [Ev.changeoverSuccess_eq, Ev.evaluateMarks_use fun k hk (h : old = k) => holdks (h ▸ List.mem_cons_of_mem _ (hytarget k hk)), huse]
    exact hyold
  · rw [Ev.changeoverSuccess_eq, Ev.evaluateMarks_use fun k hk (h : new = k) => hnewks (h ▸ hytarget k hk), huse]
    exact hynew
  · rw [Ev.changeoverSuccess_eq, (Ev.evaluateMarks_onList _ l).list, hwlist, hylist, hlist]; rfl
  · have hactive : (e.changeoverMoved l old new).activeTank l = some new := by
      rw [hsees.activeTank, State.activeTank, hylist]
      simp [hynew]
    have hdecl : ((e.changeoverMoved l old new).activeTank l).bind
        (fun k => ((e.changeoverMoved l old new).tank k).decl) = some d := by
      rw [hsees.decl, ← hsees.activeTank, hactive]
      change ((e.changedOver l old new).tank new).decl = some d
      rw [State.tank, State.changedOver, Tanks.get_set_same]
      exact hd
    rw [Ev.changeoverSuccess_eq, ← htarget]
    exact hsees.marksEvaluated hline (fun n hn => State.changeoverTarget_mem (htarget ▸ hn)) (Ev.evaluateMarks_evaluated hdecl)

/-- The overrun test, then the success test, of a line in CHANGEOVER (R45, R48). -/
theorem Ev.changeoverTests_tested {ks : List TankId} (hst : (e.line l).state = .changeover) (hlist : e.list l = old :: new :: ks)
    (hnd : (e.list l).Nodup) (hold : (e.tank old).use = .active) (hnew : (e.tank new).use = .incoming)
    (hd : (e.tank old).decl = some d) :
    e.toState.changeoverTested (e.changeoverTests l).toState l old new d.finalMm := by
  obtain ⟨hactive, hincoming⟩ := State.changeover_tanks hlist hold hnew
  have hdecl : (e.activeTank l).bind (fun k => (e.tank k).decl) = some d := by rw [hactive]; exact hd
  have hoverrun := Ev.overrunTest_overruns hst hdecl
  rw [State.changeoverTested_iff, Ev.changeoverTests]
  by_cases hreach : e.levelReaches l d.finalMm = true
  · rw [if_neg (by rw [hreach]; exact fun h => absurd h.1 (by decide))]
    have hclosed := hoverrun
    rw [State.overruns, if_pos hreach] at hclosed
    rw [if_neg (by rw [hclosed.1.1]; nofun)]
    exact hoverrun
  · have hsame : e.overrunTest l = e := by rw [Ev.overrunTest, hdecl]; exact if_neg hreach
    rw [hsame] at hoverrun ⊢
    rw [if_pos hst, Ev.successTest, hactive, hincoming]
    dsimp only
    by_cases hs : e.incomingRise l = true ∧ e.stopConfirmed l = true
    · rw [if_pos ⟨by simpa using hreach, hs⟩, if_pos (by simpa using hs)]
      exact Ev.changeoverSuccess_succeeds hlist hnd
    · rw [if_neg (fun h => hs h.2), if_neg (by simpa using hs)]
      exact hoverrun

/-! ### The proving test (R10, R11) -/

/-- A proved line in BULK at bulk_pos. -/
def State.proved (x : State) (l : LineId) : State :=
  { x with lines := x.lines.set l { x.line l with
      state := .bulk, throttle := (x.profile l).bulkPos, provingStart := none } }

/-- What a reading in PROVING leaves of a line with a baseline. -/
def State.provingTested (x v : State) (l : LineId) (b : Baseline) (level : Nat) (d : Declaration) : Prop :=
  match b.level with
  | none => v.line l = { x.line l with baseline := some { b with level := some level } }
  | some b0 =>
    if b0 + (x.profile l).proveMm ≤ level ∧
        (((x.line l).delivered : Int) - b.litres - ((level : Int) - b0) * d.litresPerMm).natAbs ≤ (x.profile l).balanceTolL then
      (x.proved l).marksEvaluated v l d ((x.proved l).changeoverTarget l)
    else v.line l = x.line l

/-- The event of a proved line before its marks are evaluated. -/
def Ev.provingEnded (e : Ev) (l : LineId) : Ev :=
  ((e.requestStroke l .opening (e.profile l).bulkPos false).modLine l (fun x =>
    { x with throttle := (e.profile l).bulkPos, provingStart := none })).setState l .bulk

theorem Ev.provingEnded_alike (e : Ev) (l : LineId) : (e.proved l).Alike (e.provingEnded l).toState l := by
  have hs := Ev.requestStroke_strokesOnly e l .opening (e.profile l).bulkPos false
  obtain ⟨sh, ds, hstate, -⟩ := Ev.setState_writes ((e.requestStroke l .opening (e.profile l).bulkPos false).modLine l
    (fun x => { x with throttle := (e.profile l).bulkPos, provingStart := none })) l .bulk
  rw [Ev.provingEnded, hstate]
  refine ⟨?_, hs.lists, hs.tanks, hs.preds, hs.grades, hs.now, ?_⟩
  · simp [State.proved, State.line, hs.lines, Quad.set_set]
  · simp [State.proved, State.flow, hs.flows]

theorem Ev.provingTest_tested {b : Baseline} (hb : (e.line l).baseline = some b) (hk : e.activeTank l = some k)
    (hd : (e.tank k).decl = some d) (level : Nat) :
    e.toState.provingTested (e.provingTest l k level).toState l b level d := by
  cases hlevel : b.level with
  | none =>
    rw [Ev.provingTest, State.provingTested, hb]
    dsimp only
    rw [hlevel]
    exact Quad.get_set_same _ _ _
  | some b0 =>
    have hstep : e.provingTest l k level = if b0 + (e.profile l).proveMm ≤ level ∧
        (((e.line l).delivered : Int) - b.litres - ((level : Int) - b0) * d.litresPerMm).natAbs ≤
          (e.profile l).balanceTolL then (e.provingEnded l).evaluateMarks l else e := by
      rw [Ev.provingTest, hb]
      dsimp only
      rw [hlevel]
      dsimp only
      rw [hd]
      rfl
    have halike := Ev.provingEnded_alike e l
    have hdecl : ((e.provingEnded l).activeTank l).bind (fun k => ((e.provingEnded l).tank k).decl) = some d := by
      rw [halike.sees.decl]
      change (e.activeTank l).bind (fun k => (e.tank k).decl) = some d
      rw [hk]; exact hd
    rw [hstep, State.provingTested, hlevel]
    dsimp only
    split
    · exact halike.marksEvaluated (Ev.evaluateMarks_evaluated hdecl)
    · rfl

theorem State.Alike.provingTested {x y v : State} {b : Baseline} {level : Nat} (h : x.Alike y l)
    (hv : y.provingTested v l b level d) : x.provingTested v l b level d := by
  unfold State.provingTested at hv ⊢
  cases hb : b.level with
  | none => rw [hb] at hv; dsimp only at hv ⊢; rw [h.line] at hv; exact hv
  | some b0 =>
    rw [hb] at hv
    dsimp only at hv ⊢
    rw [h.line, h.profile] at hv
    split
    · next hp =>
      rw [if_pos hp] at hv
      have hproved : (x.proved l).Alike (y.proved l) l :=
        ⟨by simp only [State.proved, h.lines, h.line, h.profile], h.lists, h.tanks, h.preds, h.grades, h.now, h.meter⟩
      exact hproved.marksEvaluated hv
    · next hp => rw [if_neg hp] at hv; exact hv

theorem State.Stands.provingTested {x z : State} {b : Baseline} {level : Nat} (h : z.Stands v l (x.list l))
    (hx : (x.line l).state = .proving) (hz : x.provingTested z l b level d) : x.provingTested v l b level d := by
  unfold State.provingTested at hz ⊢
  cases hb : b.level with
  | none => rw [hb] at hz; exact h.line_eq (by rw [hx]; nofun) hz
  | some b0 =>
    rw [hb] at hz
    dsimp only at hz ⊢
    split
    · next hp =>
      rw [if_pos hp] at hz
      refine h.marksEvaluated ?_ (fun n hn => ?_) hz
      · rw [State.line, State.proved, Quad.get_set_same]; nofun
      · exact State.changeoverTarget_mem (s := x.proved l) hn
    · next hp => rw [if_neg hp] at hz; exact h.line_eq (by rw [hx]; nofun) hz

end Sys2Proof.Machine
end

section
/-! READING: what an accepted reading writes, and to whom it is handed on. -/

namespace Sys2Proof.Machine
variable {e e' e'' x y z w : Ev} {l m : LineId} {g : Ground} {s u v : State} {t : Time} {j k n old new : TankId}
  {d : Declaration} {ks : List TankId} {c : TripCause}

/-! ### A shutdown after a trip -/

theorem Ev.tripHolder_line (h : e.flowing l = true) :
    (e.tripHolder k c).line l = e.line l ∨ (e.tripHolder k c).toState.closesWith l .trip none (some c) := by
  unfold Ev.tripHolder
  split
  · next m hm =>
    by_cases hml : l = m
    · subst hml; exact .inr (Ev.trip_closesWith (.inl h))
    · exact .inl (congrArg Prod.fst (Ev.trip_lane e m c hml))
  · exact .inl rfl

/-- A line that flows, or that a trip closes, closes with reason ESD once a cause is raised anew (R89, R170). -/
theorem Ev.raiseCause_closesWith_of {cause : EsdCause} (hx : e.shut.causes.get cause = none)
    (h : e.flowing l = true ∨ e.toState.closesWith l .trip none (some c)) :
    (e.raiseCause cause).toState.closesWith l .esd none (some .esd) := by
  rcases h with hf | hcl
  · exact Ev.raiseCause_closesWith hx hf
  · exact Ev.raiseCause_retrips hx hcl.1 (by rw [hcl.2.1]; nofun) hcl.2.2.2.1

/-- A part shut down at once stays so to the end of the event (R170). -/
theorem Ev.drain_isShutDown (hc : e.calm g) (h : e.isShut)
    (hcl : ∀ l, s.flowing l = true → e.toState.closesWith l .esd none (some .esd))
    (hsw : ∀ l, (e.valve l).closedSwitch = (s.valve l).closedSwitch) : s.shutDown e.drain.toState := by
  obtain ⟨hlatch, hperm, hall⟩ := Ev.drain_isShut h
  exact ⟨hlatch, fun l => (hall l).1, (Ev.drain_isShut h).permit, fun l => (hall l).2.1, fun l => (hall l).2.2,
    fun l hf hs => Ev.drain_closesWith hc ((hsw l).trans hs) (hcl l hf)⟩

/-- A cause raised in the blocks of `s`, of which a trip may have closed a line: its place in the set, and the shutdown. -/
theorem Ev.raiseCause_outcome {cause : EsdCause} (hcauses : e.shut.causes = s.shut.causes)
    (hl : ∀ l, s.flowing l = true → e.flowing l = true ∨ ∃ c, e.toState.closesWith l .trip none (some c)) :
    ((e.raiseCause cause).shut.causes.get cause).isSome = true ∧
    (s.shut.causes.get cause = none → (e.raiseCause cause).isShut ∧
      ∀ l, s.flowing l = true → (e.raiseCause cause).toState.closesWith l .esd none (some .esd)) := by
  cases hx : s.shut.causes.get cause with
  | some t0 =>
    refine ⟨?_, nofun⟩
    rw [Ev.raiseCause_old e cause (by rw [hcauses, hx]; rfl), hcauses, hx]
    rfl
  | none =>
    have hx' : e.shut.causes.get cause = none := by rw [hcauses]; exact hx
    refine ⟨?_, fun _ => ⟨Ev.raiseCause_isShut e hx', fun l hf => ?_⟩⟩
    · rw [Ev.raiseCause_causes e hx', CauseSet.get_add, if_pos rfl]; rfl
    · rcases hl l hf with h | ⟨c, h⟩
      · exact Ev.raiseCause_closesWith hx' h
      · exact Ev.raiseCause_closesWith_of hx' (.inr h)

/-! ### Handing on -/

/-- What the watches, the settle, the changeover baseline and each test of a handed-on reading keep, handing it on keeps. -/
theorem Ev.handOn_keeps {P : Ev → Prop} {level : Nat} {advance : Bool}
    (hflow : ∀ y f, (∀ a : Flow, (f a).meter = a.meter) → P y → P (y.modFlow l f)) (hpred : ∀ y f, P y → P (y.modPred l f))
    (htank : ∀ y f, (∀ a : Tank, (f a).reading = a.reading) → P y → P (y.modTank k f))
    (hproving : ∀ y, P y → P (y.provingTest l k level)) (hmarks : ∀ y, P y → P (y.evaluateMarks l))
    (hover : ∀ y, P y → P (y.overrunTest l)) (hsuccess : ∀ y, P y → P (y.successTest l))
    (htopping : ∀ y, P y → P (y.closeStartTest l)) (h : P e) : P (e.handOn k l level advance) := by
  have hchange (y : Ev) (hy : P y) : P (y.changeoverTests l) := by
    unfold Ev.changeoverTests
    dsimp only
    split
    · exact hsuccess _ (hover y hy)
    · exact hover y hy
  unfold Ev.handOn
  split
  · dsimp only
    have hadvanced (y : Ev) (hy : P y) : P (if advance = true then y.modPred l (fun x => x.advanced (e.tank k).pair) else y) := by
      split
      · exact hpred y _ hy
      · exact hy
    have h2 := hadvanced _ (hflow e (fun x => { x with watchActive := x.watchActive.map (fun w =>
      if (e.line l).state = .proving then w.take level e.now else w.raise level e.now) }) (fun _ => rfl) h)
    split
    · exact hproving _ h2
    · exact hmarks _ h2
    · exact hchange _ h2
    · exact htopping _ h2
    all_goals exact h2
  · dsimp only
    split
    · exact hchange _ (htank _ _ (fun _ => rfl) (hflow e _ (fun _ => rfl) h))
    · exact hflow e _ (fun _ => rfl) h
  all_goals exact h

theorem Ev.handOn_calm (h : e.calm g) (k : TankId) (l : LineId) (level : Nat) (advance : Bool) :
    (e.handOn k l level advance).calm g :=
  Ev.handOn_keeps (P := fun y => y.calm g) (fun _ f hf hy => Ev.modFlow_calm l f hf hy) (fun _ f hy => Ev.modPred_calm l f hy)
    (fun _ f hf hy => Ev.modTank_calm k f hf hy) (fun _ hy => Ev.provingTest_calm l k level hy)
    (fun _ hy => Ev.evaluateMarks_calm l hy) (fun _ hy => Ev.overrunTest_calm l hy) (fun _ hy => Ev.successTest_calm l hy)
    (fun _ hy => Ev.closeStartTest_calm l hy) h

theorem Ev.handOn_causes (e : Ev) (k : TankId) (l : LineId) (level : Nat) (advance : Bool) :
    (e.handOn k l level advance).shut.causes = e.shut.causes :=
  Ev.handOn_keeps (P := fun y => y.shut.causes = e.shut.causes) (fun _ _ _ hy => hy) (fun _ _ hy => hy) (fun _ _ _ hy => hy)
    (fun y hy => (congrArg Prod.fst (Ev.provingTest_alarms (e := y) l k level rfl)).trans hy)
    (fun y hy => (congrArg Prod.fst (Ev.evaluateMarks_alarms (e := y) l rfl)).trans hy)
    (fun y hy => (congrArg Prod.fst (Ev.overrunTest_alarms (e := y) l rfl)).trans hy)
    (fun y hy => (congrArg Prod.fst (Ev.successTest_alarms (e := y) l rfl)).trans hy)
    (fun y hy => (congrArg Prod.fst (Ev.closeStartTest_alarms (e := y) l rfl)).trans hy) rfl

theorem Ev.handOn_lane (e : Ev) (k : TankId) (l : LineId) (level : Nat) (advance : Bool) (h : m ≠ l) :
    (e.handOn k l level advance).lane m = e.lane m :=
  Ev.handOn_keeps (P := fun y => y.lane m = e.lane m) (fun y f _ hy => (Ev.modFlow_lane y l f h).trans hy)
    (fun y f hy => (Ev.modPred_lane y l f h).trans hy) (fun _ _ _ hy => hy)
    (fun y hy => (Ev.provingTest_lane y l k level h).trans hy) (fun y hy => (Ev.evaluateMarks_lane y l h).trans hy)
    (fun y hy => (Ev.overrunTest_lane y l h).trans hy) (fun y hy => (Ev.successTest_lane y l h).trans hy)
    (fun y hy => (Ev.closeStartTest_lane y l h).trans hy) rfl

/-- A reading of a line that does not flow changes its watches and its settle alone. -/
theorem Ev.handOn_idle (h : e.flowing l = false) (k : TankId) (level : Nat) (advance : Bool) :
    ∃ ps fs, e.handOn k l level advance = { e with preds := ps, flows := fs } := by
  have hne (st : LineState) (hst : st.flowing = true) : (e.line l).state ≠ st := fun heq => by
    rw [State.flowing, heq, hst] at h; cases h
  unfold Ev.handOn
  split
  · dsimp only
    split
    · next hs => exact absurd hs (hne .proving rfl)
    · next hs => exact absurd hs (hne .bulk rfl)
    · next hs => exact absurd hs (hne .changeover rfl)
    · next hs => exact absurd hs (hne .topping rfl)
    all_goals
      split
      · exact ⟨_, _, rfl⟩
      · exact ⟨_, _, rfl⟩
  · dsimp only
    rw [if_neg (hne .changeover rfl)]
    exact ⟨_, _, rfl⟩
  all_goals exact ⟨_, _, rfl⟩

/-! ### HIGH_ALARM of an accepted reading (R148) -/

theorem Ev.highAlarmActs_calm (h : e.calm g) (k : TankId) (was : Bool) : (e.highAlarmActs k was).calm g := by
  unfold Ev.highAlarmActs
  split
  · split
    · split
      · exact Ev.trip_calm _ _ h
      · exact h
    · exact h
  · exact h

theorem Ev.highAlarmActs_causes (e : Ev) (k : TankId) (was : Bool) : (e.highAlarmActs k was).shut.causes = e.shut.causes := by
  unfold Ev.highAlarmActs
  split
  · split
    · split
      · exact congrArg Prod.fst (Ev.trip_alarms (e := e) _ _ rfl)
      · rfl
    · rfl
  · rfl

theorem Ev.highAlarmActs_line (k : TankId) (was : Bool) (h : e.flowing l = true) :
    (e.highAlarmActs k was).line l = e.line l ∨
      (e.highAlarmActs k was).toState.closesWith l .trip none (some .highAlarm) := by
  unfold Ev.highAlarmActs
  split
  · split
    · next m hm =>
      split
      · by_cases hml : l = m
        · subst hml; exact .inr (Ev.trip_closesWith (.inl h))
        · exact .inl (congrArg Prod.fst (Ev.trip_lane e m _ hml))
      · exact .inl rfl
    · exact .inl rfl
  · exact .inl rfl

/-- A line that closes already takes reason TRIP when the record's flag was clear, its plan going on (R89). -/
theorem Ev.highAlarmActs_closing {was : Bool} (hl : e.listLine k = some l) (hu : (e.tank k).use.filling = true)
    (hs : (e.line l).state = .closing) :
    (was = true → e.highAlarmActs k was = e) ∧
    (was = false → e.highAlarmActs k was = e.retripClosing l .trip .highAlarm) := by
  have hf : e.flowing l = false := by rw [State.flowing, hs]; rfl
  have hc : e.closing l = true := by rw [State.closing, hs]; rfl
  have hstep : e.highAlarmActs k was = if (e.flowing l || (e.closing l && !was)) = true then e.trip l .highAlarm else e := by
    rw [Ev.highAlarmActs, if_pos hu, hl]
  rw [hstep, hf, hc]
  refine ⟨fun h => by rw [h]; rfl, fun h => ?_⟩
  rw [h, if_pos (by rfl), Ev.trip, if_neg (by rw [hf]; nofun), if_pos hs]

theorem Ev.highAlarmActs_flowing (was : Bool) (hl : e.listLine k = some l) (hu : (e.tank k).use.filling = true)
    (hf : e.flowing l = true) : (e.highAlarmActs k was).toState.closesWith l .trip none (some .highAlarm) := by
  have hstep : e.highAlarmActs k was = e.trip l .highAlarm := by
    rw [Ev.highAlarmActs, if_pos hu, hl]
    dsimp only
    rw [hf]; rfl
  rw [hstep]
  exact Ev.trip_closesWith (.inl hf)

/-! ### An accepted reading -/

/-- The record of a tank after an accepted reading (R145, R148). -/
def Tank.afterReading (x : Tank) (toggle high overfull : Bool) (level : Nat) (t : Time) : Tank :=
  let y := { x with missCount := 0, highAlarm := high, overfill := overfull }
  if x.toggle = some toggle then y else y.takeNew toggle level t

/-- The tank's record written. -/
def Ev.withTank (e : Ev) (k : TankId) (x : Tank) (ds : List NoticeKey) : Ev :=
  { e with tanks := e.tanks.set k x, dirty := ds }

/-- The reading handed on when it is new and a line's list holds its tank. -/
def Ev.handedOn (e : Ev) (k : TankId) (isNew : Bool) (holder : Option LineId) (level : Nat) (advance : Bool) : Ev :=
  match isNew, holder with
  | true, some l => e.handOn k l level advance
  | _, _ => e

/-- What the alarms of an accepted reading do (R148). -/
def Ev.alarmed (e : Ev) (k : TankId) (was high overfull : Bool) : Ev :=
  let y := if high then e.highAlarmActs k was else e
  if overfull then y.raiseCause .overfill else y

theorem takeReading_accepted {q : Poll} {toggle high overfull fault : Bool} {level : Nat}
    (hr : (s.tank k).refuses fault level = false) : ∃ slots ds,
    (begin t s).shipHunt.takeReading q k toggle high overfull fault level =
      (((pollDecided s t .hunt slots).withTank k ((s.tank k).afterReading toggle high overfull level t) ds).alarmed k
        (s.tank k).highAlarm high overfull).handedOn k ((s.tank k).toggle != some toggle) (s.listLine k) level
          ((s.tank k).advances level) := by
  have hr' : ¬ ((begin t s).shipHunt.tank k).refuses fault level = true := by
    rw [show (begin t s).shipHunt.tank k = s.tank k from rfl, hr]; nofun
  unfold Ev.takeReading
  rw [if_neg hr']
  dsimp only
  obtain ⟨slots, hclosed⟩ : ∃ slots, (begin t s).shipHunt.closePoll q
      (if (s.tank k).toggle != some toggle then .reply .reading else .repeated) = pollDecided s t .hunt slots := ⟨_, rfl⟩
  have hsame : (begin t s).shipHunt.tank k = s.tank k := rfl
  rw [hsame, hclosed]
  by_cases hnew : (s.tank k).toggle = some toggle
  · have hne : ((s.tank k).toggle != some toggle) = false := by simpa using hnew
    rw [hne]
    refine ⟨slots, (begin t s).dirty, ?_⟩
    have hwritten : (pollDecided s t .hunt slots).withTank k ((s.tank k).afterReading toggle high overfull level t)
        (begin t s).dirty = (pollDecided s t .hunt slots).modTank k (fun y =>
          { y with missCount := 0, highAlarm := high, overfill := overfull }) := by
      rw [Tank.afterReading, if_pos hnew]; rfl
    rw [hwritten]
    rfl
  · have hne : ((s.tank k).toggle != some toggle) = true := by simpa using hnew
    rw [hne]
    obtain ⟨ds, hds⟩ := Ev.markIf_writes (((pollDecided s t .hunt slots).modTank k (fun y =>
      { y with missCount := 0, highAlarm := high, overfill := overfull })).modTank k (fun y => y.takeNew toggle level t))
      ((s.tank k).health == .stale || ((s.tank k).advances level && (s.tank k).marksAt level != (s.tank k).marks)) (.tank k)
    have hwritten : (((pollDecided s t .hunt slots).modTank k (fun y =>
        { y with missCount := 0, highAlarm := high, overfill := overfull })).modTank k
          (fun y => y.takeNew toggle level t)).markIf
        ((s.tank k).health == .stale || ((s.tank k).advances level && (s.tank k).marksAt level != (s.tank k).marks))
          (.tank k) =
        (pollDecided s t .hunt slots).withTank k ((s.tank k).afterReading toggle high overfull level t) ds := by
      rw [hds, Tank.afterReading, if_neg hnew]
      cases k <;> rfl
    refine ⟨slots, ds, ?_⟩
    rw [← hwritten]
    rfl

theorem exec_reading {q : Poll} {toggle : Nat} {flags : Byte} {level : Nat} (hq : s.link.poll = some q)
    (hk : q.kind = .read k) (ht : elapsed t q.start < 30) (htoggle : toggle < 2) :
    exec (.reading t k toggle flags level) s = event t s (fun e =>
      e.shipHunt.takeReading q k (toggle == 1) (flags.getLsbD 0) (flags.getLsbD 1) (flags.getLsbD 2) level) := by
  have htimeout : elapsed (begin t s).shipHunt.now q.start < q.timeout := by rw [Poll.timeout, hk]; exact ht
  have hframe : (begin t s).shipHunt.readingFrame k toggle flags level = (begin t s).shipHunt.takeReading q k (toggle == 1)
      (flags.getLsbD 0) (flags.getLsbD 1) (flags.getLsbD 2) level := by
    rw [Ev.readingFrame, Ev.tankFrame_read (e := (begin t s).shipHunt) hq htimeout hk, if_pos htoggle]
  exact congrArg (fun y => Host.Outcome.next (finish y)) hframe

end Sys2Proof.Machine
end

section
/-! O41: a reading reaches its tank and the line that its tank fills. -/

namespace Sys2Proof.Machine
variable {e e' e'' x y z w : Ev} {l m : LineId} {g : Ground} {s u v : State} {t : Time} {j k n old new : TankId}
  {d : Declaration} {ks : List TankId} {c : TripCause} {toggle high overfull : Bool} {level : Nat}

/-! ### The tank's record -/

theorem Tank.takeNew_fields (x : Tank) (toggle : Bool) (level : Nat) (t : Time) : let y := x.takeNew toggle level t
    y.use = x.use ∧ y.decl = x.decl ∧ y.latest = some { level := level, time := t } ∧ y.lastNew = t ∧
    y.toggle = some toggle ∧ y.health = (if x.health = .stale then .live else x.health) ∧ y.missCount = x.missCount ∧
    y.highAlarm = x.highAlarm ∧ y.overfill = x.overfill ∧ y.changeoverBase = x.changeoverBase := by
  unfold Tank.takeNew
  dsimp only
  split <;> exact ⟨rfl, rfl, rfl, rfl, rfl, rfl, rfl, rfl, rfl, rfl⟩

/-- What every accepted reading writes, and what a new and a repeated one do (R144, R145, R148). -/
theorem Tank.afterReading_fields (x : Tank) (toggle high overfull : Bool) (level : Nat) (t : Time) :
    let y := x.afterReading toggle high overfull level t
    y.use = x.use ∧ y.decl = x.decl ∧ y.missCount = 0 ∧ y.highAlarm = high ∧ y.overfill = overfull ∧
    (if x.toggle = some toggle then
      y.latest = x.latest ∧ y.lastNew = x.lastNew ∧ y.health = x.health ∧ y.toggle = x.toggle
    else y.latest = some { level := level, time := t } ∧ y.lastNew = t ∧ y.toggle = some toggle ∧
      y.health = if x.health = .stale then .live else x.health) := by
  unfold Tank.afterReading
  dsimp only
  split
  · exact ⟨rfl, rfl, rfl, rfl, rfl, rfl, rfl, rfl, rfl⟩
  · obtain ⟨huse, hdecl, hlatest, hnew, htoggle, hhealth, hmiss, hhigh, hover, -⟩ :=
      ({ x with missCount := 0, highAlarm := high, overfill := overfull } : Tank).takeNew_fields toggle level t
    exact ⟨huse, hdecl, hmiss, hhigh, hover, hlatest, hnew, htoggle, hhealth⟩

/-! ### The event of an accepted reading -/

theorem Ev.alarmed_calm (h : e.calm g) (k : TankId) (was high overfull : Bool) : (e.alarmed k was high overfull).calm g := by
  have hy : (if high = true then e.highAlarmActs k was else e).calm g := by
    split
    · exact Ev.highAlarmActs_calm h k was
    · exact h
  unfold Ev.alarmed
  dsimp only
  split
  · exact Ev.raiseCause_calm .overfill hy
  · exact hy

theorem Ev.handedOn_calm (h : e.calm g) (k : TankId) (isNew : Bool) (holder : Option LineId) (level : Nat) (advance : Bool) :
    (e.handedOn k isNew holder level advance).calm g := by
  unfold Ev.handedOn
  split
  · exact Ev.handOn_calm h k _ level advance
  · exact h

theorem Ev.handedOn_causes (e : Ev) (k : TankId) (isNew : Bool) (holder : Option LineId) (level : Nat) (advance : Bool) :
    (e.handedOn k isNew holder level advance).shut.causes = e.shut.causes := by
  unfold Ev.handedOn
  split
  · exact Ev.handOn_causes e k _ level advance
  · rfl

/-- A reading whose line does not flow changes the line's watches and settle alone. -/
theorem Ev.handedOn_idle (k : TankId) (isNew : Bool) {holder : Option LineId} (level : Nat) (advance : Bool)
    (h : ∀ l, holder = some l → e.flowing l = false) :
    ∃ ps fs, e.handedOn k isNew holder level advance = { e with preds := ps, flows := fs } := by
  unfold Ev.handedOn
  split
  · next l => exact Ev.handOn_idle (h l rfl) k level advance
  · exact ⟨e.preds, e.flows, rfl⟩

/-- The event of an accepted reading before the alarms act and the reading is handed on. -/
def readingWritten (s : State) (t : Time) (slots : List Slot) (k : TankId) (x : Tank) (ds : List NoticeKey) : Ev :=
  (pollDecided s t .hunt slots).withTank k x ds

section
variable {slots : List Slot} {ds : List NoticeKey} {a : Tank}

theorem readingWritten_calm : (readingWritten s t slots k a ds).calm (readingWritten s t slots k a ds).ground :=
  Ev.calm_of _ _ rfl rfl

theorem readingWritten_tank (n : TankId) : (readingWritten s t slots k a ds).tank n = if n = k then a else s.tank n :=
  Tanks.get_set _ _ _ _

/-- What an accepted reading's overfill does to the part (R148, R170). -/
theorem overfill_outcome {was isNew advance : Bool} {holder : Option LineId} :
    let z := ((readingWritten s t slots k a ds).alarmed k was high true).handedOn k isNew holder level advance
    (z.drain.shut.causes.overfill).isSome = true ∧ (s.shut.causes.overfill = none → s.shutDown z.drain.toState) := by
  let y := readingWritten s t slots k a ds
  have hy3 : (if high = true then y.highAlarmActs k was else y).shut.causes = s.shut.causes ∧
      ∀ l, s.flowing l = true → (if high = true then y.highAlarmActs k was else y).flowing l = true ∨
        ∃ c, (if high = true then y.highAlarmActs k was else y).toState.closesWith l .trip none (some c) := by
    split
    · refine ⟨Ev.highAlarmActs_causes y k was, fun l hf => ?_⟩
      rcases Ev.highAlarmActs_line (e := y) k was hf with hline | hcl
      · exact .inl ((State.flowing_of_line hline).trans hf)
      · exact .inr ⟨_, hcl⟩
    · exact ⟨rfl, fun l hf => .inl hf⟩
  obtain ⟨hsome, hshut⟩ := Ev.raiseCause_outcome (s := s) (cause := .overfill) hy3.1 hy3.2
  have hcalm : (y.alarmed k was high true).calm y.ground := Ev.alarmed_calm readingWritten_calm k was high true
  have hz := Ev.handedOn_calm hcalm k isNew holder level advance
  have halarmed : y.alarmed k was high true = (if high = true then y.highAlarmActs k was else y).raiseCause .overfill := rfl
  rw [← halarmed] at hsome hshut
  dsimp only
  refine ⟨?_, fun hnone => ?_⟩
  · rw [Ev.drain_causes hz, Ev.handedOn_causes]; exact hsome
  · obtain ⟨hisShut, hcloses⟩ := hshut hnone
    obtain ⟨ps, fs, hidle⟩ := Ev.handedOn_idle (e := y.alarmed k was high true) k isNew (holder := holder) level advance
      fun l _ => (hisShut.2.2 l).1
    have hsw (l : LineId) := closedSwitch_of_ground hz.1 l
    change s.shutDown (((y.alarmed k was high true).handedOn k isNew holder level advance).drain.toState)
    rw [hidle] at hz hsw ⊢
    exact Ev.drain_isShutDown hz hisShut (fun l hf => hcloses l hf) hsw

/-- What HIGH_ALARM of an accepted reading does to the line that the tank fills (R89, R148). -/
theorem highAlarm_outcome {was isNew advance : Bool} (hl : s.listLine k = some l) (hu : (s.tank k).use.filling = true)
    (ha : a.use = (s.tank k).use) :
    let v := (((readingWritten s t slots k a ds).alarmed k was true false).handedOn k isNew (some l) level advance).drain
    (s.flowing l = true → (s.valve l).closedSwitch = false → v.toState.closesWith l .trip none (some .highAlarm)) ∧
    (s.closing l = true → was = false → (v.line l).state = .closing ∧ (v.line l).closeReason = some .trip ∧
      v.close l = s.close l ∧ (v.line l).trip.map (fun r => r.cause) = some .highAlarm) ∧
    (s.closing l = true → was = true → v.line l = s.line l) := by
  have hu' : ((readingWritten s t slots k a ds).tank k).use.filling = true := by
    rw [readingWritten_tank, if_pos rfl, ha]; exact hu
  have hl' : (readingWritten s t slots k a ds).listLine k = some l := hl
  have hcalm : ((readingWritten s t slots k a ds).alarmed k was true false).calm (readingWritten s t slots k a ds).ground :=
    Ev.alarmed_calm readingWritten_calm k was true false
  have hstep : (readingWritten s t slots k a ds).alarmed k was true false =
      (readingWritten s t slots k a ds).highAlarmActs k was := rfl
  have hz := Ev.handedOn_calm hcalm k isNew (some l) level advance
  have idle (h : ((readingWritten s t slots k a ds).alarmed k was true false).flowing l = false) :=
    Ev.handedOn_idle (e := (readingWritten s t slots k a ds).alarmed k was true false) k isNew (holder := some l) level advance
      fun m hm => by cases hm; exact h
  rw [hstep] at idle hcalm hz
  rw [hstep]
  have hclosing (hs : s.closing l = true) : ((readingWritten s t slots k a ds).line l).state = .closing :=
    beq_iff_eq.mp hs
  dsimp only
  refine ⟨fun hf hsw => ?_, fun hs hwas => ?_, fun hs hwas => ?_⟩
  · have hcl := Ev.highAlarmActs_flowing was hl' hu' hf
    have hsw' := (closedSwitch_of_ground hz.1 l).trans hsw
    obtain ⟨ps, fs, hidle⟩ := idle hcl.not_flowing
    rw [hidle] at hz hsw' ⊢
    exact Ev.drain_closesWith hz hsw' hcl
  · have hretrip := (Ev.highAlarmActs_closing (was := was) hl' hu' (hclosing hs)).2 hwas
    obtain ⟨r, hr, hlines⟩ := Ev.retripClosing_lines (readingWritten s t slots k a ds) l .trip .highAlarm
    have hline : ((readingWritten s t slots k a ds).retripClosing l .trip .highAlarm).line l =
        { s.line l with trip := some r, closeReason := some .trip, holdReason := none } := by
      rw [State.line, hlines]; exact Quad.get_set_same _ _ _
    have hrest : ((readingWritten s t slots k a ds).retripClosing l .trip .highAlarm).reports = [] ∧
        ((readingWritten s t slots k a ds).retripClosing l .trip .highAlarm).undecided = [] ∧
        ((readingWritten s t slots k a ds).retripClosing l .trip .highAlarm).closes = s.closes := by
      simp [Ev.retripClosing, Ev.writeTrip]
      exact ⟨rfl, rfl, rfl⟩
    rw [hretrip] at idle ⊢
    obtain ⟨ps, fs, hidle⟩ := idle (by rw [State.flowing, hline]; exact (congrArg LineState.flowing (hclosing hs)))
    rw [hidle, Ev.drain_idle { (readingWritten s t slots k a ds).retripClosing l .trip .highAlarm with preds := ps, flows := fs }
      hrest.1 hrest.2.1]
    refine ⟨?_, ?_, ?_, ?_⟩
    · exact (congrArg LineRec.state hline).trans (hclosing hs)
    · exact congrArg LineRec.closeReason hline
    · exact congrArg (fun q : Quad (Option CloseRec) => q.get l) hrest.2.2
    · exact (congrArg (fun x : LineRec => x.trip.map (fun r => r.cause)) hline).trans (congrArg some hr)
  · have hkeep := (Ev.highAlarmActs_closing (was := was) hl' hu' (hclosing hs)).1 hwas
    rw [hkeep] at idle ⊢
    obtain ⟨ps, fs, hidle⟩ := idle (by rw [State.flowing, hclosing hs]; rfl)
    rw [hidle, Ev.drain_idle { readingWritten s t slots k a ds with preds := ps, flows := fs } rfl rfl]
    rfl

end

/-! ### The tests of a reading that is handed on (R10, R13, R45, R48, R69) -/

/-- The event in which a reading of the ACTIVE tank is tested. -/
def Ev.watchedActive (e : Ev) (k : TankId) (l : LineId) (level : Nat) (advance : Bool) : Ev :=
  let e1 := e.modFlow l (fun x => { x with watchActive := x.watchActive.map (fun w =>
    if (e.line l).state = .proving then w.take level e.now else w.raise level e.now) })
  if advance then e1.modPred l (fun x => x.advanced (e.tank k).pair) else e1

/-- The test that a reading of the ACTIVE tank gets in a state of its line. -/
def Ev.testedIn (e : Ev) (k : TankId) (l : LineId) (level : Nat) : LineState → Ev
  | .proving => e.provingTest l k level
  | .bulk => e.evaluateMarks l
  | .changeover => e.changeoverTests l
  | .topping => e.closeStartTest l
  | _ => e

theorem Ev.handOn_active {advance : Bool} (hu : (e.tank k).use = .active) :
    e.handOn k l level advance = (e.watchedActive k l level advance).testedIn k l level (e.line l).state := by
  rw [Ev.handOn, hu]
  dsimp only
  split
  all_goals
    next hs => exact congrArg (fun st => (e.watchedActive k l level advance).testedIn k l level st) hs.symm

/-- The event in which a reading of the INCOMING tank of a CHANGEOVER is tested. -/
def Ev.watchedIncoming (e : Ev) (k : TankId) (l : LineId) (level : Nat) : Ev :=
  (e.modFlow l (fun x => { x with watchIncoming := x.watchIncoming.map (fun w => w.take level e.now) })).modTank k (fun x =>
    { x with changeoverBase := some (x.changeoverBase.getD level) })

theorem Ev.handOn_incoming {advance : Bool} (hu : (e.tank k).use = .incoming) (hs : (e.line l).state = .changeover) :
    e.handOn k l level advance = (e.watchedIncoming k l level).changeoverTests l := by
  rw [Ev.handOn, hu]
  dsimp only
  rw [if_pos hs]
  refine congrArg (fun y : Ev => y.changeoverTests l) ?_
  refine congrArg (fun f => (e.modFlow l (fun x =>
    { x with watchIncoming := x.watchIncoming.map (fun w => w.take level e.now) })).modTank k f) (funext fun x => ?_)
  cases x.changeoverBase <;> rfl

section
variable {slots : List Slot} {ds : List NoticeKey}

/-- The record that a new reading with both alarms clear leaves. -/
theorem Tank.afterReading_new {x : Tank} (h : x.toggle ≠ some toggle) :
    x.afterReading toggle false false level t =
      ({ x with missCount := 0, highAlarm := false, overfill := false } : Tank).takeNew toggle level t := if_neg h

theorem Ev.watchedActive_meter (e : Ev) (k : TankId) (l : LineId) (level : Nat) (advance : Bool) :
    ((e.watchedActive k l level advance).flow l).meter = (e.flow l).meter := by
  have h := Ev.modFlow_ground e l (fun x => { x with watchActive := x.watchActive.map (fun w =>
    if (e.line l).state = .proving then w.take level e.now else w.raise level e.now) }) (fun _ => rfl)
  unfold Ev.watchedActive
  dsimp only
  split
  · exact meter_of_ground h l
  · exact meter_of_ground h l

theorem Ev.watchedIncoming_meter (e : Ev) (k : TankId) (l : LineId) (level : Nat) :
    ((e.watchedIncoming k l level).flow l).meter = (e.flow l).meter :=
  meter_of_ground (Ev.modFlow_ground e l (fun x => { x with watchIncoming := x.watchIncoming.map (fun w =>
    w.take level e.now) }) (fun _ => rfl)) l

theorem watchedActive_alike (hu : (s.tank k).use = .active) (ht : (s.tank k).toggle ≠ some toggle) :
    (s.withReading l k toggle level t).Alike
      ((readingWritten s t slots k ((s.tank k).afterReading toggle false false level t) ds).watchedActive k l level
        ((s.tank k).advances level)).toState l := by
  rw [Tank.afterReading_new ht]
  have hnot : ¬ ((s.tank k).use = .incoming ∧ (s.line l).state = .changeover) := by rw [hu]; exact fun h => by cases h.1
  have htank : (readingWritten s t slots k (({ s.tank k with missCount := 0, highAlarm := false, overfill := false } :
      Tank).takeNew toggle level t) ds).tank k = ({ s.tank k with
        missCount := 0, highAlarm := false, overfill := false } : Tank).takeNew toggle level t := by
    rw [readingWritten_tank, if_pos rfl]
  have hmeter := Ev.watchedActive_meter (readingWritten s t slots k (({ s.tank k with
    missCount := 0, highAlarm := false, overfill := false } : Tank).takeNew toggle level t) ds) k l level
      ((s.tank k).advances level)
  have hx : s.withReading l k toggle level t = { s with
      now := t, tanks := s.tanks.set k (({ s.tank k with missCount := 0, highAlarm := false, overfill := false } :
        Tank).takeNew toggle level t),
      preds := if (s.tank k).advances level = true then s.preds.set l ((s.pred l).advanced (({ s.tank k with
        missCount := 0, highAlarm := false, overfill := false } : Tank).takeNew toggle level t).pair) else s.preds } := by
    unfold State.withReading
    dsimp only
    rw [if_neg hnot]
    simp only [hu, true_and]
  rw [hx]
  have hpreds : ((readingWritten s t slots k (({ s.tank k with missCount := 0, highAlarm := false, overfill := false } :
      Tank).takeNew toggle level t) ds).watchedActive k l level ((s.tank k).advances level)).preds =
      if (s.tank k).advances level = true then s.preds.set l ((s.pred l).advanced (({ s.tank k with
        missCount := 0, highAlarm := false, overfill := false } : Tank).takeNew toggle level t).pair) else s.preds := by
    unfold Ev.watchedActive
    dsimp only
    rw [htank]
    split <;> rfl
  have hrest : let y := (readingWritten s t slots k (({ s.tank k with missCount := 0, highAlarm := false, overfill := false } :
      Tank).takeNew toggle level t) ds).watchedActive k l level ((s.tank k).advances level)
      y.lines = s.lines ∧ y.lists = s.lists ∧ y.grades = s.grades ∧ y.now = t ∧ y.tanks = s.tanks.set k (({ s.tank k with
        missCount := 0, highAlarm := false, overfill := false } : Tank).takeNew toggle level t) := by
    unfold Ev.watchedActive
    dsimp only
    split <;> exact ⟨rfl, rfl, rfl, rfl, rfl⟩
  obtain ⟨hlines, hlists, hgrades, hnow, htanks⟩ := hrest
  exact ⟨hlines, hlists, htanks, hpreds, hgrades, hnow, hmeter⟩

theorem watchedIncoming_alike (hu : (s.tank k).use = .incoming) (ht : (s.tank k).toggle ≠ some toggle)
    (hs : (s.line l).state = .changeover) :
    (s.withReading l k toggle level t).Alike
      ((readingWritten s t slots k ((s.tank k).afterReading toggle false false level t) ds).watchedIncoming k l level).toState
        l := by
  rw [Tank.afterReading_new ht]
  have hnot : ¬ ((s.tank k).use = .active ∧ (s.tank k).advances level = true) := by rw [hu]; exact fun h => by cases h.1
  unfold State.withReading Ev.watchedIncoming
  dsimp only
  rw [if_pos ⟨hu, hs⟩, if_neg hnot]
  refine ⟨rfl, rfl, ?_, rfl, rfl, rfl, Ev.watchedIncoming_meter _ k l level⟩
  cases k <;> rfl

end

end Sys2Proof.Machine
end

section
/-! O41: the tests of a handed-on reading to the end of the event, and the obligation. -/

namespace Sys2Proof.Machine
variable {e e' e'' x y z w : Ev} {l m : LineId} {g : Ground} {s u v : State} {t : Time} {j k n old new : TankId}
  {d : Declaration} {c : TripCause} {toggle high overfull : Bool} {level : Nat}

/-! ### No test takes a line to STARTING -/

theorem Ev.evaluateMarks_not_starting (h : (e.line l).state ≠ .starting) : ((e.evaluateMarks l).line l).state ≠ .starting := by
  cases hd : (e.activeTank l).bind (fun k => (e.tank k).decl) with
  | none => rw [Ev.evaluateMarks, hd]; exact h
  | some d => exact (Ev.evaluateMarks_evaluated hd).not_starting h

theorem Ev.overrunTest_changeover (h : (e.line l).state = .changeover) :
    e.overrunTest l = e ∨ ((e.overrunTest l).line l).state = .closing := by
  unfold Ev.overrunTest
  split
  · exact .inl rfl
  · split
    · rw [Ev.trip_of_flowing (by rw [State.flowing, h]; rfl)]
      exact .inr (Ev.closeEntry_closesWith e l _ _ _).1
    · exact .inl rfl

theorem Ev.changeoverTests_not_starting (h : (e.line l).state = .changeover) :
    ((e.changeoverTests l).line l).state ≠ .starting := by
  unfold Ev.changeoverTests
  dsimp only
  rcases Ev.overrunTest_changeover h with heq | hcl
  · rw [heq, if_pos h, Ev.successTest]
    split
    · next old new _ _ =>
      split
      · rw [Ev.changeoverSuccess_eq]
        refine Ev.evaluateMarks_not_starting ?_
        rw [Ev.changeoverMoved, Ev.setState_line]
        nofun
      · rw [h]; nofun
    · rw [h]; nofun
  · rw [hcl, if_neg nofun, hcl]; nofun

theorem State.provingTested.not_starting {x v : State} {b : Baseline} (hx : (x.line l).state = .proving)
    (h : x.provingTested v l b level d) : (v.line l).state ≠ .starting := by
  unfold State.provingTested at h
  split at h
  · rw [h]
    change (x.line l).state ≠ _
    rw [hx]; nofun
  · split at h
    · refine h.not_starting ?_
      rw [State.line, State.proved, Quad.get_set_same]; nofun
    · rw [h, hx]; nofun

/-! ### The tests of a new reading -/

theorem State.withReading_tank (s : State) (l : LineId) (k : TankId) (toggle : Bool) (level : Nat) (t : Time) (n : TankId) :
    ((s.withReading l k toggle level t).tank n).use = (s.tank n).use ∧
      ((s.withReading l k toggle level t).tank n).decl = (s.tank n).decl := by
  by_cases hn : n = k
  · subst hn
    obtain ⟨huse, hdecl, -⟩ := ({ s.tank n with missCount := 0, highAlarm := false, overfill := false } : Tank).takeNew_fields
      toggle level t
    rw [State.tank, State.withReading, Tanks.get_set_same]
    dsimp only
    split
    · exact ⟨huse, hdecl⟩
    · exact ⟨huse, hdecl⟩
  · rw [State.tank, State.withReading, Tanks.get_set_ne _ _ hn]
    exact ⟨rfl, rfl⟩

section
variable {slots : List Slot} {ds : List NoticeKey}

/-- What the test of a handed-on reading promises of a line stands at the end of the event. -/
theorem reading_stands {a : Tank} {advance : Bool} (hapart : s.listsApart) (hsw : (s.valve l).closedSwitch = false) :
    let z := (readingWritten s t slots k a ds).handOn k l level advance
    (z.line l).state ≠ .starting → z.toState.Stands z.drain.toState l (s.list l) := by
  have hcalm := Ev.handOn_calm (readingWritten_calm (s := s) (t := t) (k := k) (slots := slots) (ds := ds) (a := a)) k l level advance
  have hlane (m : LineId) (hm : m ≠ l) := Ev.handOn_lane (readingWritten s t slots k a ds) k l level advance hm
  intro z hns
  refine Ev.drain_stands hcalm ((closedSwitch_of_ground hcalm.1 l).trans hsw) hns fun n hn m hm => ?_
  rw [show z.list m = s.list m from congrArg (fun p => p.2.1) (hlane m hm)]
  exact (hapart l).2 m hm n hn

theorem reading_active_tests (hapart : s.listsApart) (hsw : (s.valve l).closedSwitch = false)
    (hu : (s.tank k).use = .active) (hk : s.activeTank l = some k) (hd : (s.tank k).decl = some d)
    (ht : (s.tank k).toggle ≠ some toggle) :
    let v := ((readingWritten s t slots k ((s.tank k).afterReading toggle false false level t) ds).handOn k l level
      ((s.tank k).advances level)).drain.toState
    let x := s.withReading l k toggle level t
    ((s.line l).state = .proving → ∀ b, (s.line l).baseline = some b → x.provingTested v l b level d) ∧
    ((s.line l).state = .bulk → x.marksEvaluated v l d (x.changeoverTarget l)) ∧
    ((s.line l).state = .topping → x.closeStartTested v l (s.line l).tankEnd d.finalMm) := by
  have halike := watchedActive_alike (slots := slots) (ds := ds) (t := t) (l := l) (level := level) hu ht
  have hfields := (s.tank k).afterReading_fields toggle false false level t
  obtain ⟨huse, hdecl, -⟩ := hfields
  have hwrittenUse : ((readingWritten s t slots k ((s.tank k).afterReading toggle false false level t) ds).tank k).use =
      .active := by rw [readingWritten_tank, if_pos rfl, huse]; exact hu
  have hhand := Ev.handOn_active (l := l) (level := level) (advance := (s.tank k).advances level) hwrittenUse
  have hstands := reading_stands (t := t) (slots := slots) (ds := ds) (level := level) (k := k)
    (a := (s.tank k).afterReading toggle false false level t) (advance := (s.tank k).advances level) hapart hsw
  dsimp only at hstands ⊢
  rw [hhand] at hstands ⊢
  have hline : (s.withReading l k toggle level t).line l = s.line l := rfl
  have hlist : (s.withReading l k toggle level t).list l = s.list l := rfl
  have hstate : ((readingWritten s t slots k ((s.tank k).afterReading toggle false false level t) ds).line l).state =
      (s.line l).state := rfl
  rw [hstate] at hstands ⊢
  have hwk : ((readingWritten s t slots k ((s.tank k).afterReading toggle false false level t) ds).watchedActive k l level
      ((s.tank k).advances level)).tank k = (s.tank k).afterReading toggle false false level t := by
    have hk := readingWritten_tank (s := s) (t := t) (slots := slots) (k := k) (ds := ds)
      (a := (s.tank k).afterReading toggle false false level t) k
    rw [if_pos rfl] at hk
    unfold Ev.watchedActive
    dsimp only
    split <;> exact hk
  generalize (readingWritten s t slots k ((s.tank k).afterReading toggle false false level t) ds).watchedActive k l level
      ((s.tank k).advances level) = w at *
  have hwline : w.line l = s.line l := halike.line
  have hxactive : (s.withReading l k toggle level t).activeTank l = some k := by
    rw [← hk, State.activeTank, State.activeTank, hlist]
    exact List.find?_congr fun n _ => by rw [(s.withReading_tank l k toggle level t n).1]
  have hwactive : w.activeTank l = some k := halike.sees.activeTank.trans hxactive
  have hwdecl : (w.tank k).decl = some d := by rw [hwk, hdecl]; exact hd
  have hbind : (w.activeTank l).bind (fun k => (w.tank k).decl) = some d := by rw [hwactive]; exact hwdecl
  refine ⟨fun hs b hb => ?_, fun hs => ?_, fun hs => ?_⟩
  · rw [hs] at hstands ⊢
    have htested := halike.provingTested (Ev.provingTest_tested (hwline ▸ hb) hwactive hwdecl level)
    have hne := State.provingTested.not_starting (x := s.withReading l k toggle level t) hs htested
    exact State.Stands.provingTested (x := s.withReading l k toggle level t) (hstands hne) hs htested
  · rw [hs] at hstands ⊢
    have htested := halike.marksEvaluated (Ev.evaluateMarks_evaluated hbind)
    have hne : ((s.withReading l k toggle level t).line l).state ≠ .starting := by rw [hline, hs]; nofun
    exact (hstands (htested.not_starting hne)).marksEvaluated (by rw [hline, hs]; nofun)
      (fun n hn => hlist ▸ State.changeoverTarget_mem hn) htested
  · rw [hs] at hstands ⊢
    have htested := halike.sees.closeStartTested (congrArg LineRec.late hwline)
      (Ev.closeStartTest_tested (by rw [hwline]; exact hs) hbind)
    rw [hwline] at htested
    exact (hstands htested.not_starting).closeStartTested htested

theorem reading_changeover_tests {ks : List TankId} (hapart : s.listsApart) (hsw : (s.valve l).closedSwitch = false)
    (hlist : s.list l = old :: new :: ks) (hold : (s.tank old).use = .active) (hnew : (s.tank new).use = .incoming)
    (hd : (s.tank old).decl = some d) (hk : k = old ∨ k = new) (hs : (s.line l).state = .changeover)
    (ht : (s.tank k).toggle ≠ some toggle) :
    let v := ((readingWritten s t slots k ((s.tank k).afterReading toggle false false level t) ds).handOn k l level
      ((s.tank k).advances level)).drain.toState
    (s.withReading l k toggle level t).changeoverTested v l old new d.finalMm := by
  have hstands := reading_stands (t := t) (slots := slots) (ds := ds) (level := level) (k := k)
    (a := (s.tank k).afterReading toggle false false level t) (advance := (s.tank k).advances level) hapart hsw
  obtain ⟨w, hhand, halike⟩ : ∃ w : Ev,
      (readingWritten s t slots k ((s.tank k).afterReading toggle false false level t) ds).handOn k l level
        ((s.tank k).advances level) = w.changeoverTests l ∧ (s.withReading l k toggle level t).Alike w.toState l := by
    have huse : ((readingWritten s t slots k ((s.tank k).afterReading toggle false false level t) ds).tank k).use =
        (s.tank k).use := by
      rw [readingWritten_tank, if_pos rfl]
      exact ((s.tank k).afterReading_fields toggle false false level t).1
    rcases hk with rfl | rfl
    · refine ⟨_, ?_, watchedActive_alike (slots := slots) (ds := ds) (t := t) (l := l) (level := level) hold ht⟩
      rw [Ev.handOn_active (huse.trans hold)]
      exact congrArg (Ev.testedIn _ k l level) hs
    · exact ⟨_, Ev.handOn_incoming (huse.trans hnew) hs,
        watchedIncoming_alike (slots := slots) (ds := ds) (t := t) (l := l) (level := level) hnew ht hs⟩
  dsimp only at hstands ⊢
  rw [hhand] at hstands ⊢
  have hxs : ((s.withReading l k toggle level t).line l).state = .changeover := hs
  have hws : (w.line l).state = .changeover := by rw [halike.line]; exact hs
  have hxtank (n : TankId) : ((s.withReading l k toggle level t).tank n).use = (s.tank n).use ∧
      ((s.withReading l k toggle level t).tank n).decl = (s.tank n).decl := s.withReading_tank l k toggle level t n
  have hxlist : (s.withReading l k toggle level t).list l = s.list l := rfl
  have htested := halike.changeoverTested (Ev.changeoverTests_tested (d := d) hws (halike.list.trans hlist)
    (by rw [halike.list]; exact (hapart l).1) (by rw [halike.tank, (hxtank old).1]; exact hold)
    (by rw [halike.tank, (hxtank new).1]; exact hnew) (by rw [halike.tank, (hxtank old).2]; exact hd))
  have hmem : old ∈ s.list l ∧ new ∈ s.list l := by rw [hlist]; simp
  exact State.Stands.changeoverTested (x := s.withReading l k toggle level t)
    (hstands (Ev.changeoverTests_not_starting hws)) hxs hmem.1 hmem.2 htested

end

/-! ### A refused reading (R144) -/

theorem Tank.refuses_iff (x : Tank) (fault : Bool) (level : Nat) : x.refuses fault level = true ↔
    fault = true ∨ 30000 < level ∨ ∃ h, x.latest = some h ∧ h.level + 200 < level := by
  unfold Tank.refuses
  cases x.latest with
  | none => simp only [Bool.or_eq_true, decide_eq_true_eq]; simp [Config.maxLevelMm]
  | some h => simp only [Bool.or_eq_true, decide_eq_true_eq]; simp [Config.maxLevelMm, Config.levelJumpMm, or_assoc]

/-- A refused reading counts as a miss, OVERFILL acting all the same (R144, R148). -/
def Ev.missedOverfull (e : Ev) (k : TankId) (overfull : Bool) : Ev :=
  if overfull then (e.tankMiss k).raiseCause .overfill else e.tankMiss k

theorem takeReading_refused {q : Poll} {fault : Bool} (hr : (s.tank k).refuses fault level = true) : ∃ slots,
    (begin t s).shipHunt.takeReading q k toggle high overfull fault level =
      (pollDecided s t .hunt slots).missedOverfull k overfull := by
  obtain ⟨slots, hclosed⟩ : ∃ slots, (begin t s).shipHunt.closePoll q .refusedReading = pollDecided s t .hunt slots := ⟨_, rfl⟩
  refine ⟨slots, ?_⟩
  unfold Ev.takeReading
  dsimp only
  rw [if_pos (show ((begin t s).shipHunt.tank k).refuses fault level = true from hr), hclosed]
  rfl

/-- What a refused reading leaves (R144, R146, R148). -/
theorem completes_refused {op : Ev → Ev} {slots : List Slot} {instr : Instr} (hop : exec instr s = event t s op)
    (he : op (begin t s) = (pollDecided s t .hunt slots).missedOverfull k overfull) : Completes s instr t (fun v =>
      v.link.poll = none ∧ (∀ n, n ≠ k → (v.tank n).latest = (s.tank n).latest ∧ (v.tank n).health = (s.tank n).health) ∧
      (v.tank k).decl = (s.tank k).decl ∧
      (overfull = true → v.latch = true ∧ (v.shut.causes.overfill).isSome = true ∧
        (s.shut.causes.overfill = none → s.shutDown v)) ∧
      (v.tank k).latest = (s.tank k).latest ∧ (v.tank k).missCount = min ((s.tank k).missCount + 1) 15 ∧
      (v.tank k).highAlarm = (s.tank k).highAlarm ∧ (v.tank k).overfill = (s.tank k).overfill) := by
  obtain ⟨r, ds, hw⟩ := Ev.tankMiss_writes (pollDecided s t .hunt slots) k
  obtain ⟨a, ha⟩ : ∃ a : Tank, a = { s.tank k with
    missCount := min ((s.tank k).missCount + 1) 15, health := (s.tank k).health.missed ((s.tank k).missCount + 1),
    refusal := r } := ⟨_, rfl⟩
  have hmiss : (pollDecided s t .hunt slots).tankMiss k =
      if (((s.tank k).missCount + 1 = Config.lostMisses ∧ (s.tank k).health = .stale) ∧ (s.tank k).use.filling = true) then
        (readingWritten s t slots k a ds).tripHolder k .tankLost else readingWritten s t slots k a ds := by rw [ha]; exact hw
  have hcalm : ((pollDecided s t .hunt slots).tankMiss k).calm (readingWritten s t slots k a ds).ground := by
    rw [hmiss]
    split
    · exact Ev.tripHolder_calm k .tankLost readingWritten_calm
    · exact readingWritten_calm
  have hcauses : ((pollDecided s t .hunt slots).tankMiss k).shut.causes = s.shut.causes := by
    rw [hmiss]
    split
    · exact congrArg Prod.fst (Ev.tripHolder_alarms (e := readingWritten s t slots k a ds) k .tankLost rfl)
    · rfl
  have hlines (l : LineId) (hf : s.flowing l = true) : ((pollDecided s t .hunt slots).tankMiss k).flowing l = true ∨
      ∃ c, ((pollDecided s t .hunt slots).tankMiss k).toState.closesWith l .trip none (some c) := by
    rw [hmiss]
    split
    · rcases Ev.tripHolder_line (e := readingWritten s t slots k a ds) (k := k) (c := .tankLost) hf with hline | hcl
      · exact .inl ((State.flowing_of_line hline).trans hf)
      · exact .inr ⟨_, hcl⟩
    · exact .inl hf
  obtain ⟨hsome, hshut⟩ := Ev.raiseCause_outcome (cause := .overfill) hcauses hlines
  have hz : ((pollDecided s t .hunt slots).missedOverfull k overfull).calm (readingWritten s t slots k a ds).ground := by
    unfold Ev.missedOverfull
    split
    · exact Ev.raiseCause_calm .overfill hcalm
    · exact hcalm
  have hend := (Ev.drain_ground _).trans hz.1
  refine completes_of_drain _ hop he (congrArg (fun g : Ground => g.port.pending) hz.1)
    (congrArg (fun g : Ground => g.port.now) hz.1) fun v hv _ => ?_
  have hread (n : TankId) : (v.tank n).reading = (if n = k then a else s.tank n).reading := by
    rw [hv.tank, reading_of_ground hend, readingWritten_tank]
  have hreadk := hread k
  rw [if_pos rfl, ha] at hreadk
  refine ⟨?_, fun n hn => ?_, congrArg TankReading.decl hreadk, fun ho => ?_, congrArg TankReading.latest hreadk,
    congrArg TankReading.missCount hreadk, congrArg TankReading.highAlarm hreadk, congrArg TankReading.overfill hreadk⟩
  · exact (congrArg Link.poll hv.linkGrades.1).trans (congrArg (fun g : Ground => g.link.poll) hend)
  · have hn' := hread n
    rw [if_neg hn] at hn'
    exact ⟨congrArg TankReading.latest hn', congrArg TankReading.health hn'⟩
  · have hstep : (pollDecided s t .hunt slots).missedOverfull k overfull =
        ((pollDecided s t .hunt slots).tankMiss k).raiseCause .overfill := by rw [Ev.missedOverfull, if_pos ho]
    rw [hstep] at hz hend hv
    have hset : (v.shut.causes.overfill).isSome = true := by
      rw [hv.shut, Ev.drain_causes hz]; exact hsome
    refine ⟨CauseSet.latch_of_get (w := .overfill) hset, hset, fun hnone => hv.isShutDown ?_⟩
    obtain ⟨hisShut, hcloses⟩ := hshut hnone
    exact Ev.drain_isShutDown hz hisShut hcloses (fun l => closedSwitch_of_ground hz.1 l)

/-! ### An accepted reading -/

/-- What an accepted reading leaves (R144 to R148). -/
theorem completes_accepted {op : Ev → Ev} {slots : List Slot} {ds : List NoticeKey} {instr : Instr}
    (hop : exec instr s = event t s op) (he : op (begin t s) =
      ((readingWritten s t slots k ((s.tank k).afterReading toggle high overfull level t) ds).alarmed k (s.tank k).highAlarm
        high overfull).handedOn k ((s.tank k).toggle != some toggle) (s.listLine k) level ((s.tank k).advances level)) :
    Completes s instr t (fun v =>
      v.link.poll = none ∧ (∀ n, n ≠ k → (v.tank n).latest = (s.tank n).latest ∧ (v.tank n).health = (s.tank n).health) ∧
      (v.tank k).reading = ((s.tank k).afterReading toggle high overfull level t).reading ∧
      (overfull = true → v.latch = true ∧ (v.shut.causes.overfill).isSome = true ∧
        (s.shut.causes.overfill = none → s.shutDown v)) ∧
      (high = true → overfull = false → (s.tank k).use.filling = true → ∀ l, s.listLine k = some l →
        (s.flowing l = true → (s.valve l).closedSwitch = false → v.closesWith l .trip none (some .highAlarm)) ∧
        (s.closing l = true → (s.tank k).highAlarm = false → (v.line l).state = .closing ∧
          (v.line l).closeReason = some .trip ∧ v.close l = s.close l ∧
          (v.line l).trip.map (fun r => r.cause) = some .highAlarm) ∧
        (s.closing l = true → (s.tank k).highAlarm = true → v.line l = s.line l)) ∧
      (high = false → overfull = false → (s.tank k).toggle ≠ some toggle → ∀ l, s.listLine k = some l →
        ((readingWritten s t slots k ((s.tank k).afterReading toggle false false level t) ds).handOn k l level
          ((s.tank k).advances level)).drain.toState.sameBlocks v)) := by
  have hcalm := Ev.handedOn_calm (Ev.alarmed_calm (readingWritten_calm (s := s) (t := t) (slots := slots) (k := k) (ds := ds)
    (a := (s.tank k).afterReading toggle high overfull level t)) k (s.tank k).highAlarm high overfull) k
      ((s.tank k).toggle != some toggle) (s.listLine k) level ((s.tank k).advances level)
  have hend := (Ev.drain_ground _).trans hcalm.1
  refine completes_of_drain _ hop he (congrArg (fun g : Ground => g.port.pending) hcalm.1)
    (congrArg (fun g : Ground => g.port.now) hcalm.1) fun v hv _ => ?_
  have hread (n : TankId) : (v.tank n).reading =
      (if n = k then (s.tank k).afterReading toggle high overfull level t else s.tank n).reading := by
    rw [hv.tank, reading_of_ground hend, readingWritten_tank]
  have huse := ((s.tank k).afterReading_fields toggle high overfull level t).1
  refine ⟨?_, fun n hn => ?_, ?_, fun ho => ?_, fun hh ho hu l hl => ?_, fun hh ho ht l hl => ?_⟩
  · exact (congrArg Link.poll hv.linkGrades.1).trans (congrArg (fun g : Ground => g.link.poll) hend)
  · have hn' := hread n
    rw [if_neg hn] at hn'
    exact ⟨congrArg TankReading.latest hn', congrArg TankReading.health hn'⟩
  · have hk := hread k
    rwa [if_pos rfl] at hk
  · subst ho
    obtain ⟨hset, hdown⟩ := overfill_outcome (s := s) (t := t) (k := k) (high := high) (level := level) (slots := slots)
      (ds := ds) (a := (s.tank k).afterReading toggle high true level t) (was := (s.tank k).highAlarm)
      (isNew := (s.tank k).toggle != some toggle) (advance := (s.tank k).advances level) (holder := s.listLine k)
    rw [← hv.shut] at hset
    exact ⟨CauseSet.latch_of_get (w := .overfill) hset, hset, fun hnone => hv.isShutDown (hdown hnone)⟩
  · subst hh ho
    rw [hl] at hv
    obtain ⟨htrips, hturns, hstays⟩ := highAlarm_outcome (t := t) (level := level) (slots := slots) (ds := ds)
      (was := (s.tank k).highAlarm) (isNew := (s.tank k).toggle != some toggle) (advance := (s.tank k).advances level) hl hu huse
    refine ⟨fun hf hsw => hv.closesWith (htrips hf hsw), fun hc hwas => ?_, fun hc hwas => ?_⟩
    · rw [hv.line, State.close, hv.2.2.2.2.1]; exact hturns hc hwas
    · rw [hv.line]; exact hstays hc hwas
  · subst hh ho
    have hnew : ((s.tank k).toggle != some toggle) = true := by simpa using ht
    rw [hl, hnew] at hv
    exact hv

/-- Settles O41: a refused reading is a miss with OVERFILL acting after it; an accepted one is written, its alarms act, and the
tests of the line it is handed on to stand through the rest of the event. -/
theorem readingsReachTheTank : Obligations.ReadingsReachTheTank := by
  intro s t k toggle flags level q hq hk ht htoggle
  have hop := exec_reading (flags := flags) (level := level) hq hk ht htoggle
  cases hr : (s.tank k).refuses (flags.getLsbD 2) level with
  | true =>
    have hrefuse := (Tank.refuses_iff _ _ _).mp hr
    obtain ⟨slots, hstep⟩ := takeReading_refused (t := t) (toggle := toggle == 1) (high := flags.getLsbD 0)
      (overfull := flags.getLsbD 1) (q := q) hr
    obtain ⟨v, hv, hnow, hpend, hpoll, hothers, hdecl, hover, hlatest, hmiss, hhigh, hfull⟩ := completes_refused hop hstep
    exact ⟨v, hv, hnow, hpend, hpoll, hothers, hdecl, hover, fun h => absurd hrefuse h,
      fun _ => ⟨hlatest, hmiss, hhigh, hfull⟩, fun h => absurd hrefuse h, fun h => absurd hrefuse h⟩
  | false =>
    have hrefuse : ¬ (flags.getLsbD 2 = true ∨ 30000 < level ∨ ∃ h, (s.tank k).latest = some h ∧ h.level + 200 < level) :=
      fun h => by rw [(Tank.refuses_iff _ _ _).mpr h] at hr; cases hr
    obtain ⟨slots, ds, hstep⟩ := takeReading_accepted (t := t) (toggle := toggle == 1) (high := flags.getLsbD 0)
      (overfull := flags.getLsbD 1) (q := q) hr
    obtain ⟨v, hv, hnow, hpend, hpoll, hothers, hreading, hover, halarm, hblocks⟩ := completes_accepted hop hstep
    obtain ⟨-, hdecl, hmiss, hhigh, hfull, hfields⟩ :=
      (s.tank k).afterReading_fields (toggle == 1) (flags.getLsbD 0) (flags.getLsbD 1) level t
    refine ⟨v, hv, hnow, hpend, hpoll, hothers, (congrArg TankReading.decl hreading).trans hdecl, hover,
      fun _ hh ho hu => halarm hh ho (TankUse.filling_iff.mpr hu), fun h => absurd h hrefuse, fun _ => ?_,
      fun _ hnew hh ho hapart l hl hsw => ?_⟩
    · refine ⟨(congrArg TankReading.missCount hreading).trans hmiss, (congrArg TankReading.highAlarm hreading).trans hhigh,
        (congrArg TankReading.overfill hreading).trans hfull, ?_⟩
      have hlatest : (v.tank k).latest = _ := congrArg TankReading.latest hreading
      have hlastNew : (v.tank k).lastNew = _ := congrArg TankReading.lastNew hreading
      have hhealth : (v.tank k).health = _ := congrArg TankReading.health hreading
      have htog : (v.tank k).toggle = _ := congrArg TankReading.toggle hreading
      rw [hlatest, hlastNew, hhealth, htog]
      exact hfields
    · have hst := (hblocks hh ho hnew l hl).stands l (s.list l)
      refine ⟨fun d hk hd => ?_, fun old new ks d hlist hold hincoming hd hk hs => ?_⟩
      · have hu : (s.tank k).use = .active := by simpa using List.find?_some hk
        obtain ⟨hproving, hbulk, htopping⟩ := reading_active_tests (t := t) (slots := slots) (ds := ds) (level := level)
          hapart hsw hu hk hd hnew
        refine ⟨fun hs b hb => ?_, fun hs => ?_, fun hs => ?_⟩
        · have htested := State.Stands.provingTested (x := s.withReading l k (toggle == 1) level t) hst hs (hproving hs b hb)
          unfold State.provingTested at htested
          refine ⟨fun hlevel => ?_, fun b0 hlevel => ?_⟩
          · rw [hlevel] at htested; exact htested
          · rw [hlevel] at htested; exact htested
        · exact State.Stands.marksEvaluated (x := s.withReading l k (toggle == 1) level t) hst
            (by change (s.line l).state ≠ _; rw [hs]; nofun) 
            (fun n hn => State.changeoverTarget_mem (s := s.withReading l k (toggle == 1) level t) hn) (hbulk hs)
        · exact hst.closeStartTested (htopping hs)
      · have hmem : old ∈ s.list l ∧ new ∈ s.list l := by rw [hlist]; simp
        exact State.Stands.changeoverTested (x := s.withReading l k (toggle == 1) level t) hst hs hmem.1 hmem.2
          (reading_changeover_tests hapart hsw hlist hold hincoming hd hk hs hnew)

end Sys2Proof.Machine
end

section
/-! A close that goes on as planned: through the end of its event its line asks for no further stroke, and of its record the
phase, the dwell and the note of the stroke's end alone can change. -/

namespace Sys2Proof.Machine
variable {e e' x y z : Ev} {l m : LineId} {g : Ground} {s u v : State} {c : Instr} {t : Time} {r : Report} {a b : CloseRec}

/-! ### The close record -/

/-- The close record `b` is that of a close which stood as `a` and has been told of arrivals and ends of its stroke since: its
dwell has begun, or it goes on as it was. -/
structure CloseRec.Follows (a b : CloseRec) : Prop where
  entry : b.entry = a.entry
  runDownStart : b.runDownStart = a.runDownStart
  runDownEnd : b.runDownEnd = a.runDownEnd
  plan : b.plan = a.plan
  stage : b.stage = a.stage
  retry : b.retryUsed = a.retryUsed
  phase : b.phase = a.phase ∨ b.phase = .dwell ∧ (a.phase = .stage ∨ a.phase = .seating)
  dwellEnd : a.phase = .dwell → b.dwellEnd = a.dwellEnd
  dwellOn : b.phase = .dwell → b.dwellOver = false

theorem CloseRec.Follows.refl (h : a.phase = .dwell → a.dwellOver = false) : a.Follows a :=
  ⟨rfl, rfl, rfl, rfl, rfl, rfl, .inl rfl, fun _ => rfl, h⟩

theorem State.closePhase_of_close (hs : (s.line l).state = .closing) (hb : s.close l = some b) :
    s.closePhase l = some b.phase := by
  rw [State.closePhase, if_pos hs, hb]; rfl

theorem Ev.modClose_close (e : Ev) (l : LineId) (f : CloseRec → CloseRec) : (e.modClose l f).close l = (e.close l).map f := by
  simp [State.close, Ev.modClose]

/-- An arrival off the closed limit switch begins the dwell of a stage. -/
theorem Ev.plannerArrived_follows {target : Nat} (ht : target ≠ 0) (hs : (e.line l).state = .closing)
    (hb : e.close l = some b) (hf : a.Follows b) : ∃ b', (e.plannerArrived l target).close l = some b' ∧ a.Follows b' := by
  rw [Ev.plannerArrived, State.closePhase_of_close hs hb, if_neg ht]
  split
  · next hp =>
    rw [Ev.modClose_close, hb]
    have ha : a.phase = .stage ∨ a.phase = .seating := by
      rcases hf.phase with h | ⟨-, h⟩
      · rw [h] at hp; exact hp.imp Option.some.inj Option.some.inj
      · exact h
    refine ⟨_, rfl, hf.entry, hf.runDownStart, hf.runDownEnd, hf.plan, hf.stage, hf.retry, .inr ⟨rfl, ha⟩, fun hd => ?_,
      fun _ => rfl⟩
    rw [hd] at ha
    rcases ha with h | h <;> cases h
  · exact ⟨b, hb, hf⟩

/-- The end of the stroke's hold is noted; the dwell is not over, so that no stage comes up. -/
theorem Ev.plannerEnded_follows (hs : (e.line l).state = .closing) (hb : e.close l = some b) (hf : a.Follows b) :
    (∃ b', (e.plannerEnded l).close l = some b' ∧ a.Follows b') ∧ (e.plannerEnded l).line l = e.line l ∧
      e.BooksOnly (e.plannerEnded l) := by
  rw [Ev.plannerEnded, State.closePhase_of_close hs hb]
  split
  · next hp =>
    have hdwell : b.phase = .dwell := by simpa using hp
    have hclose : (e.modClose l (fun c => { c with strokeEnded := true })).close l = some { b with strokeEnded := true } := by
      rw [Ev.modClose_close, hb]; rfl
    have hstay : (e.modClose l (fun c => { c with strokeEnded := true })).nextStage l =
        e.modClose l (fun c => { c with strokeEnded := true }) := by
      rw [Ev.nextStage, hclose]; simp [hf.dwellOn hdwell]
    rw [hstay]
    exact ⟨⟨_, hclose, hf.entry, hf.runDownStart, hf.runDownEnd, hf.plan, hf.stage, hf.retry, hf.phase, hf.dwellEnd,
      hf.dwellOn⟩, rfl, (Ev.modClose_recordsOnly e l _).books⟩
  · exact ⟨⟨b, hb, hf⟩, rfl, .refl e⟩

theorem Ev.settleArrival_close (e : Ev) (l m : LineId) (target : Nat) : (e.settleArrival l target).close m = e.close m := by
  unfold Ev.settleArrival
  split <;> rfl

/-- A closing line off its closed limit switch, its close going on as it stood in `a`. -/
def Ev.planned (e : Ev) (l : LineId) (x : LineRec) (a : CloseRec) : Prop :=
  e.line l = x ∧ l ∉ e.undecided ∧ ∃ b, e.close l = some b ∧ a.Follows b

variable {rec : LineRec}

theorem Ev.planned.aside (h : e.planned l rec a) (ha : e.Aside e' l) : e'.planned l rec a := by
  obtain ⟨hline, hund, b, hb, hf⟩ := h
  exact ⟨(congrArg Prod.fst ha.lane).trans hline, fun hm => hund (ha.undecided.mp hm), b,
    (congrArg (fun q : Lane => q.2.2.2.1) ha.lane).trans hb, hf⟩

/-- A report about a line whose close goes on as planned: no stroke is asked for. -/
theorem Ev.planned.report (hc : e.calm g) (hr : r.calm g) (hl : r.line = l) (hs : rec.state = .closing)
    (hsw : (e.valve l).closedSwitch = false) (h : e.planned l rec a) :
    (e.handleReport r).planned l rec a ∧ e.BooksOnly (e.handleReport r) := by
  obtain ⟨hline, hund, b, hb, hf⟩ := h
  have hst : (e.line l).state = .closing := by rw [hline]; exact hs
  have settled (target : Nat) : (e.settleArrival l target).planned l rec a ∧ e.BooksOnly (e.settleArrival l target) := by
    have hbooks := Ev.settleArrival_booksOnly e l target
    refine ⟨⟨(Ev.settleArrival_line e l l target).trans hline, ?_, b, (Ev.settleArrival_close e l l target).trans hb, hf⟩, hbooks⟩
    rw [hbooks.undecided]; exact hund
  subst hl
  cases r with
  | arrived m cls target =>
    cases cls with
    | close =>
      have ht : target ≠ 0 := fun h0 => by
        have := (hc.closedSwitch m).symm.trans (hr h0)
        rw [show (e.valve m).closedSwitch = false from hsw] at this; cases this
      have hbooks := Ev.plannerArrived_booksOnly e m target
      refine ⟨⟨?_, ?_, Ev.plannerArrived_follows ht hst hb hf⟩, hbooks⟩
      · simp only [Ev.handleReport, Ev.plannerArrived, if_neg ht]
        split <;> exact hline
      · exact fun h => hund (hbooks.undecided ▸ h)
    | throttle => exact settled target
    | opening =>
      have hns : (e.line m).state ≠ .starting := fun h => by rw [show (e.line m).state = .closing from hst] at h; cases h
      simp only [Ev.handleReport, if_neg hns]
      exact settled target
  | ended m cls =>
    cases cls with
    | close =>
      have hns : (e.line m).state ≠ .starting := fun h => by rw [show (e.line m).state = .closing from hst] at h; cases h
      obtain ⟨hclose, hsame, hbooks⟩ := Ev.plannerEnded_follows hst hb hf
      simp only [Ev.handleReport, if_neg hns]
      exact ⟨⟨hsame.trans hline, fun h => hund (hbooks.undecided ▸ h), hclose⟩, hbooks⟩
    | throttle => exact ⟨⟨hline, hund, b, hb, hf⟩, .refl e⟩
    | opening => exact ⟨⟨hline, hund, b, hb, hf⟩, .refl e⟩
  | failed m cls o => exact absurd hr id
  | seated m => exact absurd hr id

/-- A close that goes on as planned, and what the grants to its line and its own reports keep, through the end of an event. -/
theorem Ev.drain_planned {P : Ev → Prop} (hc : e.calm g) (hs : rec.state = .closing) (hsw : (e.valve l).closedSwitch = false)
    (h : e.planned l rec a) (hother : ∀ x y : Ev, x.planned l rec a → x.now = e.now → x.Aside y l → P x → P y)
    (hown : ∀ (x y : Ev) (r : Report), r.line = l → x.BooksOnly y → P { x with reports := r :: x.reports } → P y)
    (hP : P e) : e.drain.planned l rec a ∧ P e.drain := by
  have hoff {y : Ev} (hy : y.calm g) : (y.valve l).closedSwitch = false :=
    (hy.closedSwitch l).symm.trans ((hc.closedSwitch l).trans hsw)
  have htime {y : Ev} (hy : y.calm g) : y.now = e.now := congrArg (fun g : Ground => g.port.now) (hy.1.trans hc.1.symm)
  refine Ev.drain_line_induction (P := fun y => y.planned l rec a ∧ P y) l (fun x y hx hxy hp => ?_)
    (fun y r hy hr hl hp => ?_) (fun y _ _ hp => ?_) hc ⟨h, hP⟩
  · exact ⟨hp.1.aside hxy, hother x y hp.1 (htime hx) hxy hp.2⟩
  · obtain ⟨⟨hline, hund, hclose⟩, hp⟩ := hp
    obtain ⟨hplan, hbooks⟩ := Ev.planned.report hy hr hl hs (hoff hy) (h := ⟨hline, hund, hclose⟩)
    exact ⟨hplan, hown y _ r hl hbooks hp⟩
  · obtain ⟨⟨-, hund, -⟩, -⟩ := hp
    exact absurd List.mem_cons_self hund

/-- The close record and the line of a close that goes on as planned, once its event has ended. -/
theorem Ev.drain_follows (hc : e.calm g) (hs : rec.state = .closing) (hsw : (e.valve l).closedSwitch = false)
    (h : e.planned l rec a) : e.drain.planned l rec a :=
  (Ev.drain_planned (P := fun _ => True) hc hs hsw h (fun _ _ _ _ _ _ => trivial) (fun _ _ _ _ _ _ => trivial) trivial).1

/-! ### The plan made off the closed limit switch -/

/-- The close record with the first stroke of its plan asked for: the seating stroke at position 0, the first stage elsewhere. -/
def CloseRec.begun (c : CloseRec) (p : Plan) (seated : Bool) : CloseRec :=
  if seated then { c with plan := some p, phase := .seating, stage := none }
  else { c with plan := some p, phase := .stage, stage := some 1, dwellEnd := none }

theorem CloseRec.begun_follows (c : CloseRec) (p : Plan) (seated : Bool) : (c.begun p seated).Follows (c.begun p seated) :=
  .refl fun h => by unfold CloseRec.begun at h; cases seated <;> cases h

/-- The state in which the plan made off the closed limit switch asks for its first stroke (R80, R82, R83, R85). -/
def Ev.planBegun (e : Ev) (l : LineId) : Ev :=
  ((e.modClose l (fun c => { c with plan := some (e.makePlan l) })).setSurge l (e.closeFigures l).limited).modClose l (fun c =>
    if (e.valve l).position = 0 then { c with phase := .seating, stage := none }
    else { c with phase := .stage, stage := some 1, dwellEnd := none })

theorem Ev.startPlan_off (hsw : (e.valve l).closedSwitch = false) (hb : (e.close l).isSome = true) :
    e.startPlan l = (e.planBegun l).requestStroke l .close
      (if (e.valve l).position = 0 then 0 else (e.makePlan l).target 1) false := by
  obtain ⟨b, hb⟩ := Option.isSome_iff_exists.mp hb
  have hplan : ((e.modClose l (fun c => { c with plan := some (e.makePlan l) })).setSurge l
      (e.closeFigures l).limited).planOf l = some (e.makePlan l) := by
    rw [State.planOf, State.close, Ev.setSurge, Ev.markIf_closes, Ev.modLine_closes]
    exact congrArg (fun q => Option.bind q CloseRec.plan) ((Ev.modClose_close e l _).trans (by rw [hb]))
  unfold Ev.startPlan Ev.planBegun
  dsimp only
  rw [if_neg (by simp [hsw])]
  split
  · rfl
  · rw [Ev.requestStage, hplan]; rfl

theorem Ev.planBegun_recordsOnly (e : Ev) (l : LineId) : e.RecordsOnly (e.planBegun l) :=
  ((Ev.modClose_recordsOnly e l _).trans (Ev.setSurge_recordsOnly _ l _)).trans (Ev.modClose_recordsOnly _ l _)

theorem Ev.planBegun_line (e : Ev) (l : LineId) :
    (e.planBegun l).line l = { e.line l with surgeLimited := (e.closeFigures l).limited } := by
  simp [Ev.planBegun, Ev.setSurge, State.line]

theorem Ev.planBegun_close (hb : e.close l = some b) :
    (e.planBegun l).close l = some (b.begun (e.makePlan l) (decide ((e.valve l).position = 0))) := by
  have hb : e.closes.get l = some b := hb
  by_cases hp : (e.valve l).position = 0 <;>
    simp [Ev.planBegun, Ev.setSurge, State.close, Ev.modClose, hb, hp, CloseRec.begun]

end Sys2Proof.Machine
end

section
/-! Samples of line pressure: what one leaves in the line's figures, the end of a run-down and the overpressure watch. -/

namespace Sys2Proof.Machine
variable {e e' x y z : Ev} {l m : LineId} {g : Ground} {s u v : State} {c : CloseRec} {t : Time} {kPa i : Nat}

/-! ### The sample taken into the figures (R96) -/

/-- The line's figures with a good sample taken into them. -/
def Flow.sampled (f : Flow) (kPa : Nat) : Flow :=
  { f with pressure := kPa, sampleSum := f.sampleSum + kPa, sampleCount := f.sampleCount + 1, pressureFault := false }

/-- The event once a good sample has been taken into the line's figures. -/
def Ev.sampled (e : Ev) (l : LineId) (kPa : Nat) : Ev :=
  (e.modFlow l (fun f =>
    { f with pressure := kPa, sampleSum := f.sampleSum + kPa, sampleCount := f.sampleCount + 1 })).setPressureFault l false

theorem Ev.sampled_recordsOnly (e : Ev) (l : LineId) (kPa : Nat) : e.RecordsOnly (e.sampled l kPa) :=
  ((Ev.modFlow_recordsOnly e l _).trans (Ev.modFlow_recordsOnly _ l _)).trans (Ev.markIf_recordsOnly _ _ _)

theorem Ev.sampled_lines (e : Ev) (l : LineId) (kPa : Nat) : (e.sampled l kPa).lines = e.lines := by
  simp [Ev.sampled, Ev.setPressureFault]

theorem Ev.sampled_closes (e : Ev) (l : LineId) (kPa : Nat) : (e.sampled l kPa).closes = e.closes := by
  simp [Ev.sampled, Ev.setPressureFault]

theorem Ev.sampled_flows (e : Ev) (l : LineId) (kPa : Nat) : (e.sampled l kPa).flows = e.flows.set l ((e.flow l).sampled kPa) := by
  simp [Ev.sampled, Ev.setPressureFault, Quad.set_set, Flow.sampled, State.flow]

theorem Ev.sampled_flow (e : Ev) (l : LineId) (kPa : Nat) : (e.sampled l kPa).flow l = (e.flow l).sampled kPa := by
  rw [State.flow, Ev.sampled_flows, Quad.get_set_same]

theorem Ev.sampled_flow_ne (e : Ev) (kPa : Nat) (hm : m ≠ l) : (e.sampled l kPa).flow m = e.flow m := by
  rw [State.flow, Ev.sampled_flows, Quad.get_set_ne _ _ hm]; rfl

theorem Ev.pressureSample_good (hlo : 3600 ≤ i) (hhi : i ≤ 21000) (e : Ev) (l : LineId) : e.pressureSample l i =
    ((e.sampled l (scaled 4000 i)).runDownSample l).overWatch l (scaled 4000 i) :=
  if_pos (by simp [goodCurrent, Config.minCurrent, Config.maxCurrent, hlo, hhi])

theorem Ev.pressureSample_bad (hi : ¬ (3600 ≤ i ∧ i ≤ 21000)) (e : Ev) (l : LineId) : e.pressureSample l i =
    (e.setPressureFault l true).modFlow l (fun f => { f with overCount := 0 }) :=
  if_neg fun h => by
    obtain ⟨hlo, hhi⟩ := Bool.and_eq_true_iff.mp h
    exact hi ⟨of_decide_eq_true hlo, of_decide_eq_true hhi⟩

/-! ### The overpressure watch (R89, R97) -/

theorem Ev.overWatch_calm (l : LineId) (kPa : Nat) (hc : e.calm g) : (e.overWatch l kPa).calm g := by
  unfold Ev.overWatch
  split
  · split
    · exact Ev.trip_calm l _ (Ev.modFlow_calm l _ (fun _ => rfl) hc)
    · exact Ev.modFlow_calm l _ (fun _ => rfl) hc
  · exact Ev.modFlow_calm l _ (fun _ => rfl) hc

/-- The sample stands above the rating less the margin, on a line that is watched. -/
def State.overLimit (s : State) (l : LineId) (kPa : Nat) : Bool :=
  s.overWatched l && decide ((s.profile l).ratingKPa < kPa + (s.profile l).surgeMarginKPa)

theorem Ev.overWatch_eq (e : Ev) (l : LineId) (kPa : Nat) : e.overWatch l kPa =
    if e.overLimit l kPa = true then
      if Config.overpressureSamples ≤ (e.flow l).overCount + 1 then
        (e.modFlow l (fun f => { f with overCount := 0 })).trip l .overpressure
      else e.modFlow l (fun f => { f with overCount := f.overCount + 1 })
    else e.modFlow l (fun f => { f with overCount := 0 }) := rfl

theorem Ev.overWatch_first (ho : e.overLimit l kPa = true) (hn : (e.flow l).overCount = 0) :
    e.overWatch l kPa = e.modFlow l (fun f => { f with overCount := f.overCount + 1 }) := by
  rw [Ev.overWatch_eq, if_pos ho, if_neg (by simp [hn, Config.overpressureSamples])]

theorem Ev.overWatch_second (ho : e.overLimit l kPa = true) (hn : 1 ≤ (e.flow l).overCount) :
    e.overWatch l kPa = (e.modFlow l (fun f => { f with overCount := 0 })).trip l .overpressure := by
  rw [Ev.overWatch_eq, if_pos ho, if_pos (by simpa [Config.overpressureSamples] using hn)]

theorem Ev.overWatch_within (ho : e.overLimit l kPa = false) :
    e.overWatch l kPa = e.modFlow l (fun f => { f with overCount := 0 }) :=
  if_neg (ne_true_of_eq_false ho)

theorem Ev.trip_of_closing (hs : (e.line l).state = .closing) (cause : TripCause) :
    e.trip l cause = e.retripClosing l .trip cause := by
  rw [Ev.trip, if_neg (by simp [State.flowing, hs, LineState.flowing]), if_pos hs]

/-- A closing line watched: its close goes on, and at the second sample above the limit its reason becomes TRIP. -/
theorem Ev.overWatch_closing (e : Ev) (l : LineId) (kPa : Nat) (hs : (e.line l).state = .closing) :
    e.RecordsOnly (e.overWatch l kPa) ∧ (e.overWatch l kPa).closes = e.closes ∧
    if e.overLimit l kPa = true then
      if 1 ≤ (e.flow l).overCount then
        (∃ r : TripRecord, r.cause = .overpressure ∧ (e.overWatch l kPa).line l =
          { e.line l with trip := some r, closeReason := some .trip, holdReason := none }) ∧
          ((e.overWatch l kPa).flow l).overCount = 0
      else (e.overWatch l kPa).line l = e.line l ∧ ((e.overWatch l kPa).flow l).overCount = 1
    else (e.overWatch l kPa).line l = e.line l ∧ ((e.overWatch l kPa).flow l).overCount = 0 := by
  cases ho : e.overLimit l kPa with
  | false =>
    rw [if_neg Bool.false_ne_true, Ev.overWatch_within ho]
    exact ⟨Ev.modFlow_recordsOnly e l _, rfl, rfl, by simp [State.flow]⟩
  | true =>
    rw [if_pos rfl]
    by_cases hn : 1 ≤ (e.flow l).overCount
    · rw [if_pos hn, Ev.overWatch_second ho hn, Ev.trip_of_closing (by exact hs)]
      obtain ⟨r, hr, hlines⟩ := Ev.retripClosing_lines (e.modFlow l (fun f => { f with overCount := 0 })) l .trip .overpressure
      refine ⟨(Ev.modFlow_recordsOnly e l _).trans (Ev.retripClosing_recordsOnly _ l _ _), ?_, ⟨r, hr, ?_⟩, ?_⟩
      · simp [Ev.retripClosing, Ev.writeTrip]
      · rw [State.line, hlines, Quad.get_set_same]; rfl
      · simp [Ev.retripClosing, Ev.writeTrip, State.flow]
    · have h0 : (e.flow l).overCount = 0 := by omega
      rw [if_neg hn, Ev.overWatch_first ho h0]
      have h0 : (e.flows.get l).overCount = 0 := h0
      exact ⟨Ev.modFlow_recordsOnly e l _, rfl, rfl, by simp [State.flow, h0]⟩

/-- What the watch leaves of a closing line, whether it is tripped or not. -/
theorem Ev.overWatch_goes_on (e : Ev) (l : LineId) (kPa : Nat) (hs : (e.line l).state = .closing) :
    ((e.overWatch l kPa).line l).state = .closing ∧
      ((e.overWatch l kPa).line l).surgeLimited = (e.line l).surgeLimited := by
  obtain ⟨-, -, h⟩ := Ev.overWatch_closing e l kPa hs
  split at h
  · split at h
    · obtain ⟨⟨r, -, hr⟩, -⟩ := h
      rw [hr]; exact ⟨hs, rfl⟩
    · rw [h.1]; exact ⟨hs, rfl⟩
  · rw [h.1]; exact ⟨hs, rfl⟩

/-! ### The end of a run-down (R77, R82) -/

theorem State.makePlan_congr {x y : State} (hp : (y.line l).profile = (x.line l).profile) (hg : y.grades = x.grades)
    (hv : y.valve l = x.valve l) (hr : (y.flow l).rate = (x.flow l).rate) (hk : (y.flow l).pressure = (x.flow l).pressure)
    (hf : (y.flow l).pressureFault = (x.flow l).pressureFault) :
    y.closeFigures l = x.closeFigures l ∧ y.makePlan l = x.makePlan l := by
  have hprof : y.profile l = x.profile l := by rw [State.profile, State.profile, hp]
  have hgrade : y.gradeOfLine l = x.gradeOfLine l := by rw [State.gradeOfLine, State.gradeOfLine, hp]
  have hd : y.density l = x.density l := by simp only [State.density, hgrade, State.grade, hg]
  have hfig : y.closeFigures l = x.closeFigures l := by rw [State.closeFigures, State.closeFigures, hprof, hd, hr, hk, hf]
  exact ⟨hfig, by simp only [State.makePlan, hprof, hfig, hv, hr, hk, hf]⟩

/-- The run-down ended off the closed limit switch: the plan is made from the figures as they stand, SURGE_LIMITED by it, and the
close goes on by it. -/
theorem Ev.endRunDown_planned (hsw : (e.valve l).closedSwitch = false)
    (hcl : e.close l = some c) (hu : l ∉ e.undecided) (cause : RunDownEnd) :
    (e.endRunDown l cause).planned l { e.line l with surgeLimited := (e.closeFigures l).limited }
      ({ c with runDownEnd := some cause }.begun (e.makePlan l) (decide ((e.valve l).position = 0))) := by
  have hclose : (e.modClose l (fun c => { c with runDownEnd := some cause })).close l =
      some { c with runDownEnd := some cause } := by rw [Ev.modClose_close, hcl]; rfl
  have hplan := Ev.startPlan_off (e := e.modClose l (fun c => { c with runDownEnd := some cause })) (l := l) hsw
    (by rw [hclose]; rfl)
  have hbegun := Ev.planBegun_close hclose
  have hrec := Ev.planBegun_recordsOnly (e.modClose l (fun c => { c with runDownEnd := some cause })) l
  rw [Ev.endRunDown, hplan]
  have hreq := Ev.requestStroke_strokesOnly ((e.modClose l (fun c => { c with runDownEnd := some cause })).planBegun l) l .close
    (if ((e.modClose l (fun c => { c with runDownEnd := some cause })).valve l).position = 0 then 0
      else ((e.modClose l (fun c => { c with runDownEnd := some cause })).makePlan l).target 1) false
  refine ⟨?_, ?_, _, (hreq.close l).trans hbegun, CloseRec.begun_follows _ _ _⟩
  · rw [hreq.line, Ev.planBegun_line]; rfl
  · rw [hreq.undecided, hrec.undecided]; exact hu

end Sys2Proof.Machine
end

section
/-! PRESSURE_SAMPLE (R77, R89, R96, R97). -/

namespace Sys2Proof.Machine
variable {e e' x y z : Ev} {l m : LineId} {g : Ground} {s u v : State} {c : CloseRec} {t : Time} {kPa i : Nat}

/-- The event of a good sample once it has been taken into the figures. -/
def sampleTaken (t : Time) (s : State) (l : LineId) (kPa : Nat) : Ev := (begin t s).sampled l kPa

theorem sampleTaken_calm (t : Time) (s : State) (l : LineId) (kPa : Nat) :
    (sampleTaken t s l kPa).calm (sampleTaken t s l kPa).ground :=
  Ev.calm_of _ _ rfl ((Ev.sampled_recordsOnly _ l kPa).reports)

theorem Ev.RecordsOnly.pending (h : e.RecordsOnly e') : e'.pending = e.pending := by
  obtain ⟨_, _, _, _, _, _, rfl⟩ := h; rfl

theorem sampleTaken_line (t : Time) (s : State) (l : LineId) (kPa : Nat) (m : LineId) :
    (sampleTaken t s l kPa).line m = s.line m := by
  rw [State.line, sampleTaken, Ev.sampled_lines]; rfl

theorem sampleTaken_close (t : Time) (s : State) (l : LineId) (kPa : Nat) (m : LineId) :
    (sampleTaken t s l kPa).close m = s.close m := by
  rw [State.close, sampleTaken, Ev.sampled_closes]; rfl

theorem sampleTaken_valve (t : Time) (s : State) (l : LineId) (kPa : Nat) (m : LineId) :
    (sampleTaken t s l kPa).valve m = s.valve m := (Ev.sampled_recordsOnly (begin t s) l kPa).valve m

theorem sampleTaken_overCount (t : Time) (s : State) (l : LineId) (kPa : Nat) :
    ((sampleTaken t s l kPa).flow l).overCount = (s.flow l).overCount := by
  rw [sampleTaken, Ev.sampled_flow]; rfl

theorem Ev.runDownSample_calm (l : LineId) (hc : e.calm g) : (e.runDownSample l).calm g := by
  unfold Ev.runDownSample
  split
  · exact Ev.endRunDown_calm l .pressure hc
  · exact hc

/-- Off a run-down the sample ends none. -/
theorem Ev.runDownSample_of_ne (h : e.closePhase l ≠ some .runDown) : e.runDownSample l = e := if_neg fun hp => h hp.1

/-- The figures of every line after the sample (R96). -/
theorem sampleTaken_figures {v : State} (hv : v.ground = (sampleTaken t s l kPa).ground) :
    (v.flow l).pressure = kPa ∧ (v.flow l).pressureFault = false ∧ (∀ m, m ≠ l → (v.flow m).pressure = (s.flow m).pressure) ∧
      v.link = s.link ∧ v.grades = s.grades := by
  have own := meter_of_ground (z := v) (y := (sampleTaken t s l kPa).toState) hv l
  rw [sampleTaken, Ev.sampled_flow] at own
  refine ⟨congrArg MeterFigures.pressure own, congrArg MeterFigures.pressureFault own, fun m hm => ?_, ?_, ?_⟩
  · have other := meter_of_ground (z := v) (y := (sampleTaken t s l kPa).toState) hv m
    rw [sampleTaken, Ev.sampled_flow_ne _ _ hm] at other
    exact congrArg MeterFigures.pressure other
  · rw [link_of_ground (z := v) hv]; exact (Ev.sampled_recordsOnly (begin t s) l kPa).link
  · rw [grades_of_ground (z := v) hv]; exact (Ev.sampled_recordsOnly (begin t s) l kPa).grades

/-- A line watched by reason of its close. -/
theorem sampleTaken_overLimit (hs : (s.line l).state = .closing) : (sampleTaken t s l kPa).overLimit l kPa = true ↔
    ((s.line l).closeReason = some .ending ∨ (s.line l).closeReason = some .tankEnd ∨
      (s.line l).closeReason = some .hold) ∧ (s.profile l).ratingKPa < kPa + (s.profile l).surgeMarginKPa := by
  simp [State.overLimit, State.overWatched, State.flowing, State.closing, State.profile, sampleTaken_line, hs, LineState.flowing,
    or_assoc]

/-- The plan that a run-down ended by the sample makes is that of the sample's figures. -/
theorem sampleTaken_plan (t : Time) (s : State) (l : LineId) (kPa : Nat) :
    let x : State := { s with flows := s.flows.set l { s.flow l with pressure := kPa, pressureFault := false } }
    (sampleTaken t s l kPa).closeFigures l = x.closeFigures l ∧ (sampleTaken t s l kPa).makePlan l = x.makePlan l := by
  intro x
  have hflow : (sampleTaken t s l kPa).flow l = (s.flow l).sampled kPa := Ev.sampled_flow (begin t s) l kPa
  have hx : x.flow l = { s.flow l with pressure := kPa, pressureFault := false } := Quad.get_set_same _ _ _
  exact State.makePlan_congr (by rw [sampleTaken_line]; rfl) (Ev.sampled_recordsOnly (begin t s) l kPa).grades
    (sampleTaken_valve t s l kPa l) (by rw [hflow, hx]; rfl) (by rw [hflow, hx]; rfl) (by rw [hflow, hx]; rfl)

/-- A sample that begins no close and ends no run-down leaves nothing to hand on. -/
theorem sampleTaken_rest (h : (sampleTaken t s l kPa).RecordsOnly e) : e.drain = e :=
  Ev.drain_idle e (h.reports.trans (Ev.sampled_recordsOnly _ l kPa).reports)
    (h.undecided.trans (Ev.sampled_recordsOnly _ l kPa).undecided)

/-- The state of an event at its end, a good sample taken. -/
def sampleDrained (t : Time) (s : State) (l : LineId) (kPa : Nat) : Ev :=
  (((sampleTaken t s l kPa).runDownSample l).overWatch l kPa).drain

theorem sampleTaken_flowing_runDown (hf : s.flowing l = true) :
    (sampleTaken t s l kPa).runDownSample l = sampleTaken t s l kPa := by
  refine Ev.runDownSample_of_ne fun h => ?_
  have hs := State.closePhase_closing h
  rw [sampleTaken_line] at hs
  rw [State.flowing, hs] at hf
  cases hf

/-- The second sample above the limit closes a flowing line (R97). -/
theorem Ev.overWatch_trips (hc : e.calm g) (hf : e.flowing l = true) (hn : (e.flow l).overCount = 1)
    (hsw : (e.valve l).closedSwitch = false) (hlim : (e.profile l).ratingKPa < kPa + (e.profile l).surgeMarginKPa) :
    (e.overWatch l kPa).drain.toState.closesWith l .trip none (some .overpressure) := by
  rw [Ev.overWatch_second (by simp [State.overLimit, State.overWatched, hf, hlim]) hn.ge]
  exact (Ev.trip_drain_closesWith (e := e.modFlow l (fun f => { f with overCount := 0 }))
    (Ev.modFlow_calm l _ (fun _ => rfl) hc) hf hsw .overpressure).1

theorem sampleDrained_trips (hf : s.flowing l = true) (hn : (s.flow l).overCount = 1)
    (hsw : (s.valve l).closedSwitch = false) (hlim : (s.profile l).ratingKPa < kPa + (s.profile l).surgeMarginKPa) :
    (sampleDrained t s l kPa).toState.closesWith l .trip none (some .overpressure) := by
  rw [sampleDrained, sampleTaken_flowing_runDown hf]
  refine Ev.overWatch_trips (sampleTaken_calm t s l kPa) ?_ ?_ ?_ ?_
  · rw [State.flowing, sampleTaken_line]; exact hf
  · rw [sampleTaken_overCount]; exact hn
  · rw [sampleTaken_valve]; exact hsw
  · rw [State.profile, sampleTaken_line]; exact hlim

/-- The first sample above the limit, or one below it, leaves a flowing line as it is. -/
theorem sampleDrained_lines (hf : s.flowing l = true) (hn : (s.flow l).overCount = 0) :
    (sampleDrained t s l kPa).lines = s.lines := by
  have hline : (sampleTaken t s l kPa).lines = s.lines := Ev.sampled_lines (begin t s) l kPa
  rw [sampleDrained, sampleTaken_flowing_runDown hf]
  cases ho : (sampleTaken t s l kPa).overLimit l kPa with
  | true =>
    rw [Ev.overWatch_first ho (by rw [sampleTaken_overCount, hn]), sampleTaken_rest (Ev.modFlow_recordsOnly _ l _)]
    exact hline
  | false => rw [Ev.overWatch_within ho, sampleTaken_rest (Ev.modFlow_recordsOnly _ l _)]; exact hline

/-- A closing line that is not in its run-down: its close goes on, and the watch may turn its reason to TRIP (R89, R97). -/
theorem sampleDrained_closing (hs : (s.line l).state = .closing)
    (hr : (sampleTaken t s l kPa).runDownSample l = sampleTaken t s l kPa) : (sampleDrained t s l kPa).close l = s.close l ∧
    if ((s.line l).closeReason = some .ending ∨ (s.line l).closeReason = some .tankEnd ∨
        (s.line l).closeReason = some .hold) ∧ (s.profile l).ratingKPa < kPa + (s.profile l).surgeMarginKPa then
      if 1 ≤ (s.flow l).overCount then
        ((sampleDrained t s l kPa).line l).state = .closing ∧ ((sampleDrained t s l kPa).line l).closeReason = some .trip ∧
          ((sampleDrained t s l kPa).line l).holdReason = none ∧
          ((sampleDrained t s l kPa).line l).trip.map (fun r => r.cause) = some .overpressure ∧
          ((sampleDrained t s l kPa).flow l).overCount = 0
      else (sampleDrained t s l kPa).line l = s.line l ∧ ((sampleDrained t s l kPa).flow l).overCount = 1
    else (sampleDrained t s l kPa).line l = s.line l ∧ ((sampleDrained t s l kPa).flow l).overCount = 0 := by
  have hst : ((sampleTaken t s l kPa).line l).state = .closing := by rw [sampleTaken_line]; exact hs
  obtain ⟨hrec, hcloses, hwatch⟩ := Ev.overWatch_closing (sampleTaken t s l kPa) l kPa hst
  rw [sampleDrained, hr, sampleTaken_rest hrec]
  refine ⟨(congrArg (fun q => Quad.get q l) hcloses).trans (sampleTaken_close t s l kPa l), ?_⟩
  rw [if_congr (sampleTaken_overLimit hs) rfl rfl, sampleTaken_overCount, sampleTaken_line] at hwatch
  split <;> rename_i hover
  · rw [if_pos hover] at hwatch
    split <;> rename_i hcount
    · rw [if_pos hcount] at hwatch
      obtain ⟨⟨r, hcause, hline⟩, hzero⟩ := hwatch
      rw [hline]
      exact ⟨hs, rfl, rfl, congrArg some hcause, hzero⟩
    · rw [if_neg hcount] at hwatch; exact hwatch
  · rw [if_neg hover] at hwatch; exact hwatch

/-- A sample low enough ends a run-down with end cause PRESSURE; the plan made goes on, whatever the watch does (R77, R82). -/
theorem sampleDrained_runDown (hs : (s.line l).state = .closing) (hcl : s.close l = some c) (hp : c.phase = .runDown)
    (hsw : (s.valve l).closedSwitch = false) (hlow : kPa ≤ (s.profile l).runDownKPa) :
    ((sampleDrained t s l kPa).line l).state = .closing ∧
      ((sampleDrained t s l kPa).line l).surgeLimited = ((sampleTaken t s l kPa).closeFigures l).limited ∧
      ∃ y, (sampleDrained t s l kPa).close l = some y ∧ y.entry = c.entry ∧ y.runDownStart = c.runDownStart ∧
        y.runDownEnd = some .pressure ∧ y.plan = some ((sampleTaken t s l kPa).makePlan l) := by
  have hcalm0 := sampleTaken_calm t s l kPa
  have hst : ((sampleTaken t s l kPa).line l).state = .closing := by rw [sampleTaken_line]; exact hs
  have hclose : (sampleTaken t s l kPa).close l = some c := (sampleTaken_close t s l kPa l).trans hcl
  have hoff : ((sampleTaken t s l kPa).valve l).closedSwitch = false := by rw [sampleTaken_valve]; exact hsw
  have hund : l ∉ (sampleTaken t s l kPa).undecided := by
    rw [sampleTaken, (Ev.sampled_recordsOnly _ l kPa).undecided]; exact List.not_mem_nil
  have hrun : (sampleTaken t s l kPa).runDownSample l = (sampleTaken t s l kPa).endRunDown l .pressure := by
    refine if_pos ⟨by rw [State.closePhase_of_close hst hclose, hp], ?_⟩
    have hflow : (sampleTaken t s l kPa).flow l = (s.flow l).sampled kPa := Ev.sampled_flow (begin t s) l kPa
    rw [State.runDownPressure, hflow, State.profile, sampleTaken_line]
    exact decide_eq_true hlow
  rw [sampleDrained, hrun]
  generalize sampleTaken t s l kPa = e at *
  have hcalm1 := Ev.endRunDown_calm l .pressure hcalm0
  obtain ⟨hline, hnot, b, hb, hf⟩ := Ev.endRunDown_planned hoff hclose hund .pressure
  generalize e.endRunDown l .pressure = y at *
  have hsty : (y.line l).state = .closing := by rw [hline]; exact hst
  obtain ⟨hrec, hcloses, -⟩ := Ev.overWatch_closing y l kPa hsty
  obtain ⟨hst2, hsurge⟩ := Ev.overWatch_goes_on y l kPa hsty
  have hcalm2 := Ev.overWatch_calm l kPa hcalm1
  have hoff2 : ((y.overWatch l kPa).valve l).closedSwitch = false :=
    (hcalm2.closedSwitch l).symm.trans ((hcalm0.closedSwitch l).trans hoff)
  obtain ⟨hline', -, b', hb', hf'⟩ := Ev.drain_follows hcalm2 hst2 hoff2 (a := _)
    ⟨rfl, by rw [hrec.undecided]; exact hnot, b, (congrArg (fun q => Quad.get q l) hcloses).trans hb, hf⟩
  refine ⟨by rw [hline']; exact hst2, by rw [hline', hsurge, hline], b', hb', hf'.entry.trans ?_, hf'.runDownStart.trans ?_,
    hf'.runDownEnd.trans ?_, hf'.plan.trans ?_⟩ <;> unfold CloseRec.begun <;> split <;> rfl

/-- A sample above run_down_kPa ends no run-down. -/
theorem sampleTaken_high (hhigh : (s.profile l).runDownKPa < kPa) :
    (sampleTaken t s l kPa).runDownSample l = sampleTaken t s l kPa := by
  refine if_neg fun h => ?_
  obtain ⟨-, h⟩ := h
  have hflow : (sampleTaken t s l kPa).flow l = (s.flow l).sampled kPa := Ev.sampled_flow (begin t s) l kPa
  rw [State.runDownPressure, hflow, State.profile, sampleTaken_line] at h
  have hlow : kPa ≤ (s.profile l).runDownKPa := of_decide_eq_true h
  omega

/-- A faulted sample sets the fault and breaks the run of samples above the limit; nothing else happens (R96, R97). -/
theorem faultedSample_completes (hi : ¬ (3600 ≤ i ∧ i ≤ 21000)) : Completes s (.pressureSample t l i) t (fun v =>
    v.flow l = { s.flow l with pressureFault := true, overCount := 0 } ∧ (∀ m, m ≠ l → v.flow m = s.flow m) ∧
    ((s.flow l).pressureFault = false → v.announced (.line l)) ∧
    v.lines = s.lines ∧ v.valves = s.valves ∧ v.closes = s.closes ∧ v.tanks = s.tanks ∧ v.link = s.link ∧
    v.shut = s.shut) := by
  obtain ⟨d, hd⟩ := Ev.markIf_writes ((begin t s).modFlow l (fun x => { x with pressureFault := true }))
    ((s.flow l).pressureFault != true) (.line l)
  have hmark (h : (s.flow l).pressureFault = false) : NoticeKey.line l ∈ d := by
    have hmem : NoticeKey.line l ∈ (((begin t s).modFlow l (fun x => { x with pressureFault := true })).markIf
      ((s.flow l).pressureFault != true) (.line l)).dirty := by
      rw [h, Ev.markIf, if_pos (by decide)]; exact Ev.mem_mark _ _
    rw [hd] at hmem
    exact hmem
  have hflows : ((s.flows.set l { s.flow l with pressureFault := true }).set l
      { (s.flows.set l { s.flow l with pressureFault := true }).get l with overCount := 0 }) =
      s.flows.set l { s.flow l with pressureFault := true, overCount := 0 } := by
    rw [Quad.set_set, Quad.get_set_same]
  have he : (begin t s).pressureSample l i = { begin t s with
      flows := s.flows.set l { s.flow l with pressureFault := true, overCount := 0 }, dirty := d } := by
    rw [Ev.pressureSample_bad hi, ← hflows]
    exact congrArg (fun y : Ev => y.modFlow l (fun f => { f with overCount := 0 })) hd
  refine completes_of_drain (op := fun e => e.pressureSample l i) _ rfl he rfl rfl fun v hv hann => ?_
  rw [Ev.drain_idle _ rfl rfl] at hv hann
  obtain ⟨hlines, -, htanks, -, hcloses, hflow, hvalves, -, -, -, hlink, -, hshut, -⟩ := hv
  refine ⟨?_, fun m hm => ?_, fun h => hann _ (hmark h), hlines, hvalves, hcloses, htanks, hlink, hshut⟩
  · rw [State.flow, hflow]; exact Quad.get_set_same _ _ _
  · rw [State.flow, hflow]; exact Quad.get_set_ne _ _ hm

/-- Settles O49: the sample is taken into the figures, ends a run-down in progress when it is low enough, and is watched. -/
theorem pressureSamplesAreHeldAndWatched : Obligations.PressureSamplesAreHeldAndWatched := by
  intro s t l i
  refine ⟨fun hlo hhi => ?_, faultedSample_completes⟩
  generalize hk : min ((i - 4000) * 4000 / 16000) 4000 = kPa
  have hop : (begin t s).pressureSample l i = ((sampleTaken t s l kPa).runDownSample l).overWatch l kPa := by
    rw [← hk]; exact Ev.pressureSample_good hlo hhi _ l
  have hcalm := Ev.overWatch_calm l kPa (Ev.runDownSample_calm l (sampleTaken_calm t s l kPa))
  have hground := (Ev.drain_ground _).trans hcalm.1
  have hrec := Ev.sampled_recordsOnly (begin t s) l kPa
  refine completes_of_drain (op := fun e => e.pressureSample l i) _ rfl hop ((pending_of_ground hcalm.1).trans hrec.pending)
    ((now_of_ground hcalm.1).trans hrec.now) fun v hv _ => ?_
  change (sampleDrained t s l kPa).toState.sameBlocks v at hv
  obtain ⟨h1, h2, h3, hlink, hgrades⟩ := sampleTaken_figures (v := (sampleDrained t s l kPa).toState) hground
  have hclose : v.close l = (sampleDrained t s l kPa).close l := congrArg (fun q => Quad.get q l) hv.2.2.2.2.1
  rw [hv.line, hv.flow, hclose]
  refine ⟨h1, h2, fun m hm => by rw [hv.flow]; exact h3 m hm, hv.linkGrades.1.trans hlink, hv.linkGrades.2.trans hgrades,
    fun hf hn hsw hlim => hv.closesWith (sampleDrained_trips hf hn hsw hlim), fun hf hn => hv.1.trans (sampleDrained_lines hf hn),
    fun hs hp => sampleDrained_closing hs (Ev.runDownSample_of_ne fun h => ?_), fun c hs hcl hp hsw => ⟨fun hlow => ?_, fun hhigh => ?_⟩⟩
  · rw [State.closePhase, sampleTaken_line, if_pos hs, sampleTaken_close] at h
    obtain ⟨c, hc, hph⟩ := Option.map_eq_some_iff.mp h
    exact hp c hc hph
  · obtain ⟨hst, hsurge, hplan⟩ := sampleDrained_runDown (t := t) hs hcl hp hsw hlow
    obtain ⟨hfig, hmake⟩ := sampleTaken_plan t s l kPa
    rw [hfig] at hsurge
    rw [hmake] at hplan
    exact ⟨hst, hsurge, hplan⟩
  · exact (sampleDrained_closing hs (sampleTaken_high hhigh)).1

end Sys2Proof.Machine
end

section
/-! A stroke asked for by a line, followed to the end of the event; the timers of the Close Planner (R77, R83, R85). -/

namespace Sys2Proof.Machine
variable {e e' x y z : Ev} {l m : LineId} {g : Ground} {s u v : State} {c : CloseRec} {p : Plan} {t : Time} {k n : Nat}
  {r : StrokeReq}

/-! ### A waiting request, until the end of its event -/

/-- The valve of line `l` waits as in `z`, or its request of `z` has been granted since: arrived at once, its reports not yet handed
on or handed on in part, or in a stroke of its own (R117 to R119). -/
inductive Ev.Serves (z e : Ev) (l : LineId) : Prop where
  | waiting (hv : e.valve l = z.valve l) (hr : e.about l = [])
  | atOnce (r : StrokeReq) (hp : (z.valve l).pending = some r) (hat : z.atTarget l r = true)
      (hv : e.valve l = { z.valve l with pending := none, commanded := r.target, lastOutcome := some (.arrivedAtOnce, z.now) })
      (hr : e.about l = [.arrived l r.cls r.target, .ended l r.cls] ∨ e.about l = [.ended l r.cls] ∨ e.about l = [])
  | started (r : StrokeReq) (suits : Bool) (hp : (z.valve l).pending = some r) (hat : z.atTarget l r = false)
      (hv : e.valve l = { z.valve l with
        pending := none, commanded := r.target,
        stroke := some (newStroke r (if suits then .setup else .turnaround) z.now) })
      (hr : e.about l = [])

theorem Ev.Serves.grant (h : z.Serves e l) (hg : e.ValveGrant e' l) (hnow : e.now = z.now)
    (hprof : (e.line l).profile = (z.line l).profile) : z.Serves e' l := by
  have once {P : Prop} {v : Valve} {r : StrokeReq} (hv : e.valve l = v) (hn : v.pending = none)
      (hp : (e.valve l).pending = some r) : P := by
    rw [hv, hn] at hp; cases hp
  cases h with
  | waiting hv hr =>
    cases hg with
    | same hv' hr' => exact .waiting (hv'.trans hv) (hr'.trans hr)
    | atOnce r hp hat hv' hr' =>
      exact .atOnce r (hv ▸ hp) ((State.atTarget_congr hv hprof r).symm.trans hat) (by rw [hv', hv, hnow])
        (.inl (by rw [hr', hr]; rfl))
    | started r ph hp hat hv' hr' =>
      exact .started r ph (hv ▸ hp) ((State.atTarget_congr hv hprof r).symm.trans hat) (by rw [hv', hv, hnow])
        (hr'.trans hr)
  | atOnce r hp hat hv hr =>
    cases hg with
    | same hv' hr' => exact .atOnce r hp hat (hv'.trans hv) (by rw [hr']; exact hr)
    | atOnce _ hp' => exact once hv rfl hp'
    | started _ _ hp' => exact once hv rfl hp'
  | started r ph hp hat hv hr =>
    cases hg with
    | same hv' hr' => exact .started r ph hp hat (hv'.trans hv) (hr'.trans hr)
    | atOnce _ hp' => exact once hv rfl hp'
    | started _ _ hp' => exact once hv rfl hp'

/-- A report about the line handed on by work on the books alone. -/
theorem Ev.Serves.own {q : Report} (hq : q.line = l) (hb : e.BooksOnly e')
    (h : z.Serves { e with reports := q :: e.reports } l) : z.Serves e' l := by
  have habout : e'.about l = e.about l := Ev.about_congr hb.reports l
  cases h with
  | waiting hv hr => rw [Ev.about_cons hq] at hr; cases hr
  | atOnce r hp hat hv hr =>
    refine .atOnce r hp hat ((hb.valve l).trans hv) ?_
    rw [Ev.about_cons hq] at hr
    rw [habout]
    rcases hr with h | h | h
    · exact .inr (.inl (List.cons.inj h).2)
    · exact .inr (.inr (List.cons.inj h).2)
    · cases h
  | started r ph hp hat hv hr => rw [Ev.about_cons hq] at hr; cases hr

/-- The request that waited stands: in the queue, in its stroke, or arrived at once. -/
theorem Ev.Serves.strokeStands (h : z.Serves e l) (hp : (z.valve l).pending = some r) (hr : r.time = z.now)
    (hat : z.atTarget l r = s.atTarget l r) : s.strokeStands e.toState l r := by
  cases h with
  | waiting hv _ => exact .inl (by rw [hv]; exact hp)
  | atOnce r' hp' hat' hv _ =>
    cases hp.symm.trans hp'
    exact .inr (.inr ⟨hat ▸ hat', by rw [hv, hr], by rw [hv]⟩)
  | started r' ph hp' _ hv _ =>
    cases hp.symm.trans hp'
    exact .inr (.inl ⟨_, by rw [hv], rfl⟩)

/-- The event in which a request has just been put into the queue (R113). -/
def Ev.asked (e : Ev) (l : LineId) (r : StrokeReq) : Ev := e.modValve l (fun v => { v with pending := some r })

theorem Ev.asked_valve (e : Ev) (l : LineId) (r : StrokeReq) : (e.asked l r).valve l = { e.valve l with pending := some r } :=
  Quad.get_set_same _ _ _

theorem Ev.enqueue_serves (h : e.about l = []) : (e.asked l r).Serves (e.enqueue l r) l :=
  (Ev.Serves.waiting (e := e.asked l r) rfl h).grant (Ev.considerGrants_valveGrant _ l) rfl rfl

/-- The request a block makes of the arbiter (R112, R113). -/
def State.requestOf (s : State) (l : LineId) (cls : StrokeClass) (target : Nat) (retry : Bool) : StrokeReq :=
  { cls := cls, target := min target (s.profile l).bulkPos, time := s.now, retry := retry }

/-- A CLOSE asked of a valve without a stroke is put into the queue (R113). -/
theorem Ev.requestStroke_close (hn : (e.valve l).stroke = none) (target : Nat) (retry : Bool) :
    e.requestStroke l .close target retry = e.enqueue l (e.requestOf l .close target retry) := by
  unfold Ev.requestStroke
  dsimp only
  rw [hn]
  cases (e.valve l).pending with
  | none => rfl
  | some q => exact if_neg fun h => h.2 rfl

/-- A request made by a close that goes on as planned, and the close with it, to the end of the event. -/
theorem Ev.drain_planned_serves {rec : LineRec} (hc : e.calm g) (hs : rec.state = .closing)
    (hsw : (e.valve l).closedSwitch = false) (hnow : e.now = z.now) (hprof : rec.profile = (z.line l).profile)
    (h : e.planned l rec c) (hz : z.Serves e l) : e.drain.planned l rec c ∧ z.Serves e.drain l :=
  Ev.drain_planned (P := fun y => z.Serves y l) hc hs hsw h
    (fun _ _ hpa hn hab hP => hP.grant hab.grant (hn.trans hnow) (by rw [hpa.1]; exact hprof))
    (fun _ _ _ hq hab hP => hP.own hq hab) hz

end Sys2Proof.Machine
end

section
/-! A stage that comes up, followed to the end of its event; the timers of the Close Planner (R77, R83, R85). -/

namespace Sys2Proof.Machine
variable {e e' x y z : Ev} {l m : LineId} {g : Ground} {s u v : State} {b c : CloseRec} {p : Plan} {t : Time} {k n : Nat}
  {r : StrokeReq} {rec : LineRec}

/-! ### The stage that comes up -/

/-- The CLOSE stroke of stage `k + 1` of plan `p`, asked for at time `t` (R82, R112). -/
def State.stageRequest (s : State) (l : LineId) (t : Time) (p : Plan) (k : Nat) : StrokeReq :=
  { cls := .close, target := min (p.target (k + 1)) (s.profile l).bulkPos, time := t, retry := false }

/-- Stage `k + 1` has come up in the close of record `b`: passed with its dwell begun, or its stroke asked for of the valve as `s`
has it, and followed since (R83, R85). -/
inductive Ev.AtStage (s : State) (t : Time) (l : LineId) (rec : LineRec) (b : CloseRec) (p : Plan) (k : Nat) (y : Ev) : Prop where
  | passed (hk : 0 < k) (heq : p.target (k + 1) = p.target k)
      (h : y.planned l rec { b with
        phase := .dwell, stage := some (k + 1), dwellEnd := some (after t p.dwell), dwellOver := false, strokeEnded := true })
  | asked (hne : ¬ (0 < k ∧ p.target (k + 1) = p.target k))
      (h : y.planned l rec { b with phase := .stage, stage := some (k + 1), dwellEnd := none })
      (hv : (s.valve l).stroke = none → ∃ w : Ev, w.now = t ∧ (w.line l).profile = (s.line l).profile ∧
        w.valve l = { s.valve l with pending := some (s.stageRequest l t p k) } ∧ w.Serves y l)

theorem Ev.AtStage.aside (hnow : y.now = t) (hprof : rec.profile = (s.line l).profile) (h : y.AtStage s t l rec b p k)
    (ha : y.Aside z l) : z.AtStage s t l rec b p k := by
  cases h with
  | passed hk heq h => exact .passed hk heq (h.aside ha)
  | asked hne h hv =>
    refine .asked hne (h.aside ha) fun hn => ?_
    obtain ⟨w, hw, hp, hval, hserve⟩ := hv hn
    exact ⟨w, hw, hp, hval, hserve.grant ha.grant (hnow.trans hw.symm) (by rw [h.1, hprof, hp])⟩

theorem Ev.AtStage.report {q : Report} (hc : y.calm g) (hq : q.calm g) (hl : q.line = l) (hs : rec.state = .closing)
    (hsw : (y.valve l).closedSwitch = false) (h : Ev.AtStage s t l rec b p k { y with reports := q :: y.reports }) :
    (y.handleReport q).AtStage s t l rec b p k := by
  cases h with
  | passed hk heq h =>
    exact .passed hk heq (Ev.planned.report hc hq hl hs hsw (e := y) h).1
  | asked hne h hv =>
    obtain ⟨hplan, hbooks⟩ := Ev.planned.report hc hq hl hs hsw (e := y) h
    refine .asked hne hplan fun hn => ?_
    obtain ⟨w, hw, hp, hval, hserve⟩ := hv hn
    exact ⟨w, hw, hp, hval, hserve.own hl hbooks⟩

/-- What has come up stands at the end of the event. -/
theorem Ev.AtStage.drain (hc : e.calm g) (hnow : e.now = t) (hprof : rec.profile = (s.line l).profile)
    (hs : rec.state = .closing) (hsw : (e.valve l).closedSwitch = false) (h : e.AtStage s t l rec b p k) :
    e.drain.AtStage s t l rec b p k := by
  have hplan {y : Ev} (hy : y.AtStage s t l rec b p k) : l ∉ y.undecided := by
    cases hy with
    | passed _ _ h => exact h.2.1
    | asked _ h _ => exact h.2.1
  refine Ev.drain_line_induction (P := fun y => y.AtStage s t l rec b p k) l (fun x y hx hxy hp => ?_) (fun y q hy hq hl hp => ?_)
    (fun y _ _ hp => absurd List.mem_cons_self (hplan hp)) hc h
  · exact hp.aside ((congrArg (fun g : Ground => g.port.now) (hx.1.trans hc.1.symm)).trans hnow) hprof hxy
  · exact hp.report hy hq hl hs ((hy.closedSwitch l).symm.trans ((hc.closedSwitch l).trans hsw))

theorem Ev.AtStage.line (h : e.AtStage s t l rec b p k) : e.line l = rec := by
  cases h with
  | passed _ _ h => exact h.1
  | asked _ h _ => exact h.1

theorem Ev.AtStage.close (h : e.AtStage s t l rec b p k) : ∃ x, e.close l = some x ∧ x.stage = some (k + 1) ∧
    x.plan = b.plan ∧ x.entry = b.entry := by
  cases h with
  | passed _ _ h => obtain ⟨-, -, x, hx, hf⟩ := h; exact ⟨x, hx, hf.stage, hf.plan, hf.entry⟩
  | asked _ h _ => obtain ⟨-, -, x, hx, hf⟩ := h; exact ⟨x, hx, hf.stage, hf.plan, hf.entry⟩

/-- The claim's words for it. -/
theorem Ev.AtStage.nextStageComes (hk : 0 < k) (hp : b.plan = some p) (hentry : b.entry = c.entry)
    (hn : (s.valve l).stroke = none) (h : e.AtStage s t l rec b p k) : s.nextStageComes e.toState l t c p k := by
  cases h with
  | passed _ heq h =>
    obtain ⟨-, -, x, hx, hf⟩ := h
    exact ⟨x, hx, hf.stage, hf.plan.trans hp, hf.entry.trans hentry,
      fun _ => ⟨hf.phase.elim id And.left, hf.dwellEnd rfl⟩, fun hne => absurd heq hne⟩
  | asked hne h hv =>
    obtain ⟨-, -, x, hx, hf⟩ := h
    obtain ⟨w, hw, hprof, hval, hserve⟩ := hv hn
    refine ⟨x, hx, hf.stage, hf.plan.trans hp, hf.entry.trans hentry, fun heq => absurd ⟨hk, heq⟩ hne,
      fun _ => ⟨hf.phase.imp id And.left, hserve.strokeStands (by rw [hval]; rfl) hw.symm ?_⟩⟩
    unfold State.atTarget
    rw [hval, show w.profile l = s.profile l from congrArg (fun q : Option LineProfile => q.getD noProfile) hprof]

/-- Stage `k + 1` comes up (R83, R85). -/
theorem Ev.requestStage_atStage (hu : l ∉ e.undecided) (hcl : e.close l = some b) (hp : b.plan = some p) (ha : e.about l = [])
    (hv : e.valve l = s.valve l) (hprof : (e.line l).profile = (s.line l).profile) :
    (e.requestStage l (k + 1)).AtStage s e.now l (e.line l) b p k := by
  have hplan : e.planOf l = some p := by rw [State.planOf, hcl]; exact hp
  rw [Ev.requestStage, hplan]
  dsimp only
  by_cases h : 1 < k + 1 ∧ p.target (k + 1) = p.target (k + 1 - 1)
  · rw [if_pos h]
    exact .passed (by omega) h.2 ⟨rfl, hu, _, by rw [Ev.modClose_close, hcl]; rfl, .refl fun _ => rfl⟩
  · rw [if_neg h]
    generalize hy : e.modClose l (fun c => { c with phase := .stage, stage := some (k + 1), dwellEnd := none }) = y
    have hbooks : e.BooksOnly y := hy ▸ (Ev.modClose_recordsOnly e l _).books
    have hreq := Ev.requestStroke_strokesOnly y l .close (p.target (k + 1)) false
    refine .asked (fun h' => h ⟨by omega, h'.2⟩) ⟨?_, ?_, _, ?_, .refl nofun⟩ fun hn => ?_
    · rw [hreq.line, ← hy]; rfl
    · rw [hreq.undecided, hbooks.undecided]; exact hu
    · rw [hreq.close, ← hy, Ev.modClose_close, hcl]; rfl
    · have hval : y.valve l = s.valve l := (hbooks.valve l).trans hv
      have hline : y.line l = e.line l := by rw [← hy]; rfl
      have hr : y.requestOf l .close (p.target (k + 1)) false = s.stageRequest l e.now p k := by
        rw [State.requestOf, State.stageRequest, hbooks.now, State.profile, hline, hprof, ← State.profile]
      rw [Ev.requestStroke_close (by rw [hval]; exact hn), hr]
      refine ⟨y.asked l (s.stageRequest l e.now p k), hbooks.now, (congrArg LineRec.profile hline).trans hprof, ?_,
        Ev.enqueue_serves ((Ev.about_congr hbooks.reports l).trans ha)⟩
      rw [Ev.asked_valve, hval]

theorem State.sameBlocks.nextStageComes {y v : State} (hv : y.sameBlocks v) (h : s.nextStageComes y l t c p k) :
    s.nextStageComes v l t c p k := by
  unfold State.nextStageComes State.strokeStands at h ⊢
  rw [hv.valve, show v.close l = y.close l from congrArg (fun q => Quad.get q l) hv.2.2.2.2.1]
  exact h

/-! ### The timers (R77, R85) -/

/-- The run-down over its time. -/
theorem runDownExpiry_completes {t0 : Time} (hs : (s.line l).state = .closing) (hcl : s.close l = some c)
    (hsw : (s.valve l).closedSwitch = false) (hph : c.phase = .runDown) (hstart : c.runDownStart = some t0)
    (hover : (s.profile l).runDownMs ≤ elapsed t t0) : Completes s (.runDownExpiry t l) t (fun v =>
      (∃ x, v.close l = some x ∧ x.entry = c.entry ∧ x.runDownEnd = some .time ∧ x.plan = some (s.makePlan l)) ∧
      (v.line l).state = .closing ∧ (v.line l).closeReason = (s.line l).closeReason ∧
      (v.line l).surgeLimited = (s.closeFigures l).limited ∧ v.shut.causes = s.shut.causes ∧ v.link = s.link) := by
  have he : (begin t s).runDownExpiry l = (begin t s).endRunDown l .time := by
    refine if_pos ⟨by rw [State.closePhase_of_close (s := (begin t s).toState) hs hcl, hph], ?_⟩
    have hd : (begin t s).runDownStart l = some t0 := by
      rw [State.runDownStart, show (begin t s).close l = some c from hcl]; exact hstart
    rw [hd]
    exact decide_eq_true hover
  have hcalm := Ev.endRunDown_calm l .time (begin_calm t s)
  have hplan := Ev.endRunDown_planned (e := begin t s) (l := l) (c := c) hsw hcl List.not_mem_nil .time
  have hground := (Ev.drain_ground _).trans hcalm.1
  obtain ⟨hline, -, x, hx, hf⟩ := Ev.drain_follows hcalm (by exact hs) ((hcalm.closedSwitch l).symm.trans hsw) hplan
  refine completes_of_drain _ rfl he (pending_of_ground (y := (begin t s).toState) hcalm.1)
    (now_of_ground (y := (begin t s).toState) hcalm.1) fun v hv _ => ⟨⟨x, ?_, hf.entry.trans ?_, hf.runDownEnd.trans ?_,
      hf.plan.trans ?_⟩, ?_, ?_, ?_, ?_, ?_⟩
  · exact (congrArg (fun q => Quad.get q l) hv.2.2.2.2.1).trans hx
  · unfold CloseRec.begun; split <;> rfl
  · unfold CloseRec.begun; split <;> rfl
  · unfold CloseRec.begun; split <;> rfl
  · rw [hv.line, hline]; exact hs
  · rw [hv.line, hline]; rfl
  · rw [hv.line, hline]; rfl
  · rw [hv.shut, Ev.drain_causes hcalm]
    exact congrArg Prod.fst (Ev.endRunDown_alarms l .time (e := begin t s) rfl)
  · rw [hv.linkGrades.1, link_of_ground (y := (begin t s).toState) hground]; rfl

theorem dwellEnd_operation {t1 : Time} (hs : (s.line l).state = .closing) (hcl : s.close l = some c)
    (hph : c.phase = .dwell) (hend : c.dwellEnd = some t1) (hdue : reached t t1 = true) :
    (begin t s).dwellOver l = ((begin t s).modClose l (fun c => { c with dwellOver := true })).nextStage l := by
  refine if_pos ⟨by rw [State.closePhase_of_close (s := (begin t s).toState) hs hcl, hph], ?_⟩
  rw [show (begin t s).close l = some c from hcl, show (some c).bind (fun c => c.dwellEnd) = some t1 from hend]
  exact hdue

/-- The dwell over, the last stroke's hold ended: the next stage comes up. -/
theorem dwellEnd_completes {t1 : Time} (hs : (s.line l).state = .closing) (hcl : s.close l = some c)
    (hsw : (s.valve l).closedSwitch = false) (hph : c.phase = .dwell) (hend : c.dwellEnd = some t1)
    (hdue : reached t t1 = true) (hk : c.stage = some k) (hp : c.plan = some p) (hstroke : c.strokeEnded = true) :
    Completes s (.dwellEnd t l) t (fun v =>
      (∃ x, v.close l = some x ∧ x.stage = some (k + 1) ∧ x.plan = some p ∧ x.entry = c.entry) ∧
      (0 < k → (s.valve l).stroke = none → s.nextStageComes v l t c p k) ∧
      (v.line l).state = .closing ∧ v.shut.causes = s.shut.causes ∧ v.link = s.link) := by
  have hclose : ((begin t s).modClose l (fun c => { c with dwellOver := true })).close l = some { c with dwellOver := true } := by
    rw [Ev.modClose_close, show (begin t s).close l = some c from hcl]; rfl
  have he : (begin t s).dwellOver l =
      ((begin t s).modClose l (fun c => { c with dwellOver := true })).requestStage l (k + 1) := by
    rw [dwellEnd_operation hs hcl hph hend hdue, Ev.nextStage, hclose]
    dsimp only
    rw [if_pos ⟨hph, rfl, hstroke⟩, hk]
    rfl
  have hcalm0 := Ev.modClose_calm l (fun c => { c with dwellOver := true }) (begin_calm t s)
  have hstage := Ev.requestStage_atStage (s := s) (k := k) (e := (begin t s).modClose l (fun c => { c with dwellOver := true }))
    List.not_mem_nil hclose hp rfl rfl rfl
  have hcalm := Ev.requestStage_calm l (k + 1) hcalm0
  have hcauses := Ev.requestStage_alarms l (k + 1) (e := (begin t s).modClose l (fun c => { c with dwellOver := true })) rfl
  rw [← he] at hstage hcalm hcauses
  have hground := (Ev.drain_ground _).trans hcalm.1
  have hnow : ((begin t s).dwellOver l).now = t := now_of_ground (y := (begin t s).toState) hcalm.1
  have hlast := hstage.drain hcalm hnow rfl hs ((hcalm.closedSwitch l).symm.trans hsw)
  generalize hy : (begin t s).dwellOver l = y at *
  refine completes_of_drain (op := fun e => e.dwellOver l) y rfl hy (pending_of_ground (y := (begin t s).toState) hcalm.1) hnow fun v hv _ => ?_
  have hcl' : v.close l = y.drain.close l := congrArg (fun q => Quad.get q l) hv.2.2.2.2.1
  refine ⟨?_, fun h0 hn => hv.nextStageComes (hlast.nextStageComes h0 (by exact hp) (by exact rfl) hn), ?_, ?_, ?_⟩
  · obtain ⟨x, hx, hst, hpl, hen⟩ := hlast.close
    exact ⟨x, hcl'.trans hx, hst, hpl.trans hp, hen⟩
  · rw [hv.line, hlast.line]; exact hs
  · rw [hv.shut, Ev.drain_causes hcalm]; exact congrArg Prod.fst hcauses
  · rw [hv.linkGrades.1, link_of_ground (y := (begin t s).toState) hground]; rfl

/-- Settles O47: the run-down's expiry makes the plan; the end of the dwell brings up the next stage, once the last stroke has
ended its hold. -/
theorem closeTimersMoveTheClose : Obligations.CloseTimersMoveTheClose := by
  intro s t l c hs hcl hsw
  refine ⟨fun t0 hph hstart hover => runDownExpiry_completes hs hcl hsw hph hstart hover, fun t1 k p hph hend hdue hk hp =>
    ⟨fun hstroke => dwellEnd_completes hs hcl hsw hph hend hdue hk hp hstroke, fun hstroke => ?_⟩⟩
  have hclose : ((begin t s).modClose l (fun c => { c with dwellOver := true })).close l = some { c with dwellOver := true } := by
    rw [Ev.modClose_close, show (begin t s).close l = some c from hcl]; rfl
  have he : (begin t s).dwellOver l = { begin t s with closes := s.closes.set l (some { c with dwellOver := true }) } := by
    rw [dwellEnd_operation hs hcl hph hend hdue, Ev.nextStage, hclose]
    dsimp only
    rw [if_neg (by simp [hstroke]), Ev.modClose, show (begin t s).closes.get l = some c from hcl]
    rfl
  rw [exec_idle (op := fun e => e.dwellOver l) rfl (by rw [he]; rfl) (by rw [he]; rfl), he]
  rfl

end Sys2Proof.Machine
end

section
/-! The limit switches: the known position they set, in and out of blanking (R109, R121, R124). -/

namespace Sys2Proof.Machine
variable {e e' x y z : Ev} {l m : LineId} {g : Ground} {s u v : State} {c : Instr} {k : Stroke} {t : Time} {a : Bool}
  {op : Ev → Ev}

/-! ### The known position -/

/-- The known position and where it comes from. -/
def State.knownAt (s : State) (l : LineId) (pos : Nat) (src : PositionSource) : Prop :=
  (s.valve l).position = pos ∧ (s.valve l).source = src

theorem State.knownAt_of_fixture {y z : State} {pos : Nat} {src : PositionSource} (h : z.fixture l = y.fixture l)
    (hy : y.knownAt l pos src) : z.knownAt l pos src :=
  ⟨(congrArg (fun q : LineFixture => q.2.2.1) h).trans hy.1, (congrArg (fun q : LineFixture => q.2.2.2) h).trans hy.2⟩

/-- The valve put at a known end of travel. -/
def Ev.atEnd (e : Ev) (l : LineId) (pos : Nat) : Ev := e.modValve l (fun v => { v with position := pos, source := .arrival })

theorem Ev.atEnd_knownAt (e : Ev) (l : LineId) (pos : Nat) : (e.atEnd l pos).knownAt l pos .arrival := by
  constructor <;> simp [Ev.atEnd, State.valve]

theorem Ev.closedActive_fixture (e : Ev) (l : LineId) : (e.closedActive l).fixture l = (e.atEnd l 0).fixture l := by
  unfold Ev.closedActive
  dsimp only
  refine Ev.report_fixture _ ?_
  split
  · rfl
  · split
    · exact Ev.arrive_fixture _ _ _ rfl
    · split
      · exact Ev.arrive_fixture _ _ _ rfl
      · exact Ev.failStroke_fixture _ _ rfl
      · rfl

theorem Ev.openActive_fixture (e : Ev) (l : LineId) : (e.openActive l).fixture l = (e.atEnd l 1000).fixture l := by
  unfold Ev.openActive
  dsimp only
  split
  · rfl
  · split
    · split
      · exact Ev.arrive_fixture _ _ _ rfl
      · exact Ev.failStroke_fixture _ _ rfl
    · rfl
    · rfl

theorem Ev.closedActive_knownAt (e : Ev) (l : LineId) : (e.closedActive l).knownAt l 0 .arrival :=
  State.knownAt_of_fixture (e.closedActive_fixture l) (e.atEnd_knownAt l 0)

theorem Ev.openActive_knownAt (e : Ev) (l : LineId) : (e.openActive l).knownAt l 1000 .arrival :=
  State.knownAt_of_fixture (e.openActive_fixture l) (e.atEnd_knownAt l 1000)

/-- An event that leaves the valve at a known position and the ground of `y` ends so. -/
theorem completes_knownAt {pos : Nat} {src : PositionSource} {y : Ev} (hop : exec c s = event t s op)
    (hg : (op (begin t s)).ground = y.ground) (hy : y.now = t ∧ y.pending = s.pending ∧ y.link = s.link ∧ y.grades = s.grades)
    (hk : (op (begin t s)).knownAt l pos src) :
    Completes s c t (fun v => (v.valve l).inputs = (y.valve l).inputs ∧ (v.valve l).position = pos ∧
      (v.valve l).source = src ∧ v.link = s.link ∧ v.grades = s.grades) := by
  have hground := (Ev.drain_ground (op (begin t s))).trans hg
  obtain ⟨hnow, hpending, hlink, hgrades⟩ := hy
  refine completes_of_drain _ hop rfl ((pending_of_ground (y := y.toState) hg).trans hpending)
    ((now_of_ground (y := y.toState) hg).trans hnow) fun v hv _ => ?_
  obtain ⟨hpos, hsrc⟩ := State.knownAt_of_fixture (Ev.drain_fixture _ l) hk
  rw [hv.valve]
  exact ⟨inputs_of_ground (y := y.toState) hground l, hpos, hsrc,
    hv.linkGrades.1.trans ((link_of_ground (y := y.toState) hground).trans hlink),
    hv.linkGrades.2.trans ((grades_of_ground (y := y.toState) hground).trans hgrades)⟩

/-! ### The changes of the switches -/

/-- The event with the closed limit switch's new level. -/
def Ev.closedLevel (e : Ev) (l : LineId) (a : Bool) : Ev := e.modValve l (fun v => { v with closedSwitch := a })
def Ev.openLevel (e : Ev) (l : LineId) (a : Bool) : Ev := e.modValve l (fun v => { v with openSwitch := a })

theorem Ev.closedSwitch_level (h : (e.valve l).closedSwitch ≠ a) (hb : a = false ∨ e.blanked l = true) :
    e.closedSwitch l a = e.closedLevel l a := by
  rw [Ev.closedSwitch, if_neg h]
  refine if_neg ?_
  rcases hb with rfl | hb
  · simp
  · simp [hb]

theorem Ev.openSwitch_level (h : (e.valve l).openSwitch ≠ a) (hb : a = false ∨ e.blanked l = true) :
    e.openSwitch l a = e.openLevel l a := by
  rw [Ev.openSwitch, if_neg h]
  refine if_neg ?_
  rcases hb with rfl | hb
  · simp
  · simp [hb]

theorem Ev.closedSwitch_active (h : (e.valve l).closedSwitch = false) (hb : e.blanked l = false) :
    e.closedSwitch l true = (e.closedLevel l true).closedActive l := by
  rw [Ev.closedSwitch, if_neg (by simp [h])]
  exact if_pos (by simp [hb])

theorem Ev.openSwitch_active (h : (e.valve l).openSwitch = false) (hb : e.blanked l = false) :
    e.openSwitch l true = (e.openLevel l true).openActive l := by
  rw [Ev.openSwitch, if_neg (by simp [h])]
  exact if_pos (by simp [hb])

/-! ### The end of the blanking -/

/-- The event with the stroke's blanking over. -/
def Ev.unblanked (e : Ev) (l : LineId) (k : Stroke) : Ev :=
  e.modValve l (fun v => { v with stroke := some { k with blanking := false } })

theorem Ev.blankingEnd_eq (hk : (e.valve l).stroke = some k) (hb : k.blanking = true)
    (hdue : e.supply.profile.blankingMs ≤ elapsed e.now k.travelStart) :
    e.blankingEnd l = if (e.valve l).openSwitch then
        (if (e.valve l).closedSwitch then (e.unblanked l k).closedActive l else e.unblanked l k).openActive l
      else if (e.valve l).closedSwitch then (e.unblanked l k).closedActive l else e.unblanked l k := by
  rw [Ev.blankingEnd, hk]
  exact if_pos ⟨hb, hdue⟩

theorem Ev.unblanked_ground (e : Ev) (l : LineId) (k : Stroke) : (e.unblanked l k).ground = e.ground :=
  Ev.modValve_ground e l _ fun _ => rfl

/-- Settles O52: outside blanking a switch that goes active puts the valve at its end of travel, a level alone is kept; the end of
the blanking reads both. -/
theorem limitSwitchesSetThePosition : Obligations.LimitSwitchesSetThePosition := by
  intro s t l a
  refine ⟨fun h hb => ?_, fun h hb => ?_, fun h hb => ?_, fun h hb => ?_, fun k hk hblank hdue => ?_⟩
  · have he : (begin t s).closedSwitch l a = (begin t s).closedLevel l a := Ev.closedSwitch_level h hb
    rw [exec_idle (op := fun e => e.closedSwitch l a) rfl (by rw [he]; rfl) (by rw [he]; rfl), he]
    rfl
  · have he : (begin t s).openSwitch l a = (begin t s).openLevel l a := Ev.openSwitch_level h hb
    rw [exec_idle (op := fun e => e.openSwitch l a) rfl (by rw [he]; rfl) (by rw [he]; rfl), he]
    rfl
  · have he : (begin t s).closedSwitch l true = ((begin t s).closedLevel l true).closedActive l := Ev.closedSwitch_active h hb
    obtain ⟨w, hw, hnow, hpend, hin, hrest⟩ := completes_knownAt (c := .closedLimitSwitch t l true) (s := s) (t := t) (l := l)
      (op := fun e => e.closedSwitch l true) (y := (begin t s).closedLevel l true) rfl
      ((congrArg (fun q : Ev => q.ground) he).trans (Ev.closedActive_ground _ l)) ⟨rfl, rfl, rfl, rfl⟩
      (he ▸ Ev.closedActive_knownAt _ l)
    refine ⟨w, hw, hnow, hpend, (congrArg ValveInputs.closedSwitch hin).trans ?_, hrest⟩
    simp [Ev.closedLevel, State.valve]
  · have he : (begin t s).openSwitch l true = ((begin t s).openLevel l true).openActive l := Ev.openSwitch_active h hb
    obtain ⟨w, hw, hnow, hpend, hin, hrest⟩ := completes_knownAt (c := .openLimitSwitch t l true) (s := s) (t := t) (l := l)
      (op := fun e => e.openSwitch l true) (y := (begin t s).openLevel l true) rfl
      ((congrArg (fun q : Ev => q.ground) he).trans (Ev.openActive_ground _ l)) ⟨rfl, rfl, rfl, rfl⟩
      (he ▸ Ev.openActive_knownAt _ l)
    refine ⟨w, hw, hnow, hpend, (congrArg ValveInputs.openSwitch hin).trans ?_, hrest⟩
    simp [Ev.openLevel, State.valve]
  · have hend : (begin t s).blankingEnd l = _ := Ev.blankingEnd_eq (e := begin t s) (k := k) hk hblank hdue
    have hcl : ((begin t s).valve l).closedSwitch = (s.valve l).closedSwitch := rfl
    have hop : ((begin t s).valve l).openSwitch = (s.valve l).openSwitch := rfl
    rw [hcl, hop] at hend
    refine ⟨fun h1 h2 => ?_, fun h1 h2 => ?_, fun h2 => ?_⟩
    · rw [h1, h2, if_neg Bool.false_ne_true, if_neg Bool.false_ne_true] at hend
      rw [exec_idle (op := fun e => e.blankingEnd l) rfl (by rw [hend]; rfl) (by rw [hend]; rfl), hend]
      rfl
    · rw [h1, h2, if_neg Bool.false_ne_true, if_pos rfl] at hend
      obtain ⟨w, hw, hnow, hpend, -, hrest⟩ := completes_knownAt (c := .blankingEnd t l) (s := s) (t := t) (l := l)
        (op := fun e => e.blankingEnd l) (y := begin t s) rfl
        ((congrArg (fun q : Ev => q.ground) hend).trans ((Ev.closedActive_ground _ l).trans (Ev.unblanked_ground _ l k)))
        ⟨rfl, rfl, rfl, rfl⟩ (hend ▸ Ev.closedActive_knownAt _ l)
      exact ⟨w, hw, hnow, hpend, hrest⟩
    · rw [h2, if_pos rfl] at hend
      obtain ⟨w, hw, hnow, hpend, -, hrest⟩ := completes_knownAt (c := .blankingEnd t l) (s := s) (t := t) (l := l)
        (op := fun e => e.blankingEnd l) (y := begin t s) rfl
        ((congrArg (fun q : Ev => q.ground) hend).trans ((Ev.openActive_ground _ l).trans (by
          split
          · exact (Ev.closedActive_ground _ l).trans (Ev.unblanked_ground _ l k)
          · exact Ev.unblanked_ground _ l k)))
        ⟨rfl, rfl, rfl, rfl⟩ (hend ▸ Ev.openActive_knownAt _ l)
      exact ⟨w, hw, hnow, hpend, hrest⟩

end Sys2Proof.Machine
end

section
/-! A close confirmed by the closed limit switch (R20, R86, R124). -/

namespace Sys2Proof.Machine
variable {e e' x y z : Ev} {l m : LineId} {g : Ground} {s u v : State} {c : CloseRec} {k : Stroke} {t : Time} {r : CloseReason}

/-! ### The end of a close -/

/-- The state in which a confirmed close leaves its line (table of R20). -/
def CloseReason.endState : CloseReason → LineState
  | .ending => .complete
  | .tankEnd => .held
  | .hold => .held
  | .trip => .tripped
  | .esd => .tripped

theorem Ev.setState_closes (e : Ev) (l : LineId) (st : LineState) : (e.setState l st).closes = e.closes := by
  obtain ⟨sh, d, h, -⟩ := Ev.setState_writes e l st
  rw [h]

theorem Ev.useActive_recordsOnly (e y : Ev) (l : LineId) (w : TankUse) : y.RecordsOnly (e.useActive y l w) := by
  unfold Ev.useActive
  split
  · exact Ev.setUse_recordsOnly y _ w
  · exact .refl y

theorem Ev.setUse_lines_closes (e : Ev) (k : TankId) (w : TankUse) :
    (e.setUse k w).lines = e.lines ∧ (e.setUse k w).closes = e.closes := by
  simp [Ev.setUse]

theorem Ev.useActive_lines_closes (e y : Ev) (l : LineId) (w : TankUse) :
    (e.useActive y l w).lines = y.lines ∧ (e.useActive y l w).closes = y.closes := by
  unfold Ev.useActive
  split
  · exact Ev.setUse_lines_closes y _ w
  · exact ⟨rfl, rfl⟩

/-- The close ends by its reason: the line's state, its close record and reason gone, the list emptied for END. -/
theorem Ev.closeEnd_ended (hr : (e.line l).closeReason = some r) :
    (∃ h, (e.closeEnd l).line l = { e.line l with closeReason := none, holdReason := h, state := r.endState }) ∧
      (e.closeEnd l).close l = none ∧ (r = .ending → (e.closeEnd l).list l = []) := by
  have hline := Ev.dropClose_line e l
  have hclose : (e.dropClose l).closes.get l = none := Quad.get_set_same _ _ _
  have ended (y : Ev) (h : Option HoldReason) (hl : y.line l = { e.line l with closeReason := none, holdReason := h })
      (hc : y.closes.get l = none) (st : LineState) :
      (∃ h, (y.setState l st).line l = { e.line l with closeReason := none, holdReason := h, state := st }) ∧
        (y.setState l st).close l = none := by
    refine ⟨⟨h, ?_⟩, ?_⟩
    · rw [Ev.setState_line, hl]
    · rw [State.close, Ev.setState_closes]; exact hc
  rw [Ev.closeEnd_eq, hr]
  generalize e.dropClose l = y at hline hclose
  have unheld (y' : Ev) (hl : y'.line l = y.line l) (hc : y'.closes.get l = none) (st : LineState) :=
    ended (y'.modLine l (fun x => { x with holdReason := none })) none
      ((Quad.get_set_same _ _ _).trans (congrArg (fun q : LineRec => { q with holdReason := none }) (hl.trans hline))) hc st
  have used (w : TankUse) (st : LineState) := ended (e.useActive y l w) (e.line l).holdReason
    (by rw [State.line, (Ev.useActive_lines_closes e y l w).1]; exact hline)
    (by rw [(Ev.useActive_lines_closes e y l w).2]; exact hclose) st
  cases r with
  | ending =>
    obtain ⟨tk, d, h, -⟩ := Ev.settleComplete_writes y l
    dsimp only
    rw [h]
    obtain ⟨hl, hc⟩ := unheld { y with tanks := tk, dirty := d, lists := y.lists.set l [] } rfl hclose .complete
    refine ⟨hl, hc, fun _ => ?_⟩
    rw [State.list, Ev.setState_lists]
    exact Quad.get_set_same _ _ _
  | tankEnd => exact ⟨(used .done .held).1, (used .done .held).2, nofun⟩
  | hold => exact ⟨(used .queued .held).1, (used .queued .held).2, nofun⟩
  | trip => exact ⟨(unheld y rfl hclose .tripped).1, (unheld y rfl hclose .tripped).2, nofun⟩
  | esd => exact ⟨(unheld y rfl hclose .tripped).1, (unheld y rfl hclose .tripped).2, nofun⟩

/-! ### Two reports and no more -/

/-- An event with two reports, of which the first makes no more, ends with the second handed on. -/
theorem Ev.drain_two {r1 r2 : Report} (hr : e.reports = [r1, r2]) (hu : e.undecided = [])
    (h1 : ({ e with reports := [r2] } : Ev).BooksOnly (Ev.handleReport { e with reports := [r2] } r1))
    (h2 : ({ Ev.handleReport { e with reports := [r2] } r1 with reports := [] } : Ev).BooksOnly
      (Ev.handleReport { Ev.handleReport { e with reports := [r2] } r1 with reports := [] } r2)) :
    e.drain = Ev.handleReport { Ev.handleReport { e with reports := [r2] } r1 with reports := [] } r2 := by
  have step (n : Nat) (y : Ev) (q : Report) (qs : List Report) (hy : y.reports = q :: qs) :
      y.drainUpTo (n + 1) = Ev.drainUpTo n (Ev.handleReport { y with reports := qs } q) := by
    rw [Ev.drainUpTo, hy]
  rw [Ev.drain, step 63 e r1 [r2] hr, step 62 _ r2 [] h1.reports]
  generalize Ev.handleReport { e with reports := [r2] } r1 = y at *
  have hr' := h2.reports
  have hu' := h2.undecided.trans (h1.undecided.trans hu)
  generalize Ev.handleReport { y with reports := [] } r2 = z at *
  rw [Ev.drainUpTo, hr', hu']

/-! ### CLOSED_LIMIT_SWITCH under a CLOSE stroke to 0 -/

/-- The valve as the switch leaves it: at 0 by arrival, its stroke in HOLD (R124, R125). -/
def Valve.seated (v : Valve) (k : Stroke) (t : Time) : Valve :=
  { v with
    closedSwitch := true, position := 0, source := .arrival,
    stroke := some { k with
      phase := .hold, since := t, used := k.usedAt t, pauseUsed := k.pauseAt t, mark := t, paused := false },
    lastOutcome := some (.arrived, t) }

/-- The event once the switch has been taken, the arrival still to be handed on. -/
def seatedEvent (t : Time) (s : State) (l : LineId) (k : Stroke) : Ev :=
  { begin t s with valves := s.valves.set l ((s.valve l).seated k t), reports := [.arrived l .close 0, .seated l] }

theorem closedSwitch_seated (hk : (s.valve l).stroke = some k) (hp : k.phase = .travel) (hb : k.blanking = false)
    (hc : k.req.cls = .close) (ht : k.req.target = 0) (hsw : (s.valve l).closedSwitch = false) :
    (begin t s).closedSwitch l true = seatedEvent t s l k := by
  have hblank : (begin t s).blanked l = false := by
    rw [State.blanked, show ((begin t s).valve l).stroke = some k from hk]; exact hb
  rw [Ev.closedSwitch_active (e := begin t s) hsw hblank]
  have hlevel : ((begin t s).closedLevel l true).valve l = { s.valve l with closedSwitch := true } := Quad.get_set_same _ _ _
  have htravel : ((begin t s).closedLevel l true).strokeIn l .travel = some k := by
    rw [State.strokeIn, hlevel, hk]; exact if_pos hp
  have hvalves : ((begin t s).closedLevel l true).valves.set l ((s.valve l).seated k t) =
      s.valves.set l ((s.valve l).seated k t) := Quad.set_set _ _ _ _
  unfold Ev.closedActive
  dsimp only
  rw [htravel]
  dsimp only
  rw [if_pos ht, Ev.arrive, hc, seatedEvent, ← hvalves]
  simp only [Ev.report, Ev.modValve, Quad.set_set, Quad.get_set_same]
  rw [show ((begin t s).closedLevel l true).valves.get l = _ from hlevel]
  rfl

/-- The state of the event at its end: the close has ended. -/
theorem seatedEvent_drain (hs : (s.line l).state = .closing) (hr : (s.line l).closeReason = some r) (hcl : s.close l = some c)
    (hph : c.phase = .stage ∨ c.phase = .seating) :
    (seatedEvent t s l k).drain =
      { Ev.closeEnd { seatedEvent t s l k with reports := [.seated l] } l with reports := [] } := by
  have hphase : ({ seatedEvent t s l k with reports := [.seated l] } : Ev).closePhase l = some c.phase :=
    State.closePhase_of_close (s := s) hs hcl
  have h1 : Ev.handleReport { seatedEvent t s l k with reports := [.seated l] } (.arrived l .close 0) =
      Ev.closeEnd { seatedEvent t s l k with reports := [.seated l] } l := by
    refine (if_pos ?_).trans (if_pos rfl)
    rw [hphase]
    exact hph.imp (congrArg some) (congrArg some)
  obtain ⟨⟨h, hline⟩, -, -⟩ := Ev.closeEnd_ended (e := { seatedEvent t s l k with reports := [.seated l] }) (l := l) hr
  have hbooks := Ev.closeEnd_booksOnly { seatedEvent t s l k with reports := [.seated l] } l
  have h2 : Ev.handleReport { Ev.closeEnd { seatedEvent t s l k with reports := [.seated l] } l with reports := [] } (.seated l) =
      { Ev.closeEnd { seatedEvent t s l k with reports := [.seated l] } l with reports := [] } := by
    have hnone : ({ Ev.closeEnd { seatedEvent t s l k with reports := [.seated l] } l with reports := [] } : Ev).closePhase l =
        none := by
      refine if_neg ?_
      rw [show ({ Ev.closeEnd { seatedEvent t s l k with reports := [.seated l] } l with reports := [] } : Ev).line l = _ from
        hline]
      cases r <;> nofun
    refine if_neg ?_
    rw [hnone]
    rintro (h | h) <;> cases h
  rw [Ev.drain_two rfl rfl (by rw [h1]; exact hbooks) (by rw [h1, h2]; exact .refl _), h1, h2]

/-- Settles O53: the arrival that the switch makes is handed on first and ends the close; the switch itself then finds no close. -/
theorem theSwitchEndsTheClose : Obligations.TheSwitchEndsTheClose := by
  intro s t l k c r hk hp hb hc ht hsw hs hr hcl hph
  have hop := closedSwitch_seated (t := t) hk hp hb hc ht hsw
  have hdrain := seatedEvent_drain (t := t) (k := k) hs hr hcl hph
  obtain ⟨⟨h, hline⟩, hclose, hlist⟩ := Ev.closeEnd_ended (e := { seatedEvent t s l k with reports := [.seated l] }) (l := l) hr
  have hbooks := Ev.closeEnd_booksOnly { seatedEvent t s l k with reports := [.seated l] } l
  have hground := Ev.closeEnd_ground { seatedEvent t s l k with reports := [.seated l] } l
  have halarms := Ev.closeEnd_alarms l (e := { seatedEvent t s l k with reports := [.seated l] }) rfl
  generalize Ev.closeEnd { seatedEvent t s l k with reports := [.seated l] } l = y at *
  have hstate : r.endState ≠ .closing := by cases r <;> nofun
  have hcomplete : Completes s (.closedLimitSwitch t l true) t (fun v => y.toState.sameBlocks v) := by
    refine completes_of_drain (op := fun e => e.closedSwitch l true) (seatedEvent t s l k) rfl hop rfl rfl fun v hv _ => ?_
    rw [hdrain] at hv
    exact hv
  obtain ⟨v, hv, hnow, hpend, hsame⟩ := hcomplete
  have hval : v.valve l = (s.valve l).seated k t := (hsame.valve l).trans ((hbooks.valve l).trans (Quad.get_set_same _ _ _))
  refine ⟨v, hv, hnow, hpend, ?_, ?_, ?_, ?_, ?_, ?_, ?_, fun hend => (hsame.list l).trans (hlist hend), ?_, ?_, ?_, ?_⟩
  · rw [hsame.line, hline]; cases r <;> rfl
  · rw [hsame.line, hline]
  · exact (congrArg (fun q => Quad.get q l) hsame.2.2.2.2.1).trans hclose
  · rw [hsame.line, hline]; rfl
  · rw [hsame.line, hline]; rfl
  · rw [hval]; rfl
  · rw [hval]; rfl
  · refine lineStateChangesAreAnnounced _ s v l hv (fun _ => nofun) ?_
    rw [hsame.line, hline, hs]
    exact hstate
  · exact hsame.linkGrades.1.trans (link_of_ground (y := (seatedEvent t s l k).toState) hground)
  · exact hsame.linkGrades.2.trans (grades_of_ground (y := (seatedEvent t s l k).toState) hground)
  · rw [hsame.shut]; exact congrArg Prod.fst halarms

end Sys2Proof.Machine
end

section
/-! A request that no channel can be given to: not admitted in the band, or none waiting. A stroke that goes back to the queue
(R120, R129). -/

namespace Sys2Proof.Machine
variable {e e' e'' x y z : Ev} {l m : LineId} {g : Ground} {s u v : State} {c : Instr} {k : Stroke} {t : Time} {r : StrokeReq}

/-! ### Requests the band shuts out -/

theorem State.bestOf_ok (s : State) (ok : StrokeReq → Bool) (ls : List LineId) (h : s.bestOf ok ls = some (l, r)) :
    ok r = true := by
  unfold State.bestOf at h
  refine List.foldlRecOn ls _ (motive := fun acc => ∀ l r, acc = some (l, r) → ok r = true) nofun ?_ l r h
  intro acc hacc m _ l r h
  split at h
  · exact hacc l r h
  · next q hq =>
    split at h
    · next hok =>
      split at h
      · cases h; exact hok
      · split at h
        · cases h; exact hok
        · exact hacc l r h
    · exact hacc l r h

theorem State.nextGrant_admitted (h : s.nextGrant = some (l, r)) : admitted s.supply.band r.cls = true :=
  s.bestOf_ok _ _ h

/-- The valve has no request that the present band admits: none waits, or the band shuts its class out (R129). -/
def State.barred (s : State) (l : LineId) : Prop := ∀ r, (s.valve l).pending = some r → admitted s.supply.band r.cls = false

theorem State.barred_of {y z : State} (hv : z.valve l = y.valve l) (hb : z.supply.band = y.supply.band) (h : y.barred l) :
    z.barred l := by
  rw [State.barred, hv, hb]; exact h

theorem Ev.StrokesOnly.band (h : e.StrokesOnly e') : e'.supply.band = e.supply.band := by
  obtain ⟨_, _, _, _, _, rfl⟩ := h; rfl

theorem Ev.grantUpTo_barred (n : Nat) (e : Ev) (h : e.barred l) : (e.grantUpTo n).valve l = e.valve l := by
  induction n generalizing e with
  | zero => rfl
  | succ n ih =>
    unfold Ev.grantUpTo
    split
    · rfl
    · next m r hg =>
      split
      · rfl
      · next ch hch =>
        have hm : l ≠ m := by
          rintro rfl
          exact absurd (State.nextGrant_admitted hg) (by simp [h r (State.nextGrant_pending hg)])
        have hv := Ev.grant_valve_ne e r ch hm
        exact (ih _ (State.barred_of hv (Ev.grant_strokesOnly e m r ch).band h)).trans hv

theorem Ev.considerGrants_barred (h : e.barred l) : e.considerGrants.valve l = e.valve l := Ev.grantUpTo_barred 4 e h

theorem Ev.enqueue_barred (hm : l ≠ m) (h : e.barred l) : (e.enqueue m r).valve l = e.valve l :=
  have hv := Ev.modValve_valve_ne e (fun v => { v with pending := some r }) hm
  (Ev.considerGrants_barred (State.barred_of hv rfl h)).trans hv

theorem Ev.endStroke_valve_ne (e : Ev) (o : StrokeOutcome) (hm : l ≠ m) : (e.endStroke m o).valve l = e.valve l := by
  rw [Ev.endStroke, Ev.freeChannel_valve, Ev.modValve_valve_ne _ _ hm]

theorem Ev.requestStroke_barred (hm : l ≠ m) (cls : StrokeClass) (target : Nat) (retry : Bool) (h : e.barred l) :
    (e.requestStroke m cls target retry).valve l = e.valve l := by
  unfold Ev.requestStroke
  dsimp only
  split
  · split
    · rfl
    · split
      · have hv := Ev.endStroke_valve_ne e .ended hm
        exact (Ev.enqueue_barred hm (State.barred_of hv (Ev.endStroke_strokesOnly e m .ended).band h)).trans hv
      · exact Ev.modValve_valve_ne e _ hm
  · split
    · rfl
    · exact Ev.enqueue_barred hm h
  · exact Ev.enqueue_barred hm h

theorem Ev.Asks.barred (ha : e.Asks m e') (hm : l ≠ m) (h : e.barred l) : e'.valve l = e.valve l := by
  cases ha with
  | none hb => exact hb.valve l
  | stroke hb cls target retry =>
    have hv := hb.valve l
    exact (Ev.requestStroke_barred hm cls target retry (State.barred_of hv (congrArg Supply.band hb.supply) h)).trans hv

/-- A report that nothing follows from: the end of a stroke that is no CLOSE (table of R116). -/
def Report.moot : Report → Prop
  | .ended _ cls => cls ≠ .close
  | .arrived _ _ _ => False
  | .failed _ _ _ => False
  | .seated _ => False

theorem Ev.handleReport_moot (e : Ev) {q : Report} (h : q.moot) : e.handleReport q = e := by
  cases q with
  | ended m cls =>
    cases cls with
    | close => exact absurd rfl h
    | throttle => rfl
    | opening => rfl
  | arrived m cls target => cases h
  | failed m cls o => cases h
  | seated m => cases h

/-- Nothing at the end of an event reaches a barred valve, its line without a report that something follows from and without a
close to decide; nor the line's records. -/
theorem Ev.drain_barred (hc : e.calm g) (h : e.barred l) (ha : ∀ q ∈ e.about l, q.moot) (hu : l ∉ e.undecided) :
    e.drain.valve l = e.valve l ∧ e.drain.lane l = e.lane l := by
  have hband {y : Ev} (hy : y.calm g) : y.supply.band = e.supply.band :=
    congrArg (fun g : Ground => g.supply.2.2.2) (hy.1.trans hc.1.symm)
  -- a line asked for something else leaves the valve, its line, its reports and its close alone
  have other {y y' : Ev} {m : LineId} (hy : y.calm g) (hm : l ≠ m)
      (hP : y.valve l = e.valve l ∧ y.lane l = e.lane l ∧ (∀ q ∈ y.about l, q.moot) ∧ l ∉ y.undecided)
      (hasks : y.Asks m y') (haside : y.Aside y' l) :
      y'.valve l = e.valve l ∧ y'.lane l = e.lane l ∧ (∀ q ∈ y'.about l, q.moot) ∧ l ∉ y'.undecided := by
    obtain ⟨hv, hlane, hr, hn⟩ := hP
    have hv' := hasks.barred hm (State.barred_of hv (hband hy) h)
    refine ⟨hv'.trans hv, haside.lane.trans hlane, ?_, fun hmem => hn (haside.undecided.mp hmem)⟩
    cases haside.grant with
    | same _ hr' => rw [hr']; exact hr
    | atOnce r hp _ hv2 _ =>
      rw [← hv', hv2] at hp; cases hp
    | started r b hp _ hv2 _ =>
      rw [← hv', hv2] at hp; cases hp
  have hend := (Ev.drain_induction (P := fun y => y.calm g ∧ y.valve l = e.valve l ∧ y.lane l = e.lane l ∧
      (∀ q ∈ y.about l, q.moot) ∧ l ∉ y.undecided)
    (fun y r rs hy hrs => ?_) (fun y m ms hy hr hms => ?_) e ⟨hc, rfl, rfl, ha, hu⟩).2
  · exact ⟨hend.1, hend.2.1⟩
  · obtain ⟨hcy, hv, hlane, hr, hn⟩ := hy
    have hcr : r.calm g := hcy.2 r (by rw [hrs]; exact List.mem_cons_self)
    have hcy1 := Ev.setReports_calm hcy hrs
    refine ⟨Ev.handleReport_calm r hcr hcy1, ?_⟩
    by_cases hm : r.line = l
    · have habout : y.about l = r :: Ev.about { y with reports := rs } l := by
        rw [Ev.about, hrs, List.filter_cons_of_pos (by simpa using hm)]; rfl
      rw [habout] at hr
      rw [Ev.handleReport_moot _ (hr r List.mem_cons_self)]
      exact ⟨hv, hlane, fun q hq => hr q (List.mem_cons_of_mem _ hq), hn⟩
    · have hr1 : Ev.about { y with reports := rs } l = y.about l := by
        rw [Ev.about, Ev.about, hrs, List.filter_cons_of_neg (by simpa using hm)]
      exact other hcy1 (Ne.symm hm) ⟨hv, hlane, by rw [hr1]; exact hr, hn⟩ (Ev.handleReport_asks r hcr _)
        (Ev.handleReport_aside r hcr (Ne.symm hm))
  · obtain ⟨hcy, hv, hlane, hr', hn⟩ := hy
    have hcy1 := Ev.setUndecided_calm ms hcy
    have hm : l ≠ m := fun hm => hn (by rw [hms, hm]; exact List.mem_cons_self)
    exact ⟨Ev.decideClose_calm m hcy1, other hcy1 hm
      ⟨hv, hlane, hr', fun hmem => hn (by rw [hms]; exact List.mem_cons_of_mem _ hmem)⟩ (Ev.decideClose_asks _ m)
      (Ev.decideClose_aside _ hm)⟩

/-! ### A request that cannot arrive at once -/

/-- A waiting request away from its target, to the end of its event: it waits still, or a channel has been given to it. -/
theorem Ev.drain_serves (hc : e.calm g) (hnow : e.now = z.now) (hprof : (e.line l).profile = (z.line l).profile)
    (hat : ∀ r, (z.valve l).pending = some r → z.atTarget l r = false) (hu : l ∉ e.undecided) (h : z.Serves e l) :
    z.Serves e.drain l := by
  have silent {y : Ev} (hy : z.Serves y l) : y.about l = [] := by
    cases hy with
    | waiting _ hr => exact hr
    | atOnce r hp hat' => rw [hat r hp] at hat'; cases hat'
    | started _ _ _ _ _ hr => exact hr
  refine (Ev.drain_line_induction (P := fun y => l ∉ y.undecided ∧ z.Serves y l) l (fun x y hx hxy hP => ?_)
    (fun y q _ _ hq hP => ?_) (fun y _ _ hP => absurd List.mem_cons_self hP.1) hc ⟨hu, h⟩).2
  · have hg := hx.1.trans hc.1.symm
    exact ⟨fun hm => hP.1 (hxy.undecided.mp hm),
      hP.2.grant hxy.grant ((congrArg (fun g : Ground => g.port.now) hg).trans hnow)
        ((profile_of_ground (z := x.toState) (y := e.toState) hg l).trans hprof)⟩
  · have hnil := silent hP.2
    rw [Ev.about_cons hq] at hnil
    cases hnil

end Sys2Proof.Machine
end

section
/-! The ends of turnaround and setup: TRAVEL begun, or the stroke back in the queue (R119 to R122). -/

namespace Sys2Proof.Machine
variable {e e' x y z : Ev} {l m : LineId} {g : Ground} {s u v : State} {c : Instr} {k : Stroke} {t : Time} {r : StrokeReq}

theorem State.strokeIn_eq {p : StrokePhase} (hk : (s.valve l).stroke = some k) (hp : k.phase = p) : s.strokeIn l p = some k := by
  rw [State.strokeIn, hk]; exact if_pos hp

theorem State.arbitrate_solenoid (s : State) (l : LineId) : s.arbitrate.solenoid l = s.solenoid l := by
  rw [State.solenoid, State.solenoid, State.valve, State.arbitrate_valves, State.arbitrate_supply]; rfl

theorem StrokeClass.dir_eq (c : StrokeClass) : c.dir = if c = .opening then .openward else .closeward := by cases c <;> rfl

/-! ### TURNAROUND_END -/

theorem turnaroundEnd_operation (hk : (s.valve l).stroke = some k) (hp : k.phase = .turnaround)
    (hdue : s.supply.profile.turnaroundMs ≤ elapsed t k.since) : (begin t s).turnaroundEnd l =
      { begin t s with valves := s.valves.set l { s.valve l with stroke := some { k with phase := .setup, since := t } } } := by
  rw [Ev.turnaroundEnd, State.strokeIn_eq (s := (begin t s).toState) hk hp]
  exact if_pos hdue

/-! ### SETUP_END -/

theorem setupEnd_operation (hk : (s.valve l).stroke = some k) (hp : k.phase = .setup)
    (hdue : s.supply.profile.setupMs ≤ elapsed t k.since) : (begin t s).setupEnd l =
      if s.withdrawn k then (begin t s).withdraw l k else (begin t s).beginTravel l k := by
  rw [Ev.setupEnd, State.strokeIn_eq (s := (begin t s).toState) hk hp]
  exact if_pos hdue

theorem State.closePending_iff : s.closePending = true ↔ ∃ m r, (s.valve m).pending = some r ∧ r.cls = .close := by
  rw [State.closePending, List.any_eq_true]
  constructor
  · rintro ⟨m, -, h⟩
    split at h
    · next r hr => exact ⟨m, r, hr, by simpa using h⟩
    · cases h
  · rintro ⟨m, r, hr, hcls⟩
    refine ⟨m, mem_allLines m, ?_⟩
    rw [hr]; simp [hcls]

theorem State.withdrawn_iff : s.withdrawn k = true ↔ admitted s.supply.band k.req.cls = false ∨
    k.req.cls ≠ .close ∧ s.someFree = false ∧ ∃ m r, (s.valve m).pending = some r ∧ r.cls = .close := by
  rw [State.withdrawn, ← State.closePending_iff]
  simp only [Bool.or_eq_true, Bool.and_eq_true, Bool.not_eq_true', bne_iff_ne]
  tauto

/-- The stroke goes back to the queue, its valve and channel free (R120). -/
def Ev.returned (e : Ev) (l : LineId) (k : Stroke) : Ev :=
  ((e.modValve l (fun v => { v with stroke := none, followOn := none })).freeChannel l).asked l k.req

theorem Ev.withdraw_eq (hf : (e.valve l).followOn = none) : e.withdraw l k = (e.returned l k).considerGrants := by
  rw [Ev.withdraw, hf]; rfl

theorem Ev.returned_valve (e : Ev) (l : LineId) (k : Stroke) :
    (e.returned l k).valve l = { e.valve l with stroke := none, followOn := none, pending := some k.req } := by
  rw [Ev.returned, Ev.asked_valve, Ev.freeChannel_valve]
  exact congrArg (fun q : Valve => { q with pending := some k.req }) (Quad.get_set_same _ _ _)

theorem Ev.asked_strokesOnly (e : Ev) (l : LineId) (r : StrokeReq) : e.StrokesOnly (e.asked l r) := Ev.modValve_strokesOnly e l _

theorem Ev.returned_strokesOnly (e : Ev) (l : LineId) (k : Stroke) : e.StrokesOnly (e.returned l k) :=
  ((Ev.modValve_strokesOnly e l _).trans (Ev.freeChannel_strokesOnly _ l)).trans (Ev.asked_strokesOnly _ l k.req)

theorem Ev.returned_reports (e : Ev) (l : LineId) (k : Stroke) : (e.returned l k).reports = e.reports := by
  simp [Ev.returned, Ev.asked, Ev.freeChannel, Ev.updatePump]

theorem Ev.returned_calm (l : LineId) (k : Stroke) (hc : e.calm g) : (e.returned l k).calm g :=
  Ev.modValve_calm l _ (fun _ => rfl) (Ev.freeChannel_calm l (Ev.modValve_calm l _ (fun _ => rfl) hc))

/-- A withdrawn stroke, whatever the band: its event ends with what its ground and its valve say. -/
theorem withdrawn_completes (hk : (s.valve l).stroke = some k) (hp : k.phase = .setup)
    (hdue : s.supply.profile.setupMs ≤ elapsed t k.since) (hw : s.withdrawn k = true) (hf : (s.valve l).followOn = none)
    {P : Valve → Prop} (hP : P (((begin t s).returned l k).considerGrants.drain.valve l)) :
    Completes s (.setupEnd t l) t (fun v => P (v.valve l) ∧ (v.valve l).position = (s.valve l).position ∧
      v.supply.band = s.supply.band ∧ v.shut.causes = s.shut.causes ∧ v.link = s.link) := by
  have he : (begin t s).setupEnd l = ((begin t s).returned l k).considerGrants := by
    rw [setupEnd_operation hk hp hdue, if_pos hw]
    exact Ev.withdraw_eq (e := begin t s) hf
  have hcalm := Ev.considerGrants_calm (Ev.returned_calm l k (begin_calm t s))
  have hground := (Ev.drain_ground _).trans hcalm.1
  have hstrokes := (Ev.returned_strokesOnly (begin t s) l k).trans (Ev.considerGrants_strokesOnly _)
  refine completes_of_drain (op := fun e => e.setupEnd l) _ rfl he (pending_of_ground (y := (begin t s).toState) hcalm.1)
    (now_of_ground (y := (begin t s).toState) hcalm.1) fun v hv _ => ?_
  rw [hv.valve]
  refine ⟨hP, ?_, ?_, ?_, hv.linkGrades.1.trans (link_of_ground (y := (begin t s).toState) hground)⟩
  · have hfix : (((begin t s).returned l k).considerGrants.drain).fixture l = (begin t s).fixture l := by
      rw [Ev.drain_fixture]
      exact Ev.considerGrants_fixture (Ev.modValve_fixture l _ (fun _ => ⟨rfl, rfl⟩)
        (Ev.freeChannel_fixture l (Ev.modValve_fixture l _ (fun _ => ⟨rfl, rfl⟩) rfl)))
    exact congrArg (fun q : LineFixture => q.2.2.1) hfix
  · rw [hv.supply]; exact (supply_of_ground (y := (begin t s).toState) hground).2.2.2
  · rw [hv.shut, Ev.drain_causes hcalm]; exact congrArg Shutdown.causes hstrokes.shut

/-- A stroke withdrawn for a waiting CLOSE is in the queue again, or has been given a channel anew (R120). -/
theorem Ev.returned_serves (hc : e.calm g) (hat : e.atTarget l k.req = false) (ha : e.reports = []) (hu : l ∉ e.undecided) :
    ((e.returned l k).considerGrants.drain.valve l).stroke = none ∧
        ((e.returned l k).considerGrants.drain.valve l).pending = some k.req ∨
      ∃ x, ((e.returned l k).considerGrants.drain.valve l).stroke = some x ∧ x.req = k.req ∧ x.phase ≠ .travel := by
  have hval := Ev.returned_valve e l k
  have hstrokes := Ev.returned_strokesOnly e l k
  have hnil : (e.returned l k).about l = [] := by rw [Ev.about, Ev.returned_reports, ha]; rfl
  have hcalm := Ev.returned_calm l k hc
  have hat' : (e.returned l k).atTarget l k.req = false := by
    rw [← hat]; unfold State.atTarget; rw [hval, hstrokes.profile]
  have hgrants := Ev.considerGrants_strokesOnly (e.returned l k)
  generalize e.returned l k = z at *
  have hserves := Ev.drain_serves (z := z) (Ev.considerGrants_calm hcalm) hgrants.now (by rw [hgrants.line])
    (fun r hr => by rw [hval] at hr; cases hr; exact hat') (by rw [hgrants.undecided, hstrokes.undecided]; exact hu)
    ((Ev.Serves.waiting (e := z) rfl hnil).grant (Ev.considerGrants_valveGrant z l) rfl rfl)
  cases hserves with
  | waiting hv _ => rw [hv, hval]; exact .inl ⟨rfl, rfl⟩
  | atOnce r hp hat2 _ _ => rw [hval] at hp; cases hp; rw [hat'] at hat2; cases hat2
  | started r b hp _ hv _ =>
    rw [hval] at hp
    cases hp
    rw [hv]
    exact .inr ⟨_, rfl, rfl, by cases b <;> nofun⟩

/-- A stroke whose class the band shuts out waits in the queue (R120, R129). -/
theorem Ev.returned_barred (hc : e.calm g) (hadm : admitted e.supply.band k.req.cls = false) (ha : e.reports = [])
    (hu : l ∉ e.undecided) : ((e.returned l k).considerGrants.drain.valve l).stroke = none ∧
      ((e.returned l k).considerGrants.drain.valve l).pending = some k.req := by
  have hval := Ev.returned_valve e l k
  have hstrokes := Ev.returned_strokesOnly e l k
  have hnil : (e.returned l k).about l = [] := by rw [Ev.about, Ev.returned_reports, ha]; rfl
  have hcalm := Ev.returned_calm l k hc
  generalize e.returned l k = z at *
  have hbar : z.barred l := fun r hr => by
    rw [hval] at hr; cases hr
    rw [hstrokes.band]; exact hadm
  have hgrants := Ev.considerGrants_strokesOnly z
  have hsame := Ev.considerGrants_barred hbar
  have habout : z.considerGrants.about l = [] := by
    cases Ev.considerGrants_valveGrant z l with
    | same _ hr => exact hr.trans hnil
    | atOnce r hp _ hv _ => rw [← hsame, hv] at hp; cases hp
    | started r b hp _ hv _ => rw [← hsame, hv] at hp; cases hp
  rw [(Ev.drain_barred (Ev.considerGrants_calm hcalm) (State.barred_of hsame hgrants.band hbar) (by rw [habout]; nofun)
    (by rw [hgrants.undecided, hstrokes.undecided]; exact hu)).1, hsame, hval]
  exact ⟨rfl, rfl⟩

/-! ### TRAVEL -/

/-- The stroke as it begins TRAVEL (R121). -/
def Stroke.moving (k : Stroke) (v : Valve) (band : Band) (t : Time) : Stroke :=
  { k with
    phase := .travel, since := t, travelStart := t, startPos := v.position,
    expected := ceilDiv (Machine.dist k.req.target v.position * 1000) (v.learnedRate.getD 0), used := 0, pauseUsed := 0,
    paused := band == .must, mark := t, blanking := true }

/-- A channel takes the direction of the stroke that holds it (R121). -/
def Channel.turned (ch : Channel) (l : LineId) (d : Direction) : Channel :=
  if ch.holder = some l then { ch with lastDir := some d } else ch

theorem Channel.turned_holder (ch : Channel) (l : LineId) (d : Direction) : (ch.turned l d).holder = ch.holder := by
  unfold Channel.turned; split <;> rfl

theorem Channel.turned_lastDir {ch : Channel} (h : ch.holder = some l) (d : Direction) : (ch.turned l d).lastDir = some d := by
  rw [Channel.turned, if_pos h]

theorem Ev.beginTravel_eq (e : Ev) (l : LineId) (k : Stroke) : e.beginTravel l k =
    { e with
      valves := e.valves.set l { e.valve l with stroke := some (k.moving (e.valve l) e.supply.band e.now) },
      chan1 := e.chan1.turned l k.req.cls.dir, chan2 := e.chan2.turned l k.req.cls.dir } := rfl

/-- Settles O51: each timer's stroke moves on, or goes back to the queue and is followed through the grants that come after. -/
theorem turnaroundAndSetupEnd : Obligations.TurnaroundAndSetupEnd := by
  intro s t l k hk
  refine ⟨fun hp hdue => ?_, fun hp hdue => ⟨fun hadm hno => ?_, fun hadm hcls h1 h2 hex hf hat => ?_, fun hadm hf => ?_⟩⟩
  · have he := turnaroundEnd_operation (t := t) hk hp hdue
    refine ⟨?_, ?_, ?_⟩
    · rw [exec_idle (op := fun e => e.turnaroundEnd l) rfl (by rw [he]; rfl) (by rw [he]; rfl), he]
      rfl
    · rw [State.solenoid, hk]; dsimp only; rw [hp]
    · rw [State.arbitrate_solenoid, State.solenoid, State.valve, Quad.get_set_same, ← StrokeClass.dir_eq]
  · have hw : s.withdrawn k = false := by
      rw [← Bool.not_eq_true, State.withdrawn_iff]
      rintro (h | ⟨hcls, hfree, m, r, hr, hrc⟩)
      · rw [hadm] at h; cases h
      · simp only [State.someFree, Bool.or_eq_false_iff, Option.isNone_eq_false_iff] at hfree
        rcases hno with h | h | h | h
        · exact hcls h
        · rw [h] at hfree; cases hfree.1
        · rw [h] at hfree; cases hfree.2
        · exact h m r hr hrc
    have he : (begin t s).setupEnd l = (begin t s).beginTravel l k := by
      rw [setupEnd_operation hk hp hdue, hw]; rfl
    rw [Ev.beginTravel_eq] at he
    refine completes_of_drain (op := fun e => e.setupEnd l) _ rfl he rfl rfl fun v hv _ => ?_
    rw [Ev.drain_idle _ rfl rfl] at hv
    have hown : v.valve l = { s.valve l with stroke := some (k.moving (s.valve l) s.supply.band t) } :=
      (hv.valve l).trans (Quad.get_set_same _ _ _)
    refine ⟨hown, ?_, fun m hm => (hv.valve m).trans (Quad.get_set_ne _ _ hm), ?_, ?_, fun h => ?_, fun h => ?_, hv.1,
      hv.2.2.1, hv.supply, hv.linkGrades.1, hv.shut⟩
    · rw [State.solenoid, hown, ← StrokeClass.dir_eq]
      simp [Stroke.moving]
    · rw [hv.chans.1]; exact Channel.turned_holder _ _ _
    · rw [hv.chans.2]; exact Channel.turned_holder _ _ _
    · rw [hv.chans.1]; exact Channel.turned_lastDir h _
    · rw [hv.chans.2]; exact Channel.turned_lastDir h _
  · have hfree : s.someFree = false := by
      simp [State.someFree, h1, h2]
    obtain ⟨v, hv, hnow, hpend, hval, hpos, -, hrest⟩ := withdrawn_completes hk hp hdue
      (State.withdrawn_iff.mpr (.inr ⟨hcls, hfree, hex⟩)) hf
      (P := fun v => v.stroke = none ∧ v.pending = some k.req ∨ ∃ x, v.stroke = some x ∧ x.req = k.req ∧ x.phase ≠ .travel)
      (Ev.returned_serves (begin_calm t s) hat rfl List.not_mem_nil)
    exact ⟨v, hv, hnow, hpend, hval, hpos, hrest⟩
  · obtain ⟨v, hv, hnow, hpend, ⟨h1, h2⟩, hrest⟩ := withdrawn_completes hk hp hdue (State.withdrawn_iff.mpr (.inl hadm)) hf
      (P := fun v => v.stroke = none ∧ v.pending = some k.req)
      (Ev.returned_barred (begin_calm t s) hadm rfl List.not_mem_nil)
    exact ⟨v, hv, hnow, hpend, h1, h2, hrest⟩

end Sys2Proof.Machine
end

section
/-! The failure of a stroke: it is handed on before the reports of the grants that follow it (R116, R126). -/

namespace Sys2Proof.Machine
variable {e e' x y z : Ev} {l m : LineId} {g : Ground} {s u v : State} {c : Instr} {k : Stroke} {t : Time} {r : StrokeReq}
  {o : StrokeOutcome}

/-! ### Reports that stand before -/

/-- The event with reports that stand before its own. -/
def Ev.behind (e : Ev) (q : List Report) : Ev := { e with reports := q ++ e.reports }

theorem Ev.grant_behind (e : Ev) (q : List Report) (l : LineId) (r : StrokeReq) (ch : ChanId) :
    (e.behind q).grant l r ch = (e.grant l r ch).behind q := by
  have hat : (e.behind q).atTarget l r = e.atTarget l r := rfl
  unfold Ev.grant
  rw [hat]
  dsimp only
  split
  · simp [Ev.behind, Ev.report, Ev.updatePump, Ev.modSupply, Ev.modValve, State.bothFree]
  · cases ch <;> rfl

theorem Ev.grantUpTo_behind (n : Nat) (e : Ev) (q : List Report) : (e.behind q).grantUpTo n = (e.grantUpTo n).behind q := by
  induction n generalizing e with
  | zero => rfl
  | succ n ih =>
    rw [Ev.grantUpTo, Ev.grantUpTo, show (e.behind q).nextGrant = e.nextGrant from rfl]
    cases e.nextGrant with
    | none => rfl
    | some p =>
      obtain ⟨l, r⟩ := p
      dsimp only
      rw [show (e.behind q).pickChannel r.cls.dir = e.pickChannel r.cls.dir from rfl]
      cases e.pickChannel r.cls.dir with
      | none => rfl
      | some ch => dsimp only; rw [Ev.grant_behind, ih]

/-- A report already handed on, which stands for the turn it took. -/
def Ev.told (e : Ev) (m : LineId) : Ev := e.behind [.ended m .throttle]

theorem Ev.told_calm (m : LineId) (hc : e.calm g) : (e.told m).calm g := by
  refine ⟨hc.1, fun r hr => ?_⟩
  rcases List.mem_cons.mp hr with rfl | hr
  · trivial
  · exact hc.2 r hr

theorem Ev.told_about (hm : m ≠ l) : (e.told m).about l = e.about l := List.filter_cons_of_neg fun h => hm (of_decide_eq_true h)

/-- The first report handed on, the rest of the event's end is that of what it leaves. -/
theorem Ev.drain_first (q : Report) (m : LineId) : (e.behind [q]).drain = ((e.handleReport q).told m).drain := by
  rw [Ev.drain, Ev.drain, Ev.drainUpTo.eq_def]
  conv_rhs => rw [Ev.drainUpTo.eq_def]
  rfl

/-! ### A stroke that fails -/

/-- The event with the stroke ended and the grants made that its channel allows. -/
def Ev.strokeLost (e : Ev) (l : LineId) (o : StrokeOutcome) : Ev := (e.endStroke l o).considerGrants

theorem Ev.endStroke_reports (e : Ev) (l : LineId) (o : StrokeOutcome) : (e.endStroke l o).reports = e.reports := by
  simp [Ev.endStroke, Ev.freeChannel, Ev.updatePump]

theorem Ev.failStroke_drain (hk : (e.valve l).stroke = some k) (hr : e.reports = []) (m : LineId) :
    (e.failStroke l o).drain = (((e.strokeLost l o).handleReport (.failed l k.req.cls o)).told m).drain := by
  have hfail : e.failStroke l o = (e.strokeLost l o).behind [.failed l k.req.cls o] := by
    have hrep := (Ev.endStroke_reports e l o).trans hr
    rw [Ev.failStroke, hk]
    dsimp only
    rw [Ev.strokeLost, Ev.considerGrants, Ev.considerGrants, ← Ev.grantUpTo_behind]
    congr 1
    generalize e.endStroke l o = y at hrep
    simp [Ev.report, Ev.behind, hrep]
  rw [hfail, Ev.drain_first _ m]

theorem Ev.strokeLost_strokesOnly (e : Ev) (l : LineId) (o : StrokeOutcome) : e.StrokesOnly (e.strokeLost l o) :=
  (Ev.endStroke_strokesOnly e l o).trans (Ev.considerGrants_strokesOnly _)

theorem Ev.strokeLost_calm (l : LineId) (o : StrokeOutcome) (hc : e.calm g) : (e.strokeLost l o).calm g :=
  Ev.considerGrants_calm (Ev.endStroke_calm l o hc)

/-- With no request waiting on it the valve is left without stroke, and its line without report. -/
theorem Ev.strokeLost_valve (hp : (e.valve l).pending = none) (ha : e.reports = []) :
    (e.strokeLost l o).valve l = { e.valve l with stroke := none, followOn := none, lastOutcome := some (o, e.now) } ∧
      (e.strokeLost l o).about l = [] := by
  have hval := (Ev.endStroke_valve e l l o).trans (if_pos rfl)
  have hrep := (Ev.endStroke_reports e l o).trans ha
  rw [Ev.strokeLost]
  generalize e.endStroke l o = y at hval hrep
  have hbar : y.barred l := fun r hr => by rw [hval] at hr; rw [show _ = none from hp] at hr; cases hr
  have hsame := Ev.considerGrants_barred hbar
  refine ⟨hsame.trans hval, ?_⟩
  have hnil : y.about l = [] := by rw [Ev.about, hrep]; rfl
  cases Ev.considerGrants_valveGrant y l with
  | same _ hr => exact hr.trans hnil
  | atOnce r hq => rw [hval] at hq; rw [show _ = none from hp] at hq; cases hq
  | started r b hq => rw [hval] at hq; rw [show _ = none from hp] at hq; cases hq

end Sys2Proof.Machine
end

section
/-! The ends of travel: a simulated arrival, and a failure with what it does to its line (R90, R91, R116, R122, R123, R126). -/

namespace Sys2Proof.Machine
variable {e e' y z : Ev} {l m : LineId} {g : Ground} {s u v : State} {c : Instr} {k : Stroke} {t : Time} {r : StrokeReq}
  {o : StrokeOutcome} {x : CloseRec} {Q : State → Prop}

/-! ### The first failure of a close (R90) -/

/-- The target of a close's present stage; 0 for the seating stroke. -/
def CloseRec.stageTarget (x : CloseRec) : Nat := (x.plan.bind (fun p => x.stage.map p.target)).getD 0

/-- The record of a close whose failed stroke is asked for again. -/
def CloseRec.retried (x : CloseRec) : CloseRec :=
  { x with retryUsed := true, phase := if x.stage.isSome then .stage else .seating }

theorem Ev.retryStage_eq (hcl : e.close l = some x) : e.retryStage l =
    (e.modClose l (fun c => { c with phase := if x.stage.isSome then .stage else .seating })).requestStroke l .close
      x.stageTarget true := by
  have hplan : e.planOf l = x.plan := by rw [State.planOf, hcl]; rfl
  rw [Ev.retryStage, hcl, CloseRec.stageTarget]
  dsimp only
  cases hst : x.stage with
  | none =>
    have h0 : (x.plan.bind (fun p => (none : Option Nat).map p.target)).getD 0 = 0 := by cases x.plan <;> rfl
    rw [h0]; rfl
  | some n =>
    have hn : (x.plan.bind (fun p => (some n).map p.target)).getD 0 = (x.plan.map (fun p => p.target n)).getD 0 := by
      cases x.plan <;> rfl
    rw [hn, ← hplan]; rfl

theorem Ev.plannerFailed_first (hs : (e.line l).state = .closing) (hcl : e.close l = some x)
    (hph : x.phase = .stage ∨ x.phase = .seating) (hr : x.retryUsed = false) : e.plannerFailed l =
      if e.supply.band = .must then e.modClose l (fun c => { c with retryUsed := true, phase := .retryWait })
      else (e.modClose l (fun c => { c with retryUsed := true, phase := .retryWait })).retryStage l := by
  rw [Ev.plannerFailed, State.closePhase_of_close hs hcl, if_pos (hph.imp (congrArg some) (congrArg some)), hcl]
  exact if_neg (by simp [hr])

theorem Ev.plannerFailed_again (hs : (e.line l).state = .closing) (hcl : e.close l = some x)
    (hph : x.phase = .stage ∨ x.phase = .seating) (hr : x.retryUsed = true) : e.plannerFailed l = e.abandonClose l := by
  rw [Ev.plannerFailed, State.closePhase_of_close hs hcl, if_pos (hph.imp (congrArg some) (congrArg some)), hcl]
  exact if_pos (by simp [hr])

theorem Ev.Serves.congr (h : z.Serves e l) (hv : e'.valve l = e.valve l) (ha : e'.about l = e.about l) : z.Serves e' l := by
  cases h with
  | waiting hv' hr => exact .waiting (hv.trans hv') (ha.trans hr)
  | atOnce r hp hat hv' hr => exact .atOnce r hp hat (hv.trans hv') (by rw [ha]; exact hr)
  | started r b hp hat hv' hr => exact .started r b hp hat (hv.trans hv') (ha.trans hr)

/-- The retry waits for the band (R90): to the end of the event the close waits, its valve without stroke and request. -/
theorem Ev.retry_waits (hc : e.calm g) (hm : m ≠ l) (hs : (e.line l).state = .closing) (hcl : e.close l = some x)
    (hsw : (e.valve l).closedSwitch = false) (hp : (e.valve l).pending = none) (ha : e.about l = []) (hu : l ∉ e.undecided) :
    let y := ((e.modClose l (fun c => { c with retryUsed := true, phase := .retryWait })).told m).drain
    y.planned l (e.line l) { x with retryUsed := true, phase := .retryWait } ∧ y.valve l = e.valve l := by
  have hcalm := Ev.told_calm m (Ev.modClose_calm l (fun c => { c with retryUsed := true, phase := .retryWait }) hc)
  refine ⟨Ev.drain_follows hcalm hs hsw ⟨rfl, hu, _, ?_, .refl nofun⟩, (Ev.drain_barred hcalm ?_ ?_ hu).1⟩
  · exact (Ev.modClose_close e l _).trans (by rw [hcl]; rfl)
  · exact fun r hr => absurd (hp.symm.trans hr) nofun
  · rw [show Ev.about (Ev.told (Ev.modClose e l _) m) l = [] from (Ev.told_about hm).trans ha]; nofun

/-- The retry asked for at once (R90): to the end of the event the close goes on, and the request stands. -/
theorem Ev.retry_asks (hc : e.calm g) (hm : m ≠ l) (hs : (e.line l).state = .closing) (hcl : e.close l = some x)
    (hsw : (e.valve l).closedSwitch = false) (hn : (e.valve l).stroke = none) (ha : e.about l = []) (hu : l ∉ e.undecided) :
    let y := (((e.modClose l (fun c => { c with retryUsed := true, phase := .retryWait })).retryStage l).told m).drain
    y.planned l (e.line l) x.retried ∧
      e.strokeStands y.toState l (e.requestOf l .close x.stageTarget true) := by
  have hmid : (e.modClose l (fun c => { c with retryUsed := true, phase := .retryWait })).close l =
      some { x with retryUsed := true, phase := .retryWait } := by rw [Ev.modClose_close, hcl]; rfl
  rw [Ev.retryStage_eq hmid, show ({ x with retryUsed := true, phase := .retryWait } : CloseRec).stageTarget = x.stageTarget
    from rfl]
  generalize hw : (e.modClose l (fun c => { c with retryUsed := true, phase := .retryWait })).modClose l
    (fun c => { c with phase :=
      if ({ x with retryUsed := true, phase := .retryWait } : CloseRec).stage.isSome then .stage else .seating }) = w
  have hrec : e.RecordsOnly w := hw ▸ (Ev.modClose_recordsOnly e l _).trans (Ev.modClose_recordsOnly _ l _)
  have hcalm : w.calm g := hw ▸ Ev.modClose_calm l _ (Ev.modClose_calm l _ hc)
  have hline : w.line l = e.line l := by rw [← hw]; rfl
  have hclose : w.close l = some x.retried := by rw [← hw, Ev.modClose_close, hmid]; rfl
  have hreq : w.requestOf l .close x.stageTarget true = e.requestOf l .close x.stageTarget true := by
    rw [State.requestOf, State.requestOf, State.profile, State.profile, hline, hrec.now]
  have hstrokes := Ev.requestStroke_strokesOnly w l .close x.stageTarget true
  have hserve : (w.asked l (e.requestOf l .close x.stageTarget true)).Serves (w.requestStroke l .close x.stageTarget true) l := by
    rw [Ev.requestStroke_close (by rw [hrec.valve]; exact hn), hreq]
    exact Ev.enqueue_serves ((Ev.about_congr hrec.reports l).trans ha)
  have hcalm' := Ev.requestStroke_calm l .close x.stageTarget true hcalm
  have hplan : (w.requestStroke l .close x.stageTarget true).planned l (e.line l) x.retried :=
    ⟨(hstrokes.line l).trans hline, by rw [hstrokes.undecided, hrec.undecided]; exact hu, _, (hstrokes.close l).trans hclose,
      .refl fun h => by unfold CloseRec.retried at h; cases hst : x.stage <;> simp [hst] at h⟩
  generalize w.requestStroke l .close x.stageTarget true = q at hserve hcalm' hplan hstrokes
  obtain ⟨hend, hlast⟩ := Ev.drain_planned_serves (e := q.told m) (z := w.asked l (e.requestOf l .close x.stageTarget true))
    (Ev.told_calm m hcalm') hs ((hcalm'.closedSwitch l).symm.trans ((hc.closedSwitch l).trans hsw)) hstrokes.now
    (congrArg LineRec.profile hline).symm hplan (hserve.congr rfl (Ev.told_about hm))
  refine ⟨hend, hlast.strokeStands (by rw [Ev.asked_valve]) hrec.now.symm ?_⟩
  unfold State.atTarget
  rw [Ev.asked_valve, hrec.valve, show (w.asked l (e.requestOf l .close x.stageTarget true)).profile l = e.profile l from
    congrArg (fun q : LineRec => q.profile.getD noProfile) hline]

/-! ### The second failure of a close (R91) -/

/-- The state in which an abandoned close raises VALVE. -/
def Ev.abandoned (e : Ev) (l : LineId) : Ev :=
  ((e.retripClosing l .trip .closeFailed).dropClose l).setState l .tripped

theorem Ev.abandoned_line (e : Ev) (l : LineId) : ∃ r : TripRecord, r.cause = .closeFailed ∧
    (e.abandoned l).line l = { e.line l with trip := some r, closeReason := none, holdReason := none, state := .tripped } := by
  obtain ⟨r, hr, hlines⟩ := Ev.retripClosing_lines e l .trip .closeFailed
  refine ⟨r, hr, ?_⟩
  have hline : (e.retripClosing l .trip .closeFailed).line l =
      { e.line l with trip := some r, closeReason := some .trip, holdReason := none } := by
    rw [State.line, hlines, Quad.get_set_same]
  rw [Ev.abandoned, Ev.setState_line, Ev.dropClose_line, hline]

theorem Ev.abandoned_close (e : Ev) (l : LineId) : (e.abandoned l).close l = none := by
  rw [Ev.abandoned, State.close, Ev.setState_closes]
  exact Quad.get_set_same _ _ _

theorem Ev.abandoned_causes (e : Ev) (l : LineId) : (e.abandoned l).alarms = e.alarms :=
  Ev.setState_alarms l .tripped (Ev.dropClose_alarms l (Ev.retripClosing_alarms l .trip .closeFailed rfl))

/-- The valve list with the line in it. -/
def Ev.listed (e : Ev) (l : LineId) : Ev :=
  if e.shut.valveList.contains l then e else (e.modShut (fun x => { x with valveList := x.valveList ++ [l] })).mark .esd

theorem Ev.listed_mem (e : Ev) (l : LineId) : l ∈ (e.listed l).shut.valveList := by
  unfold Ev.listed
  split
  · next h => simpa using h
  · simp

theorem Ev.listed_causes (e : Ev) (l : LineId) : (e.listed l).shut.causes = e.shut.causes := by
  unfold Ev.listed
  split
  · rfl
  · simp

theorem Ev.listed_lane (e : Ev) (l m : LineId) : (e.listed l).lane m = e.lane m := by
  unfold Ev.listed
  split
  · rfl
  · exact Ev.mark_lane _ _ _

/-- VALVE raised anew or in the set already: the cause stands, and a line that neither flows nor closes keeps its records. -/
theorem Ev.raiseCause_stands (e : Ev) (w : EsdCause) : ((e.raiseCause w).shut.causes.get w).isSome = true := by
  cases hx : e.shut.causes.get w with
  | some t => rw [Ev.raiseCause_old e w (by rw [hx]; rfl), hx]; rfl
  | none => rw [Ev.raiseCause_causes e hx, CauseSet.get_add, if_pos rfl]; rfl

theorem Ev.raiseCause_lane (w : EsdCause) (hf : e.flowing l = false) (hc : e.closing l = false) :
    (e.raiseCause w).lane l = e.lane l := by
  cases hx : e.shut.causes.get w with
  | some t => rw [Ev.raiseCause_old e w (by rw [hx]; rfl)]
  | none => exact Ev.raiseCause_still hx hf hc

end Sys2Proof.Machine
end

section
/-! TRAVEL_TIMEOUT, EXTENSION_EXHAUSTED and SIMULATED_ARRIVAL. -/

namespace Sys2Proof.Machine
variable {e e' y z : Ev} {l m : LineId} {g : Ground} {s u v : State} {c : Instr} {k : Stroke} {t : Time} {r : StrokeReq}
  {o : StrokeOutcome} {x : CloseRec} {Q : State → Prop}

/-! ### An abandoned close, to the end of its event -/

theorem Ev.raiseCause_listed (w : EsdCause) (h : l ∈ e.shut.valveList) : l ∈ (e.raiseCause w).shut.valveList :=
  (Ev.raiseCause_works (c := .esdLoopOpen 0) (s := e.toState) (whole := false) w (Works.refl e)).keeps
    (P := fun y => l ∈ y.shut.valveList) (fun a b ha hab => by
      rcases hab.shut_cases.1 with ⟨t, tag, hc⟩ | ⟨-, hc⟩
      · cases hc
      · exact hc l ha) h

/-- What an abandoned close leaves (R91, R171). -/
theorem Ev.abandonClose_drain (hc : e.calm g) (m : LineId) : let y := ((e.abandonClose l).told m).drain
    (y.line l).state = .tripped ∧ (y.line l).closeReason = none ∧ y.close l = none ∧
      (y.line l).trip.map (fun r => r.cause) = some .closeFailed ∧ y.latch = true ∧
      (y.shut.causes.valve).isSome = true ∧ l ∈ y.shut.valveList ∧
      (e.shut.causes.valve = none → (∀ n, y.flowing n = false) ∧ ∀ p, y.shut.permit p = false) := by
  obtain ⟨r, hr, hline⟩ := Ev.abandoned_line e l
  have hclose := Ev.abandoned_close e l
  have halarms := Ev.abandoned_causes e l
  have hcalm := Ev.abandonClose_calm l hc
  have hraise : e.abandonClose l = ((e.abandoned l).listed l).raiseCause .valve := rfl
  rw [hraise] at hcalm ⊢
  have hlane := Ev.listed_lane (e.abandoned l) l l
  have hmem := Ev.listed_mem (e.abandoned l) l
  have hcauses : ((e.abandoned l).listed l).shut.causes = e.shut.causes :=
    (Ev.listed_causes _ l).trans (congrArg Prod.fst halarms)
  generalize (e.abandoned l).listed l = y at *
  have hst : (y.line l).state = .tripped := 
    (congrArg (fun q : Lane => q.1.state) hlane).trans (congrArg LineRec.state hline)
  have hlane' : (y.raiseCause .valve).lane l = (e.abandoned l).lane l :=
    (Ev.raiseCause_lane .valve (by rw [State.flowing, hst]; rfl) (by rw [State.closing, hst]; rfl)).trans hlane
  have hvalve := Ev.raiseCause_stands y .valve
  have hin := Ev.raiseCause_listed .valve hmem
  have hshut (h0 : e.shut.causes.valve = none) : ((y.raiseCause .valve).told m).isShut :=
    Ev.raiseCause_isShut y (by rw [hcauses]; exact h0)
  generalize y.raiseCause .valve = q at *
  have hlineq : q.line l = { e.line l with trip := some r, closeReason := none, holdReason := none, state := .tripped } :=
    (congrArg Prod.fst hlane').trans hline
  have hcalm' := Ev.told_calm m hcalm
  obtain ⟨hl, -, -, hcl, -⟩ := Ev.drain_still (l := l) hcalm' (by rw [show (q.told m).line l = _ from hlineq]; nofun)
    (by rw [show (q.told m).line l = _ from hlineq]; nofun)
  have hend : (q.told m).drain.alarms = q.alarms := Ev.drain_alarms (q.told m) hcalm'
  have hset : ((q.told m).drain.shut.causes.get .valve).isSome = true := by
    rw [show (q.told m).drain.shut.causes = q.shut.causes from congrArg Prod.fst hend]; exact hvalve
  dsimp only
  rw [hl, show (q.told m).line l = _ from hlineq]
  refine ⟨rfl, rfl, hcl.trans ?_, congrArg some hr, CauseSet.latch_of_get hset, hset, ?_, fun h0 => ?_⟩
  · exact (congrArg (fun p : Lane => p.2.2.2.1) hlane').trans hclose
  · rw [show (q.told m).drain.shut.valveList = q.shut.valveList from congrArg Prod.snd hend]; exact hin
  · have hd := Ev.drain_isShut (hshut h0)
    exact ⟨fun n => (hd.2.2 n).1, hd.permit⟩

/-! ### The two commands of a failure -/

theorem LineId.exists_ne (l : LineId) : ∃ m, m ≠ l := by
  by_cases h : l = .a
  · exact ⟨.b, by rw [h]; nofun⟩
  · exact ⟨.a, Ne.symm h⟩


/-- Either command, when due, makes the stroke fail (R122). -/
theorem failure_operation (hk : (s.valve l).stroke = some k) (hp : k.phase = .travel)
    (hc : c = .travelTimeout t l ∧ 2 * k.expected + 2000 ≤ k.usedAt t ∨
      c = .extensionExhausted t l ∧ k.paused = true ∧ s.supply.profile.extensionMaxMs ≤ k.pauseAt t) :
    ∃ op o, exec c s = event t s op ∧ op (begin t s) = (begin t s).failStroke l o := by
  rcases hc with ⟨rfl, hdue⟩ | ⟨rfl, hpause, hdue⟩
  · refine ⟨fun e => e.travelTimeout l, .failedTimeout, rfl, ?_⟩
    dsimp only
    rw [Ev.travelTimeout, State.strokeIn_eq (s := (begin t s).toState) hk hp]
    exact if_pos hdue
  · refine ⟨fun e => e.extensionExhausted l, .failedExtension, rfl, ?_⟩
    dsimp only
    rw [Ev.extensionExhausted, State.strokeIn_eq (s := (begin t s).toState) hk hp]
    exact if_pos ⟨hpause, hdue⟩

/-- The command completes with what the drain leaves of the failure handed on. -/
theorem completes_failure (hk : (s.valve l).stroke = some k) (hp : k.phase = .travel)
    (hc : c = .travelTimeout t l ∧ 2 * k.expected + 2000 ≤ k.usedAt t ∨
      c = .extensionExhausted t l ∧ k.paused = true ∧ s.supply.profile.extensionMaxMs ≤ k.pauseAt t)
    (hQ : ∀ o m v, m ≠ l → ((((begin t s).strokeLost l o).handleReport (.failed l k.req.cls o)).told m).drain.toState.sameBlocks v →
      v.link = s.link → v.grades = s.grades → Q v) : Completes s c t Q := by
  obtain ⟨op, o, hop, he⟩ := failure_operation hk hp hc
  have hground := Ev.failStroke_ground (begin t s) l o
  have hdrain := Ev.failStroke_drain (e := begin t s) (l := l) (o := o) hk rfl
  refine completes_of_drain _ hop he (pending_of_ground (y := (begin t s).toState) hground)
    (now_of_ground (y := (begin t s).toState) hground) fun v hv _ => ?_
  have hend := (Ev.drain_ground _).trans hground
  have hlink := hv.linkGrades.1.trans (link_of_ground (y := (begin t s).toState) hend)
  have hgrades := hv.linkGrades.2.trans (grades_of_ground (y := (begin t s).toState) hend)
  obtain ⟨m, hm⟩ := LineId.exists_ne l
  rw [hdrain m] at hv
  exact hQ o m v hm hv hlink hgrades

/-- A flowing line whose stroke fails closes with STROKE_FAILED (R116). -/
theorem strokeFailed_closes (hcls : k.req.cls ≠ .close) (hf : s.flowing l = true) (hsw : (s.valve l).closedSwitch = false)
    (o : StrokeOutcome) (m : LineId) :
    let y := ((((begin t s).strokeLost l o).handleReport (.failed l k.req.cls o)).told m).drain
    y.toState.closesWith l .trip none (some .strokeFailed) ∧ y.shut.causes = s.shut.causes := by
  have hcalm := Ev.strokeLost_calm l o (begin_calm t s)
  have hstrokes := Ev.strokeLost_strokesOnly (begin t s) l o
  have hflow : ((begin t s).strokeLost l o).flowing l = true := (hstrokes.flowing l).trans hf
  have htrip : ((begin t s).strokeLost l o).handleReport (.failed l k.req.cls o) =
      ((begin t s).strokeLost l o).closeEntry l .trip none (some .strokeFailed) := by
    rw [← Ev.trip_of_flowing hflow]
    cases hk : k.req.cls with
    | close => exact absurd hk hcls
    | throttle => exact if_pos hflow
    | opening => exact if_pos hflow
  rw [htrip]
  dsimp only
  have hcauses : ((begin t s).strokeLost l o).shut.causes = s.shut.causes := congrArg Shutdown.causes hstrokes.shut
  generalize (begin t s).strokeLost l o = y at *
  have hcalm' := Ev.told_calm m (Ev.closeEntry_calm l .trip none (some .strokeFailed) hcalm)
  have hoff := (hcalm'.closedSwitch l).symm.trans hsw
  have hcl := Ev.closeEntry_closesWith y l .trip none (some .strokeFailed)
  have hend := (Ev.closeEntry_causes y l .trip none (some .strokeFailed)).trans hcauses
  generalize y.closeEntry l .trip none (some .strokeFailed) = w at *
  exact ⟨Ev.drain_closesWith hcalm' hoff hcl, (Ev.drain_causes hcalm').trans hend⟩

theorem State.strokeStands.base {y v : State} (h : y.strokeStands v l r) (hat : y.atTarget l r = s.atTarget l r) :
    s.strokeStands v l r := h.imp_right (Or.imp_right fun h => ⟨hat.symm.trans h.1, h.2⟩)

/-- The first failure of a close: its stroke is asked for again, at once or when the band leaves MUST (R90). -/
theorem closeFailed_retries (hcls : k.req.cls = .close) (hs : (s.line l).state = .closing) (hcl : s.close l = some x)
    (hph : x.phase = .stage ∨ x.phase = .seating) (hr : x.retryUsed = false) (hsw : (s.valve l).closedSwitch = false)
    (hp : (s.valve l).pending = none) (hm : m ≠ l) (o : StrokeOutcome) :
    let y := ((((begin t s).strokeLost l o).handleReport (.failed l k.req.cls o)).told m).drain
    y.line l = s.line l ∧ y.shut.causes = s.shut.causes ∧
      (∃ z, y.close l = some z ∧ z.retryUsed = true ∧ z.stage = x.stage ∧ z.plan = x.plan ∧
        (s.supply.band = .must → z.phase = .retryWait) ∧
        (s.supply.band ≠ .must → z.phase = (if x.stage.isSome then .stage else .seating) ∨ z.phase = .dwell)) ∧
      (s.supply.band = .must → (y.valve l).stroke = none ∧ (y.valve l).pending = none) ∧
      (s.supply.band ≠ .must → s.strokeStands y.toState l
        { cls := .close, target := min x.stageTarget (s.profile l).bulkPos, time := t, retry := true }) := by
  have hcalm := Ev.strokeLost_calm l o (begin_calm t s)
  have hstrokes := Ev.strokeLost_strokesOnly (begin t s) l o
  obtain ⟨hval, habout⟩ := Ev.strokeLost_valve (e := begin t s) (l := l) (o := o) hp rfl
  have hreport : ((begin t s).strokeLost l o).handleReport (.failed l k.req.cls o) =
      ((begin t s).strokeLost l o).plannerFailed l := by rw [hcls]; rfl
  rw [hreport]
  dsimp only
  have hband : ((begin t s).strokeLost l o).supply.band = s.supply.band := hstrokes.band
  have hline : ((begin t s).strokeLost l o).line l = s.line l := hstrokes.line l
  have hclose : ((begin t s).strokeLost l o).close l = some x := (hstrokes.close l).trans hcl
  have hnow : ((begin t s).strokeLost l o).now = t := hstrokes.now
  have hund : l ∉ ((begin t s).strokeLost l o).undecided := by rw [hstrokes.undecided]; exact List.not_mem_nil
  have hcauses : ((begin t s).strokeLost l o).shut.causes = s.shut.causes := congrArg Shutdown.causes hstrokes.shut
  generalize (begin t s).strokeLost l o = y at *
  have hval : y.valve l = { s.valve l with stroke := none, followOn := none, lastOutcome := some (o, t) } := hval
  have hst : (y.line l).state = .closing := by rw [hline]; exact hs
  have hoff : (y.valve l).closedSwitch = false := by rw [hval]; exact hsw
  have hcalm' := Ev.told_calm m (Ev.plannerFailed_calm l hcalm)
  have hdrained := (Ev.drain_causes hcalm')
  by_cases hb : s.supply.band = .must
  · have hstep := Ev.plannerFailed_first hst hclose hph hr
    rw [hband, if_pos hb] at hstep
    rw [hstep] at hdrained ⊢
    obtain ⟨⟨hl, -, z, hz, hf⟩, hv⟩ := Ev.retry_waits hcalm hm hst hclose hoff (by rw [hval]; exact hp) habout hund
    refine ⟨hl.trans hline, hdrained.trans hcauses, ⟨z, hz, hf.retry, hf.stage, hf.plan, fun _ => ?_, fun h => absurd hb h⟩,
      fun _ => ?_, fun h => absurd hb h⟩
    · exact hf.phase.elim id fun h => h.2.elim nofun nofun
    · rw [hv, hval]; exact ⟨rfl, hp⟩
  · have hstep := Ev.plannerFailed_first hst hclose hph hr
    rw [hband, if_neg hb] at hstep
    rw [hstep] at hdrained ⊢
    obtain ⟨⟨hl, -, z, hz, hf⟩, hstands⟩ := Ev.retry_asks hcalm hm hst hclose hoff (by rw [hval]) habout hund
    have hmid := congrArg Prod.fst (Ev.retryStage_alarms l
      (e := y.modClose l (fun c => { c with retryUsed := true, phase := .retryWait })) rfl)
    refine ⟨hl.trans hline, hdrained.trans (hmid.trans hcauses), ⟨z, hz, hf.retry, hf.stage, hf.plan, fun h => absurd h hb,
      fun _ => hf.phase.imp id And.left⟩, fun h => absurd h hb, fun _ => ?_⟩
    have hprof : y.profile l = s.profile l := congrArg (fun q : LineRec => q.profile.getD noProfile) hline
    rw [State.requestOf, hprof, hnow] at hstands
    refine hstands.base ?_
    unfold State.atTarget
    rw [hval, hprof]

/-! ### SIMULATED_ARRIVAL (R123) -/

/-- The valve as a simulated arrival leaves it. -/
def Valve.arrivedAt (v : Valve) (k : Stroke) (t : Time) : Valve :=
  { v with
    position := k.req.target, source := .simulated,
    stroke := some { k with
      phase := .hold, since := t, used := k.usedAt t, pauseUsed := k.pauseAt t, mark := t, paused := false },
    lastOutcome := some (.arrived, t) }

/-- An arrival asks for no stroke. -/
theorem Ev.handleReport_arrived_booksOnly (e : Ev) (l : LineId) (cls : StrokeClass) (target : Nat) :
    e.BooksOnly (e.handleReport (.arrived l cls target)) := by
  cases cls with
  | close => exact Ev.plannerArrived_booksOnly e l target
  | throttle => exact Ev.settleArrival_booksOnly e l target
  | opening =>
    simp only [Ev.handleReport]
    split
    · exact Ev.enterProving_booksOnly e l
    · exact Ev.settleArrival_booksOnly e l target

/-- An event with one report, an arrival, ends with it handed on. -/
theorem Ev.drain_arrived {cls : StrokeClass} {target : Nat} (hr : e.reports = [.arrived l cls target])
    (hu : e.undecided = []) : e.drain = Ev.handleReport { e with reports := [] } (.arrived l cls target) := by
  have hb := Ev.handleReport_arrived_booksOnly { e with reports := [] } l cls target
  have step : e.drain = Ev.drainUpTo 63 (Ev.handleReport { e with reports := [] } (.arrived l cls target)) := by
    rw [Ev.drain, Ev.drainUpTo, hr]
  have hr' := hb.reports
  have hu' := hb.undecided.trans hu
  rw [step]
  generalize Ev.handleReport { e with reports := [] } (.arrived l cls target) = y at *
  rw [Ev.drainUpTo, hr', hu']

theorem simulatedArrival_completes (hk : (s.valve l).stroke = some k) (hp : k.phase = .travel) (h0 : 0 < k.req.target)
    (h1 : k.req.target < 1000) (hsim : (s.profile l).simulatedArrival = 1) (hdue : k.expected ≤ k.usedAt t) :
    Completes s (.simulatedArrival t l) t (fun v => v.valve l = (s.valve l).arrivedAt k t ∧
      v.shut.causes = s.shut.causes ∧ v.link = s.link) := by
  have he : (begin t s).simulatedArrival l = { begin t s with
      valves := s.valves.set l ((s.valve l).arrivedAt k t), reports := [.arrived l k.req.cls k.req.target] } := by
    rw [Ev.simulatedArrival, State.strokeIn_eq (s := (begin t s).toState) hk hp]
    refine (if_pos ?_).trans ?_
    · simp only [intermediate, Bool.and_eq_true, bne_iff_ne, beq_iff_eq, decide_eq_true_eq]
      exact ⟨⟨⟨by omega, by omega⟩, hsim⟩, hdue⟩
    · simp only [Ev.arrive, Ev.report, Ev.modValve, Quad.set_set, Quad.get_set_same]
      rfl
  generalize hy : ({ begin t s with
      valves := s.valves.set l ((s.valve l).arrivedAt k t), reports := [.arrived l k.req.cls k.req.target] } : Ev) = y at he
  have hval : y.valve l = (s.valve l).arrivedAt k t := by rw [← hy]; exact Quad.get_set_same _ _ _
  have hcauses : y.shut.causes = s.shut.causes := by rw [← hy]; rfl
  have hlink : y.link = s.link := by rw [← hy]; rfl
  have hcalm : y.calm y.ground := by
    refine ⟨rfl, fun r hr => ?_⟩
    rw [← hy] at hr
    cases List.mem_singleton.mp hr
    exact fun h => absurd h (by omega)
  have hdrain := Ev.drain_arrived (e := y) (by rw [← hy]) (by rw [← hy]; rfl)
  have hbooks := Ev.handleReport_arrived_booksOnly { y with reports := [] } l k.req.cls k.req.target
  rw [← hdrain] at hbooks
  refine completes_of_drain (op := fun e => e.simulatedArrival l) y rfl he (by rw [← hy]; rfl) (by rw [← hy]; rfl)
    fun v hv _ => ⟨?_, ?_, ?_⟩
  · rw [hv.valve, hbooks.valve]; exact hval
  · rw [hv.shut, Ev.drain_causes hcalm]; exact hcauses
  · rw [hv.linkGrades.1, link_of_ground (Ev.drain_ground y)]; exact hlink

/-- Settles O54: the arrival is handed on alone; a failure is handed on first, and trips its line, asks for the stroke again, or
abandons the close. -/
theorem travelEndsInArrivalOrFailure : Obligations.TravelEndsInArrivalOrFailure := by
  intro s t l k hk hp
  refine ⟨fun h0 h1 hsim hdue => ?_, fun c hc => ⟨fun hcls hf hsw => ?_, fun x hcls hs hcl hph hr hsw hpend => ?_,
    fun x hcls hs hcl hph hr => ?_⟩⟩
  · obtain ⟨v, hv, hnow, hpend, hval, hrest⟩ := simulatedArrival_completes hk hp h0 h1 hsim hdue
    refine ⟨v, hv, hnow, hpend, ?_, ?_, ?_, ?_, ?_, hrest⟩ <;> rw [hval]
    · rfl
    · rfl
    · rfl
    · exact ⟨_, rfl, rfl, rfl, rfl⟩
    · rfl
  · refine completes_failure hk hp hc fun o m v hm hv hlink hgrades => ?_
    obtain ⟨hclose, hcauses⟩ := strokeFailed_closes (t := t) (k := k) hcls hf hsw o m
    exact ⟨hv.closesWith hclose, by rw [hv.shut]; exact hcauses, hlink, hgrades⟩
  · refine completes_failure hk hp hc fun o m v hm hv hlink hgrades => ?_
    obtain ⟨hline, hcauses, hclose, hmust, hstands⟩ := closeFailed_retries (t := t) (k := k) hcls hs hcl hph hr hsw hpend hm o
    have hcl' : v.close l = _ := congrArg (fun q => Quad.get q l) hv.2.2.2.2.1
    refine ⟨?_, ?_, ?_, ?_, ?_, ?_, hlink, hgrades⟩
    · rw [hv.line, hline]; exact hs
    · rw [hv.line, hline]
    · rw [hcl']; exact hclose
    · rw [hv.valve]; exact hmust
    · intro hb
      have h := hstands hb
      unfold State.strokeStands at h ⊢
      rw [hv.valve]
      exact h
    · rw [hv.shut]; exact hcauses
  · refine completes_failure hk hp hc fun o m v hm hv hlink hgrades => ?_
    have hcalm := Ev.strokeLost_calm l o (begin_calm t s)
    have hstrokes := Ev.strokeLost_strokesOnly (begin t s) l o
    have hreport : ((begin t s).strokeLost l o).handleReport (.failed l k.req.cls o) =
        ((begin t s).strokeLost l o).abandonClose l := by
      rw [hcls]
      exact Ev.plannerFailed_again ((congrArg LineRec.state (hstrokes.line l)).trans hs) ((hstrokes.close l).trans hcl) hph hr
    have hshut : ((begin t s).strokeLost l o).shut.causes = s.shut.causes := congrArg Shutdown.causes hstrokes.shut
    rw [hreport] at hv
    have hend := Ev.abandonClose_drain (l := l) hcalm m
    rw [hshut] at hend
    dsimp only at hend
    generalize (((begin t s).strokeLost l o).abandonClose l).told m = w at *
    have hcl' : v.close l = w.drain.close l := congrArg (fun q => Quad.get q l) hv.2.2.2.2.1
    obtain ⟨h1, h2, h3, h4, h5, h6, h7, h8⟩ := hend
    rw [hv.line, hcl', hv.shut]
    refine ⟨h1, h2, h3, h4, (State.latch_of_causes (by rw [hv.shut])).trans h5, h6, h7, fun h0 => ?_, hlink, hgrades⟩
    exact ⟨fun n => (State.flowing_of_line (hv.line n)).trans ((h8 h0).1 n), (h8 h0).2⟩

end Sys2Proof.Machine
end

section
/-! The order of an event's reports: one that waits behind others is reached; reports that nothing follows from. -/

namespace Sys2Proof.Machine
variable {e e' y z : Ev} {l m : LineId} {g : Ground} {s u v : State} {c : Instr} {k : Stroke} {t : Time} {r : StrokeReq}
  {q : Report} {pre post : List Report}

/-! ### Reports only come behind -/

theorem Ev.StrokesOnly.reports_append (h : e.StrokesOnly e') : ∃ new, e'.reports = e.reports ++ new := by
  obtain ⟨_, _, _, _, new, rfl⟩ := h; exact ⟨new, rfl⟩

theorem Ev.Asks.reports_append (h : e.Asks m e') : ∃ new, e'.reports = e.reports ++ new := by
  cases h with
  | none hb => exact ⟨[], by rw [hb.reports, List.append_nil]⟩
  | stroke hb cls target retry =>
    obtain ⟨new, hnew⟩ := (Ev.requestStroke_strokesOnly _ m cls target retry).reports_append
    exact ⟨new, hnew.trans (by rw [hb.reports])⟩

theorem Ev.grant_reports_length (e : Ev) (l : LineId) (r : StrokeReq) (ch : ChanId) :
    (e.grant l r ch).reports.length ≤ e.reports.length + 2 := by
  unfold Ev.grant
  dsimp only
  split <;> simp [Ev.report, Ev.updatePump]

theorem Ev.grantUpTo_reports_length (n : Nat) (e : Ev) : (e.grantUpTo n).reports.length ≤ e.reports.length + 2 * n := by
  induction n generalizing e with
  | zero => exact Nat.le_refl _
  | succ n ih =>
    unfold Ev.grantUpTo
    split
    · omega
    · next l r _ =>
      split
      · omega
      · next ch _ =>
        have h1 := Ev.grant_reports_length e l r ch
        have h2 := ih (e.grant l r ch)
        omega

/-! ### A report that waits behind others is handed on -/

theorem Ev.drainUpTo_cons {rs : List Report} (n : Nat) (h : e.reports = q :: rs) :
    e.drainUpTo (n + 1) = Ev.drainUpTo n (Ev.handleReport { e with reports := rs } q) := by rw [Ev.drainUpTo, h]

theorem Ev.drainUpTo_moots (j n : Nat) (e : Ev) (m : LineId) :
    (e.behind (List.replicate j (.ended m .throttle))).drainUpTo (j + n) = e.drainUpTo n := by
  induction j with
  | zero => rw [Nat.zero_add]; rfl
  | succ j ih => rw [Nat.add_right_comm, Ev.drainUpTo_cons _ rfl]; exact ih

theorem Ev.behind_moots_calm (j : Nat) (m : LineId) (hc : e.calm g) :
    (e.behind (List.replicate j (.ended m .throttle))).calm g := by
  refine ⟨hc.1, fun r hr => ?_⟩
  rcases List.mem_append.mp hr with hr | hr
  · rw [List.eq_of_mem_replicate hr]; trivial
  · exact hc.2 r hr

theorem Ev.behind_moots_about (j : Nat) (hm : m ≠ l) :
    (e.behind (List.replicate j (.ended m .throttle))).about l = e.about l := by
  rw [Ev.about, Ev.about, Ev.behind, List.filter_append, List.filter_eq_nil_iff.mpr, List.nil_append]
  intro r hr
  rw [List.eq_of_mem_replicate hr]
  exact fun h => hm (of_decide_eq_true h)

/-- A report that waits behind others is handed on, once they have been; `P` is what they keep. -/
theorem Ev.drainUpTo_reaches {P : Ev → Prop} (n : Nat) (hc : e.calm g) (hr : e.reports = pre ++ q :: post) (hP : P e)
    (hstep : ∀ (y : Ev) (r : Report), y.calm g → r.calm g → r ∈ pre → P { y with reports := r :: y.reports } →
      P (y.handleReport r)) :
    ∃ y : Ev, y.calm g ∧ P { y with reports := q :: y.reports } ∧
      e.drainUpTo (pre.length + (n + 1)) = Ev.drainUpTo n (y.handleReport q) := by
  induction pre generalizing e post with
  | nil =>
    have hr : e.reports = q :: post := hr
    refine ⟨{ e with reports := post }, Ev.setReports_calm hc hr, ?_, ?_⟩
    · rw [show ({ ({ e with reports := post } : Ev) with reports := q :: post } : Ev) = e by rw [← hr]]
      exact hP
    · rw [List.length_nil, Nat.zero_add, Ev.drainUpTo_cons n hr]
  | cons r rs ih =>
    have hr : e.reports = r :: (rs ++ q :: post) := hr
    have hcr : r.calm g := hc.2 r (by rw [hr]; exact List.mem_cons_self)
    have hc1 := Ev.setReports_calm hc hr
    obtain ⟨new, hnew⟩ := (Ev.handleReport_asks r hcr { e with reports := rs ++ q :: post }).reports_append
    have hP1 : P (Ev.handleReport { e with reports := rs ++ q :: post } r) := by
      refine hstep _ r hc1 hcr List.mem_cons_self ?_
      rw [show ({ ({ e with reports := rs ++ q :: post } : Ev) with reports := r :: (rs ++ q :: post) } : Ev) = e by rw [← hr]]
      exact hP
    obtain ⟨y, hcy, hPy, hend⟩ := ih (e := Ev.handleReport { e with reports := rs ++ q :: post } r) (post := post ++ new)
      (Ev.handleReport_calm r hcr hc1) (by rw [hnew]; simp) hP1
      fun y r' hy hr' hmem h => hstep y r' hy hr' (List.mem_cons_of_mem _ hmem) h
    refine ⟨y, hcy, hPy, ?_⟩
    rw [List.length_cons, Nat.add_right_comm, Ev.drainUpTo_cons _ hr]
    exact hend

theorem Ev.drain_reaches {P : Ev → Prop} (m : LineId) (hc : e.calm g) (hr : e.reports = pre ++ q :: post)
    (hlen : pre.length ≤ 63) (hP : P e)
    (hstep : ∀ (y : Ev) (r : Report), y.calm g → r.calm g → r ∈ pre → P { y with reports := r :: y.reports } →
      P (y.handleReport r)) :
    ∃ (y : Ev) (j : Nat), y.calm g ∧ P { y with reports := q :: y.reports } ∧
      e.drain = ((y.handleReport q).behind (List.replicate j (.ended m .throttle))).drain := by
  obtain ⟨y, hcy, hPy, hend⟩ := Ev.drainUpTo_reaches (63 - pre.length) hc hr hP hstep
  refine ⟨y, pre.length + 1, hcy, hPy, ?_⟩
  have h1 : pre.length + (63 - pre.length + 1) = 64 := by omega
  have h2 : (pre.length + 1) + (63 - pre.length) = 64 := by omega
  have hmoot := Ev.drainUpTo_moots (pre.length + 1) (63 - pre.length) (y.handleReport q) m
  rw [h1] at hend
  rw [h2] at hmoot
  exact hend.trans hmoot.symm

/-! ### A request away from its target, behind reports that nothing follows from -/

/-- The valve waits as in `z`, or its request has been given a channel. -/
def Ev.waitsOrMoves (z e : Ev) (l : LineId) : Prop :=
  e.valve l = z.valve l ∨ ∃ r, ∃ b : Bool, (z.valve l).pending = some r ∧ e.valve l = { z.valve l with
    pending := none, commanded := r.target,
    stroke := some (newStroke r (if b then .setup else .turnaround) z.now) }

theorem Ev.waitsOrMoves.grant (h : z.waitsOrMoves e l) (hat : ∀ r, (z.valve l).pending = some r → z.atTarget l r = false)
    (hg : e.ValveGrant e' l) (hnow : e.now = z.now) (hprof : (e.line l).profile = (z.line l).profile) :
    z.waitsOrMoves e' l ∧ e'.about l = e.about l := by
  rcases h with hv | ⟨r, b, hp, hv⟩
  · cases hg with
    | same hv' hr => exact ⟨.inl (hv'.trans hv), hr⟩
    | atOnce r hp hat' =>
      rw [State.atTarget_congr hv hprof r, hat r (hv ▸ hp)] at hat'
      cases hat'
    | started r b hp _ hv' hr => exact ⟨.inr ⟨r, b, hv ▸ hp, by rw [hv', hv, hnow]⟩, hr⟩
  · cases hg with
    | same hv' hr => exact ⟨.inr ⟨r, b, hp, hv'.trans hv⟩, hr⟩
    | atOnce r' hp' => rw [hv] at hp'; cases hp'
    | started r' b' hp' => rw [hv] at hp'; cases hp'

theorem Ev.drain_waitsOrMoves (hc : e.calm g) (hnow : e.now = z.now) (hprof : (e.line l).profile = (z.line l).profile)
    (hat : ∀ r, (z.valve l).pending = some r → z.atTarget l r = false) (ha : ∀ q ∈ e.about l, q.moot) (hu : l ∉ e.undecided)
    (h : z.waitsOrMoves e l) : z.waitsOrMoves e.drain l := by
  refine (Ev.drain_line_induction (P := fun y => l ∉ y.undecided ∧ (∀ q ∈ y.about l, q.moot) ∧ z.waitsOrMoves y l) l
    (fun x y hx hxy hP => ?_) (fun y q _ _ hq hP => ?_) (fun y _ _ hP => absurd List.mem_cons_self hP.1) hc ⟨hu, ha, h⟩).2.2
  · obtain ⟨hund, hmoot, hw⟩ := hP
    have hg := hx.1.trans hc.1.symm
    obtain ⟨hw', hr⟩ := hw.grant hat hxy.grant ((congrArg (fun g : Ground => g.port.now) hg).trans hnow)
      ((profile_of_ground (z := x.toState) (y := e.toState) hg l).trans hprof)
    exact ⟨fun hm => hund (hxy.undecided.mp hm), by rw [hr]; exact hmoot, hw'⟩
  · obtain ⟨hund, hmoot, hw⟩ := hP
    rw [Ev.about_cons hq] at hmoot
    rw [Ev.handleReport_moot y (hmoot q List.mem_cons_self)]
    exact ⟨hund, fun q' hq' => hmoot q' (List.mem_cons_of_mem _ hq'), hw⟩

end Sys2Proof.Machine
end

section
/-! Channels that stay held and a charge pump that stays stopped: a channel is freed only at its own holder's turn. -/

namespace Sys2Proof.Machine
variable {e e' x y z : Ev} {l m n : LineId} {g : Ground} {s u v : State} {k : Stroke} {t : Time} {r : StrokeReq}
  {q : Report} {ch : ChanId}

/-! ### The end of an event, with what other lines ask for -/

/-- The end of an event seen from line `m`: what the reports and the close of another line ask for, and its own. -/
theorem Ev.drain_asks_induction {P : Ev → Prop} (m : LineId)
    (hpop : ∀ (y : Ev) (r : Report), r.line ≠ m → P { y with reports := r :: y.reports } → P y)
    (hdecide : ∀ (y : Ev) (n : LineId), n ≠ m → P { y with undecided := n :: y.undecided } → P y)
    (hasks : ∀ (x y : Ev) (n : LineId), n ≠ m → x.calm g → x.Asks n y → x.Aside y m → P x → P y)
    (hreport : ∀ (y : Ev) (r : Report), y.calm g → r.calm g → r.line = m → P { y with reports := r :: y.reports } →
      P (y.handleReport r))
    (hclose : ∀ y : Ev, y.calm g → y.reports = [] → P { y with undecided := m :: y.undecided } → P (y.decideClose m))
    (hc : e.calm g) (h : P e) : P e.drain := by
  refine (Ev.drain_induction (P := fun y => y.calm g ∧ P y) (fun y r rs hy hrs => ?_) (fun y l ls hy hr hls => ?_) e ⟨hc, h⟩).2
  · obtain ⟨hcy, hP⟩ := hy
    have hr : r.calm g := hcy.2 r (by rw [hrs]; exact List.mem_cons_self)
    have hcy1 := Ev.setReports_calm hcy hrs
    have hsame : ({ ({ y with reports := rs } : Ev) with reports := r :: rs } : Ev) = y := by rw [← hrs]
    refine ⟨Ev.handleReport_calm r hr hcy1, ?_⟩
    by_cases hm : r.line = m
    · exact hreport _ r hcy1 hr hm (by rw [hsame]; exact hP)
    · exact hasks _ _ r.line hm hcy1 (Ev.handleReport_asks r hr _) (Ev.handleReport_aside r hr (Ne.symm hm))
        (hpop _ r hm (by rw [hsame]; exact hP))
  · obtain ⟨hcy, hP⟩ := hy
    have hcy1 := Ev.setUndecided_calm ls hcy
    have hsame : ({ ({ y with undecided := ls } : Ev) with undecided := l :: ls } : Ev) = y := by rw [← hls]
    refine ⟨Ev.decideClose_calm l hcy1, ?_⟩
    by_cases hm : l = m
    · subst hm
      exact hclose _ hcy1 hr (by rw [hsame]; exact hP)
    · exact hasks _ _ l hm hcy1 (Ev.decideClose_asks _ l) (Ev.decideClose_aside _ (Ne.symm hm))
        (hdecide _ l hm (by rw [hsame]; exact hP))

/-! ### What grants keep, and the freeing of some lines' channels -/

/-- `I` speaks of channels and supply, and is kept by every grant to a free channel and by the freeing of the channel of a line that
`ok` admits. -/
structure Ev.Kept (I : Ev → Prop) (ok : LineId → Prop) : Prop where
  books : ∀ x y : Ev, y.chan1 = x.chan1 → y.chan2 = x.chan2 → y.supply = x.supply → I x → I y
  grant : ∀ (y : Ev) (l : LineId) (r : StrokeReq) (d : ChanId), (y.chan d).holder = none → I y → I (y.grant l r d)
  free : ∀ (y : Ev) (n : LineId), ok n → I y → I (y.freeChannel n)

namespace Ev.Kept
variable {I : Ev → Prop} {ok : LineId → Prop} (K : Ev.Kept I ok)
include K

theorem grantUpTo (k : Nat) (e : Ev) (h : I e) : I (e.grantUpTo k) := by
  induction k generalizing e with
  | zero => exact h
  | succ k ih =>
    unfold Ev.grantUpTo
    split
    · exact h
    · split
      · exact h
      · next d hd => exact ih _ (K.grant _ _ _ d (State.pickChannel_free hd) h)

theorem considerGrants (h : I e) : I e.considerGrants := K.grantUpTo 4 e h

theorem enqueue (h : I e) : I (e.enqueue n r) := K.considerGrants (K.books e _ rfl rfl rfl h)

theorem requestStroke (hn : ok n) (cls : StrokeClass) (target : Nat) (retry : Bool) (h : I e) :
    I (e.requestStroke n cls target retry) := by
  unfold Ev.requestStroke
  dsimp only
  split
  · split
    · exact h
    · split
      · exact K.enqueue (K.free _ n hn (K.books e _ rfl rfl rfl h))
      · exact K.books e _ rfl rfl rfl h
  · split
    · exact h
    · exact K.enqueue h
  · exact K.enqueue h

theorem asks (ha : e.Asks n e') (hn : ok n) (h : I e) : I e' := by
  cases ha with
  | none hb => exact K.books e _ hb.chan1 hb.chan2 hb.supply h
  | stroke hb cls target retry => exact K.requestStroke hn cls target retry (K.books e _ hb.chan1 hb.chan2 hb.supply h)

end Ev.Kept

/-! ### A channel stays with its holder -/

/-- Channel `ch` is held for line `m`. -/
def State.holds (s : State) (ch : ChanId) (m : LineId) : Prop := (s.chan ch).holder = some m

theorem State.holds_of_chans {y z : State} (h1 : z.chan1 = y.chan1) (h2 : z.chan2 = y.chan2) (h : y.holds ch m) : z.holds ch m := by
  cases ch
  · exact (congrArg Channel.holder h1).trans h
  · exact (congrArg Channel.holder h2).trans h

theorem Ev.holds_kept (ch : ChanId) (m : LineId) : Ev.Kept (fun y => y.holds ch m) (· ≠ m) where
  books _ _ h1 h2 _ h := State.holds_of_chans h1 h2 h
  grant y l r d hfree h := by
    unfold Ev.grant
    dsimp only
    split
    · exact State.holds_of_chans (by simp [Ev.updatePump]) (by simp [Ev.updatePump]) h
    · cases ch <;> cases d
      · rw [show (y.chan .c1).holder = some m from h] at hfree; cases hfree
      · exact h
      · exact h
      · rw [show (y.chan .c2).holder = some m from h] at hfree; cases hfree
  free y n hn h := by
    have kept (d : Channel) (hd : d.holder = some m) :
        (if d.holder = some n then { d with holder := none } else d).holder = some m := by
      rw [if_neg (by rw [hd]; exact fun h => hn (Option.some.inj h).symm)]; exact hd
    cases ch
    · exact kept y.chan1 h
    · exact kept y.chan2 h

/-- A barred valve keeps its channel to the end of the event. -/
theorem Ev.drain_holds (hc : e.calm g) (hm : ∀ q ∈ e.about m, q.moot) (hu : m ∉ e.undecided) (hbar : e.barred m)
    (h : e.holds ch m) : e.drain.holds ch m := by
  have hband {y : Ev} (hy : y.calm g) : y.supply.band = e.supply.band :=
    congrArg (fun g : Ground => g.supply.2.2.2) (hy.1.trans hc.1.symm)
  refine (Ev.drain_asks_induction (P := fun y => (y.valve m = e.valve m ∧ (∀ q ∈ y.about m, q.moot) ∧ m ∉ y.undecided) ∧
    y.holds ch m) m (fun y r hr hP => ?_) (fun y n hn hP => ?_) (fun x y n hn hx hxy hside hP => ?_) (fun y r hy _ hr hP => ?_)
    (fun y _ _ hP => absurd List.mem_cons_self hP.1.2.2) hc ⟨⟨rfl, hm, hu⟩, h⟩).2
  · obtain ⟨⟨hv, hq, hn⟩, hh⟩ := hP
    rw [Ev.about_cons_ne hr] at hq
    exact ⟨⟨hv, hq, hn⟩, hh⟩
  · obtain ⟨⟨hv, hq, hu⟩, hh⟩ := hP
    exact ⟨⟨hv, hq, fun h => hu (List.mem_cons_of_mem _ h)⟩, hh⟩
  · obtain ⟨⟨hv, hq, hu⟩, hh⟩ := hP
    have hv' := hxy.barred (Ne.symm hn) (State.barred_of hv (hband hx) hbar)
    refine ⟨⟨hv'.trans hv, ?_, fun h => hu (hside.undecided.mp h)⟩, (Ev.holds_kept ch m).asks hxy hn hh⟩
    cases hside.grant with
    | same _ hr => rw [hr]; exact hq
    | atOnce r hp _ hv2 _ => rw [← hv', hv2] at hp; cases hp
    | started r b hp _ hv2 _ => rw [← hv', hv2] at hp; cases hp
  · obtain ⟨⟨hv, hq, hu⟩, hh⟩ := hP
    rw [Ev.about_cons hr] at hq
    rw [Ev.handleReport_moot y (hq r List.mem_cons_self)]
    exact ⟨⟨hv, fun q' h => hq q' (List.mem_cons_of_mem _ h), hu⟩, hh⟩

/-! ### The charge pump (R128) -/

/-- The pump as R128 drives it in the present band: stopped in RELEASE, running in NEED and MUST, in MAY running. -/
def State.pumpSettled (s : State) : Prop := s.supply.pump = (s.supply.band != .release)

theorem Ev.updatePump_supply (e : Ev) : e.updatePump.supply = { e.supply with pump :=
    match e.supply.band with
    | .release => false
    | .may => e.supply.pump || e.bothFree
    | .need => true
    | .must => true } := rfl

theorem Ev.updatePump_pumpSettled (h : e.pumpSettled) : e.updatePump.pumpSettled := by
  rw [State.pumpSettled] at h ⊢
  rw [Ev.updatePump_supply]
  cases hb : e.supply.band <;> rw [hb] at h <;> simp [h]

theorem Ev.pumpSettled_kept : Ev.Kept (fun y => y.pumpSettled) (fun _ => True) where
  books x y _ _ hs h := by rw [State.pumpSettled, hs]; exact h
  grant y l r d _ h := by
    unfold Ev.grant
    dsimp only
    split
    · exact Ev.updatePump_pumpSettled h
    · cases d <;> exact h
  free y n _ h := Ev.updatePump_pumpSettled h

/-- In MAY the pump is stopped, and a channel is held for line `m`. -/
def State.pumpStopped (s : State) (ch : ChanId) (m : LineId) : Prop :=
  s.supply.pump = false ∧ s.supply.band = .may ∧ s.holds ch m

theorem State.not_bothFree_of_holds (h : s.holds ch m) : s.bothFree = false := by
  cases ch
  · simp [State.bothFree, show s.chan1.holder = some m from h]
  · simp [State.bothFree, show s.chan2.holder = some m from h]

theorem Ev.updatePump_stopped (h : e.pumpStopped ch m) : e.updatePump.pumpStopped ch m := by
  obtain ⟨hp, hb, hh⟩ := h
  refine ⟨?_, hb, State.holds_of_chans rfl rfl hh⟩
  rw [Ev.updatePump_supply, hb, hp, State.not_bothFree_of_holds hh]; rfl

theorem Ev.pumpStopped_kept (ch : ChanId) (m : LineId) : Ev.Kept (fun y => y.pumpStopped ch m) (· ≠ m) where
  books x y h1 h2 hs h := by
    rw [State.pumpStopped, hs]; exact ⟨h.1, h.2.1, State.holds_of_chans h1 h2 h.2.2⟩
  grant y l r d hfree h := by
    have hh := (Ev.holds_kept ch m).grant y l r d hfree h.2.2
    unfold Ev.grant at hh ⊢
    dsimp only at hh ⊢
    split
    · exact Ev.updatePump_stopped ⟨h.1, h.2.1, State.holds_of_chans rfl rfl h.2.2⟩
    · next hat => rw [if_neg hat] at hh; cases d <;> exact ⟨h.1, h.2.1, hh⟩
  free y n hn h := by
    have hh := (Ev.holds_kept ch m).free y n hn h.2.2
    refine ⟨?_, h.2.1, hh⟩
    have hb : State.bothFree { y with
        chan1 := if y.chan1.holder = some n then { y.chan1 with holder := none } else y.chan1,
        chan2 := if y.chan2.holder = some n then { y.chan2 with holder := none } else y.chan2 } = false :=
      State.not_bothFree_of_holds (ch := ch) (m := m) (State.holds_of_chans rfl rfl hh)
    rw [Ev.freeChannel, Ev.updatePump_supply]
    dsimp only
    rw [h.2.1, h.1]
    exact hb

/-- The end of an event keeps the pump as the band drives it. -/
theorem Ev.drain_pumpSettled (hc : e.calm g) (h : e.pumpSettled) : e.drain.pumpSettled :=
  Ev.drain_calm_induction (P := fun y => y.pumpSettled)
    (fun y r _ hr h => Ev.pumpSettled_kept.asks (Ev.handleReport_asks r hr y) trivial h)
    (fun y m _ h => Ev.pumpSettled_kept.asks (Ev.decideClose_asks y m) trivial h) (fun _ _ h => h) (fun _ _ h => h) e hc h

/-! ### A stopped pump stays stopped -/

/-- The end of a CLOSE stroke's hold. -/
def Report.closeEnd : Report → Bool
  | .ended _ cls => cls == .close
  | .arrived _ _ _ => false
  | .failed _ _ _ => false
  | .seated _ => false

/-- The line asks for a CLOSE only of an idle valve: while the end of a CLOSE stroke's hold comes up, its valve has neither stroke
nor request. -/
def Ev.restful (e : Ev) (m : LineId) : Prop :=
  m ∉ e.undecided ∧ ((e.valve m).stroke.isSome = true → (e.valve m).pending = none) ∧
    ((e.about m).countP Report.closeEnd = 0 ∨
      (e.about m).countP Report.closeEnd = 1 ∧ (e.valve m).stroke = none ∧ (e.valve m).pending = none)

theorem Ev.restful.grant (h : e.restful m) (hg : e.ValveGrant e' m) (hu : m ∈ e'.undecided ↔ m ∈ e.undecided) : e'.restful m := by
  obtain ⟨hund, hone, hcount⟩ := h
  have waiting {r : StrokeReq} (hp : (e.valve m).pending = some r) :
      (e.valve m).stroke = none ∧ (e.about m).countP Report.closeEnd = 0 := by
    refine ⟨?_, hcount.resolve_right fun h => ?_⟩
    · cases hs : (e.valve m).stroke with
      | none => rfl
      | some k => have := hone (by rw [hs]; rfl); rw [hp] at this; cases this
    · rw [hp] at h; cases h.2.2
  refine ⟨fun h => hund (hu.mp h), ?_⟩
  cases hg with
  | same hv hr => rw [hv, hr]; exact ⟨hone, hcount⟩
  | atOnce r hp _ hv hr =>
    obtain ⟨hs, hc⟩ := waiting hp
    rw [hv, hr, List.countP_append, hc]
    refine ⟨fun _ => rfl, ?_⟩
    cases hcls : r.cls with
    | close => exact .inr ⟨rfl, hs, rfl⟩
    | throttle => exact .inl rfl
    | opening => exact .inl rfl
  | started r b hp _ hv hr =>
    rw [hv, hr]
    exact ⟨fun _ => rfl, .inl (waiting hp).2⟩

theorem Ev.restful.books (h : e.restful m) (hb : e.BooksOnly e') : e'.restful m := by
  rw [Ev.restful, hb.undecided, hb.valve, Ev.about_congr hb.reports]; exact h

/-- An idle valve asked for a stroke: put into the queue. -/
theorem Ev.requestStroke_idle (hs : (e.valve l).stroke = none) (hp : (e.valve l).pending = none) (cls : StrokeClass)
    (target : Nat) (retry : Bool) :
    e.requestStroke l cls target retry = e.enqueue l (e.requestOf l cls target retry) := by
  unfold Ev.requestStroke
  dsimp only
  rw [hs, hp]
  rfl

theorem Ev.restful.enqueue (hu : m ∉ e.undecided) (hs : (e.valve m).stroke = none)
    (hc : (e.about m).countP Report.closeEnd = 0) : (e.enqueue m r).restful m := by
  have h : (e.asked m r).restful m := by
    refine ⟨hu, fun h => ?_, .inl hc⟩
    rw [Ev.asked_valve, show ({ e.valve m with pending := some r } : Valve).stroke = none from hs] at h
    cases h
  exact h.grant (Ev.considerGrants_valveGrant _ m) 
    (iff_of_eq (congrArg (m ∈ ·) (Ev.considerGrants_strokesOnly (e.asked m r)).undecided))

/-- An own report: the CLOSE or OPEN that the end of a CLOSE stroke's hold brings about is asked of an idle valve. -/
theorem Ev.restful.report (hm : q.line = m) (hq : q.calm g) (h : Ev.restful { e with reports := q :: e.reports } m)
    (hp : e.pumpStopped ch m) : (e.handleReport q).restful m ∧ (e.handleReport q).pumpStopped ch m := by
  obtain ⟨hund, hone, hcount⟩ := h
  rw [Ev.about_cons hm, List.countP_cons] at hcount
  have books (hb : e.BooksOnly (e.handleReport q)) (hne : q.closeEnd = false) :
      (e.handleReport q).restful m ∧ (e.handleReport q).pumpStopped ch m := by
    rw [if_neg (by rw [hne]; nofun)] at hcount
    have h0 : e.restful m := ⟨hund, hone, hcount⟩
    exact ⟨h0.books hb, (Ev.pumpStopped_kept ch m).books e _ hb.chan1 hb.chan2 hb.supply hp⟩
  cases q with
  | arrived n cls target => exact books (Ev.handleReport_arrived_booksOnly e n cls target) rfl
  | failed n cls o => exact absurd hq id
  | seated n => exact absurd hq id
  | ended n cls =>
    cases cls with
    | throttle => exact books (.refl e) rfl
    | opening => exact books (.refl e) rfl
    | close =>
      obtain rfl : n = m := hm
      simp only [Report.closeEnd, beq_self_eq_true, if_true] at hcount
      have hidle : (e.about n).countP Report.closeEnd = 0 ∧ (e.valve n).stroke = none ∧ (e.valve n).pending = none := by
        rcases hcount with h | ⟨h, hs, hp⟩
        · omega
        · exact ⟨by omega, hs, hp⟩
      obtain ⟨hc, hs, hpend⟩ := hidle
      have h0 : e.restful n := ⟨hund, hone, .inl hc⟩
      have hasks := Ev.handleReport_asks (.ended n .close) hq e
      generalize e.handleReport (.ended n .close) = y' at hasks
      cases hasks with
      | none hb => exact ⟨h0.books hb, (Ev.pumpStopped_kept ch n).books e _ hb.chan1 hb.chan2 hb.supply hp⟩
      | @stroke y hb cls target retry =>
        change (y.requestStroke n cls target retry).restful n ∧ (y.requestStroke n cls target retry).pumpStopped ch n
        rw [Ev.requestStroke_idle ((congrArg Valve.stroke (hb.valve n)).trans hs) ((congrArg Valve.pending (hb.valve n)).trans hpend)]
        exact ⟨Ev.restful.enqueue (by rw [hb.undecided]; exact hund) ((congrArg Valve.stroke (hb.valve n)).trans hs)
          (by rw [Ev.about_congr hb.reports]; exact hc), (Ev.pumpStopped_kept ch n).enqueue
          ((Ev.pumpStopped_kept ch n).books e _ hb.chan1 hb.chan2 hb.supply hp)⟩

/-- In MAY a stopped pump stays stopped to the end of the event, while a line whose CLOSE work comes one at a time holds a
channel (R128). -/
theorem Ev.drain_pumpStopped (hc : e.calm g) (hr : e.restful m) (hp : e.pumpStopped ch m) : e.drain.pumpStopped ch m := by
  refine (Ev.drain_asks_induction (P := fun y => y.restful m ∧ y.pumpStopped ch m) m (fun y r hr hP => ?_) (fun y n hn hP => ?_)
    (fun x y n hn hx hxy hside hP => ?_) (fun y r hy hcr hr hP => hP.1.report hr hcr hP.2)
    (fun y _ _ hP => absurd List.mem_cons_self hP.1.1) hc ⟨hr, hp⟩).2
  · obtain ⟨⟨hund, hone, hcount⟩, hp⟩ := hP
    rw [Ev.about_cons_ne hr] at hcount
    exact ⟨⟨hund, hone, hcount⟩, hp⟩
  · obtain ⟨⟨hund, hone, hcount⟩, hp⟩ := hP
    exact ⟨⟨fun h => hund (List.mem_cons_of_mem _ h), hone, hcount⟩, hp⟩
  · exact ⟨hP.1.grant hside.grant hside.undecided, (Ev.pumpStopped_kept ch m).asks hxy hn hP.2⟩

end Sys2Proof.Machine
end

section
/-! HOLD_END: the stroke ends, its channel is freed and considered, the line goes on (R6, R85, R125). -/

namespace Sys2Proof.Machine
variable {e e' x y z : Ev} {l m : LineId} {g : Ground} {s u v : State} {c : CloseRec} {k : Stroke} {t : Time} {r : StrokeReq}
  {p : Plan} {n : Nat}

/-! ### The end of a hold -/

/-- The stroke has ended and freed its channel (R114, R125). -/
def Ev.freed (e : Ev) (l : LineId) : Ev :=
  (e.modValve l (fun v => { v with stroke := none, followOn := none })).freeChannel l

/-- The freed channel has been considered, and the end of the stroke is reported (R116, R125). -/
def Ev.holdOver (e : Ev) (l : LineId) (k : Stroke) : Ev := (e.freed l).considerGrants.report (.ended l k.req.cls)

/-- The follow-on, if there is one, has entered the queue (R115). -/
def Ev.followed (e : Ev) (l : LineId) : Option StrokeReq → Ev
  | none => e
  | some r => e.enqueue l r

theorem holdEnd_operation (hk : (s.valve l).stroke = some k) (hp : k.phase = .hold)
    (hdue : s.supply.profile.holdMs ≤ elapsed t k.since) :
    (begin t s).holdEnd l = ((begin t s).holdOver l k).followed l (s.valve l).followOn := by
  rw [Ev.holdEnd, State.strokeIn_eq (s := (begin t s).toState) hk hp]
  refine (if_pos hdue).trans ?_
  cases hf : (s.valve l).followOn with
  | none => rw [show ((begin t s).valve l).followOn = none from hf]; rfl
  | some r => rw [show ((begin t s).valve l).followOn = some r from hf]; rfl

theorem Ev.freed_valve (e : Ev) (l : LineId) : (e.freed l).valve l = { e.valve l with stroke := none, followOn := none } :=
  Quad.get_set_same _ _ _

theorem Ev.freed_valve_ne (hm : m ≠ l) : (e.freed l).valve m = e.valve m := by
  rw [Ev.freed, Ev.freeChannel_valve, Ev.modValve_valve_ne _ _ hm]

theorem Ev.freed_strokesOnly (e : Ev) (l : LineId) : e.StrokesOnly (e.freed l) :=
  (Ev.modValve_strokesOnly e l _).trans (Ev.freeChannel_strokesOnly _ l)

theorem Ev.freed_calm (l : LineId) (hc : e.calm g) : (e.freed l).calm g :=
  Ev.freeChannel_calm l (Ev.modValve_calm l _ (fun _ => rfl) hc)

theorem Ev.holdOver_strokesOnly (e : Ev) (l : LineId) (k : Stroke) : e.StrokesOnly (e.holdOver l k) :=
  ((Ev.freed_strokesOnly e l).trans (Ev.considerGrants_strokesOnly _)).trans (Ev.report_strokesOnly _ _)

theorem Ev.holdOver_calm (l : LineId) (k : Stroke) (hc : e.calm g) : (e.holdOver l k).calm g := by
  have h := Ev.considerGrants_calm (Ev.freed_calm l hc)
  refine ⟨h.1, fun r hr => ?_⟩
  rcases List.mem_append.mp hr with hr | hr
  · exact h.2 r hr
  · cases List.mem_singleton.mp hr; trivial

theorem Ev.followed_strokesOnly (e : Ev) (l : LineId) (f : Option StrokeReq) : e.StrokesOnly (e.followed l f) := by
  cases f with
  | none => exact .refl e
  | some r => exact (Ev.asked_strokesOnly e l r).trans (Ev.considerGrants_strokesOnly _)

theorem Ev.followed_calm (f : Option StrokeReq) (hc : e.calm g) : (e.followed l f).calm g := by
  cases f with
  | none => exact hc
  | some r => exact Ev.considerGrants_calm (Ev.modValve_calm l _ (fun _ => rfl) hc)

theorem Ev.ValveGrant.idle (h : e.ValveGrant e' l) (hp : (e.valve l).pending = none) :
    e'.valve l = e.valve l ∧ e'.about l = e.about l := by
  cases h with
  | same hv hr => exact ⟨hv, hr⟩
  | atOnce r hp' => rw [hp] at hp'; cases hp'
  | started r b hp' => rw [hp] at hp'; cases hp'

/-- Nothing is granted to a valve without a request. -/
theorem Ev.considerGrants_idle (hp : (e.valve l).pending = none) :
    e.considerGrants.valve l = e.valve l ∧ e.considerGrants.about l = e.about l := (Ev.considerGrants_valveGrant e l).idle hp

/-- The valve of the ended stroke, no request waiting, and the report about it. -/
theorem Ev.holdOver_valve (hp : (e.valve l).pending = none) (hr : e.reports = []) :
    (e.holdOver l k).valve l = { e.valve l with stroke := none, followOn := none } ∧
      (e.holdOver l k).about l = [.ended l k.req.cls] := by
  obtain ⟨hv, ha⟩ := Ev.considerGrants_idle (e := e.freed l) (l := l) (by rw [Ev.freed_valve]; exact hp)
  refine ⟨hv.trans (Ev.freed_valve e l), ?_⟩
  have hnil : (e.freed l).considerGrants.about l = [] := by
    rw [ha, Ev.about, show (e.freed l).reports = e.reports from rfl, hr]; rfl
  rw [Ev.holdOver, Ev.about, Ev.report, List.filter_append]
  change (e.freed l).considerGrants.about l ++ _ = _
  rw [hnil, List.nil_append]
  exact List.filter_cons_of_pos (decide_eq_true rfl)

/-- HOLD_END, due: the event ends with what its ground and its strokes say. -/
theorem holdEnd_completes (hk : (s.valve l).stroke = some k) (hp : k.phase = .hold)
    (hdue : s.supply.profile.holdMs ≤ elapsed t k.since) {Q : State → Prop}
    (hQ : ∀ v, (((begin t s).holdOver l k).followed l (s.valve l).followOn).drain.toState.sameBlocks v →
      v.shut.causes = s.shut.causes → v.link = s.link → v.grades = s.grades → Q v) : Completes s (.holdEnd t l) t Q := by
  have hcalm := Ev.followed_calm (l := l) (s.valve l).followOn (Ev.holdOver_calm l k (begin_calm t s))
  have hstrokes := (Ev.holdOver_strokesOnly (begin t s) l k).trans (Ev.followed_strokesOnly _ l (s.valve l).followOn)
  have he := holdEnd_operation hk hp hdue
  generalize ((begin t s).holdOver l k).followed l (s.valve l).followOn = y at *
  have hground := (Ev.drain_ground _).trans hcalm.1
  refine completes_of_drain (op := fun e => e.holdEnd l) y rfl he (pending_of_ground (y := (begin t s).toState) hcalm.1)
    (now_of_ground (y := (begin t s).toState) hcalm.1) fun v hv _ => hQ v hv ?_ ?_ ?_
  · rw [hv.shut, Ev.drain_causes hcalm]; exact congrArg Shutdown.causes hstrokes.shut
  · exact hv.linkGrades.1.trans (link_of_ground (y := (begin t s).toState) hground)
  · exact hv.linkGrades.2.trans (grades_of_ground (y := (begin t s).toState) hground)

/-! ### A stroke that is no CLOSE -/

/-- Without a follow-on the valve has neither stroke nor request left. -/
theorem Ev.holdOver_drain (hc : e.calm g) (hcls : k.req.cls ≠ .close) (hp : (e.valve l).pending = none) (hr : e.reports = [])
    (hu : l ∉ e.undecided) : (e.holdOver l k).drain.valve l = { e.valve l with stroke := none, followOn := none } := by
  obtain ⟨hv, ha⟩ := Ev.holdOver_valve (k := k) hp hr
  refine (Ev.drain_barred (Ev.holdOver_calm l k hc) ?_ ?_ ?_).1.trans hv
  · intro r hr; rw [hv] at hr; exact absurd (hp.symm.trans hr) nofun
  · intro q hq; rw [ha] at hq; cases List.mem_singleton.mp hq; exact hcls
  · rw [(Ev.holdOver_strokesOnly e l k).undecided]; exact hu

/-- The follow-on stands in the queue, or a channel has been given to it. -/
theorem Ev.holdOver_follow (hc : e.calm g) (hcls : k.req.cls ≠ .close) (hp : (e.valve l).pending = none) (hr : e.reports = [])
    (hu : l ∉ e.undecided) (hat : e.atTarget l r = false) :
    let v := ((e.holdOver l k).enqueue l r).drain.valve l
    (v.pending = some r ∨ ∃ x, v.stroke = some x ∧ x.req = r) ∧ v.followOn = none := by
  obtain ⟨hv, ha⟩ := Ev.holdOver_valve (k := k) hp hr
  have hstrokes := Ev.holdOver_strokesOnly e l k
  have hval := Ev.asked_valve (e.holdOver l k) l r
  rw [hv] at hval
  have hcalm : ((e.holdOver l k).asked l r).calm g := Ev.modValve_calm l _ (fun _ => rfl) (Ev.holdOver_calm l k hc)
  have hask := Ev.asked_strokesOnly (e.holdOver l k) l r
  have habout : ((e.holdOver l k).asked l r).about l = [.ended l k.req.cls] := ha
  have hat' : ∀ q, (((e.holdOver l k).asked l r).valve l).pending = some q → ((e.holdOver l k).asked l r).atTarget l q = false := by
    intro q hq
    rw [hval] at hq
    cases hq
    rw [← hat]; unfold State.atTarget; rw [hval, hask.profile, hstrokes.profile]
  rw [show (e.holdOver l k).enqueue l r = ((e.holdOver l k).asked l r).considerGrants from rfl]
  generalize (e.holdOver l k).asked l r = w at *
  have hgrants := Ev.considerGrants_strokesOnly w
  obtain ⟨hw, hr'⟩ := Ev.waitsOrMoves.grant (z := w) (.inl rfl) hat' (Ev.considerGrants_valveGrant w l) rfl rfl
  have hend := Ev.drain_waitsOrMoves (z := w) (Ev.considerGrants_calm hcalm) hgrants.now (by rw [hgrants.line]) hat'
    (by rw [hr', habout]; intro q hq; cases List.mem_singleton.mp hq; exact hcls)
    (by rw [hgrants.undecided, hask.undecided, hstrokes.undecided]; exact hu) hw
  rcases hend with h | ⟨q, b, hq, h⟩
  · rw [h, hval]; exact ⟨.inl rfl, rfl⟩
  · rw [hval] at hq
    cases hq
    rw [h, hval]; exact ⟨.inr ⟨_, rfl, rfl⟩, rfl⟩

theorem holdEnd_notDue (hk : (s.valve l).stroke = some k) (hp : k.phase = .hold)
    (hdue : elapsed t k.since < s.supply.profile.holdMs) :
    exec (.holdEnd t l) s = .next (State.arbitrate { s with now := t }) := by
  refine exec_nothing (op := fun e => e.holdEnd l) rfl ?_
  rw [Ev.holdEnd, State.strokeIn_eq (s := (begin t s).toState) hk hp]
  exact if_neg (Nat.not_le.mpr hdue)

theorem solenoid_hold (hk : (s.valve l).stroke = some k) (hp : k.phase = .hold) : s.solenoid l =
    if s.supply.band = .must then none else some (if k.req.cls = .opening then .openward else .closeward) := by
  rw [State.solenoid, hk, ← StrokeClass.dir_eq]
  dsimp only
  rw [hp]
  simp

end Sys2Proof.Machine
end

section
/-! The end of a CLOSE stroke's hold: what its line does with it (R6, R85, R125). -/

namespace Sys2Proof.Machine
variable {e e' x y z : Ev} {l m : LineId} {g : Ground} {s u v : State} {c : CloseRec} {k : Stroke} {t : Time} {r : StrokeReq}
  {p : Plan} {n : Nat}

/-! ### The report is handed on -/

/-- The end of a CLOSE stroke of line `l` comes up: its valve idle, its records as in `e`, nothing else about it. -/
def Ev.endComing (e : Ev) (l : LineId) (y : Ev) : Prop :=
  y.valve l = { e.valve l with stroke := none, followOn := none } ∧ y.lane l = e.lane l ∧ y.about l = [.ended l .close] ∧
    l ∉ y.undecided

/-- The end of the stroke is handed on when its valve and its line still stand as they did, and nothing else about the line
waits. -/
theorem Ev.holdOver_reaches (hc : e.calm g) (hcls : k.req.cls = .close) (hp : (e.valve l).pending = none)
    (hr : e.reports = []) (hu : l ∉ e.undecided) :
    ∃ (y : Ev) (m : LineId) (j : Nat), m ≠ l ∧ y.calm g ∧ y.valve l = { e.valve l with stroke := none, followOn := none } ∧
      y.lane l = e.lane l ∧ y.about l = [] ∧ l ∉ y.undecided ∧
      (e.holdOver l k).drain = ((y.handleReport (.ended l .close)).behind (List.replicate j (.ended m .throttle))).drain := by
  obtain ⟨m, hm⟩ := LineId.exists_ne l
  obtain ⟨hv, ha⟩ := Ev.holdOver_valve (k := k) hp hr
  have hstrokes := Ev.holdOver_strokesOnly e l k
  have hrep : (e.holdOver l k).reports = (e.freed l).considerGrants.reports ++ .ended l .close :: [] := by
    rw [← hcls]; rfl
  have hlen : (e.freed l).considerGrants.reports.length ≤ 63 := by
    have h := Ev.grantUpTo_reports_length 4 (e.freed l)
    rw [show (e.freed l).reports = e.reports from rfl, hr, List.length_nil] at h
    exact Nat.le_trans h (by decide)
  have hother : ∀ q ∈ (e.freed l).considerGrants.reports, q.line ≠ l := by
    intro q hq hl
    have hnil : (e.freed l).considerGrants.about l = [] := by
      rw [(Ev.considerGrants_idle (e := e.freed l) (by rw [Ev.freed_valve]; exact hp)).2, Ev.about,
        show (e.freed l).reports = e.reports from rfl, hr]
      rfl
    exact List.filter_eq_nil_iff.mp hnil q hq (decide_eq_true hl)
  rw [hcls] at ha
  -- the reports before it are about other lines, and leave line `l` aside
  have hstep : ∀ (w : Ev) (q : Report), w.calm g → q.calm g → q ∈ (e.freed l).considerGrants.reports →
      Ev.endComing e l { w with reports := q :: w.reports } → Ev.endComing e l (w.handleReport q) := by
    intro w q _ hq hmem hP
    obtain ⟨hvw, hlw, haw, huw⟩ := hP
    have hne := hother q hmem
    rw [Ev.about_cons_ne hne] at haw
    have hside := Ev.handleReport_aside (e := w) (m := l) q hq (Ne.symm hne)
    have hpend : (w.valve l).pending = none := (congrArg Valve.pending hvw).trans hp
    obtain ⟨hv', hr'⟩ := hside.grant.idle hpend
    exact ⟨hv'.trans hvw, hside.lane.trans hlw, hr'.trans haw, fun h => huw (hside.undecided.mp h)⟩
  obtain ⟨y, j, hy, ⟨hvy, hly, hay, huy⟩, hend⟩ := Ev.drain_reaches (P := Ev.endComing e l) m (Ev.holdOver_calm l k hc) hrep hlen
    ⟨hv, hstrokes.lane l, ha, by rw [hstrokes.undecided]; exact hu⟩ hstep
  rw [Ev.about_cons (r := .ended l .close) (m := l) rfl] at hay
  exact ⟨y, m, j, hm, hy, hvy, hly, (List.cons.inj hay).2, huy, hend⟩

theorem Ev.behind_moots_aside (j : Nat) (hm : m ≠ l) : e.Aside (e.behind (List.replicate j (.ended m .throttle))) l :=
  ⟨.same rfl (Ev.behind_moots_about j hm), rfl, rfl, Iff.rfl⟩

/-- A line that nothing asks for, behind reports of another line that nothing follows from. -/
theorem Ev.behind_drain (hc : e.calm g) (hm : m ≠ l) (hp : (e.valve l).pending = none) (ha : e.about l = [])
    (hu : l ∉ e.undecided) (j : Nat) :
    let v := (e.behind (List.replicate j (.ended m .throttle))).drain
    v.valve l = e.valve l ∧ v.lane l = e.lane l :=
  Ev.drain_barred (l := l) (Ev.behind_moots_calm j m hc) (fun _ hr => absurd (hp.symm.trans hr) nofun)
    (by rw [Ev.behind_moots_about j hm, ha]; nofun) hu

/-! ### A request that is no CLOSE, followed to the end of the event -/

theorem Ev.Serves.unasked (h : z.Serves e m) (hu : m ∉ e.undecided) (hl : e.line m = z.line m) : z.unasked e m := by
  refine ⟨hu, .inl hl, by rw [hl], ?_⟩
  cases h with
  | waiting hv hr => exact .inl ⟨hv, hr⟩
  | atOnce r hp hat hv hr =>
    refine .inr ⟨by rw [hv], ?_⟩
    rcases hr with h | h | h
    · exact .inr ⟨r, hp, hat, .inl h⟩
    · exact .inr ⟨r, hp, hat, .inr h⟩
    · exact .inl h
  | started r b hp hat hv hr => exact .inr ⟨by rw [hv], .inl hr⟩

/-- A request that is no CLOSE, to the end of its event: its own reports change the books alone. -/
theorem Ev.drain_serves_calm (hc : e.calm g) (hnow : e.now = z.now) (hprof : (e.line l).profile = (z.line l).profile)
    (hcls : ∀ r, (z.valve l).pending = some r → r.cls ≠ .close) (hu : l ∉ e.undecided) (h : z.Serves e l) :
    z.Serves e.drain l := by
  refine (Ev.drain_line_induction (P := fun y => l ∉ y.undecided ∧ z.Serves y l) l (fun x y hx hxy hP => ?_)
    (fun y q _ _ hq hP => ?_) (fun y _ _ hP => absurd List.mem_cons_self hP.1) hc ⟨hu, h⟩).2
  · have hg := hx.1.trans hc.1.symm
    exact ⟨fun hm => hP.1 (hxy.undecided.mp hm),
      hP.2.grant hxy.grant ((congrArg (fun g : Ground => g.port.now) hg).trans hnow)
        ((profile_of_ground (z := x.toState) (y := e.toState) hg l).trans hprof)⟩
  · have hbooks : y.BooksOnly (y.handleReport q) := by
      cases hP.2 with
      | waiting _ hr => rw [Ev.about_cons hq] at hr; cases hr
      | started _ _ _ _ _ hr => rw [Ev.about_cons hq] at hr; cases hr
      | atOnce r hp _ _ hr =>
        rw [Ev.about_cons hq] at hr
        rcases hr with hr | hr | hr
        · obtain ⟨rfl, -⟩ := List.cons.inj hr
          exact Ev.handleReport_arrived_booksOnly y l r.cls r.target
        · obtain ⟨rfl, -⟩ := List.cons.inj hr
          rw [Ev.handleReport_moot y (q := .ended l r.cls) (hcls r hp)]
          exact .refl y
        · cases hr
    exact ⟨by rw [hbooks.undecided]; exact hP.1, hP.2.own hq hbooks⟩

/-! ### A line in STARTING makes its OPEN request anew (R6) -/

theorem State.atTarget_of {y z : State} (hv : ∃ a b c, z.valve l = { y.valve l with stroke := a, followOn := b, pending := c })
    (hp : z.profile l = y.profile l) (r : StrokeReq) : z.atTarget l r = y.atTarget l r := by
  obtain ⟨a, b, c, hv⟩ := hv
  unfold State.atTarget
  rw [hv, hp]

/-- The OPEN request made anew stands, and the line is still in STARTING, or in PROVING by an arrival at once. -/
theorem Ev.startAnew_drain (hc : y.calm g) (hm : m ≠ l) (hs : (y.line l).state = .starting)
    (hst : (y.valve l).stroke = none) (hp : (y.valve l).pending = none) (ha : y.about l = []) (hu : l ∉ y.undecided) (j : Nat) :
    let v := ((y.handleReport (.ended l .close)).behind (List.replicate j (.ended m .throttle))).drain
    y.strokeStands v.toState l (y.startStroke l y.now) ∧
      ((v.line l).state = .starting ∨ y.atTarget l (y.startStroke l y.now) = true ∧ (v.line l).state = .proving) := by
  have hop : y.handleReport (.ended l .close) = (y.asked l (y.startStroke l y.now)).considerGrants :=
    (if_pos hs).trans (Ev.requestStroke_idle hst hp _ _ _)
  rw [hop]
  have hval := Ev.asked_valve y l (y.startStroke l y.now)
  have hask := Ev.asked_strokesOnly y l (y.startStroke l y.now)
  have hcalm : (y.asked l (y.startStroke l y.now)).calm g := Ev.modValve_calm l _ (fun _ => rfl) hc
  have habout : (y.asked l (y.startStroke l y.now)).about l = [] := ha
  generalize y.asked l (y.startStroke l y.now) = z at *
  have hgrants := Ev.considerGrants_strokesOnly z
  have hcls : ∀ r, (z.valve l).pending = some r → r.cls ≠ .close := fun r hr => by rw [hval] at hr; cases hr; nofun
  have hserves : z.Serves (z.considerGrants.behind (List.replicate j (.ended m .throttle))) l :=
    ((Ev.Serves.waiting (e := z) rfl habout).grant (Ev.considerGrants_valveGrant z l) rfl rfl).congr rfl
      (Ev.behind_moots_about j hm)
  have hund : l ∉ z.considerGrants.undecided := by rw [hgrants.undecided, hask.undecided]; exact hu
  have hcalm' := Ev.behind_moots_calm j m (Ev.considerGrants_calm hcalm)
  have hend := Ev.drain_serves_calm hcalm' hgrants.now (congrArg LineRec.profile (hgrants.line l)) hcls hund hserves
  obtain ⟨-, hgo, -⟩ := Ev.drain_unasked hcalm' hcls (hserves.unasked hund (hgrants.line l))
  have hat (r : StrokeReq) : z.atTarget l r = y.atTarget l r :=
    State.atTarget_of ⟨_, _, _, hval⟩ (hask.profile l) r
  refine ⟨hend.strokeStands (by rw [hval]) hask.now.symm (hat _), ?_⟩
  rcases hgo with h | ⟨-, h, r, hr, -, h'⟩
  · exact .inl (by rw [h, hask.line]; exact hs)
  · rw [hval] at hr
    cases hr
    exact .inr ⟨(hat _).symm.trans h', h⟩

/-! ### A close in DWELL notes it, and comes to its next stage (R85) -/

theorem State.nextStageComes.base {y v : State} (h : y.nextStageComes v l t c p n) (hp : y.profile l = s.profile l)
    (hat : ∀ r, y.atTarget l r = s.atTarget l r) : s.nextStageComes v l t c p n := by
  obtain ⟨x, hx, hst, hpl, hen, hsame, hnew⟩ := h
  refine ⟨x, hx, hst, hpl, hen, hsame, fun hne => ?_⟩
  obtain ⟨hph, hstroke⟩ := hnew hne
  rw [hp] at hstroke
  exact ⟨hph, hstroke.base (hat _)⟩

theorem Ev.plannerEnded_dwell (hs : (y.line l).state = .closing) (hcl : y.close l = some c) (hph : c.phase = .dwell) :
    y.handleReport (.ended l .close) = (y.modClose l (fun c => { c with strokeEnded := true })).nextStage l := by
  refine (if_neg (by rw [hs]; nofun)).trans (if_pos ?_)
  rw [State.closePhase_of_close hs hcl, hph]

/-- The dwell is not over: the close notes the end of the stroke, and nothing else follows. -/
theorem Ev.dwellNotOver_drain (hc : y.calm g) (hm : m ≠ l) (hs : (y.line l).state = .closing) (hcl : y.close l = some c)
    (hph : c.phase = .dwell) (hover : c.dwellOver = false) (hp : (y.valve l).pending = none) (ha : y.about l = [])
    (hu : l ∉ y.undecided) (j : Nat) :
    let v := ((y.handleReport (.ended l .close)).behind (List.replicate j (.ended m .throttle))).drain
    v.line l = y.line l ∧ v.close l = some { c with strokeEnded := true } ∧ v.valve l = y.valve l := by
  have hclose : (y.modClose l (fun c => { c with strokeEnded := true })).close l = some { c with strokeEnded := true } := by
    rw [Ev.modClose_close, hcl]; rfl
  have hop : y.handleReport (.ended l .close) = y.modClose l (fun c => { c with strokeEnded := true }) := by
    rw [Ev.plannerEnded_dwell hs hcl hph, Ev.nextStage, hclose]
    exact if_neg (by simp [hover])
  rw [hop]
  have hbooks := (Ev.modClose_recordsOnly y l (fun c => { c with strokeEnded := true })).books
  have hcalm := Ev.modClose_calm l (fun c => { c with strokeEnded := true }) hc
  have hline : (y.modClose l (fun c => { c with strokeEnded := true })).line l = y.line l := rfl
  generalize y.modClose l (fun c => { c with strokeEnded := true }) = w at *
  obtain ⟨hv, hlane⟩ := Ev.behind_drain hcalm hm ((congrArg Valve.pending (hbooks.valve l)).trans hp)
    ((Ev.about_congr hbooks.reports l).trans ha) (by rw [hbooks.undecided]; exact hu) j
  exact ⟨(congrArg Prod.fst hlane).trans hline, (congrArg (fun q : Lane => q.2.2.2.1) hlane).trans hclose,
    hv.trans (hbooks.valve l)⟩

/-- The dwell is over: the next stage comes up. -/
theorem Ev.dwellOver_drain (hc : y.calm g) (hm : m ≠ l) (hs : (y.line l).state = .closing) (hcl : y.close l = some c)
    (hph : c.phase = .dwell) (hover : c.dwellOver = true) (hsw : (y.valve l).closedSwitch = false) (ha : y.about l = [])
    (hu : l ∉ y.undecided) (hst : (y.valve l).stroke = none) (hp : (y.valve l).pending = none) (j : Nat) :
    let v := ((y.handleReport (.ended l .close)).behind (List.replicate j (.ended m .throttle))).drain
    (v.line l).state = .closing ∧
      ∀ n p, c.stage = some n → 0 < n → c.plan = some p → y.nextStageComes v.toState l y.now c p n := by
  have hclose : (y.modClose l (fun c => { c with strokeEnded := true })).close l = some { c with strokeEnded := true } := by
    rw [Ev.modClose_close, hcl]; rfl
  have hop : y.handleReport (.ended l .close) =
      (y.modClose l (fun c => { c with strokeEnded := true })).requestStage l (c.stage.getD 0 + 1) := by
    rw [Ev.plannerEnded_dwell hs hcl hph, Ev.nextStage, hclose]
    exact if_pos ⟨hph, hover, rfl⟩
  rw [hop]
  have hbooks := (Ev.modClose_recordsOnly y l (fun c => { c with strokeEnded := true })).books
  have hcalm := Ev.modClose_calm l (fun c => { c with strokeEnded := true }) hc
  have hline : (y.modClose l (fun c => { c with strokeEnded := true })).line l = y.line l := rfl
  generalize y.modClose l (fun c => { c with strokeEnded := true }) = w at *
  have hund : l ∉ w.undecided := by rw [hbooks.undecided]; exact hu
  have hoff : (w.valve l).closedSwitch = false := (congrArg Valve.closedSwitch (hbooks.valve l)).trans hsw
  cases hplan : c.plan with
  | none =>
    have hnone : w.requestStage l (c.stage.getD 0 + 1) = w := by
      rw [Ev.requestStage, State.planOf, hclose, Option.bind_some, hplan]
    rw [hnone]
    refine ⟨?_, nofun⟩
    obtain ⟨-, hlane⟩ := Ev.behind_drain hcalm hm ((congrArg Valve.pending (hbooks.valve l)).trans hp)
      ((Ev.about_congr hbooks.reports l).trans ha) hund j
    exact ((congrArg (fun q : Lane => q.1.state) hlane).trans (congrArg LineRec.state hline)).trans hs
  | some p =>
    have hstage := Ev.requestStage_atStage (s := y.toState) (k := c.stage.getD 0) hund hclose hplan
      ((Ev.about_congr hbooks.reports l).trans ha) (hbooks.valve l) (congrArg LineRec.profile hline)
    have hcalm' := Ev.behind_moots_calm j m (Ev.requestStage_calm l (c.stage.getD 0 + 1) hcalm)
    have hnow : (w.requestStage l (c.stage.getD 0 + 1)).now = w.now :=
      congrArg (fun g : Ground => g.port.now) ((Ev.requestStage_calm l (c.stage.getD 0 + 1) hcalm).1.trans hcalm.1.symm)
    have hoff' : ((w.requestStage l (c.stage.getD 0 + 1)).valve l).closedSwitch = false :=
      ((Ev.requestStage_calm l (c.stage.getD 0 + 1) hcalm).closedSwitch l).symm.trans ((hcalm.closedSwitch l).trans hoff)
    generalize w.requestStage l (c.stage.getD 0 + 1) = q at *
    have hprof : (w.line l).profile = (y.line l).profile := congrArg LineRec.profile hline
    have hlast := (hstage.aside hnow hprof (Ev.behind_moots_aside j hm)).drain hcalm' hnow hprof
      ((congrArg LineRec.state hline).trans hs) hoff'
    refine ⟨by rw [hlast.line, hline]; exact hs, fun n p' hn h0 hp' => ?_⟩
    cases hp'
    have hk : c.stage.getD 0 = n := by rw [hn]; rfl
    rw [hk] at hlast
    have hend := hlast.nextStageComes (b := { c with strokeEnded := true }) (c := c) h0 hplan rfl hst
    rw [hbooks.now] at hend
    exact hend

end Sys2Proof.Machine
end

section
/-! HOLD_END, settled: the line goes on, the freed channel is granted as R117 ranks, the charge pump is driven (R128). -/

namespace Sys2Proof.Machine
variable {e e' x y z : Ev} {l m : LineId} {g : Ground} {s u v : State} {c : CloseRec} {k : Stroke} {t : Time} {r q : StrokeReq}
  {p : Plan} {n : Nat} {d : Direction} {ch : ChanId}

/-! ### The end of a CLOSE stroke's hold -/

theorem holdEnd_close (hk : (s.valve l).stroke = some k) (hp : k.phase = .hold)
    (hdue : s.supply.profile.holdMs ≤ elapsed t k.since) (hcls : k.req.cls = .close) (hpend : (s.valve l).pending = none)
    (hf : (s.valve l).followOn = none) : Completes s (.holdEnd t l) t (fun v =>
      ((s.line l).state = .starting → s.strokeStands v l (s.startStroke l t) ∧
        ((v.line l).state = .starting ∨ s.atTarget l (s.startStroke l t) = true ∧ (v.line l).state = .proving)) ∧
      ((s.line l).state ≠ .starting → (s.line l).state ≠ .closing →
        v.valve l = { s.valve l with stroke := none } ∧ v.line l = s.line l) ∧
      (∀ c, (s.line l).state = .closing → s.close l = some c → c.phase = .dwell → (s.valve l).closedSwitch = false →
        (v.line l).state = .closing ∧
        (c.dwellOver = false → v.close l = some { c with strokeEnded := true } ∧
          v.valve l = { s.valve l with stroke := none }) ∧
        (∀ n p, c.dwellOver = true → c.stage = some n → 0 < n → c.plan = some p →
          s.nextStageComes v l t c p n)) ∧
      v.shut.causes = s.shut.causes ∧ v.link = s.link ∧ v.grades = s.grades) := by
  obtain ⟨y, m, j, hm, hc, hval, hlane, ha, hu, hend⟩ := Ev.holdOver_reaches (k := k) (begin_calm t s) hcls hpend rfl
    (List.not_mem_nil (a := l))
  have hval : y.valve l = { s.valve l with stroke := none } := hval.trans (by rw [← hf]; rfl)
  have hline : y.line l = s.line l := congrArg Prod.fst hlane
  have hclose : y.close l = s.close l := congrArg (fun q : Lane => q.2.2.2.1) hlane
  have hnow : y.now = t := now_of_ground (y := (begin t s).toState) hc.1
  have hprof : y.profile l = s.profile l := congrArg (fun q : LineRec => q.profile.getD noProfile) hline
  have hstroke : (y.valve l).stroke = none := by rw [hval]
  have hidle : (y.valve l).pending = none := by rw [hval]; exact hpend
  have hat (r : StrokeReq) : y.atTarget l r = s.atTarget l r := by unfold State.atTarget; rw [hval, hprof]
  have hreq : y.startStroke l y.now = s.startStroke l t := by unfold State.startStroke; rw [hprof, hnow]
  refine holdEnd_completes hk hp hdue fun v hv hcauses hlink hgrades => ?_
  rw [hf, show ((begin t s).holdOver l k).followed l none = (begin t s).holdOver l k from rfl, hend] at hv
  refine ⟨fun hs => ?_, fun hs hs' => ?_, fun c hs hcl hph hsw => ?_, hcauses, hlink, hgrades⟩
  · obtain ⟨hstands, hstate⟩ := Ev.startAnew_drain hc hm (by rw [hline]; exact hs) hstroke hidle ha hu j
    rw [hreq] at hstands hstate
    rw [hat] at hstate
    rw [hv.line]
    refine ⟨?_, hstate⟩
    have h := hstands.base (hat _)
    unfold State.strokeStands at h ⊢
    rw [hv.valve]; exact h
  · have hnone : y.handleReport (.ended l .close) = y := by
      refine (if_neg (by rw [hline]; exact hs)).trans (if_neg ?_)
      rw [State.closePhase, if_neg (by rw [hline]; exact hs')]; nofun
    rw [hnone] at hv
    obtain ⟨hv', hl⟩ := Ev.behind_drain hc hm hidle ha hu j
    exact ⟨(hv.valve l).trans (hv'.trans hval), (hv.line l).trans ((congrArg Prod.fst hl).trans hline)⟩
  · have hs' : (y.line l).state = .closing := by rw [hline]; exact hs
    have hcl' : y.close l = some c := hclose.trans hcl
    have hclv {w : Ev} (h : w.toState.sameBlocks v) : v.close l = w.close l := congrArg (fun q => Quad.get q l) h.2.2.2.2.1
    by_cases hover : c.dwellOver = true
    case neg =>
      have hover := eq_false_of_ne_true hover
      obtain ⟨hl, hcend, hvend⟩ := Ev.dwellNotOver_drain hc hm hs' hcl' hph hover hidle ha hu j
      refine ⟨by rw [hv.line, hl]; exact hs', fun _ => ⟨(hclv hv).trans hcend, (hv.valve l).trans (hvend.trans hval)⟩,
        fun _ _ h => absurd (hover.symm.trans h) nofun⟩
    case pos =>
      obtain ⟨hl, hnext⟩ := Ev.dwellOver_drain hc hm hs' hcl' hph hover (by rw [hval]; exact hsw) ha hu hstroke hidle j
      refine ⟨by rw [hv.line, hl], fun h => absurd (hover.symm.trans h) nofun, fun n p _ hn h0 hp => ?_⟩
      have h := (hnext n p hn h0 hp).base hprof hat
      rw [hnow] at h
      exact hv.nextStageComes h

/-! ### The request that R117 ranks first, and its channel -/

/-- Of two requests, the one that R117 ranks first goes before the other. -/
theorem State.ranksFirst.before (h : s.ranksFirst l r) (hm : m ≠ l) (hq : (s.valve m).pending = some q)
    (ha : admitted s.supply.band q.cls = true) :
    q.before s.now r = false ∧ (lineNum m < lineNum l → r.before s.now q = true) := by
  have hfirst := h.2.2 m q hm hq ha
  simp only [StrokeReq.before, Bool.or_eq_false_iff, Bool.and_eq_false_iff, Bool.or_eq_true, Bool.and_eq_true,
    decide_eq_true_eq, decide_eq_false_iff_not, beq_iff_eq, beq_eq_false_iff_ne]
  rcases hfirst with h | ⟨heq, h | ⟨htime, hnum⟩⟩
  · exact ⟨⟨by omega, .inl (by omega)⟩, fun _ => .inl h⟩
  · exact ⟨⟨by omega, .inr (by omega)⟩, fun _ => .inr ⟨heq.symm, h⟩⟩
  · rw [htime]
    exact ⟨⟨by omega, .inr (Nat.lt_irrefl _)⟩, fun hlt => absurd hlt (by omega)⟩

/-- The lines before and after a line in ascending number. -/
theorem allLines_split (l : LineId) : ∃ pre post, allLines = pre ++ l :: post ∧ (∀ m ∈ pre, lineNum m < lineNum l) ∧
    ∀ m ∈ post, m ≠ l := by
  cases l
  · exact ⟨[], [.b, .c, .d], rfl, by decide, by decide⟩
  · exact ⟨[.a], [.c, .d], rfl, by decide, by decide⟩
  · exact ⟨[.a, .b], [.d], rfl, by decide, by decide⟩
  · exact ⟨[.a, .b, .c], [], rfl, by decide, by decide⟩

/-- The better of the best request so far and the next line's (R117). -/
def State.prefer (s : State) (acc : Option (LineId × StrokeReq)) (l : LineId) : Option (LineId × StrokeReq) :=
  match (s.valve l).pending with
  | none => acc
  | some r =>
    if admitted s.supply.band r.cls then
      match acc with
      | none => some (l, r)
      | some (l0, r0) => if r.before s.now r0 then some (l, r) else some (l0, r0)
    else acc

theorem State.nextGrant_eq (s : State) : s.nextGrant = allLines.foldl s.prefer none := rfl

theorem State.prefer_cases (s : State) (acc : Option (LineId × StrokeReq)) (l : LineId) :
    s.prefer acc l = acc ∨ ∃ r, (s.valve l).pending = some r ∧ admitted s.supply.band r.cls = true ∧ s.prefer acc l = some (l, r) ∧
      ∀ l0 r0, acc = some (l0, r0) → r.before s.now r0 = true := by
  unfold State.prefer
  split
  · exact .inl rfl
  · next r hr =>
    split
    · next ha =>
      split
      · exact .inr ⟨r, hr, ha, rfl, nofun⟩
      · split
        · next hb => exact .inr ⟨r, hr, ha, rfl, fun l0 r0 h => by cases h; exact hb⟩
        · exact .inl rfl
    · exact .inl rfl

/-- R117 in the model's words: the request that ranks first is the next one granted. -/
theorem State.ranksFirst.nextGrant (h : s.ranksFirst l r) : s.nextGrant = some (l, r) := by
  obtain ⟨pre, post, hsplit, hpre, hpost⟩ := allLines_split l
  rw [State.nextGrant_eq, hsplit, List.foldl_append, List.foldl_cons]
  have hbefore : ∀ m q, pre.foldl s.prefer none = some (m, q) → r.before s.now q = true := by
    refine List.foldlRecOn (motive := fun acc => ∀ m q, acc = some (m, q) → r.before s.now q = true) pre _ nofun ?_
    intro acc hacc m hm n q hn
    rcases s.prefer_cases acc m with hsame | ⟨q', hq, ha, hnew, -⟩
    · exact hacc n q (hsame.symm.trans hn)
    · cases hnew.symm.trans hn
      exact (h.before (fun he => absurd (hpre m hm) (by rw [he]; exact Nat.lt_irrefl _)) hq ha).2 (hpre m hm)
  have hat : s.prefer (pre.foldl s.prefer none) l = some (l, r) := by
    unfold State.prefer
    rw [h.1]
    dsimp only
    rw [if_pos h.2.1]
    split
    · rfl
    · next m q hq => rw [if_pos (hbefore m q hq)]
  rw [hat]
  refine List.foldlRecOn (motive := fun acc => acc = some (l, r)) post _ rfl ?_
  intro acc hacc m hm
  rcases s.prefer_cases acc m with hsame | ⟨q, hq, ha, -, hb⟩
  · exact hsame.trans hacc
  · have hno := (h.before (hpost m hm) hq ha).1
    rw [hb l r hacc] at hno
    cases hno

theorem State.channelGiven.pickChannel (h : s.channelGiven d ch) : s.pickChannel d = some ch ∧ (s.chan ch).holder = none := by
  unfold State.pickChannel
  rcases h with ⟨rfl, h1, h2⟩ | ⟨rfl, h2, h1⟩
  · refine ⟨?_, h1⟩
    rw [h1]
    cases hh : s.chan2.holder with
    | none =>
      rcases h2 hh with h | h
      · simp [h]
      · simp [h]
    | some m => rfl
  · refine ⟨?_, h2⟩
    rw [h2]
    cases hh : s.chan1.holder with
    | none => simp [h1 hh]
    | some m => rfl

/-! ### The first grant, to the end of the event -/

/-- The valve as the grant of channel `ch` to its request leaves it (R117, R119). -/
def State.grantedValve (s : State) (l : LineId) (r : StrokeReq) (ch : ChanId) : Valve :=
  { s.valve l with
    pending := none, commanded := r.target,
    stroke := some (newStroke r (if (s.chan ch).suits r.cls.dir then .setup else .turnaround) s.now) }

theorem Ev.grant_started (hat : e.atTarget l r = false) :
    (e.grant l r ch).valve l = e.grantedValve l r ch ∧ (e.grant l r ch).holds ch l := by
  unfold Ev.grant
  rw [hat]
  cases ch <;> exact ⟨by simp [Ev.modChan, Ev.modValve, State.valve]; rfl, rfl⟩

theorem Ev.considerGrants_first (h : e.ranksFirst l r) (hch : e.channelGiven r.cls.dir ch) (hat : e.atTarget l r = false) :
    e.considerGrants.valve l = e.grantedValve l r ch ∧ e.considerGrants.holds ch l := by
  obtain ⟨hpick, -⟩ := hch.pickChannel
  have hstep : e.considerGrants = Ev.grantUpTo 3 (e.grant l r ch) := by
    rw [Ev.considerGrants, Ev.grantUpTo, h.nextGrant]
    dsimp only
    rw [hpick]
  obtain ⟨hval, hheld⟩ := Ev.grant_started (ch := ch) hat
  rw [hstep]
  generalize e.grant l r ch = y at *
  exact ⟨(Ev.grantUpTo_barred 3 y fun q hq => by rw [hval] at hq; cases hq).trans hval,
    (Ev.holds_kept ch l).grantUpTo 3 y hheld⟩

/-- The granted stroke stands with its channel at the end of the event. -/
theorem Ev.holdOver_granted (hc : e.calm g) (hm : m ≠ l) (hr : e.reports = []) (hu : e.undecided = [])
    (h : (e.freed l).ranksFirst m r) (hch : (e.freed l).channelGiven r.cls.dir ch) (hat : (e.freed l).atTarget m r = false)
    (f : Option StrokeReq) : let v := ((e.holdOver l k).followed l f).drain
    v.valve m = (e.freed l).grantedValve m r ch ∧ v.holds ch m := by
  have hcalm := Ev.followed_calm (l := l) f (Ev.holdOver_calm l k hc)
  have hund : m ∉ ((e.holdOver l k).followed l f).undecided := by
    rw [(Ev.followed_strokesOnly _ l f).undecided, (Ev.holdOver_strokesOnly e l k).undecided, hu]; nofun
  obtain ⟨hval, hheld⟩ := Ev.considerGrants_first h hch hat
  have habout : (e.freed l).considerGrants.about m = [] := by
    cases Ev.considerGrants_valveGrant (e.freed l) m with
    | same _ hr' => rw [hr', Ev.about, show (e.freed l).reports = e.reports from rfl, hr]; rfl
    | atOnce q hp hat' =>
      cases h.1.symm.trans hp
      rw [hat] at hat'; cases hat'
    | started q b _ _ _ hr' => rw [hr', Ev.about, show (e.freed l).reports = e.reports from rfl, hr]; rfl
  have habout' : (e.holdOver l k).about m = [] := by
    rw [Ev.holdOver, Ev.about, Ev.report, List.filter_append,
      List.filter_cons_of_neg (fun h => hm (of_decide_eq_true h).symm), List.filter_nil, List.append_nil]
    exact habout
  have hval' : (e.holdOver l k).valve m = (e.freed l).grantedValve m r ch := hval
  have hheld' : (e.holdOver l k).holds ch m := hheld
  have hw : ((e.freed l).grantedValve m r ch).pending = none := rfl
  generalize (e.freed l).grantedValve m r ch = w at *
  generalize e.holdOver l k = y at *
  have hkeep : ((y.followed l f).valve m = w ∧ (y.followed l f).about m = []) ∧ (y.followed l f).holds ch m := by
    cases f with
    | none => exact ⟨⟨hval', habout'⟩, hheld'⟩
    | some q =>
      have hv := Ev.modValve_valve_ne y (fun v => { v with pending := some q }) hm
      obtain ⟨hv', ha'⟩ := Ev.considerGrants_idle (e := y.asked l q) (l := m) (by rw [Ev.asked, hv, hval']; exact hw)
      exact ⟨⟨hv'.trans (hv.trans hval'), ha'.trans habout'⟩, (Ev.holds_kept ch m).enqueue hheld'⟩
  obtain ⟨⟨hv, ha⟩, hh⟩ := hkeep
  have hbar : (y.followed l f).barred m := fun q hq => by rw [hv, hw] at hq; cases hq
  have hmoot : ∀ q ∈ (y.followed l f).about m, q.moot := by rw [ha]; nofun
  exact ⟨(Ev.drain_barred hcalm hbar hmoot hund).1.trans hv, Ev.drain_holds hcalm hmoot hund hbar hh⟩

/-! ### The charge pump -/

/-- What holds of channels and supply once the channel is freed holds when the event is handed on. -/
theorem Ev.Kept.holdOver {I : Ev → Prop} {ok : LineId → Prop} (K : Ev.Kept I ok) (f : Option StrokeReq) (h : I (e.freed l)) :
    I ((e.holdOver l k).followed l f) := by
  have hover : I (e.holdOver l k) := K.books (e.freed l).considerGrants _ rfl rfl rfl (K.considerGrants h)
  cases f with
  | none => exact hover
  | some r => exact K.enqueue hover

theorem Ev.freed_pump (e : Ev) (l : LineId) : (e.freed l).supply = { e.supply with pump :=
    match e.supply.band with
    | .release => false
    | .may => e.supply.pump || (e.freed l).bothFree
    | .need => true
    | .must => true } := rfl

theorem Ev.freed_holder (h : (e.freed l).holds ch m) : m ≠ l := by
  rintro rfl
  cases ch
  · change (if e.chan1.holder = some m then { e.chan1 with holder := none } else e.chan1).holder = some m at h
    split at h
    · cases h
    · next hne => exact hne h
  · change (if e.chan2.holder = some m then { e.chan2 with holder := none } else e.chan2).holder = some m at h
    split at h
    · cases h
    · next hne => exact hne h

theorem State.holds_of_not_bothFree (h : s.bothFree = false) : ∃ ch m, s.holds ch m := by
  cases h1 : s.chan1.holder with
  | some m => exact ⟨.c1, m, h1⟩
  | none =>
    cases h2 : s.chan2.holder with
    | some m => exact ⟨.c2, m, h2⟩
    | none => rw [State.bothFree, h1, h2] at h; cases h

theorem Ev.restful.congr (h : e.restful m) (hv : e'.valve m = e.valve m) (ha : e'.about m = e.about m)
    (hu : e'.undecided = e.undecided) : e'.restful m := by
  rw [Ev.restful, hv, ha, hu]; exact h

theorem Ev.restful.considerGrants (h : e.restful m) : e.considerGrants.restful m :=
  h.grant (Ev.considerGrants_valveGrant e m) (iff_of_eq (congrArg (m ∈ ·) (Ev.considerGrants_strokesOnly e).undecided))

theorem Ev.restful.holdOver (hm : m ≠ l) (f : Option StrokeReq) (h : (e.freed l).restful m) :
    ((e.holdOver l k).followed l f).restful m := by
  have habout : (e.holdOver l k).about m = (e.freed l).considerGrants.about m := by
    rw [Ev.holdOver, Ev.about, Ev.report, List.filter_append,
      List.filter_cons_of_neg (fun h => hm (of_decide_eq_true h).symm), List.filter_nil, List.append_nil]
    rfl
  have hover := h.considerGrants.congr (e' := e.holdOver l k) rfl habout rfl
  cases f with
  | none => exact hover
  | some r =>
    exact (hover.congr (e' := (e.holdOver l k).asked l r) (Ev.modValve_valve_ne _ _ hm) rfl rfl).considerGrants

/-- The charge pump at the end of the event, as R128 drives it at the freeing of the channel. -/
theorem Ev.holdOver_pump (hc : e.calm g) (hr : e.reports = []) (hu : e.undecided = []) (hone : e.oneStroke)
    (f : Option StrokeReq) : let v := ((e.holdOver l k).followed l f).drain
    (e.supply.band = .release → v.supply.pump = false) ∧
    (e.supply.band = .need ∨ e.supply.band = .must → v.supply.pump = true) ∧
    (e.supply.band = .may → v.supply.pump = (e.supply.pump || (e.freed l).bothFree)) := by
  have hcalm := Ev.followed_calm (l := l) f (Ev.holdOver_calm l k hc)
  have hpump := Ev.freed_pump e l
  have hband : ((e.holdOver l k).followed l f).drain.supply.band = e.supply.band :=
    congrArg (fun g : Ground => g.supply.2.2.2) ((Ev.drain_ground _).trans (hcalm.1.trans hc.1.symm))
  -- the pump as the band drives it at the freeing stays so
  have settled (h : (e.freed l).pumpSettled) :
      ((e.holdOver l k).followed l f).drain.supply.pump = (e.supply.band != .release) := by
    rw [Ev.drain_pumpSettled hcalm (Ev.pumpSettled_kept.holdOver f h), hband]
  dsimp only
  cases hb : e.supply.band with
  | release =>
    rw [hb] at hpump settled
    exact ⟨fun _ => settled (by rw [State.pumpSettled, hpump]; simp [hb]), nofun, nofun⟩
  | need =>
    rw [hb] at hpump settled
    exact ⟨nofun, fun _ => settled (by rw [State.pumpSettled, hpump]; simp [hb]), nofun⟩
  | must =>
    rw [hb] at hpump settled
    exact ⟨nofun, fun _ => settled (by rw [State.pumpSettled, hpump]; simp [hb]), nofun⟩
  | may =>
    rw [hb] at hpump settled
    refine ⟨nofun, nofun, fun _ => ?_⟩
    cases hon : (e.supply.pump || (e.freed l).bothFree) with
    | true => exact settled (by rw [State.pumpSettled, hpump, hon]; simp [hb])
    | false =>
      obtain ⟨ch, m, hheld⟩ := State.holds_of_not_bothFree (s := (e.freed l).toState) (Bool.or_eq_false_iff.mp hon).2
      have hm := Ev.freed_holder hheld
      have hrest : (e.freed l).restful m := by
        refine ⟨by rw [(Ev.freed_strokesOnly e l).undecided, hu]; nofun, ?_, .inl ?_⟩
        · rw [Ev.freed_valve_ne hm]; exact hone m
        · rw [Ev.about, show (e.freed l).reports = e.reports from rfl, hr]; rfl
      have hstop : (e.freed l).pumpStopped ch m := ⟨by rw [hpump, ← hon], by rw [hpump]; exact hb, hheld⟩
      exact (Ev.drain_pumpStopped hcalm (hrest.holdOver hm f) ((Ev.pumpStopped_kept ch m).holdOver f hstop)).1

/-- Settles O55: the end of a hold, by what the stroke was and what its line and its valve wait for. -/
theorem holdEndReleasesTheValve : Obligations.HoldEndReleasesTheValve := by
  intro s t l k hk hp
  refine ⟨holdEnd_notDue hk hp, fun hdue hcls hpend => ⟨fun hf => ?_, fun r hf hat => ?_⟩,
    fun hdue hcls hpend hf => holdEnd_close hk hp hdue hcls hpend hf, solenoid_hold hk hp, fun hdue hone => ?_⟩
  · refine holdEnd_completes hk hp hdue fun v hv hcauses hlink _ => ?_
    rw [hf] at hv
    have hval := Ev.holdOver_drain (k := k) (begin_calm t s) hcls hpend rfl (List.not_mem_nil (a := l))
    rw [hv.valve, show ((begin t s).holdOver l k).followed l none = (begin t s).holdOver l k from rfl, hval]
    exact ⟨rfl, hpend, rfl, rfl, hcauses, hlink⟩
  · refine holdEnd_completes hk hp hdue fun v hv hcauses hlink _ => ?_
    rw [hf] at hv
    obtain ⟨hstands, hfollow⟩ := Ev.holdOver_follow (k := k) (r := r) (begin_calm t s) hcls hpend rfl
      (List.not_mem_nil (a := l)) hat
    rw [hv.valve]
    exact ⟨hstands, hfollow, hcauses, hlink⟩
  · have hpend : (s.valve l).pending = none := hone l (by rw [hk]; rfl)
    refine holdEnd_completes hk hp hdue fun v hv _ _ _ => ?_
    dsimp only
    have hpump := Ev.holdOver_pump (k := k) (begin_calm t s) rfl rfl (l := l) hone (s.valve l).followOn
    dsimp only at hpump
    rw [← hv.supply] at hpump
    refine ⟨hpump.1, hpump.2.1, hpump.2.2, fun m r c hfirst hgiven hat => ?_⟩
    have hm : m ≠ l := by
      rintro rfl
      have h := hfirst.1
      rw [show (s.released m t).valve m = _ from Ev.freed_valve (begin t s) m] at h
      cases hpend.symm.trans h
    obtain ⟨hval, hheld⟩ := Ev.holdOver_granted (k := k) (begin_calm t s) hm rfl rfl hfirst hgiven hat (s.valve l).followOn
    rw [hv.valve, hval]
    exact ⟨rfl, rfl, rfl, State.holds_of_chans hv.chans.1 hv.chans.2 hheld⟩

end Sys2Proof.Machine
end

section
/-! The band worked afresh: the pump driven, travel paused in MUST (R122, R127, R128). -/

namespace Sys2Proof.Machine
variable {e e' x y z : Ev} {l m : LineId} {g : Ground} {s u v : State} {k : Stroke} {t : Time} {r : StrokeReq} {b d : Band}

/-! ### The change of band -/

/-- The valve with its stroke paused or going on (R122). -/
def Valve.pausedTo (v : Valve) (p : Bool) (now : Time) : Valve := { v with stroke := v.stroke.map (fun k => k.pauseTo p now) }

theorem Ev.pauseAll_eq (e : Ev) (p : Bool) : ∃ w, e.pauseAll p = { e with valves := w } ∧
    ∀ m, w.get m = (e.valve m).pausedTo p e.now := by
  refine ⟨⟨e.valves.a.pausedTo p e.now, e.valves.b.pausedTo p e.now, e.valves.c.pausedTo p e.now,
    e.valves.d.pausedTo p e.now⟩, ?_, fun m => ?_⟩
  · simp only [Ev.pauseAll, Ev.eachLine, allLines, List.foldl, Ev.modValve, Quad.set, Quad.get, Valve.pausedTo]
  · cases m <;> rfl

theorem Ev.setBand_same (h : e.supply.bandDue = e.supply.band) : e.setBand = e := if_pos h

theorem Ev.mark_modSupply (e : Ev) (n : NoticeKey) (f : Supply → Supply) : (e.modSupply f).mark n = (e.mark n).modSupply f := by
  unfold Ev.mark Ev.modSupply
  split <;> rfl

/-- The supply with the band now due taken and the pump driven (R127, R128). -/
def State.bandTaken (s : State) : Supply :=
  { s.supply with
    band := s.supply.bandDue
    pump := match s.supply.bandDue with
      | .release => false
      | .may => s.supply.pump || s.bothFree
      | .need => true
      | .must => true }

/-- What a change of band leaves (R122, R128). -/
theorem Ev.setBand_changed (h : e.supply.bandDue ≠ e.supply.band) :
    ∃ w, e.setBand = { e.mark .hpu with valves := w, supply := e.bandTaken } ∧
      ∀ m, w.get m = (e.valve m).pausedTo (e.supply.bandDue == .must) e.now := by
  rw [Ev.setBand, if_neg h, Ev.mark_modSupply]
  have hs := Ev.mark_supply e .hpu
  have hc1 := Ev.mark_chan1 e .hpu
  have hc2 := Ev.mark_chan2 e .hpu
  have hv := Ev.mark_valves e .hpu
  have hn := Ev.mark_now e .hpu
  generalize e.mark .hpu = y at *
  obtain ⟨w, hw, hval⟩ := Ev.pauseAll_eq (y.modSupply (fun x => { x with band := x.bandDue })) (e.supply.bandDue == .must)
  rw [hw]
  refine ⟨w, ?_, fun m => (hval m).trans ?_⟩
  · rw [State.bandTaken, show e.bothFree = y.bothFree by rw [State.bothFree, State.bothFree, hc1, hc2], ← hs]; rfl
  · rw [show e.valve m = y.valve m by rw [State.valve, State.valve, hv], ← hn]; rfl

/-- The line by line retries that a change away from MUST lets go (R90). -/
def Ev.retried (e : Ev) (b : Band) : Ev := if b = .must then e.eachLine (fun l x => x.retryWaiting l) else e

theorem Ev.bandEvent_same (h : e.supply.bandDue = e.supply.band) : e.bandEvent = e := by
  rw [Ev.bandEvent, Ev.setBand_same h]; exact if_pos rfl

theorem Ev.bandEvent_changed (h : e.supply.bandDue ≠ e.supply.band) :
    e.bandEvent = (e.setBand.retried e.supply.band).considerGrants := by
  obtain ⟨w, hw, -⟩ := Ev.setBand_changed h
  exact if_neg (by rw [hw]; exact h)

theorem Ev.retryWaiting_asks (e : Ev) (l : LineId) : e.Asks l (e.retryWaiting l) := by
  unfold Ev.retryWaiting Ev.retryStage
  split
  · split
    · exact .none (.refl e)
    · split
      · exact .stroke (Ev.modClose_recordsOnly e l _).books _ _ _
      · exact .stroke (Ev.modClose_recordsOnly e l _).books _ _ _
  · exact .none (.refl e)

theorem Ev.retried_calm (b : Band) (hc : e.calm g) : (e.retried b).calm g := by
  unfold Ev.retried
  split
  · exact Ev.eachLine_calm _ (fun l x hx => Ev.retryWaiting_calm l hx) hc
  · exact hc

theorem Ev.retried_dirty (b : Band) (e : Ev) : e.dirty ⊆ (e.retried b).considerGrants.dirty := by
  have h0 := Works.refl (c := .esdLoopOpen 0) (s := e.toState) (whole := false) e
  have h1 : Works (.esdLoopOpen 0) e.toState false e (e.retried b) := by
    unfold Ev.retried
    split
    · exact Ev.eachLine_works _ (fun l _ hx => Ev.retryWaiting_works l hx) h0
    · exact h0
  exact (Ev.considerGrants_works h1).keeps (P := fun y => e.dirty ⊆ y.dirty)
    (fun _ _ hx hxy => List.Subset.trans hx (hxy.announces .a).1) (List.Subset.refl _)

/-! ### The pump and the strokes after it -/

theorem Ev.retried_pumpSettled (b : Band) (h : e.pumpSettled) : (e.retried b).pumpSettled := by
  unfold Ev.retried
  split
  · exact Ev.eachLine_keeps (fun l x hx => Ev.pumpSettled_kept.asks (Ev.retryWaiting_asks x l) trivial hx) h
  · exact h

section
variable (x1 x2 : Buffer) (w : List BufId) (ro : List ReplySource)

/-- The supply at the end of the event (R127). -/
theorem Ev.bandEvent_supply : let v := (e.bandEvent.withPort x1 x2 w ro).drain
    v.supply.pressure = e.supply.pressure ∧ v.supply.fault = e.supply.fault ∧ v.supply.profile = e.supply.profile ∧
      v.supply.band = e.supply.bandDue ∧ v.link = e.link ∧ v.grades = e.grades := by
  have hg : ((e.bandEvent.withPort x1 x2 w ro).drain).ground = (e.bandEvent.withPort x1 x2 w ro).ground := Ev.drain_ground _
  have hstep : e.bandEvent.ground = e.setBand.ground := by
    by_cases h : e.supply.bandDue = e.supply.band
    · rw [Ev.bandEvent_same h, Ev.setBand_same h]
    · rw [Ev.bandEvent_changed h, Ev.considerGrants_ground]
      unfold Ev.retried
      split
      · exact Ev.eachLine_ground _ _ fun l x => Ev.retryWaiting_ground x l
      · rfl
  have hset : e.setBand.supply.pressure = e.supply.pressure ∧ e.setBand.supply.fault = e.supply.fault ∧
      e.setBand.supply.profile = e.supply.profile ∧ e.setBand.supply.band = e.supply.bandDue ∧ e.setBand.link = e.link ∧
      e.setBand.grades = e.grades := by
    by_cases h : e.supply.bandDue = e.supply.band
    · rw [Ev.setBand_same h]; exact ⟨rfl, rfl, rfl, h.symm, rfl, rfl⟩
    · obtain ⟨w, hw, -⟩ := Ev.setBand_changed h
      rw [hw]
      exact ⟨rfl, rfl, rfl, rfl, Ev.mark_link e .hpu, Ev.mark_grades e .hpu⟩
  obtain ⟨h1, h2, h3, h4, h5, h6⟩ := hset
  have hport {α : Type} (f : Ground → α) (hf : f (e.bandEvent.withPort x1 x2 w ro).ground = f e.bandEvent.ground) :
      f (e.bandEvent.withPort x1 x2 w ro).drain.ground = f e.setBand.ground :=
    (congrArg f hg).trans (hf.trans (congrArg f hstep))
  have hsup := hport Ground.supply rfl
  exact ⟨(congrArg (fun q => q.2.1) hsup).trans h1, (congrArg (fun q => q.2.2.1) hsup).trans h2,
    (congrArg (fun q => q.1) hsup).trans h3, (congrArg (fun q => q.2.2.2) hsup).trans h4,
    (hport Ground.link rfl).trans h5,
    (hport Ground.grades rfl).trans h6⟩

/-- After a change of band the pump is driven as R128 says, to the end of the event. -/
theorem Ev.bandEvent_pumpDriven (hr : e.reports = []) (hu : e.undecided = []) (h : e.supply.bandDue ≠ e.supply.band) :
    e.pumpDriven (e.bandEvent.withPort x1 x2 w ro).drain.toState := by
  obtain ⟨q, hw, hval⟩ := Ev.setBand_changed h
  have hsup : e.setBand.supply = e.bandTaken := by rw [hw]
  have hcalm : e.setBand.calm e.setBand.ground := Ev.calm_of _ _ rfl (by rw [hw]; exact (Ev.mark_reports e .hpu).trans hr)
  have hport := (Ev.considerGrants_calm (Ev.retried_calm e.supply.band hcalm))
  have hcalm' := hport.withPort x1 x2 w ro
  obtain ⟨-, -, -, hband, -⟩ := Ev.bandEvent_supply (e := e) x1 x2 w ro
  rw [Ev.bandEvent_changed h] at hband ⊢
  have settled (hp : e.setBand.pumpSettled) :
      ((e.setBand.retried e.supply.band).considerGrants.withPort x1 x2 w ro).drain.supply.pump = (e.supply.bandDue != .release) := by
    rw [Ev.drain_pumpSettled hcalm' (Ev.pumpSettled_kept.considerGrants (Ev.retried_pumpSettled _ hp)), hband]
  unfold State.pumpDriven
  rw [hband]
  refine ⟨fun hd => ?_, fun hd => ?_, fun hd => ⟨fun hp => ?_, fun hrel hone hoff hheld => ?_⟩⟩
  · rw [settled (by rw [State.pumpSettled, hsup, State.bandTaken, hd]; rfl), hd]; rfl
  · rw [settled ?_]
    · rcases hd with hd | hd <;> rw [hd] <;> rfl
    · rcases hd with hd | hd <;> rw [State.pumpSettled, hsup, State.bandTaken, hd] <;> rfl
  · rw [settled ?_, hd]
    · rfl
    · rw [State.pumpSettled, hsup, State.bandTaken, hd]
      rcases hp with hp | hp <;> simp [hp]
  · obtain ⟨ch, m, hch⟩ := State.holds_of_not_bothFree hheld
    have hstay : e.setBand.retried e.supply.band = e.setBand := if_neg (by rw [hrel]; nofun)
    have hrest : e.setBand.restful m := by
      refine ⟨?_, fun hs => ?_, .inl ?_⟩
      · rw [hw, show Ev.undecided _ = (e.mark .hpu).undecided from rfl, Ev.mark_undecided, hu]; nofun
      · rw [hw, State.valve, hval] at hs ⊢
        exact hone m (by simpa [Valve.pausedTo] using hs)
      · rw [Ev.about, hw, show Ev.reports _ = (e.mark .hpu).reports from rfl, Ev.mark_reports, hr]; rfl
    have hstop : e.setBand.pumpStopped ch m := by
      refine ⟨by rw [hsup, State.bandTaken, hd]; simp [hoff, hheld], by rw [hsup]; exact hd, ?_⟩
      exact State.holds_of_chans (by rw [hw]; exact Ev.mark_chan1 e .hpu) (by rw [hw]; exact Ev.mark_chan2 e .hpu) hch
    rw [hstay] at hcalm' ⊢
    exact (Ev.drain_pumpStopped hcalm' hrest.considerGrants ((Ev.pumpStopped_kept ch m).considerGrants hstop)).1

theorem Ev.bandEvent_dirty (h : e.supply.bandDue ≠ e.supply.band) :
    .hpu ∈ (e.bandEvent.withPort x1 x2 w ro).drain.dirty := by
  obtain ⟨q, hw, -⟩ := Ev.setBand_changed h
  refine Ev.drain_dirty _ ?_
  rw [Ev.bandEvent_changed h]
  exact Ev.retried_dirty _ _ (by rw [hw]; exact Ev.mem_mark e .hpu)

/-- A change into MUST pauses the strokes in TRAVEL (R122). -/
theorem Ev.bandEvent_paused (hr : e.reports = []) (hu : e.undecided = []) (hb : e.supply.band ≠ .must)
    (hd : e.supply.bandDue = .must) (hone : e.oneStroke) (hk : (e.valve m).stroke = some k) :
    ((e.bandEvent.withPort x1 x2 w ro).drain.valve m).stroke = some (k.pauseTo true e.now) := by
  have h : e.supply.bandDue ≠ e.supply.band := by rw [hd]; exact Ne.symm hb
  obtain ⟨q, hw, hval⟩ := Ev.setBand_changed h
  have hcalm : e.setBand.calm e.setBand.ground := Ev.calm_of _ _ rfl (by rw [hw]; exact (Ev.mark_reports e .hpu).trans hr)
  have hv : e.setBand.valve m = { e.valve m with stroke := some (k.pauseTo true e.now) } := by
    rw [hw, State.valve, hval, Valve.pausedTo, hk, hd]; rfl
  have hpend : (e.setBand.valve m).pending = none := by rw [hv]; exact hone m (by rw [hk]; rfl)
  obtain ⟨hv', ha⟩ := Ev.considerGrants_idle hpend
  have hnil : e.setBand.considerGrants.about m = [] := by
    rw [ha, Ev.about, hw, show Ev.reports _ = (e.mark .hpu).reports from rfl, Ev.mark_reports, hr]; rfl
  have hund : m ∉ e.setBand.considerGrants.undecided := by
    rw [(Ev.considerGrants_strokesOnly _).undecided, hw, show Ev.undecided _ = (e.mark .hpu).undecided from rfl,
      Ev.mark_undecided, hu]
    nofun
  have hbar : (e.setBand.considerGrants.withPort x1 x2 w ro).barred m := fun r hr => by
    rw [show ((e.setBand.considerGrants.withPort x1 x2 w ro).valve m).pending = none from
      (congrArg Valve.pending hv').trans hpend] at hr
    cases hr
  have hnil' : (e.setBand.considerGrants.withPort x1 x2 w ro).about m = [] := hnil
  have hend := (Ev.drain_barred ((Ev.considerGrants_calm hcalm).withPort x1 x2 w ro) hbar
    (by rw [hnil']; nofun) hund).1
  rw [Ev.bandEvent_changed h, show e.setBand.retried e.supply.band = e.setBand from if_neg hb, hend]
  exact congrArg Valve.stroke (hv'.trans hv)

end

end Sys2Proof.Machine
end

section
/-! HPU_PROFILE, ACCUMULATOR_SAMPLE and POSITION_SAMPLE (R109 to R111, R122, R123, R127, R128, R130). -/

namespace Sys2Proof.Machine
variable {e e' x y z : Ev} {l m : LineId} {g : Ground} {s u v : State} {k : Stroke} {t : Time} {r : StrokeReq} {b d : Band}

/-! ### HPU_PROFILE -/

theorem State.strokeInProgress_iff : s.strokeInProgress = true ↔ ∃ l, (s.valve l).stroke.isSome = true := by
  simp [State.strokeInProgress, List.any_eq_true, mem_allLines]

/-- What the band worked afresh leaves, in the words of R127 and R128. -/
theorem Ev.bandEvent_leaves (hr : e.reports = []) (hu : e.undecided = []) (x1 x2 : Buffer) (w : List BufId)
    (ro : List ReplySource) (hv : (e.bandEvent.withPort x1 x2 w ro).drain.toState.sameBlocks v)
    (ha : ∀ k ∈ (e.bandEvent.withPort x1 x2 w ro).drain.dirty, v.announced k) :
    v.supply.pressure = e.supply.pressure ∧ v.supply.fault = e.supply.fault ∧ v.supply.profile = e.supply.profile ∧
    v.supply.band = e.supply.bandDue ∧ (e.supply.bandDue ≠ e.supply.band → v.announced .hpu ∧ e.pumpDriven v) ∧
    (e.supply.bandDue = e.supply.band → v.supply = e.supply ∧ v.valves = e.valves) ∧ v.link = e.link ∧ v.grades = e.grades := by
  obtain ⟨h1, h2, h3, h4, h5, h6⟩ := Ev.bandEvent_supply (e := e) x1 x2 w ro
  rw [hv.supply, hv.linkGrades.1, hv.linkGrades.2]
  refine ⟨h1, h2, h3, h4, fun h => ⟨ha _ (Ev.bandEvent_dirty x1 x2 w ro h), ?_⟩, fun h => ?_, h5, h6⟩
  · have hp := Ev.bandEvent_pumpDriven x1 x2 w ro hr hu h
    unfold State.pumpDriven at hp ⊢
    rw [hv.supply]; exact hp
  · have hidle : (e.bandEvent.withPort x1 x2 w ro).drain = e.withPort x1 x2 w ro := by
      rw [Ev.bandEvent_same h]; exact Ev.drain_idle _ hr hu
    rw [hidle] at hv ⊢
    exact ⟨rfl, hv.2.2.2.2.2.2.1⟩

theorem Ev.bandEvent_port (e : Ev) : e.bandEvent.ground.port = e.ground.port := by
  by_cases h : e.supply.bandDue = e.supply.band
  · rw [Ev.bandEvent_same h]
  · obtain ⟨w, hw, -⟩ := Ev.setBand_changed h
    have hset : e.setBand.ground.port = e.ground.port := by
      have hmark := congrArg Ground.port (Ev.mark_ground e .hpu)
      rw [hw]
      exact hmark
    refine Eq.trans ?_ hset
    rw [Ev.bandEvent_changed h, Ev.considerGrants_ground]
    unfold Ev.retried
    split
    · exact congrArg Ground.port (Ev.eachLine_ground _ _ fun l x => Ev.retryWaiting_ground x l)
    · rfl

theorem Ev.bandEvent_alarms (e : Ev) : e.bandEvent.alarms = e.alarms := by
  by_cases h : e.supply.bandDue = e.supply.band
  · rw [Ev.bandEvent_same h]
  · rw [Ev.bandEvent_changed h]
    refine Ev.considerGrants_alarms ?_
    unfold Ev.retried
    split
    · exact Ev.eachLine_alarms _ (fun l x hx => Ev.retryWaiting_alarms l hx) (Ev.setBand_alarms rfl)
    · exact Ev.setBand_alarms rfl

theorem Ev.bandEvent_calm (hr : e.reports = []) : e.bandEvent.calm e.setBand.ground := by
  by_cases h : e.supply.bandDue = e.supply.band
  · rw [Ev.bandEvent_same h, Ev.setBand_same h]; exact Ev.calm_of _ _ rfl hr
  · obtain ⟨w, hw, -⟩ := Ev.setBand_changed h
    rw [Ev.bandEvent_changed h]
    exact Ev.considerGrants_calm (Ev.retried_calm _ (Ev.calm_of _ _ rfl (by rw [hw]; exact (Ev.mark_reports e .hpu).trans hr)))

/-- Settles O32: the refusals in their order; an accepted profile is stored and the band worked afresh from it. -/
theorem hpuProfileReworksTheBand : Obligations.HpuProfileReworksTheBand := by
  intro s t tag h b hb
  have hop : exec (.hpuProfile t tag h) s = event t s (fun e => e.serve tag (.hpuProfile h) (fun x => x.hpuRequest h)) := rfl
  refine ⟨fun hstroke => (answers_unchanged hb hop fun x1 x2 q => ?_).imp fun _ hu => hu.1, fun hidle => ⟨fun i hi =>
    (answers_unchanged hb hop fun x1 x2 q => ?_).imp fun _ hu => hu.1,
    fun hok => answers_of_drain hb hop fun x1 x2 q => ?_⟩⟩
  · exact if_pos (State.strokeInProgress_iff.mpr hstroke)
  · have hno : ¬ (takeEv s t x1 x2 q).strokeInProgress = true := fun hs => by
      obtain ⟨l, hl⟩ := State.strokeInProgress_iff.mp hs
      rw [show (takeEv s t x1 x2 q).valve l = s.valve l from rfl, hidle l] at hl; cases hl
    rw [Ev.hpuRequest, if_neg hno, hi]
    rfl
  · have hno : ¬ (takeEv s t x1 x2 q).strokeInProgress = true := fun hs => by
      obtain ⟨l, hl⟩ := State.strokeInProgress_iff.mp hs
      rw [show (takeEv s t x1 x2 q).valve l = s.valve l from rfl, hidle l] at hl; cases hl
    have he : (takeEv s t x1 x2 q).hpuRequest h =
        (((takeEv s t x1 x2 q).modSupply (fun x => { x with profile := h })).bandEvent).answer .ok := by
      rw [Ev.hpuRequest, if_neg hno, hok]
    generalize hy : (takeEv s t x1 x2 q).modSupply (fun x => { x with profile := h }) = y at he
    have hport := Ev.bandEvent_port y
    refine ⟨y.bandEvent, he, (congrArg PortView.pending hport).trans (by rw [← hy]; rfl), (congrArg PortView.now hport).trans (by rw [← hy]; rfl),
      (congrArg PortView.restart hport).trans (by rw [← hy]; rfl), fun y1 y2 q' ro v hv ha => ?_⟩
    obtain ⟨h1, h2, h3, h4, h5, h6, h7, h8⟩ := Ev.bandEvent_leaves (by rw [← hy]; rfl) (by rw [← hy]; rfl) y1 y2 q' ro hv ha
    have hcauses : v.shut.causes = s.shut.causes := by
      rw [hv.shut, Ev.drain_causes ((Ev.bandEvent_calm (e := y) (by rw [← hy]; rfl)).withPort y1 y2 q' ro)]
      exact (congrArg Prod.fst (Ev.bandEvent_alarms y)).trans (by rw [← hy]; rfl)
    rw [← hy] at h1 h2 h3 h4 h5 h6 h7 h8
    refine ⟨h3, h1, h2, h4, fun hne => h5 (h4 ▸ hne), fun heq => ?_, h7, h8, hcauses⟩
    have hsup := (h6 (h4.symm.trans heq)).1
    rw [hsup]; rfl

end Sys2Proof.Machine
end

section
/-! ACCUMULATOR_SAMPLE and POSITION_SAMPLE (R109 to R111, R122, R123, R127, R128). -/

namespace Sys2Proof.Machine
variable {e e' x y z : Ev} {l m : LineId} {g : Ground} {s u v : State} {k : Stroke} {t : Time} {r : StrokeReq} {b d : Band}
  {i pos : Nat}

/-! ### ACCUMULATOR_SAMPLE -/

theorem Ev.withPort_self (e : Ev) : e.withPort e.buf1 e.buf2 e.waitOrder e.replyOrder = e := rfl

theorem goodCurrent_iff : goodCurrent i = true ↔ 3600 ≤ i ∧ i ≤ 21000 := by
  rw [goodCurrent, Bool.and_eq_true, decide_eq_true_iff, decide_eq_true_iff]; rfl

/-- What an accumulator's sample leaves: `f` writes it into the supply. -/
theorem completes_accumulator (f : Supply → Supply) (hf : ∀ x, (f x).band = x.band ∧ (f x).pump = x.pump)
    (he : (begin t s).accumulatorSample i = ((begin t s).modSupply f).bandEvent) :
    Completes s (.accumulatorSample t i) t (fun v =>
      v.supply.pressure = (f s.supply).pressure ∧ v.supply.fault = (f s.supply).fault ∧
      v.supply.profile = (f s.supply).profile ∧ v.supply.band = (f s.supply).bandDue ∧
      (v.supply.band ≠ s.supply.band → v.announced .hpu ∧ s.pumpDriven v) ∧
      (v.supply.band = s.supply.band → v.supply.pump = s.supply.pump ∧ v.valves = s.valves) ∧
      (s.supply.band ≠ .must → v.supply.band = .must → s.oneStroke → ∀ m k, (s.valve m).stroke = some k →
        (v.valve m).stroke = some (k.pauseTo true t)) ∧
      v.link = s.link ∧ v.grades = s.grades) := by
  generalize hy : (begin t s).modSupply f = y at he
  have hsup : y.supply = f s.supply := by rw [← hy]; rfl
  have hband : y.supply.band = s.supply.band := by rw [hsup]; exact (hf _).1
  have hrep : y.reports = [] := by rw [← hy]; rfl
  have hund : y.undecided = [] := by rw [← hy]; rfl
  have hval : y.valves = s.valves := by rw [← hy]; rfl
  have hnow : y.now = t := by rw [← hy]; rfl
  have hlink : y.link = s.link ∧ y.grades = s.grades := by rw [← hy]; exact ⟨rfl, rfl⟩
  have hdriven (v : State) (h : y.pumpDriven v) : s.pumpDriven v := by
    have hfree : y.bothFree = s.bothFree := by rw [← hy]; rfl
    unfold State.pumpDriven at h ⊢
    rw [hsup, (hf _).1, (hf _).2, hfree, show y.oneStroke = s.oneStroke by
      unfold State.oneStroke State.valve; rw [hval]] at h
    exact h
  have hport := Ev.bandEvent_port y
  refine completes_of_drain (op := fun e => e.accumulatorSample i) y.bandEvent rfl he ((congrArg PortView.pending hport).trans ?_)
    ((congrArg PortView.now hport).trans hnow) fun v hv ha => ?_
  · rw [← hy]; rfl
  rw [← Ev.withPort_self y.bandEvent] at hv ha
  obtain ⟨h1, h2, h3, h4, h5, h6, h7, h8⟩ := Ev.bandEvent_leaves hrep hund _ _ _ _ hv ha
  rw [hsup] at h1 h2 h3
  rw [hband] at h5 h6
  refine ⟨h1, h2, h3, h4.trans (by rw [hsup]), fun hne => ?_, fun heq => ?_, fun hb hm hone m k hk => ?_, h7.trans hlink.1,
    h8.trans hlink.2⟩
  · obtain ⟨hn, hp⟩ := h5 (h4 ▸ hne)
    exact ⟨hn, hdriven v hp⟩
  · obtain ⟨hs, hvs⟩ := h6 (h4.symm.trans heq)
    exact ⟨by rw [hs, hsup]; exact (hf _).2, hvs.trans hval⟩
  · rw [hv.valve, ← hnow]
    exact Ev.bandEvent_paused _ _ _ _ hrep hund (by rw [hband]; exact hb) (h4.symm.trans hm)
      (fun n => by rw [State.valve, hval]; exact hone n) (by rw [State.valve, hval]; exact hk)

/-- A stroke in TRAVEL that a change into MUST pauses (R122). -/
theorem Stroke.pauseTo_travel (hp : k.phase = .travel) (hr : k.paused = false) (t : Time) :
    k.pauseTo true t = { k with used := k.used + elapsed t k.mark, mark := t, paused := true } := by
  rw [Stroke.pauseTo, if_pos ⟨hp, by rw [hr]; nofun⟩, Stroke.usedAt, Stroke.pauseAt, hr]
  rfl

theorem solenoid_paused (hk : (s.valve l).stroke = some k) (hp : k.phase = .travel) (hr : k.paused = true) :
    s.solenoid l = none := by
  rw [State.solenoid, hk]
  dsimp only
  rw [hp]
  exact if_pos hr

theorem accumulatorSample_good (hg : 3600 ≤ i ∧ i ≤ 21000) : Completes s (.accumulatorSample t i) t (fun v =>
    v.supply.pressure = min ((i - 4000) * 25000 / 16000) 25000 ∧ v.supply.fault = false ∧
    v.supply.band = bandOf s.supply.profile (min ((i - 4000) * 25000 / 16000) 25000) ∧
    v.supply.profile = s.supply.profile ∧ (v.supply.band ≠ s.supply.band → v.announced .hpu ∧ s.pumpDriven v) ∧
    (v.supply.band = s.supply.band → v.supply.pump = s.supply.pump ∧ v.valves = s.valves) ∧
    (s.supply.band ≠ .must → v.supply.band = .must → s.oneStroke → ∀ m k, (s.valve m).stroke = some k →
      k.phase = .travel → k.paused = false → v.solenoid m = none ∧
      (v.valve m).stroke = some { k with used := k.used + elapsed t k.mark, mark := t, paused := true }) ∧
    v.link = s.link ∧ v.grades = s.grades) := by
  obtain ⟨u, hu, hn, hq, h1, h2, h3, h4, h5, h6, h7, h8, h9⟩ := completes_accumulator
    (fun x => { x with pressure := scaled 25000 i, fault := false }) (fun _ => ⟨rfl, rfl⟩)
    (if_pos (goodCurrent_iff.mpr hg) : (begin t s).accumulatorSample i = _)
  refine ⟨u, hu, hn, hq, h1, h2, h4, h3, h5, h6, fun hb hm hone m k hk hp hr => ?_, h8, h9⟩
  have hs := h7 hb hm hone m k hk
  rw [Stroke.pauseTo_travel hp hr] at hs
  exact ⟨solenoid_paused hs hp rfl, hs⟩

theorem accumulatorSample_faulted (hg : ¬ (3600 ≤ i ∧ i ≤ 21000)) : Completes s (.accumulatorSample t i) t (fun v =>
    v.supply.pressure = s.supply.pressure ∧ v.supply.fault = true ∧ v.supply.band = .need ∧
    v.supply.profile = s.supply.profile ∧ (s.supply.band ≠ .need → v.announced .hpu ∧ v.supply.pump = true) ∧
    (s.supply.band = .need → v.supply.pump = s.supply.pump ∧ v.valves = s.valves) ∧
    v.link = s.link ∧ v.grades = s.grades) := by
  obtain ⟨u, hu, hn, hq, h1, h2, h3, h4, h5, h6, -, h8, h9⟩ := completes_accumulator
    (fun x => { x with fault := true }) (fun _ => ⟨rfl, rfl⟩)
    (if_neg (fun h => hg (goodCurrent_iff.mp h)) : (begin t s).accumulatorSample i = _)
  have hb : u.supply.band = .need := h4
  refine ⟨u, hu, hn, hq, h1, h2, hb, h3, fun hne => ?_, fun heq => h6 (hb.trans heq.symm), h8, h9⟩
  obtain ⟨hn, hp⟩ := h5 (by rw [hb]; exact Ne.symm hne)
  exact ⟨hn, hp.2.1 (.inl hb)⟩

end Sys2Proof.Machine
end

section
/-! POSITION_SAMPLE (R109 to R111, R123). -/

namespace Sys2Proof.Machine
variable {e e' x y z : Ev} {l m : LineId} {g : Ground} {s u v : State} {k : Stroke} {t : Time} {b : Bool} {i pos : Nat}

/-! ### The valve after a sample -/

/-- The valve with a good sample kept (R109, R110). -/
def Valve.sampled (v : Valve) (pos : Nat) : Valve := { v with sample := some pos, feedbackFault := false }

/-- The valve at the position a usable transmitter gives (R109). -/
def Valve.placed (v : Valve) (pos : Nat) : Valve := { v.sampled pos with position := pos, source := .transmitter }

/-- The valve whose stroke `k` has arrived by that position and taught the learned rate (R111, R123). -/
def Valve.taught (v : Valve) (k : Stroke) (pos : Nat) (t : Time) : Valve :=
  { v.placed pos with
    learnedRate := some (capturedRate (dist pos k.startPos) (k.usedAt t))
    stroke := some { k with phase := .hold, since := t, used := k.usedAt t, pauseUsed := k.pauseAt t, mark := t, paused := false }
    lastOutcome := some (.arrived, t) }

/-- The stroke is one that the sample ends (R123). -/
def State.arrivesAt (s : State) (l : LineId) (k : Stroke) (pos : Nat) : Prop :=
  (intermediate k.req.target && decide (dist pos k.req.target ≤ (s.profile l).arrivalBand)) = true

theorem Ev.setFeedbackFault_eq (e : Ev) (l : LineId) (b : Bool) : ∃ d, e.setFeedbackFault l b =
    { e with valves := e.valves.set l { e.valve l with feedbackFault := b }, dirty := d } := by
  unfold Ev.setFeedbackFault Ev.markIf Ev.mark
  split
  · split
    · exact ⟨_, rfl⟩
    · exact ⟨_, rfl⟩
  · exact ⟨_, rfl⟩

/-- The event of a good sample, the transmitter's use apart. -/
theorem sampleKept (t : Time) (s : State) (l : LineId) (pos : Nat) : ∃ d,
    ((begin t s).modValve l (fun x => { x with sample := some pos })).setFeedbackFault l false =
      { begin t s with valves := s.valves.set l ((s.valve l).sampled pos), dirty := d } := by
  obtain ⟨d, hd⟩ := Ev.setFeedbackFault_eq ((begin t s).modValve l (fun x => { x with sample := some pos })) l false
  refine ⟨d, hd.trans ?_⟩
  simp only [Ev.modValve, State.valve, Quad.get_set_same, Quad.set_set]
  rfl

/-- An event of one valve and of what is noted. -/
def valveEv (t : Time) (s : State) (l : LineId) (w : Valve) (d : List NoticeKey) (rs : List Report) : Ev :=
  { begin t s with valves := s.valves.set l w, dirty := d, reports := rs }

theorem valveEv_valve {w : Valve} {d : List NoticeKey} {rs : List Report} : (valveEv t s l w d rs).valve l = w :=
  Quad.get_set_same _ _ _

theorem Ev.takeSample_unarrived (h : ∀ k, e.strokeIn l .travel = some k → ¬ e.arrivesAt l k pos) :
    e.takeSample l pos = e.modValve l (fun v => { v with position := pos, source := .transmitter }) := by
  unfold Ev.takeSample
  cases hs : e.strokeIn l .travel with
  | none => rfl
  | some k => exact if_neg (h k hs)

theorem Ev.takeSample_arrived (hs : e.strokeIn l .travel = some k) (h : e.arrivesAt l k pos) :
    e.takeSample l pos = ((e.modValve l (fun v => { v with position := pos, source := .transmitter })).modValve l
      (fun v => { v with learnedRate := some (capturedRate (dist pos k.startPos) (k.usedAt e.now)) })).arrive l k k.req.target := by
  unfold Ev.takeSample
  rw [hs]
  exact if_pos h

/-! ### The command -/

theorem positionSample_good (hg : 3600 ≤ i ∧ i ≤ 21000) : Completes s (.positionSample t l i) t (fun v =>
    let pos := scaled 1000 i
    let use := (s.line l).profile.isSome && (s.profile l).feedbackPresent == 1
    (use = false → v.valve l = (s.valve l).sampled pos) ∧
    (use = true → (∀ k, s.strokeIn l .travel = some k → ¬ s.arrivesAt l k pos) → v.valve l = (s.valve l).placed pos) ∧
    (use = true → ∀ k, s.strokeIn l .travel = some k → s.arrivesAt l k pos → v.valve l = (s.valve l).taught k pos t) ∧
    v.link = s.link ∧ v.grades = s.grades) := by
  obtain ⟨d, hd⟩ := sampleKept t s l (scaled 1000 i)
  have he : (begin t s).positionSample l i =
      if (s.line l).profile.isSome && (s.profile l).feedbackPresent == 1 then
        (valveEv t s l ((s.valve l).sampled (scaled 1000 i)) d []).takeSample l (scaled 1000 i)
      else valveEv t s l ((s.valve l).sampled (scaled 1000 i)) d [] := by
    refine (if_pos (goodCurrent_iff.mpr hg)).trans ?_
    dsimp only
    rw [hd]
    change (if State.usable (valveEv t s l ((s.valve l).sampled (scaled 1000 i)) d []).toState l = true then _ else _) = _
    rw [State.usable, valveEv_valve, show ((s.valve l).sampled (scaled 1000 i)).feedbackFault = false from rfl, Bool.not_false,
      Bool.and_true]
    rfl
  dsimp only
  cases huse : (s.line l).profile.isSome && (s.profile l).feedbackPresent == 1 with
  | false =>
    rw [huse] at he
    refine completes_of_effect (op := fun e => e.positionSample l i) (valveEv t s l ((s.valve l).sampled (scaled 1000 i)) d [])
      rfl he rfl rfl rfl rfl fun v hv => ⟨fun _ => ?_, nofun, nofun, hv.linkGrades.1, hv.linkGrades.2⟩
    rw [hv.valve]; exact valveEv_valve
  | true =>
    rw [huse] at he
    have hin : (valveEv t s l ((s.valve l).sampled (scaled 1000 i)) d []).strokeIn l .travel = s.strokeIn l .travel := by
      rw [State.strokeIn, valveEv_valve]; rfl
    by_cases harr : ∃ k, s.strokeIn l .travel = some k ∧ s.arrivesAt l k (scaled 1000 i)
    · obtain ⟨k, hk, ha⟩ := harr
      have heff : (begin t s).positionSample l i =
          valveEv t s l ((s.valve l).taught k (scaled 1000 i) t) d [.arrived l k.req.cls k.req.target] := by
        refine he.trans ((if_pos rfl).trans ((Ev.takeSample_arrived (hin.trans hk) ha).trans ?_))
        simp only [Ev.arrive, Ev.report, Ev.modValve, valveEv, Quad.set_set, Quad.get_set_same]
        rfl
      generalize hy : valveEv t s l ((s.valve l).taught k (scaled 1000 i) t) d [.arrived l k.req.cls k.req.target] = y at heff
      have hval : y.valve l = (s.valve l).taught k (scaled 1000 i) t := by rw [← hy]; exact valveEv_valve
      have hlink : y.link = s.link ∧ y.grades = s.grades := by rw [← hy]; exact ⟨rfl, rfl⟩
      have hbooks := Ev.handleReport_arrived_booksOnly { y with reports := [] } l k.req.cls k.req.target
      rw [← Ev.drain_arrived (e := y) (by rw [← hy]; rfl) (by rw [← hy]; rfl)] at hbooks
      refine completes_of_drain (op := fun e => e.positionSample l i) y rfl heff (by rw [← hy]; rfl) (by rw [← hy]; rfl)
        fun v hv _ => ⟨nofun, fun _ hno => absurd ha (hno k hk), fun _ k' hk' _ => ?_, ?_, ?_⟩
      · cases hk.symm.trans hk'
        rw [hv.valve, hbooks.valve]; exact hval
      · rw [hv.linkGrades.1, link_of_ground (Ev.drain_ground y)]; exact hlink.1
      · rw [hv.linkGrades.2, grades_of_ground (Ev.drain_ground y)]; exact hlink.2
    · have hno : ∀ k, s.strokeIn l .travel = some k → ¬ s.arrivesAt l k (scaled 1000 i) := fun k hk ha => harr ⟨k, hk, ha⟩
      have heff : (begin t s).positionSample l i = valveEv t s l ((s.valve l).placed (scaled 1000 i)) d [] := by
        refine he.trans ((if_pos rfl).trans ((Ev.takeSample_unarrived fun k hk => hno k (hin.symm.trans hk)).trans ?_))
        simp only [Ev.modValve, valveEv, Quad.set_set, Quad.get_set_same]
        rfl
      refine completes_of_effect (op := fun e => e.positionSample l i) (valveEv t s l ((s.valve l).placed (scaled 1000 i)) d [])
        rfl heff rfl rfl rfl rfl fun v hv => ⟨nofun, fun _ _ => ?_, fun _ k hk ha => absurd ha (hno k hk), hv.linkGrades.1,
          hv.linkGrades.2⟩
      rw [hv.valve]; exact valveEv_valve

theorem positionSample_faulted (hg : ¬ (3600 ≤ i ∧ i ≤ 21000)) : Completes s (.positionSample t l i) t (fun v =>
    v.valve l = { s.valve l with feedbackFault := true } ∧ (∀ m, m ≠ l → v.valve m = s.valve m) ∧
    v.lines = s.lines ∧ v.flows = s.flows ∧ v.tanks = s.tanks ∧ v.link = s.link ∧ v.shut = s.shut) := by
  obtain ⟨d, hd⟩ := Ev.setFeedbackFault_eq (begin t s) l true
  have he : (begin t s).positionSample l i = valveEv t s l { s.valve l with feedbackFault := true } d [] :=
    (if_neg fun h => hg (goodCurrent_iff.mp h)).trans hd
  refine completes_of_effect (op := fun e => e.positionSample l i) (valveEv t s l { s.valve l with feedbackFault := true } d [])
    rfl he rfl rfl rfl rfl fun v hv => ⟨?_, fun m hm => ?_, hv.1, hv.2.2.2.2.2.1, hv.2.2.1, hv.linkGrades.1, hv.shut⟩
  · rw [hv.valve]; exact valveEv_valve
  · rw [hv.valve]; exact Quad.get_set_ne _ _ hm

/-! ### In the claim's words -/

theorem State.use_iff (s : State) (l : LineId) : ((s.line l).profile.isSome && (s.profile l).feedbackPresent == 1) = true ↔
    (s.line l).profile.map (fun p => p.feedbackPresent) = some 1 := by
  rw [State.profile]
  cases (s.line l).profile with
  | none => simp
  | some p => simp

theorem dist_le_iff (a b n : Nat) : dist a b ≤ n ↔ a ≤ b + n ∧ b ≤ a + n := by
  rw [dist]; omega

theorem dist_eq_max_sub_min (a b : Nat) : dist a b = max a b - min a b := by
  rw [dist]; omega

theorem State.arrivesAt_iff (h0 : 0 < k.req.target) (h1 : k.req.target < 1000) : s.arrivesAt l k pos ↔
    pos ≤ k.req.target + (s.profile l).arrivalBand ∧ k.req.target ≤ pos + (s.profile l).arrivalBand := by
  rw [State.arrivesAt, Bool.and_eq_true, decide_eq_true_iff, dist_le_iff, and_iff_right]
  simp [intermediate]
  omega

theorem capturedRate_eq (a b n : Nat) : capturedRate (dist a b) n =
    if n = 0 then 500 else min 500 (max 5 ((max a b - min a b) * 1000 / n)) := by
  rw [capturedRate, dist_eq_max_sub_min, max_comm, min_comm]; rfl

/-- Settles O50: the two 4 to 20 mA inputs, good and faulted. -/
theorem positionAndAccumulatorSamples : Obligations.PositionAndAccumulatorSamples := by
  intro s t l i
  refine ⟨fun h1 h2 => ⟨?_, accumulatorSample_good ⟨h1, h2⟩⟩, fun hg => ⟨positionSample_faulted hg, accumulatorSample_faulted hg⟩⟩
  obtain ⟨u, hu, hn, hq, hout, hplaced, htaught, hlink, hgrades⟩ := positionSample_good (s := s) (t := t) (l := l) ⟨h1, h2⟩
  have huse := s.use_iff l
  refine ⟨u, hu, hn, hq, ?_⟩
  dsimp only
  by_cases hyes : (s.line l).profile.map (fun p => p.feedbackPresent) = some 1
  · have hyes' := huse.mpr hyes
    by_cases harr : ∃ k, s.strokeIn l .travel = some k ∧ s.arrivesAt l k (scaled 1000 i)
    · obtain ⟨k, hk, ha⟩ := harr
      have hv := htaught hyes' k hk ha
      rw [hv]
      refine ⟨rfl, rfl, fun _ => ⟨rfl, rfl⟩, fun h => absurd hyes h, fun p k' hp _ hk' hph h0 h1 => ?_, rfl, hlink, hgrades⟩
      have hprof : s.profile l = p := by rw [State.profile, hp]; rfl
      cases hk.symm.trans (State.strokeIn_eq hk' hph)
      rw [State.arrivesAt_iff h0 h1, hprof] at ha
      rw [← capturedRate_eq]
      exact (if_pos ha).mpr ⟨rfl, rfl, rfl⟩
    · have hv := hplaced hyes' fun k hk ha => harr ⟨k, hk, ha⟩
      rw [hv]
      refine ⟨rfl, rfl, fun _ => ⟨rfl, rfl⟩, fun h => absurd hyes h, fun p k' hp _ hk' hph h0 h1 => ?_, rfl, hlink, hgrades⟩
      have hprof : s.profile l = p := by rw [State.profile, hp]; rfl
      have ha : ¬ s.arrivesAt l k' (scaled 1000 i) := fun ha => harr ⟨k', State.strokeIn_eq hk' hph, ha⟩
      rw [State.arrivesAt_iff h0 h1, hprof] at ha
      exact (if_neg ha).mpr ⟨rfl, hk', rfl⟩
  · have hv := hout (eq_false_of_ne_true fun h => hyes (huse.mp h))
    rw [hv]
    refine ⟨rfl, rfl, fun h => absurd h hyes, fun _ => ⟨rfl, rfl⟩, fun p k hp hf => ?_, rfl, hlink, hgrades⟩
    exact absurd (by rw [hp, ← hf]; rfl) hyes

end Sys2Proof.Machine
end

section
/-! A line entering STARTING: its permit, its OPEN request, the end of the event (R6, R8, R113, R118, R174). -/

namespace Sys2Proof.Machine
variable {e e' x y z : Ev} {l m : LineId} {g : Ground} {s u v : State} {c : Instr} {t : Time} {r : StrokeReq} {p q : PumpId}
  {k : TankId}

/-! ### A flowing line's permit -/

/-- With the latch clear, the permit of pump `p` is asserted while line `l` on it flows: one half of R174, for one line. -/
def State.permitGiven (s : State) (l : LineId) (p : PumpId) : Prop :=
  s.latch = false → s.flowing l = true → s.pumpOfLine l = some p → s.shut.permit p = true

theorem State.permitDue_of_flowing (hf : s.flowing l = true) (hp : s.pumpOfLine l = some p) (hl : s.latch = false) :
    s.permitDue p = true := by
  rw [State.permitDue, hl, State.pumpFlowing]
  simp only [Bool.not_false, Bool.true_and, List.any_eq_true]
  exact ⟨l, mem_allLines l, by simp [hf, hp]⟩

theorem State.permitGiven_congr {x y : State} (hf : y.flowing l = x.flowing l) (hp : (y.line l).profile = (x.line l).profile)
    (hs : y.shut.permit p = x.shut.permit p) (hc : y.shut.causes = x.shut.causes) (h : x.permitGiven l p) : y.permitGiven l p := by
  intro hlatch hflow hpump
  rw [hs]
  exact h (by rw [← State.latch_of_causes hc]; exact hlatch) (hf.symm.trans hflow)
    (by rw [← State.pumpOfLine_congr hp]; exact hpump)

/-- An evaluation of the permit itself. -/
theorem Ev.evalPermit_given (e : Ev) (l : LineId) (p : PumpId) : (e.evalPermit p).permitGiven l p := by
  intro hl hf hp
  have hlines := Ev.evalPermit_lines e p
  rw [State.latch_of_causes (x := e.toState) (by rw [Ev.evalPermit_shut, Shutdown.setPermit_causes])] at hl
  rw [State.flowing_congr hlines] at hf
  rw [State.pumpOfLine_congr (x := e.toState) (by rw [State.line, hlines]; rfl)] at hp
  rw [Ev.evalPermit_permit, if_pos rfl]
  exact State.permitDue_of_flowing hf hp hl

theorem Ev.evalPermit_permitGiven (h : e.permitGiven l p) (q : PumpId) : (e.evalPermit q).permitGiven l p := by
  by_cases hq : p = q
  · subst hq; exact Ev.evalPermit_given e l p
  · have hlines := Ev.evalPermit_lines e q
    refine State.permitGiven_congr (x := e.toState) (State.flowing_congr hlines) (by rw [State.line, hlines]; rfl) ?_ ?_ h
    · rw [Ev.evalPermit_permit, if_neg hq]
    · rw [Ev.evalPermit_shut, Shutdown.setPermit_causes]

theorem Ev.setState_permitGiven (h : e.permitGiven l p) (n : LineId) (st : LineState) : (e.setState n st).permitGiven l p := by
  let e1 := (e.modLine n (fun x => { x with state := st })).mark (.line n)
  have hshut : e1.shut = e.shut := by simp [e1]
  have hprof (m : LineId) : (e1.line m).profile = (e.line m).profile := by
    simp only [e1, State.line, Ev.mark_lines, Ev.modLine_lines, Quad.get_set]; split <;> simp_all
  change (e1.evalPermitOf n).permitGiven l p
  by_cases hn : l = n
  · subst hn
    unfold Ev.evalPermitOf
    split
    · next q hq =>
      by_cases hpq : p = q
      · subst hpq; exact Ev.evalPermit_given e1 l p
      · refine Ev.evalPermit_permitGiven (fun _ _ h => ?_) q
        rw [hq] at h
        exact absurd (Option.some.inj h).symm hpq
    · next hq => exact fun _ _ h => by rw [hq] at h; cases h
  · have h1 : e1.permitGiven l p := by
      refine State.permitGiven_congr (x := e.toState) ?_ (hprof l) (by rw [hshut]) (by rw [hshut]) h
      simp [e1, State.flowing, State.line, Quad.get_set, hn]
    unfold Ev.evalPermitOf
    split
    · exact Ev.evalPermit_permitGiven h1 _
    · exact h1

/-- Every piece of work keeps it, the storing of a profile and ESD_RESET apart. -/
theorem Work.keeps_permitGiven (h : Work (.holdEnd t l) s false e e') (hs : e.permitGiven m p) : e'.permitGiven m p := by
  have same (hl : e'.lines = e.lines) (hp : e'.shut.permit p = e.shut.permit p) (hc : e'.shut.causes = e.shut.causes) :
      e'.permitGiven m p :=
    State.permitGiven_congr (State.flowing_congr hl) (by rw [State.line, State.line, hl]) hp hc hs
  cases h with
  | tend hcore =>
    refine State.permitGiven_congr ?_ (congrFun (congrArg Core.profiles hcore) m)
      (congrArg (fun x : Core => x.shut.permit p) hcore) (congrArg (fun x : Core => x.shut.causes) hcore) hs
    exact congrArg LineState.flowing (congrFun (congrArg Core.states hcore) m)
  | setState n st => exact Ev.setState_permitGiven hs n st
  | closing n f fine hf =>
    by_cases hm : m = n
    · subst hm
      intro _ hflow
      simp [State.flowing, State.line, (hf _).1, LineState.flowing] at hflow
    · refine State.permitGiven_congr (x := e.toState) ?_ ?_ (by simp) (by simp) hs
      · simp [State.flowing, State.line, Quad.get_set, hm]
      · simp [State.line, Quad.get_set, hm]
  | permit q fine => exact Ev.evalPermit_permitGiven hs q
  | cause x fine hnew =>
    intro hlatch
    have hset : ((e.shut.causes.add x e.now).get x).isSome = true := by rw [CauseSet.get_add, if_pos rfl]; rfl
    have := CauseSet.latch_of_get (y := (e.modShut (fun y => { y with causes := y.causes.add x e.now })).toState) hset
    rw [hlatch] at this; cases this
  | closeEntry n r hold cause coarse => cases coarse
  | raise x coarse => cases coarse
  | reset hc => obtain ⟨t, tag, hc⟩ := hc; cases hc
  | trip n r =>
    refine State.permitGiven_congr (x := e.toState) ?_ ?_ rfl rfl hs
    · simp only [State.flowing, State.line, Ev.modLine_lines, Quad.get_set]; split <;> simp_all
    · simp only [State.line, Ev.modLine_lines, Quad.get_set]; split <;> simp_all
  | profile n q hc => obtain ⟨t, tag, n, q, hc, -⟩ := hc; cases hc
  | release n => exact same rfl rfl rfl
  | emptyQueue => exact same rfl rfl rfl
  | listValve n => exact same rfl (by cases p <;> rfl) rfl
  | shipRun n => exact same rfl (by cases p <;> rfl) rfl
  | loop st => exact same rfl (by cases p <;> rfl) rfl
  | _ => exact same (by simp) (by simp) (by simp)

theorem Ev.drain_permitGiven (h : e.permitGiven l p) : e.drain.permitGiven l p :=
  (Ev.drain_works (c := .holdEnd 0 l) (s := e.toState) (whole := false) (Works.refl e)).keeps
    (P := fun y => y.permitGiven l p) (fun _ _ hx hxy => hxy.keeps_permitGiven hx) h

end Sys2Proof.Machine
end

section
/-! A line entering STARTING: its record, its OPEN request, the end of the event (R6, R8, R27, R94, R113, R118). -/

namespace Sys2Proof.Machine
variable {e e' x y y' z : Ev} {l m : LineId} {g : Ground} {s u v : State} {c : Instr} {t : Time} {r : StrokeReq} {p : PumpId}
  {k n : TankId}

/-! ### Entry to STARTING -/

/-- The line's record in STARTING, its front tank `k` (R6, R27). -/
def LineRec.started (x : LineRec) (k : TankId) (pos : Nat) : LineRec :=
  { x with
    fedSet := if x.fedSet.contains k then x.fedSet else x.fedSet ++ [k]
    surgeLimited := false, late := false, throttle := pos, holdReason := none, baseline := none, state := .starting }

/-- The line's flow record in STARTING (R94, R99, R101). -/
def Flow.started (x : Flow) (meterK : Nat) : Flow :=
  { x with rateCount := 0, pressCount := 0, watchActive := none, watchIncoming := none, meterFactor := some meterK }

/-- The event at entry to STARTING, before the stroke is asked for. -/
def Ev.startSet (e : Ev) (l : LineId) : Ev :=
  let e1 := match (e.list l).head? with
    | some k => (e.setUse k .active).modLine l (fun x =>
        { x with fedSet := if x.fedSet.contains k then x.fedSet else x.fedSet ++ [k] })
    | none => e
  let e2 := ((e1.setSurge l false).setLate l false).modFlow l (fun x =>
    { x with rateCount := 0, pressCount := 0, watchActive := none, watchIncoming := none,
             meterFactor := some (e.profile l).meterK })
  (e2.modLine l (fun x => { x with throttle := (e.profile l).startPos, holdReason := none, baseline := none })).setState l .starting

theorem Ev.enterStarting_eq (e : Ev) (l : LineId) :
    e.enterStarting l = (e.startSet l).requestStroke l .opening (e.profile l).startPos false := rfl

theorem Ev.markIf_dirty (e : Ev) (b : Bool) (n : NoticeKey) : ∃ d, e.markIf b n = { e with dirty := d } := by
  unfold Ev.markIf Ev.mark
  split
  · split
    · exact ⟨_, rfl⟩
    · exact ⟨_, rfl⟩
  · exact ⟨_, rfl⟩

theorem Ev.setSurge_writes (e : Ev) (l : LineId) (b : Bool) :
    ∃ d, e.setSurge l b = { e.modLine l (fun x => { x with surgeLimited := b }) with dirty := d } := Ev.markIf_dirty _ _ _

theorem Ev.setLate_writes (e : Ev) (l : LineId) (b : Bool) :
    ∃ d, e.setLate l b = { e.modLine l (fun x => { x with late := b }) with dirty := d } := Ev.markIf_dirty _ _ _

theorem Ev.startSet_writes (h : (e.list l).head? = some k) : ∃ sh d, e.startSet l = { e with
    shut := sh, dirty := d,
    tanks := e.tanks.set k { e.tank k with use := .active },
    lines := e.lines.set l ((e.line l).started k (e.profile l).startPos),
    flows := e.flows.set l ((e.flow l).started (e.profile l).meterK) } ∧ sh.causes = e.shut.causes := by
  unfold Ev.startSet
  rw [h]
  dsimp only
  obtain ⟨d1, h1⟩ := Ev.setUse_writes e k .active
  rw [h1]
  obtain ⟨d2, h2⟩ := Ev.setSurge_writes (Ev.modLine { e.modTank k (fun x => { x with use := .active }) with dirty := d1 } l
    (fun x => { x with fedSet := if x.fedSet.contains k then x.fedSet else x.fedSet ++ [k] })) l false
  rw [h2]
  generalize hy : ({ Ev.modLine (Ev.modLine { e.modTank k (fun x => { x with use := .active }) with dirty := d1 } l
    (fun x => { x with fedSet := if x.fedSet.contains k then x.fedSet else x.fedSet ++ [k] })) l
      (fun x => { x with surgeLimited := false }) with dirty := d2 } : Ev) = y
  obtain ⟨d3, h3⟩ := Ev.setLate_writes y l false
  rw [h3]
  obtain ⟨sh, d4, h4, hc⟩ := Ev.setState_writes (Ev.modLine (Ev.modFlow { y.modLine l (fun x => { x with late := false }) with dirty := d3 } l
    (fun x => { x with rateCount := 0, pressCount := 0, watchActive := none, watchIncoming := none,
                       meterFactor := some (e.profile l).meterK })) l
    (fun x => { x with throttle := (e.profile l).startPos, holdReason := none, baseline := none })) l .starting
  refine ⟨sh, d4, h4.trans ?_, hc.trans (by rw [← hy]; rfl)⟩
  rw [← hy]
  simp only [Ev.modLine, Ev.modFlow, Ev.modTank, Quad.get_set_same, Quad.set_set, LineRec.started, Flow.started, State.line,
    State.flow, State.tank]
  rfl

/-! ### The OPEN request, to the end of the event -/

/-- The line's records as its arrival at start_pos leaves them: in PROVING (R8, R9, R101). -/
def State.provedTo (z : State) (l : LineId) (y : State) : Prop :=
  ∃ b w, y.lane l = ({ z.line l with baseline := some b, provingStart := some z.now, state := .proving }, z.list l, z.pred l,
    z.close l, { z.flow l with watchActive := some w })

/-- The line waits for its OPEN request `r`, or has entered PROVING by its arrival at once. -/
def Ev.opens (z : Ev) (l : LineId) (r : StrokeReq) (y : Ev) : Prop :=
  y.lane l = z.lane l ∧ z.Serves y l ∨
    z.atTarget l r = true ∧ z.provedTo l y.toState ∧ (y.valve l).pending = none ∧
      (y.valve l).lastOutcome = some (.arrivedAtOnce, z.now) ∧
      (y.about l = [.ended l .opening] ∨ y.about l = [])

theorem Ev.enterProving_provedTo (e : Ev) (l : LineId) : ∃ b w, (e.enterProving l).lane l =
    ({ e.line l with baseline := some b, provingStart := some e.now, state := .proving }, e.list l, e.pred l, e.close l,
      { e.flow l with watchActive := some w }) := by
  let b : Baseline :=
    { level := ((e.activeTank l).bind (fun k => (e.tank k).latest)).map (fun h => h.level), litres := (e.line l).delivered }
  let w : Watch := { base := b.level, peak := b.level, peakTime := e.now }
  obtain ⟨sh, d, h, -⟩ := Ev.setState_writes ((e.modLine l (fun x => { x with
    baseline := some { level := b.level, litres := x.delivered }, provingStart := some e.now })).modFlow l
      (fun x => { x with watchActive := some w })) l .proving
  refine ⟨b, w, ?_⟩
  rw [show e.enterProving l = _ from h]
  simp [State.lane, State.line, State.list, State.pred, State.close, State.flow, b]

theorem Ev.opens.aside (h : z.opens l r y) (hnow : y.now = z.now) (ha : y.Aside y' l) : z.opens l r y' := by
  rcases h with ⟨hl, hs⟩ | ⟨hat, ⟨b, w, hl⟩, hp, ho, hr⟩
  · exact .inl ⟨ha.lane.trans hl, hs.grant ha.grant hnow (congrArg (fun q : Lane => q.1.profile) hl)⟩
  · obtain ⟨hv, habout⟩ := ha.grant.idle hp
    exact .inr ⟨hat, ⟨b, w, ha.lane.trans hl⟩, by rw [hv]; exact hp, by rw [hv]; exact ho, by rw [habout]; exact hr⟩

theorem Ev.opens.report {q : Report} (hq : q.line = l) (hp : (z.valve l).pending = some r) (hcls : r.cls = .opening)
    (hs : (z.line l).state = .starting) (hnow : y.now = z.now) (h : z.opens l r { y with reports := q :: y.reports }) :
    z.opens l r (y.handleReport q) ∧ (y.handleReport q).undecided = y.undecided := by
  rcases h with ⟨hl, hserve⟩ | ⟨hat, hproved, hpend, ho, hr⟩
  · have hl : y.lane l = z.lane l := hl
    have hserves := hserve
    cases hserve with
    | waiting _ hr => rw [Ev.about_cons hq] at hr; cases hr
    | started _ _ _ _ _ hr => rw [Ev.about_cons hq] at hr; cases hr
    | atOnce r' hp' hat hv hr =>
      cases hp.symm.trans hp'
      rw [Ev.about_cons hq, hcls] at hr
      have hv : y.valve l = _ := hv
      rcases hr with hr | hr | hr
      · obtain ⟨rfl, htail⟩ := List.cons.inj hr
        have hst : (y.line l).state = .starting := by rw [show y.line l = z.line l from congrArg Prod.fst hl]; exact hs
        have hop : y.handleReport (.arrived l .opening r.target) = y.enterProving l := if_pos hst
        have hbooks := Ev.enterProving_booksOnly y l
        rw [hop]
        refine ⟨.inr ⟨hat, ?_, by rw [hbooks.valve, hv], by rw [hbooks.valve, hv], .inl ?_⟩, hbooks.undecided⟩
        · obtain ⟨b, w, hw⟩ := Ev.enterProving_provedTo y l
          refine ⟨b, w, hw.trans ?_⟩
          rw [show y.line l = z.line l from congrArg Prod.fst hl, show y.list l = z.list l from congrArg (fun q : Lane => q.2.1) hl,
            show y.pred l = z.pred l from congrArg (fun q : Lane => q.2.2.1) hl,
            show y.close l = z.close l from congrArg (fun q : Lane => q.2.2.2.1) hl,
            show y.flow l = z.flow l from congrArg (fun q : Lane => q.2.2.2.2) hl, hnow]
        · rw [Ev.about_congr hbooks.reports]; exact htail
      · obtain ⟨rfl, htail⟩ := List.cons.inj hr
        exact ⟨.inl ⟨hl, hserves.own rfl (.refl y)⟩, rfl⟩
      · cases hr
  · rw [Ev.about_cons hq] at hr
    rcases hr with hr | hr
    · obtain ⟨rfl, htail⟩ := List.cons.inj hr
      exact ⟨.inr ⟨hat, hproved, hpend, ho, .inr htail⟩, rfl⟩
    · cases hr

/-- An OPEN request of a line in STARTING, to the end of its event. -/
theorem Ev.drain_opens (hc : e.calm g) (hp : (z.valve l).pending = some r) (hcls : r.cls = .opening)
    (hs : (z.line l).state = .starting) (hu : l ∉ e.undecided) (hnow : e.now = z.now) (h : z.opens l r e) : z.opens l r e.drain := by
  have at' {y : Ev} (hy : y.calm g) : y.now = z.now :=
    (congrArg (fun g : Ground => g.port.now) (hy.1.trans hc.1.symm)).trans hnow
  exact (Ev.drain_line_induction (P := fun y => l ∉ y.undecided ∧ z.opens l r y) l
    (fun x y hx hxy hP => ⟨fun hm => hP.1 (hxy.undecided.mp hm), hP.2.aside (at' hx) hxy⟩)
    (fun y q hy _ hq hP => by
      obtain ⟨hopens, hund⟩ := hP.2.report hq hp hcls hs (at' hy)
      exact ⟨by rw [hund]; exact hP.1, hopens⟩)
    (fun y _ _ hP => absurd List.mem_cons_self hP.1) hc ⟨hu, h⟩).2

end Sys2Proof.Machine
end

section
/-! The OPEN request of STARTING, whatever its valve does (R113, R115, R118). -/

namespace Sys2Proof.Machine
variable {e e' x y z w : Ev} {l m : LineId} {g : Ground} {s u v : State} {c : Instr} {t : Time} {r : StrokeReq} {p : PumpId}
  {k n : TankId}

/-- What a stroke in progress does with an OPEN request: a CLOSE goes on, any other takes it as its follow-on (R113, R115). -/
theorem Ev.requestStroke_busy {j : Stroke} (hj : (w.valve l).stroke = some j) (pos : Nat) :
    ∃ v, w.requestStroke l .opening pos false = { w with valves := v } ∧ (v.get l).stroke = some j ∧
      (j.req.cls ≠ .close → (v.get l).followOn = some (w.requestOf l .opening pos false)) := by
  unfold Ev.requestStroke
  dsimp only
  rw [hj]
  dsimp only
  by_cases hcls : j.req.cls = .close
  · rw [if_pos hcls]
    exact ⟨w.valves, rfl, hj, fun h => absurd hcls h⟩
  · rw [if_neg hcls, if_neg nofun]
    refine ⟨_, rfl, ?_, fun _ => ?_⟩
    · rw [Quad.get_set_same]; exact hj
    · rw [Quad.get_set_same]; rfl

/-- An OPEN request of a valve without a stroke: refused behind a waiting CLOSE, else put into the queue (R113). -/
theorem Ev.requestStroke_free (hj : (w.valve l).stroke = none) (pos : Nat) :
    w.requestStroke l .opening pos false = w ∧ (∃ q, (w.valve l).pending = some q ∧ q.cls = .close) ∨
      w.requestStroke l .opening pos false = w.enqueue l (w.requestOf l .opening pos false) := by
  unfold Ev.requestStroke
  dsimp only
  rw [hj]
  cases hp : (w.valve l).pending with
  | none => exact .inr rfl
  | some q =>
    dsimp only
    by_cases hq : q.cls = .close
    · exact .inl ⟨if_pos ⟨hq, nofun⟩, q, rfl, hq⟩
    · exact .inr (if_neg fun h => hq h.1)

theorem State.provedTo.of_lane {w z y : State} (h : z.provedTo l y) (hl : z.lane l = w.lane l) (hn : z.now = w.now) :
    w.provedTo l y := by
  rw [State.provedTo, show z.line l = w.line l from congrArg Prod.fst hl, show z.list l = w.list l from congrArg (fun q : Lane => q.2.1) hl,
    show z.pred l = w.pred l from congrArg (fun q : Lane => q.2.2.1) hl,
    show z.close l = w.close l from congrArg (fun q : Lane => q.2.2.2.1) hl,
    show z.flow l = w.flow l from congrArg (fun q : Lane => q.2.2.2.2) hl, hn] at h
  exact h

/-- The request of line `l`, made in `w`, to the end of the event. -/
def State.openStands (w : State) (l : LineId) (r : StrokeReq) (y : State) : Prop :=
  (y.lane l = w.lane l ∨ w.atTarget l r = true ∧ w.provedTo l y) ∧
  (∀ j, (w.valve l).stroke = some j → (y.valve l).stroke = some j ∧ (j.req.cls ≠ .close → (y.valve l).followOn = some r)) ∧
  ((w.valve l).stroke = none → w.atTarget l r = false → (∀ q, (w.valve l).pending = some q → q.cls ≠ .close) →
    (y.valve l).pending = some r ∨ ∃ j, (y.valve l).stroke = some j ∧ j.req = r)

theorem Ev.opening_drain (hc : w.calm g) (hs : (w.line l).state = .starting) (hrep : w.reports = []) (hu : w.undecided = [])
    (pos : Nat) (x1 x2 : Buffer) (wo : List BufId) (ro : List ReplySource) :
    w.openStands l (w.requestOf l .opening pos false) ((w.requestStroke l .opening pos false).withPort x1 x2 wo ro).drain.toState := by
  cases hj : (w.valve l).stroke with
  | some j =>
    obtain ⟨v, hv, hstroke, hfollow⟩ := Ev.requestStroke_busy hj pos
    rw [hv, Ev.drain_idle (Ev.withPort { w with valves := v } x1 x2 wo ro) hrep hu]
    refine ⟨.inl rfl, fun j' hj' => ?_, fun h => by rw [hj] at h; cases h⟩
    cases hj.symm.trans hj'
    exact ⟨hstroke, hfollow⟩
  | none =>
    rcases Ev.requestStroke_free hj pos with ⟨hsame, q, hq, hcls⟩ | hask
    · rw [hsame, Ev.drain_idle (w.withPort x1 x2 wo ro) hrep hu]
      exact ⟨.inl rfl, fun j h => (by rw [hj] at h; cases h), fun _ _ h => absurd hcls (h q hq)⟩
    · rw [hask]
      have hval := Ev.asked_valve w l (w.requestOf l .opening pos false)
      have hask' := Ev.asked_strokesOnly w l (w.requestOf l .opening pos false)
      have hcalm := Ev.modValve_calm l (fun v => { v with pending := some (w.requestOf l .opening pos false) }) (fun _ => rfl) hc
      have habout : (w.asked l (w.requestOf l .opening pos false)).about l = [] := by
        rw [Ev.about, show (w.asked l (w.requestOf l .opening pos false)).reports = w.reports from rfl, hrep]; rfl
      change w.openStands l _ (((w.asked l (w.requestOf l .opening pos false)).considerGrants).withPort x1 x2 wo ro).drain.toState
      have hat : (w.asked l (w.requestOf l .opening pos false)).atTarget l (w.requestOf l .opening pos false) =
          w.atTarget l (w.requestOf l .opening pos false) := State.atTarget_of ⟨_, _, _, hval⟩ (hask'.profile l) _
      have hcalm : (w.asked l (w.requestOf l .opening pos false)).calm g := hcalm
      have hcls : (w.requestOf l .opening pos false).cls = .opening := rfl
      generalize w.requestOf l .opening pos false = r at *
      generalize w.asked l r = z at *
      have hgrants := Ev.considerGrants_strokesOnly z
      have hund : l ∉ z.considerGrants.undecided := by rw [hgrants.undecided, hask'.undecided, hu]; nofun
      have hserves : z.Serves (z.considerGrants.withPort x1 x2 wo ro) l :=
        ((Ev.Serves.waiting (e := z) rfl habout).grant (Ev.considerGrants_valveGrant z l) rfl rfl).congr rfl rfl
      have hend := Ev.drain_opens (r := r) ((Ev.considerGrants_calm hcalm).withPort x1 x2 wo ro) (by rw [hval]) hcls
        (by rw [hask'.line]; exact hs) hund hgrants.now (.inl ⟨hgrants.lane l, hserves⟩)
      have hp : (z.valve l).pending = some r := by rw [hval]
      have busy {P : Prop} (j : Stroke) (h : (w.valve l).stroke = some j) : P := by rw [hj] at h; cases h
      rcases hend with ⟨hl, hend⟩ | ⟨hat', hproved, -⟩
      · refine ⟨.inl (hl.trans (hask'.lane l)), fun j h => busy j h, fun _ hno _ => ?_⟩
        cases hend with
        | waiting hv _ => exact .inl (by rw [hv]; exact hp)
        | atOnce q hq hat' => cases hp.symm.trans hq; rw [hat, hno] at hat'; cases hat'
        | started q b hq _ hv _ => cases hp.symm.trans hq; exact .inr ⟨_, by rw [hv], rfl⟩
      · refine ⟨.inr ⟨hat ▸ hat', hproved.of_lane (hask'.lane l) hask'.now⟩, fun j h => busy j h, fun _ hno _ => ?_⟩
        rw [hat, hno] at hat'; cases hat'

end Sys2Proof.Machine
end

section
/-! START and RESUME accepted (R5 to R7). -/

namespace Sys2Proof.Machine
variable {e e' x y z w : Ev} {l m : LineId} {g : Ground} {s u v : State} {c : Instr} {t : Time} {r : StrokeReq} {p : PumpId}
  {k n : TankId}

/-! ### Entry to STARTING, to the end of the event -/

/-- What an entry to STARTING from event `e`, with front tank `k`, leaves at the end of the event. -/
structure Ev.StartedAs (e : Ev) (l : LineId) (k : TankId) (y : State) : Prop where
  line : y.line l = (e.line l).started k (e.profile l).startPos ∨ e.atTarget l (e.startStroke l e.now) = true ∧
    ∃ b, y.line l = { (e.line l).started k (e.profile l).startPos with
      baseline := some b, provingStart := some e.now, state := .proving }
  list : y.list l = e.list l
  pred : y.pred l = e.pred l
  pulses : (y.flow l).pulseTotal = (e.flow l).pulseTotal
  meter : (y.flow l).meterFactor = some (e.profile l).meterK
  use : (y.tank k).use = .active
  busy : ∀ j, (e.valve l).stroke = some j → (y.valve l).stroke = some j ∧
    (j.req.cls ≠ .close → (y.valve l).followOn = some (e.startStroke l e.now))
  asked : (e.valve l).stroke = none → e.atTarget l (e.startStroke l e.now) = false →
    (∀ q, (e.valve l).pending = some q → q.cls ≠ .close) →
    (y.valve l).pending = some (e.startStroke l e.now) ∨ ∃ j, (y.valve l).stroke = some j ∧ j.req = e.startStroke l e.now
  permit : ∀ p, e.latch = false → e.pumpOfLine l = some p → e.permitGiven l p → y.shut.permit p = true
  causes : y.shut.causes = e.shut.causes
  link : y.link = e.link
  grades : y.grades = e.grades

theorem Ev.startSet_calm (hk : (e.list l).head? = some k) (hc : e.calm g) : (e.startSet l).calm g := by
  obtain ⟨sh, d, hw, -⟩ := Ev.startSet_writes (e := e) (l := l) hk
  have hground : (e.startSet l).ground = e.ground := by
    rw [← Ev.requestStroke_ground (e.startSet l) l .opening (e.profile l).startPos false, ← Ev.enterStarting_eq]
    exact Ev.enterStarting_ground e l
  refine ⟨hground.trans hc.1, fun q hq => hc.2 q ?_⟩
  rw [hw] at hq; exact hq

/-- The event at entry to STARTING, by what the rest of the proofs ask of it. -/
theorem Ev.startSet_spec (hk : (e.list l).head? = some k) :
    (e.startSet l).line l = (e.line l).started k (e.profile l).startPos ∧ (e.startSet l).lists = e.lists ∧
      (e.startSet l).pred l = e.pred l ∧ (e.startSet l).flow l = (e.flow l).started (e.profile l).meterK ∧
      (e.startSet l).valves = e.valves ∧ ((e.startSet l).tank k).use = .active ∧
      (e.startSet l).shut.causes = e.shut.causes ∧ (e.startSet l).now = e.now ∧ (e.startSet l).reports = e.reports ∧
      (e.startSet l).undecided = e.undecided ∧ (e.startSet l).link = e.link ∧ (e.startSet l).grades = e.grades := by
  obtain ⟨sh, d, hw, hcauses⟩ := Ev.startSet_writes (e := e) (l := l) hk
  rw [hw]
  exact ⟨Quad.get_set_same _ _ _, rfl, rfl, Quad.get_set_same _ _ _, rfl, by simp [State.tank], hcauses, rfl, rfl, rfl, rfl, rfl⟩

/-- Entry to STARTING gives the line's permit (R174). -/
theorem Ev.enterStarting_permitGiven (hlatch : e.latch = false) (h : e.permitGiven l p) : (e.enterStarting l).permitGiven l p :=
  (Ev.enterStarting_works (c := .holdEnd 0 l) (s := e.toState) (whole := false) l hlatch (Works.refl e)).keeps
    (P := fun y => y.permitGiven l p) (fun _ _ hx hxy => hxy.keeps_permitGiven hx) h

theorem Ev.enterStarting_drain (hc : e.calm g) (hk : (e.list l).head? = some k) (hrep : e.reports = []) (hu : e.undecided = [])
    (hapart : ∀ m, m ≠ l → k ∉ e.list m) (x1 x2 : Buffer) (wo : List BufId) (ro : List ReplySource) :
    e.StartedAs l k ((e.enterStarting l).withPort x1 x2 wo ro).drain.toState := by
  obtain ⟨hline, hlists, hpred, hflow, hvalves, huse, hcauses, hnow, hrep', hund', hlink, hgrades⟩ := Ev.startSet_spec (l := l) hk
  have hcalm := Ev.startSet_calm (l := l) hk hc
  have hgiven (p : PumpId) := Ev.enterStarting_permitGiven (e := e) (l := l) (p := p)
  have hop := Ev.enterStarting_eq e l
  have hE := (Ev.enterStarting_calm l hc).withPort x1 x2 wo ro
  generalize e.startSet l = w at *
  have hst : (w.line l).state = .starting := by rw [hline]; rfl
  have hstart := Ev.opening_drain (l := l) hcalm hst (hrep'.trans hrep) (hund'.trans hu) (e.profile l).startPos x1 x2 wo ro
  have hstrokes := Ev.requestStroke_strokesOnly w l .opening (e.profile l).startPos false
  rw [← hop] at hstart hstrokes
  generalize e.enterStarting l = E at *
  have hprof : w.profile l = e.profile l := by
    rw [State.profile, hline]; rfl
  have hval : w.valve l = e.valve l := by rw [State.valve, hvalves]; rfl
  have hreq : w.requestOf l .opening (e.profile l).startPos false = e.startStroke l e.now := by
    rw [State.requestOf, hprof, hnow]; rfl
  have hat : w.atTarget l (e.startStroke l e.now) = e.atTarget l (e.startStroke l e.now) := by
    unfold State.atTarget; rw [hval, hprof]
  have hcauses' : (E.withPort x1 x2 wo ro).drain.shut.causes = e.shut.causes := by
    rw [Ev.drain_causes hE]; exact (congrArg Shutdown.causes hstrokes.shut).trans hcauses
  have hground := (Ev.drain_ground (E.withPort x1 x2 wo ro))
  have htank : (E.withPort x1 x2 wo ro).drain.tank k = w.tank k := by
    refine (Ev.drain_tank hE fun m hm hs => ?_).trans (hstrokes.tank k)
    by_cases hml : m = l
    · subst hml
      rw [show ((E.withPort x1 x2 wo ro).line m) = w.line m from hstrokes.line m, hst] at hs; cases hs
    · refine absurd ?_ (hapart m hml)
      rw [show (E.withPort x1 x2 wo ro).list m = E.lists.get m from rfl, hstrokes.lists, hlists] at hm
      exact hm
  have hlink' : (E.withPort x1 x2 wo ro).drain.link = e.link :=
    (link_of_ground hground).trans (hstrokes.link.trans hlink)
  have hgrades' : (E.withPort x1 x2 wo ro).drain.grades = e.grades := (grades_of_ground hground).trans (hstrokes.grades.trans hgrades)
  have hpermit (p : PumpId) (h : e.latch = false) (h' : e.permitGiven l p) :
      (E.withPort x1 x2 wo ro).drain.permitGiven l p := Ev.drain_permitGiven (e := E.withPort x1 x2 wo ro) (hgiven p h h')
  generalize (E.withPort x1 x2 wo ro).drain = y at *
  obtain ⟨hlane, hbusy, hasked⟩ := hstart
  rw [hreq] at hlane hbusy hasked
  rw [hat] at hlane hasked
  rw [hval] at hbusy hasked
  have hrest : (y.line l = w.line l ∨ e.atTarget l (e.startStroke l e.now) = true ∧
        ∃ b, y.line l = { w.line l with baseline := some b, provingStart := some w.now, state := .proving }) ∧
      y.list l = w.list l ∧ y.pred l = w.pred l ∧ (y.flow l).pulseTotal = (w.flow l).pulseTotal ∧
      (y.flow l).meterFactor = (w.flow l).meterFactor := by
    rcases hlane with h | ⟨hat', b, x, h⟩
    · have hf : y.flow l = w.flow l := congrArg (fun q : Lane => q.2.2.2.2) h
      exact ⟨.inl (congrArg Prod.fst h), congrArg (fun q : Lane => q.2.1) h, congrArg (fun q : Lane => q.2.2.1) h,
        by rw [hf], by rw [hf]⟩
    · have hf : y.flow l = { w.flow l with watchActive := some x } := congrArg (fun q : Lane => q.2.2.2.2) h
      exact ⟨.inr ⟨hat', b, congrArg Prod.fst h⟩, congrArg (fun q : Lane => q.2.1) h, congrArg (fun q : Lane => q.2.2.1) h,
        by rw [hf], by rw [hf]⟩
  obtain ⟨hl, hlist, hpred', hpulse, hmeter⟩ := hrest
  rw [hline, hnow] at hl
  rw [hflow] at hpulse hmeter
  refine ⟨hl, hlist.trans (by rw [State.list, hlists]; rfl), hpred'.trans hpred, hpulse, hmeter, by rw [htank]; exact huse, hbusy,
    hasked, fun p hlatch hpump hgive => hpermit p hlatch hgive ?_ ?_ ?_, hcauses', hlink', hgrades'⟩
  · rw [← hlatch]; exact State.latch_of_causes hcauses'
  · rcases hl with h | ⟨-, b, h⟩
    · rw [State.flowing, h]; rfl
    · rw [State.flowing, h]; rfl
  · rw [← hpump]
    refine State.pumpOfLine_congr ?_
    rcases hl with h | ⟨-, b, h⟩
    · rw [h]; rfl
    · rw [h]; rfl

end Sys2Proof.Machine
end

section
/-! START and RESUME settled (R5 to R7). -/

namespace Sys2Proof.Machine
variable {e e' x y z w : Ev} {l m : LineId} {g : Ground} {s u v : State} {c : Instr} {t : Time} {r : StrokeReq} {p : PumpId}
  {k n : TankId}

/-! ### START -/

/-- The refusals past, the front tank is LIVE, the latch is clear and START goes on (R5). -/
theorem State.startRefusal_none {a : PanelReply} (hk : (s.list l).head? = some k) (hlatch : s.latch = false)
    (hterms : s.termsAgreed l = true) (hpanel : s.link.panel = some a) (hready : a.ready = true) (hstop : a.shipStop = false)
    (hlive : (s.tank k).health = .live) : s.startRefusal l = none := by
  simp [State.startRefusal, hlatch, hterms, hpanel, hready, hstop, hk, hlive]

theorem Ev.startLine_accepted (h : (e.line l).state = .idle) (hk : (e.list l).head? = some k) (hr : e.startRefusal l = none) :
    e.startLine l = ((e.zeroAccount l).enterStarting l).answer .ok := by
  have hne : ¬ (e.list l).isEmpty = true := fun hempty => by
    rw [List.isEmpty_iff] at hempty; rw [hempty] at hk; cases hk
  rw [Ev.startLine, if_neg (not_not.mpr h), if_neg hne, hr]

theorem Ev.StartedAs.sameBlocks {y v : State} (h : e.StartedAs l k y) (hv : y.sameBlocks v) : e.StartedAs l k v := by
  have hpred : v.pred l = y.pred l := congrArg (fun q => Quad.get q l) hv.2.2.2.1
  constructor
  · rw [hv.line]; exact h.line
  · rw [hv.list]; exact h.list
  · rw [hpred]; exact h.pred
  · rw [hv.flow]; exact h.pulses
  · rw [hv.flow]; exact h.meter
  · rw [hv.tank]; exact h.use
  · rw [hv.valve]; exact h.busy
  · rw [hv.valve]; exact h.asked
  · rw [hv.shut]; exact h.permit
  · rw [hv.shut]; exact h.causes
  · rw [hv.linkGrades.1]; exact h.link
  · rw [hv.linkGrades.2]; exact h.grades

/-- The state of a line that has been started, in the claims' words. -/
theorem Ev.StartedAs.started {y : State} (h : e.StartedAs l k y) :
    ((y.line l).state = .starting ∧ (y.line l).baseline = none ∨
      e.atTarget l (e.startStroke l e.now) = true ∧ (y.line l).state = .proving) ∧
    (y.line l).throttle = (e.profile l).startPos ∧ (y.line l).delivered = (e.line l).delivered ∧
    (y.line l).pendingVol = (e.line l).pendingVol ∧
    (y.line l).fedSet = (if (e.line l).fedSet.contains k then (e.line l).fedSet else (e.line l).fedSet ++ [k]) ∧
    (y.line l).holdReason = none ∧ (y.line l).surgeLimited = false ∧ (y.line l).late = false ∧
    (y.line l).profile = (e.line l).profile ∧ (y.line l).trip = (e.line l).trip := by
  rcases h.line with h | ⟨hat, b, h⟩
  · rw [h]; exact ⟨.inl ⟨rfl, rfl⟩, rfl, rfl, rfl, rfl, rfl, rfl, rfl, rfl, rfl⟩
  · rw [h]; exact ⟨.inr ⟨hat, rfl⟩, rfl, rfl, rfl, rfl, rfl, rfl, rfl, rfl, rfl⟩

/-- Line `l` of an event at time `t` as START and RESUME leave it before it starts: its valve and its profile are those of `s`. -/
theorem State.startStroke_of {e s : State} (hp : (e.line l).profile = (s.line l).profile) (hv : e.valve l = s.valve l) :
    e.profile l = s.profile l ∧ e.startStroke l t = s.startStroke l t ∧ ∀ r, e.atTarget l r = s.atTarget l r := by
  have hprof : e.profile l = s.profile l := by rw [State.profile, hp]; rfl
  exact ⟨hprof, by rw [State.startStroke, hprof]; rfl, State.atTarget_congr hv hp⟩

/-- Settles O23: the account zeroed, the line enters STARTING and its OPEN request is followed to the end of the event. -/
theorem startRunsTheLine : Obligations.StartRunsTheLine := by
  intro s t tag n l b k ks a u hn hb hidle hlist hlatch hterms hpanel hready hstop hlive hpump hapart
  refine answers_of_drain hb ((start_servesLine t tag n).exec_of_lineOf hn s) fun x1 x2 q => ?_
  have hk : ((takeEv s t x1 x2 q).list l).head? = some k := by
    rw [show (takeEv s t x1 x2 q).list l = s.list l from rfl, hlist]; rfl
  have hrefusal : (takeEv s t x1 x2 q).startRefusal l = none :=
    State.startRefusal_none hk hlatch hterms hpanel hready hstop hlive
  have hact := Ev.startLine_accepted (e := takeEv s t x1 x2 q) (l := l) hidle hk hrefusal
  obtain ⟨tk, d, hzero, -⟩ := Ev.zeroAccount_writes (takeEv s t x1 x2 q) l
  have hcalm : ((takeEv s t x1 x2 q).zeroAccount l).calm (takeEv s t x1 x2 q).ground :=
    Ev.zeroAccount_calm l (Ev.calm_of _ _ rfl rfl)
  have hg : (((takeEv s t x1 x2 q).zeroAccount l).enterStarting l).ground = (takeEv s t x1 x2 q).ground :=
    (Ev.enterStarting_calm l hcalm).1
  refine ⟨_, hact, pending_of_ground (y := (takeEv s t x1 x2 q).toState) hg,
    now_of_ground (y := (takeEv s t x1 x2 q).toState) hg, congrArg (fun g : Ground => g.port.restart) hg, fun y1 y2 q' ro v hv _ => ?_⟩
  generalize (takeEv s t x1 x2 q).zeroAccount l = z at *
  have hlists : z.lists = s.lists := by rw [hzero]; rfl
  have hline : z.line l = { s.line l with delivered := 0, pendingVol := 0, fedSet := [] } := by
    rw [hzero]; exact Quad.get_set_same _ _ _
  have hval : z.valve l = s.valve l := by rw [hzero]; rfl
  have hnow : z.now = t := by rw [hzero]; rfl
  have hpulse : (z.flow l).pulseTotal = 0 := by rw [hzero, State.flow, Quad.get_set_same]
  have hrest : z.pred l = s.pred l ∧ z.shut = s.shut ∧ z.link = s.link ∧ z.grades = s.grades ∧ z.reports = [] ∧ z.undecided = [] := by
    rw [hzero]; exact ⟨rfl, rfl, rfl, rfl, rfl, rfl⟩
  obtain ⟨hpred, hshut, hlink, hgrades, hrep, hund⟩ := hrest
  have hother : ∀ m, m ≠ l → k ∉ z.list m := fun m hm => by
    rw [State.list, hlists]; exact (hapart l).2 m hm k (by rw [hlist]; exact List.mem_cons_self)
  have h := (Ev.enterStarting_drain hcalm (l := l) (k := k) (by rw [State.list, hlists]; exact hk) hrep hund hother y1 y2 q'
    ro).sameBlocks hv
  have hprofile : (z.line l).profile = (s.line l).profile := by rw [hline]
  obtain ⟨hprof, hstroke, hat⟩ := State.startStroke_of (t := t) hprofile hval
  obtain ⟨hstate, hthrottle, hdel, hpend, hfed, hhold, hsurge, hlate, hpr, htrip⟩ := h.started
  have hbusy := h.busy
  have hasked := h.asked
  rw [hnow, hstroke] at hstate hbusy hasked
  rw [hat] at hstate hasked
  rw [hval] at hbusy hasked
  rw [hprof] at hthrottle
  rw [hline] at hdel hpend hfed hpr htrip
  have hpermit := h.permit u (by rw [State.latch_of_causes (x := s) (by rw [hshut])]; exact hlatch)
    (by rw [State.pumpOfLine_congr hprofile]; exact hpump)
    (fun _ hf => by rw [State.flowing, hline, hidle] at hf; cases hf)
  exact ⟨hstate, hthrottle, hdel, hpend, hfed, hhold, hsurge, hlate, hpr, htrip, h.list.trans (by rw [State.list, hlists]; rfl),
    h.pred.trans hpred, h.pulses.trans hpulse, h.meter.trans (by rw [hprof]), h.use, hpermit, h.causes.trans (by rw [hshut]),
    h.link.trans hlink, h.grades.trans hgrades, hbusy, hasked⟩

end Sys2Proof.Machine
end

section
/-! RESUME settled (R7). -/

namespace Sys2Proof.Machine
variable {e e' x y z w : Ev} {l m : LineId} {g : Ground} {s u v : State} {c : Instr} {t : Time} {r : Reason} {p : PumpId}
  {k n : TankId}

theorem resume_servesLine (t : Time) (tag : Byte) (n : Nat) : ServesLine (.resume t tag n) t tag (.resume n) n Ev.resumeLine :=
  fun _ => rfl

/-- The list with which a RESUME goes on: a DONE front tank has left it (R7). -/
def State.resumed (s : State) (l : LineId) : List TankId :=
  match s.list l with
  | k :: rest => if (s.tank k).use = .done then rest else k :: rest
  | [] => []

theorem State.resumed_sublist (s : State) (l : LineId) : (s.resumed l).Sublist (s.list l) := by
  unfold State.resumed
  split
  · next k ks h =>
    rw [h]
    split
    · exact List.sublist_cons_self k ks
    · exact .refl _
  · next h => rw [h]

theorem Ev.dropDoneFront_eq (e : Ev) (l : LineId) : e.dropDoneFront l = { e with lists := e.lists.set l (e.resumed l) } := by
  have kept : ({ e with lists := e.lists.set l (e.list l) } : Ev) = e := by rw [State.list, Quad.set_get]
  unfold Ev.dropDoneFront State.resumed
  cases h : e.list l with
  | nil => rw [h] at kept; exact kept.symm
  | cons k ks =>
    dsimp only
    by_cases hd : (e.tank k).use = .done
    · rw [if_pos hd, if_pos hd]; rfl
    · rw [h] at kept; rw [if_neg hd, if_neg hd]; exact kept.symm

/-! ### Its answers -/

theorem Ev.resumeLine_noFillOrder (h : (e.line l).state = .held) (hk : e.resumed l = []) :
    e.resumeLine l = (e.dropDoneFront l).answer (.refused .noFillOrder) := by
  have hempty : ((e.dropDoneFront l).list l).isEmpty = true := by
    rw [Ev.dropDoneFront_eq, State.list, Quad.get_set_same, hk]; rfl
  rw [Ev.resumeLine, if_neg (not_not.mpr h)]
  exact if_pos hempty

theorem Ev.resumeLine_nonempty (h : (e.line l).state = .held) (hk : e.resumed l ≠ []) :
    e.resumeLine l = match (e.dropDoneFront l).startRefusal l with
      | some r => (e.dropDoneFront l).answer (.refused r)
      | none => ((e.dropDoneFront l).enterStarting l).answer .ok := by
  have hempty : ¬ ((e.dropDoneFront l).list l).isEmpty = true := by
    rw [Ev.dropDoneFront_eq, State.list, Quad.get_set_same, List.isEmpty_iff]; exact hk
  rw [Ev.resumeLine, if_neg (not_not.mpr h)]
  exact (if_neg hempty).trans rfl

theorem Ev.resumeLine_refused (h : (e.line l).state = .held) (hk : e.resumed l ≠ [])
    (hr : (e.dropDoneFront l).startRefusal l = some r) : e.resumeLine l = (e.dropDoneFront l).answer (.refused r) := by
  rw [Ev.resumeLine_nonempty h hk, hr]

theorem Ev.resumeLine_accepted (h : (e.line l).state = .held) (hk : e.resumed l ≠ [])
    (hr : (e.dropDoneFront l).startRefusal l = none) : e.resumeLine l = ((e.dropDoneFront l).enterStarting l).answer .ok := by
  rw [Ev.resumeLine_nonempty h hk, hr]

/-- The refusals of START and RESUME after the list, on the line's list as it stands (R5). -/
theorem State.startRefusal_dropped (e : Ev) (l : LineId) : (e.dropDoneFront l).startRefusal l =
    State.startRefusal { e.toState with lists := e.lists.set l (e.resumed l) } l := by rw [Ev.dropDoneFront_eq]

/-- The state with the list a RESUME goes on with. -/
def State.withResumed (s : State) (l : LineId) : State := { s with lists := s.lists.set l (s.resumed l) }

/-- A refused RESUME has taken the DONE front tank off the list, and nothing else. -/
theorem resume_refused {tag : Byte} {num : Nat} {b : BufId} {res : Result} (hn : lineOf num = some l)
    (hb : s.takesIn tag (.resume num) = some b)
    (h : ∀ x1 x2 q, (takeEv s t x1 x2 q).resumeLine l = ((takeEv s t x1 x2 q).dropDoneFront l).answer res) :
    Answers s (.resume t tag num) t b tag res [] (fun v => v.lists = s.lists.set l (s.resumed l) ∧ v.lines = s.lines ∧
      v.tanks = s.tanks ∧ v.valves = s.valves ∧ v.shut = s.shut ∧ v.link = s.link ∧ v.grades = s.grades ∧ v.flows = s.flows) := by
  refine answers_of_effect hb ((resume_servesLine t tag num).exec_of_lineOf hn s) fun x1 x2 q =>
    ⟨(takeEv s t x1 x2 q).dropDoneFront l, h x1 x2 q, ?_⟩
  rw [Ev.dropDoneFront_eq]
  exact ⟨rfl, rfl, rfl, rfl, rfl, fun v hv _ => ⟨hv.2.1, hv.1, hv.2.2.1, hv.2.2.2.2.2.2.1, hv.shut, hv.linkGrades.1,
    hv.linkGrades.2, hv.2.2.2.2.2.1⟩⟩

/-- An accepted RESUME enters STARTING with its account kept. -/
theorem resume_accepted {tag : Byte} {num : Nat} {b : BufId} {rest : List TankId} (hn : lineOf num = some l)
    (hb : s.takesIn tag (.resume num) = some b) (hheld : (s.line l).state = .held) (hks : s.resumed l = k :: rest)
    (hrefusal : (s.withResumed l).startRefusal l = none) (hapart : s.listsApart) :
    Answers s (.resume t tag num) t b tag .ok [] (fun v =>
      ((v.line l).state = .starting ∧ (v.line l).baseline = none ∨
        s.atTarget l (s.startStroke l t) = true ∧ (v.line l).state = .proving) ∧
      (v.line l).throttle = (s.profile l).startPos ∧ (v.tank k).use = .active ∧
      (v.line l).delivered = (s.line l).delivered ∧
      (v.line l).fedSet = (if (s.line l).fedSet.contains k then (s.line l).fedSet else (s.line l).fedSet ++ [k]) ∧
      (v.line l).holdReason = none ∧ (v.line l).surgeLimited = false ∧
      (v.line l).late = false ∧ v.list l = s.resumed l ∧ (v.flow l).pulseTotal = (s.flow l).pulseTotal ∧
      v.link = s.link ∧ v.grades = s.grades) := by
  refine answers_of_drain hb ((resume_servesLine t tag num).exec_of_lineOf hn s) fun x1 x2 q => ?_
  have hact : (takeEv s t x1 x2 q).resumeLine l = (((takeEv s t x1 x2 q).dropDoneFront l).enterStarting l).answer .ok :=
    Ev.resumeLine_accepted hheld (by rw [show (takeEv s t x1 x2 q).resumed l = s.resumed l from rfl, hks]; nofun)
      ((State.startRefusal_dropped _ l).trans hrefusal)
  have hz := Ev.dropDoneFront_eq (takeEv s t x1 x2 q) l
  rw [show (takeEv s t x1 x2 q).resumed l = s.resumed l from rfl] at hz
  have hcalm : ((takeEv s t x1 x2 q).dropDoneFront l).calm (takeEv s t x1 x2 q).ground := by
    rw [hz]; exact Ev.calm_of _ _ rfl rfl
  have hg : (((takeEv s t x1 x2 q).dropDoneFront l).enterStarting l).ground = (takeEv s t x1 x2 q).ground :=
    (Ev.enterStarting_calm l hcalm).1
  refine ⟨_, hact, pending_of_ground (y := (takeEv s t x1 x2 q).toState) hg,
    now_of_ground (y := (takeEv s t x1 x2 q).toState) hg, congrArg (fun g : Ground => g.port.restart) hg, fun y1 y2 q' ro v hv _ => ?_⟩
  generalize (takeEv s t x1 x2 q).dropDoneFront l = z at *
  have hlist : z.list l = k :: rest := by rw [hz, State.list, Quad.get_set_same, hks]
  have hother : ∀ m, m ≠ l → k ∉ z.list m := fun m hm => by
    rw [hz, State.list, Quad.get_set_ne _ _ hm]
    exact (hapart l).2 m hm k ((s.resumed_sublist l).subset (by rw [hks]; exact List.mem_cons_self))
  have hrest : z.line l = s.line l ∧ z.valve l = s.valve l ∧ z.now = t ∧ z.flow l = s.flow l ∧ z.link = s.link ∧
      z.grades = s.grades ∧ z.reports = [] ∧ z.undecided = [] := by
    rw [hz]; exact ⟨rfl, rfl, rfl, rfl, rfl, rfl, rfl, rfl⟩
  obtain ⟨hline, hval, hnow, hflow, hlink, hgrades, hrep, hund⟩ := hrest
  have h := (Ev.enterStarting_drain hcalm (l := l) (k := k) (by rw [hlist]; rfl) hrep hund hother y1 y2 q' ro).sameBlocks hv
  obtain ⟨hprof, hstroke, hat⟩ := State.startStroke_of (t := t) (congrArg LineRec.profile hline) hval
  obtain ⟨hstate, hthrottle, hdel, -, hfed, hhold, hsurge, hlate, -⟩ := h.started
  rw [hnow, hstroke, hat] at hstate
  rw [hprof] at hthrottle
  rw [hline] at hdel hfed
  exact ⟨hstate, hthrottle, h.use, hdel, hfed, hhold, hsurge, hlate, h.list.trans (hlist.trans hks.symm),
    h.pulses.trans (by rw [hflow]), h.link.trans hlink, h.grades.trans hgrades⟩

/-- Settles O24: the refusals of RESUME in their order on the list without its DONE front tank; accepted, the line starts. -/
theorem resumeGoesOnWithTheList : Obligations.ResumeGoesOnWithTheList := by
  intro s t tag num l b hn hb
  have answered {r : Reason} (hheld : (s.line l).state = .held) (hks : s.resumed l ≠ [])
      (hr : (s.withResumed l).startRefusal l = some r) := resume_refused (t := t) hn hb fun x1 x2 q =>
    Ev.resumeLine_refused (e := takeEv s t x1 x2 q) hheld hks ((State.startRefusal_dropped _ l).trans hr)
  have hlist : (s.withResumed l).list l = s.resumed l := Quad.get_set_same _ _ _
  refine ⟨fun hst => (answers_unchanged hb ((resume_servesLine t tag num).exec_of_lineOf hn s) fun x1 x2 q => if_pos hst).imp
    fun _ hu => hu.1, fun hheld => ⟨fun hks => resume_refused hn hb fun x1 x2 q => Ev.resumeLine_noFillOrder hheld hks,
      fun hks hlatch => answered hheld hks ?_, fun hks hlatch hterms => answered hheld hks ?_,
      fun hks hlatch hterms hready => answered hheld hks ?_, fun k rest a hks hlatch hterms hp hready => ?_⟩⟩
  · have h1 : (s.withResumed l).latch = true := hlatch
    simp [State.startRefusal, h1]
  · have h1 : (s.withResumed l).latch = false := hlatch
    have h2 : (s.withResumed l).termsAgreed l = false := hterms
    simp [State.startRefusal, h1, h2]
  · have h1 : (s.withResumed l).latch = false := hlatch
    have h2 : (s.withResumed l).termsAgreed l = true := hterms
    cases hp : s.link.panel with
    | none =>
      have h3 : (s.withResumed l).link.panel = none := hp
      simp [State.startRefusal, h1, h2, h3]
    | some a =>
      have h3 : (s.withResumed l).link.panel = some a := hp
      simp [State.startRefusal, h1, h2, h3, hready a hp]
  · have hks' : s.resumed l = k :: rest := hks
    have hne : s.resumed l ≠ [] := by rw [hks']; nofun
    have h1 : (s.withResumed l).latch = false := hlatch
    have h2 : (s.withResumed l).termsAgreed l = true := hterms
    have h3 : (s.withResumed l).link.panel = some a := hp
    have h4 : ((s.withResumed l).list l).head? = some k := by rw [hlist, hks']; rfl
    refine ⟨fun hstop => answered hheld hne ?_, fun hstop hlive => answered hheld hne ?_, fun hstop hlive hapart =>
      resume_accepted hn hb hheld hks' (State.startRefusal_none h4 h1 h2 h3 hready hstop hlive) hapart⟩
    · simp [State.startRefusal, h1, h2, h3, hready, hstop]
    · have h5 : ((s.withResumed l).tank k).health ≠ .live := hlive
      simp [State.startRefusal, h1, h2, h3, hready, hstop, h4, h5]

end Sys2Proof.Machine
end

section
/-! Where a CLOSE may be pending, within an event (R83, R85, R90): a CLOSE waits only on the valve of a line whose close is in STAGE or
SEATING, and while it waits no report of an earlier CLOSE of that line is left to hand on. -/

namespace Sys2Proof.Machine
variable {e e' e'' x y z : Ev} {l m : LineId} {s u v : State} {c : Instr} {t : Time}

/-! ### What the Close Planner sees of a line -/

/-- A report of a CLOSE stroke that arrived, failed or ended. -/
def Report.ofClose : Report → Bool
  | .arrived _ .close _ => true | .failed _ .close _ => true | .ended _ .close => true
  | .arrived _ .throttle _ => false | .arrived _ .opening _ => false
  | .failed _ .throttle _ => false | .failed _ .opening _ => false
  | .ended _ .throttle => false | .ended _ .opening => false
  | .seated _ => false

/-- A CLOSE of a line within an event: the phase of its close, the CLOSE that waits on its valve, the reports of its CLOSE strokes yet
to be handed on, and how often its close is to be decided. -/
structure CloseView where
  phase : Option ClosePhase
  asked : Option StrokeReq
  told : List Report
  undecided : Nat

/-- The CLOSE request that waits on a valve. -/
def Valve.askedClose (v : Valve) : Option StrokeReq := v.pending.filter (fun r => r.cls = .close)

/-- What an event holds of a line's CLOSE. -/
def Ev.closeView (e : Ev) (l : LineId) : CloseView :=
  { phase := e.closePhase l, asked := (e.valve l).askedClose, told := (e.about l).filter Report.ofClose,
    undecided := e.undecided.count l }

/-- A stroke of the close is in hand: its close is in STAGE or SEATING. -/
def CloseView.staged (w : CloseView) : Prop := w.phase = some .stage ∨ w.phase = some .seating

/-- The reports stand alone, but for an arrival at once and its end. -/
def CloseView.inOrder (w : CloseView) : Prop :=
  ∀ r rs, w.told = r :: rs → rs = [] ∨ ∃ n a, r = .arrived n .close a ∧ rs = [.ended n .close]

/-- A CLOSE waits only where a stroke of the close is in hand and no report of an earlier one is left; a close yet to be decided is in
its run-down, and decided once. -/
structure CloseView.Sound (w : CloseView) : Prop where
  asked : w.asked.isSome = true → w.staged ∧ w.told = []
  order : w.inOrder
  undecided : 0 < w.undecided → w.phase = some .runDown
  once : w.undecided ≤ 1

/-- The reports left are of a stroke of the close in hand. -/
def CloseView.current (w : CloseView) : Prop := w.told ≠ [] → w.staged

/-- Every line's CLOSE is sound. -/
def Ev.closesSound (e : Ev) : Prop := ∀ l, (e.closeView l).Sound

theorem CloseView.Sound.quiet {w : CloseView} (h : w.Sound) (hp : ¬ w.staged) : w.asked = none := by
  cases ha : w.asked with
  | none => rfl
  | some r => exact absurd (h.asked (by rw [ha]; rfl)).1 hp

theorem CloseView.Sound.unasked {w : CloseView} (h : w.Sound) (ht : w.told ≠ []) : w.asked = none := by
  cases ha : w.asked with
  | none => rfl
  | some r => exact absurd (h.asked (by rw [ha]; rfl)).2 ht

theorem CloseView.Sound.decided {w : CloseView} (h : w.Sound) (hp : w.phase ≠ some .runDown) : w.undecided = 0 :=
  Nat.eq_zero_of_not_pos fun hu => hp (h.undecided hu)

theorem CloseView.inOrder.of_nil {w : CloseView} (h : w.told = []) : w.inOrder := fun r rs hr => by rw [h] at hr; cases hr

theorem CloseView.inOrder.of_single {w : CloseView} {q : Report} (h : w.told = [q]) : w.inOrder := fun r rs hr => by
  rw [h] at hr; exact .inl (List.cons.inj hr).2.symm

/-- With no CLOSE waiting and none to decide, the order of the reports is all there is. -/
theorem CloseView.Sound.of_none {w : CloseView} (ha : w.asked = none) (ho : w.inOrder) (hu : w.undecided = 0) : w.Sound where
  asked h := by rw [ha] at h; cases h
  order := ho
  undecided h := absurd h (by omega)
  once := by omega

theorem Valve.askedClose_eq_none {v : Valve} (h : ∀ r, v.pending = some r → r.cls ≠ .close) : v.askedClose = none := by
  unfold Valve.askedClose
  cases hp : v.pending with
  | none => rfl
  | some r => exact Option.filter_eq_none_iff.mpr fun q hq => by cases hq; simpa using h r hp

theorem Valve.askedClose_of_pending {v : Valve} (h : v.pending = none) : v.askedClose = none := by
  rw [Valve.askedClose, h]; rfl

theorem Valve.askedClose_congr {v v' : Valve} (h : v'.pending = v.pending) : v'.askedClose = v.askedClose := by
  rw [Valve.askedClose, Valve.askedClose, h]

/-! ### Grants -/

/-- What grants do to a line's CLOSE: nothing, or the waiting CLOSE is started, or arrives at once. -/
inductive CloseView.Granted (w : CloseView) : CloseView → Prop
  | same : w.Granted w
  | started (ha : w.asked.isSome = true) : w.Granted { w with asked := none }
  | atOnce (ha : w.asked.isSome = true) (n : LineId) (a : Nat) :
      w.Granted { w with asked := none, told := w.told ++ [.arrived n .close a, .ended n .close] }

theorem CloseView.Granted.sound {w w' : CloseView} (h : w.Granted w') (hs : w.Sound) : w'.Sound := by
  cases h with
  | same => exact hs
  | started ha => exact ⟨nofun, hs.order, hs.undecided, hs.once⟩
  | atOnce ha n a =>
    refine ⟨nofun, fun r rs hr => ?_, hs.undecided, hs.once⟩
    have hr' : w.told ++ [.arrived n .close a, .ended n .close] = r :: rs := hr
    rw [(hs.asked ha).2] at hr'
    exact .inr ⟨n, a, (List.cons.inj hr').1.symm, (List.cons.inj hr').2.symm⟩

theorem CloseView.Granted.current {w w' : CloseView} (h : w.Granted w') (hs : w.Sound) (hc : w.current) : w'.current := by
  cases h with
  | same => exact hc
  | started ha => exact hc
  | atOnce ha n a => exact fun _ => (hs.asked ha).1

theorem CloseView.Granted.phase {w w' : CloseView} (h : w.Granted w') : w'.phase = w.phase := by
  cases h <;> rfl

theorem CloseView.Granted.undecided {w w' : CloseView} (h : w.Granted w') : w'.undecided = w.undecided := by
  cases h <;> rfl

/-- A line with no CLOSE waiting is left alone. -/
theorem CloseView.Granted.eq {w w' : CloseView} (h : w.Granted w') (ha : w.asked = none) : w' = w := by
  cases h with
  | same => rfl
  | started h => rw [ha] at h; cases h
  | atOnce h => rw [ha] at h; cases h

theorem State.closePhase_congr (hs : (v.line l).state = (u.line l).state) (hc : v.close l = u.close l) :
    v.closePhase l = u.closePhase l := by
  rw [State.closePhase, State.closePhase, hs, hc]

/-- The view of a line is made of its state and close, its valve's request, its reports and the closes to decide. -/
theorem Ev.closeView_congr (hs : (e'.line l).state = (e.line l).state) (hc : e'.close l = e.close l)
    (hv : (e'.valve l).pending = (e.valve l).pending) (hr : e'.about l = e.about l) (hu : e'.undecided = e.undecided) :
    e'.closeView l = e.closeView l := by
  unfold Ev.closeView
  rw [State.closePhase_congr hs hc, Valve.askedClose_congr hv, hr, hu]

theorem Ev.StrokesOnly.closePhase (h : e.StrokesOnly e') (l : LineId) : e'.closePhase l = e.closePhase l :=
  State.closePhase_congr (by rw [h.line]) (h.close l)

theorem Ev.ValveGrant.granted (hg : e.ValveGrant e' l) (hp : e'.closePhase l = e.closePhase l)
    (hu : e'.undecided.count l = e.undecided.count l) : (e.closeView l).Granted (e'.closeView l) := by
  have close {r : StrokeReq} (hp : (e.valve l).pending = some r) (hcls : r.cls = .close) :
      (e.valve l).askedClose.isSome = true := by
    simp [Valve.askedClose, hp, hcls]
  have other {r : StrokeReq} (hp : (e.valve l).pending = some r) (hcls : r.cls ≠ .close) : (e.valve l).askedClose = none :=
    Valve.askedClose_eq_none fun q hq => by rw [hp] at hq; cases hq; exact hcls
  have made : e'.closeView l =
      { e.closeView l with asked := (e'.valve l).askedClose, told := (e'.about l).filter Report.ofClose } := by
    rw [Ev.closeView, hp, hu]; rfl
  have aside (ha : (e'.valve l).askedClose = (e.valve l).askedClose)
      (hq : (e'.about l).filter Report.ofClose = (e.about l).filter Report.ofClose) :
      (e.closeView l).Granted (e'.closeView l) := by
    rw [made, ha, hq]; exact .same
  have taken {k : Option Stroke} {o : Option (StrokeOutcome × Time)} {a : Nat} (hv : e'.valve l =
      { e.valve l with pending := none, commanded := a, stroke := k, lastOutcome := o }) : (e'.valve l).askedClose = none := by
    rw [hv]; rfl
  cases hg with
  | same hv hr => exact aside (by rw [hv]) (by rw [hr])
  | atOnce r hp hat hv hr =>
    by_cases hcls : r.cls = .close
    · rw [made, taken hv, hr, hcls, List.filter_append]
      exact .atOnce (close hp hcls) l r.target
    · refine aside ((taken hv).trans (other hp hcls).symm) ?_
      have hq : [Report.arrived l r.cls r.target, .ended l r.cls].filter Report.ofClose = [] := by
        cases hr' : r.cls with
        | close => exact absurd hr' hcls
        | throttle => rfl
        | opening => rfl
      rw [hr, List.filter_append, hq, List.append_nil]
  | started r suits hp hat hv hr =>
    by_cases hcls : r.cls = .close
    · rw [made, taken hv, hr]
      exact .started (close hp hcls)
    · exact aside ((taken hv).trans (other hp hcls).symm) (by rw [hr])

theorem Ev.StrokesOnly.granted (h : e.StrokesOnly e') (hg : e.ValveGrant e' l) : (e.closeView l).Granted (e'.closeView l) :=
  hg.granted (h.closePhase l) (by rw [h.undecided])

theorem Ev.considerGrants_granted (e : Ev) (l : LineId) : (e.closeView l).Granted (e.considerGrants.closeView l) :=
  (Ev.considerGrants_strokesOnly e).granted (Ev.considerGrants_valveGrant e l)

theorem Ev.considerGrants_closesSound (h : e.closesSound) : e.considerGrants.closesSound :=
  fun l => (Ev.considerGrants_granted e l).sound (h l)

theorem Ev.closesSound.congr (h : e.closesSound) (hv : ∀ l, e'.closeView l = e.closeView l) : e'.closesSound :=
  fun l => by rw [hv]; exact h l

end Sys2Proof.Machine
end

section
/-! What the operations of lines and valves do to the CLOSE that waits: the entries into a close, trips and causes, and the requests
for strokes. -/

namespace Sys2Proof.Machine
variable {e e' e'' x y z : Ev} {l m : LineId} {s u v : State} {c : Instr} {t : Time}

/-! ### What leaves the views alone -/

theorem State.closePhase_none (h : (s.line l).state ≠ .closing) : s.closePhase l = none := if_neg h

theorem Ev.BooksOnly.closeView (h : e.BooksOnly e') (hs : (e'.line l).state = (e.line l).state) (hc : e'.close l = e.close l) :
    e'.closeView l = e.closeView l :=
  Ev.closeView_congr hs hc (by rw [h.valve]) (Ev.about_congr h.reports l) h.undecided

/-- A line whose state and close stay keeps its view, whatever the books of the others. -/
theorem Ev.BooksOnly.closeView_of_lane (h : e.BooksOnly e') (hl : e'.lane l = e.lane l) : e'.closeView l = e.closeView l :=
  h.closeView (congrArg (fun q : Lane => q.1.state) hl) (congrArg (fun q : Lane => q.2.2.2.1) hl)

/-- A change of state that is no close and comes of none. -/
theorem Ev.BooksOnly.closeView_of_open (h : e.BooksOnly e') (hs : (e.line l).state ≠ .closing) (hs' : (e'.line l).state ≠ .closing) :
    e'.closeView l = e.closeView l := by
  unfold Ev.closeView
  rw [State.closePhase_none hs, State.closePhase_none hs', h.valve, Ev.about_congr h.reports, h.undecided]

theorem Ev.Aside.granted (h : e.Aside e' l) (hu : e'.undecided.count l = e.undecided.count l) :
    (e.closeView l).Granted (e'.closeView l) :=
  h.grant.granted (State.closePhase_congr (congrArg (fun q : Lane => q.1.state) h.lane)
    (congrArg (fun q : Lane => q.2.2.2.1) h.lane)) hu

theorem Ev.modValve_closeView (e : Ev) (l m : LineId) (f : Valve → Valve) (h : (f (e.valve l)).askedClose = (e.valve l).askedClose) :
    (e.modValve l f).closeView m = e.closeView m := by
  have ha : ((e.modValve l f).valve m).askedClose = (e.valve m).askedClose := by
    by_cases hm : m = l
    · subst hm; rw [Ev.modValve_valve]; exact h
    · rw [Ev.modValve_valve_ne e f hm]
  unfold Ev.closeView
  rw [ha]; rfl

theorem Ev.freeChannel_closeView (e : Ev) (l m : LineId) : (e.freeChannel l).closeView m = e.closeView m := by
  unfold Ev.closeView
  rw [(Ev.freeChannel_strokesOnly e l).closePhase, Ev.freeChannel_valve]; rfl

theorem Ev.endStroke_closeView (e : Ev) (l m : LineId) (o : StrokeOutcome) : (e.endStroke l o).closeView m = e.closeView m :=
  (Ev.freeChannel_closeView _ l m).trans (Ev.modValve_closeView e l m _ rfl)

theorem Ev.report_closeView_of_other (e : Ev) {r : Report} (h : r.ofClose = false ∨ r.line ≠ m) :
    (e.report r).closeView m = e.closeView m := by
  have hq : ((e.report r).about m).filter Report.ofClose = (e.about m).filter Report.ofClose := by
    unfold Ev.about Ev.report
    rcases h with h | h
    · simp [List.filter_append, h]
    · simp [List.filter_append, h]
  unfold Ev.closeView
  rw [hq]; rfl

theorem Ev.dropWork_closeView (e : Ev) (l m : LineId) : (e.dropWork l).closeView m = e.closeView m := by
  have drop : Ev.closeView (match (e.valve l).pending with
      | some r => if r.cls = .close then e else e.modValve l (fun v => { v with pending := none })
      | none => e) m = e.closeView m := by
    split
    · next r hr =>
      split
      · rfl
      · next hcls =>
        exact Ev.modValve_closeView e l m _ (Valve.askedClose_eq_none fun q hq => by rw [hr] at hq; cases hq; exact hcls).symm
    · rfl
  unfold Ev.dropWork
  dsimp only
  split
  · split
    · exact drop
    · exact (Ev.endStroke_closeView _ l m _).trans drop
  · exact drop

theorem Ev.cancelWork_granted (e : Ev) (l m : LineId) : (e.closeView m).Granted ((e.cancelWork l).closeView m) := by
  rw [← Ev.dropWork_closeView e l m]
  exact Ev.considerGrants_granted _ m

theorem Ev.eachLine_closesSound (f : LineId → Ev → Ev) (hf : ∀ l x, Ev.closesSound x → (f l x).closesSound) (h : e.closesSound) :
    (e.eachLine f).closesSound :=
  hf .d _ (hf .c _ (hf .b _ (hf .a _ h)))

theorem Ev.cancelAllWork_closesSound (h : e.closesSound) : e.cancelAllWork.closesSound :=
  Ev.considerGrants_closesSound (Ev.eachLine_closesSound _ (fun l _ hx => hx.congr fun m => Ev.dropWork_closeView _ l m) h)

theorem Ev.evalPermit_closeView (e : Ev) (p : PumpId) (m : LineId) : (e.evalPermit p).closeView m = e.closeView m :=
  Ev.closeView_congr (by simp [State.line, Ev.evalPermit]) (by simp [State.close, Ev.evalPermit]) (by simp [State.valve, Ev.evalPermit])
    (Ev.about_congr (by simp [Ev.evalPermit]) m) (by simp [Ev.evalPermit])

theorem Ev.evalPermitOf_closeView (e : Ev) (l m : LineId) : (e.evalPermitOf l).closeView m = e.closeView m := by
  unfold Ev.evalPermitOf
  split
  · exact Ev.evalPermit_closeView e _ m
  · rfl

theorem Ev.mark_closeView (e : Ev) (k : NoticeKey) (m : LineId) : (e.mark k).closeView m = e.closeView m := by
  unfold Ev.mark
  split <;> rfl

theorem Ev.markIf_closeView (e : Ev) (b : Bool) (k : NoticeKey) (m : LineId) : (e.markIf b k).closeView m = e.closeView m := by
  cases b
  · rfl
  · exact Ev.mark_closeView e k m

/-! ### Entries into a close -/

/-- A line that does not close enters its close: its run-down, to be decided once (R76). -/
theorem Ev.closeEntry_closesSound (hs : (e.line l).state ≠ .closing) (reason : CloseReason) (hold : Option HoldReason)
    (cause : Option TripCause) (h : e.closesSound) : (e.closeEntry l reason hold cause).closesSound := by
  have hund : (e.closeEntry l reason hold cause).undecided = e.undecided ++ [l] := by
    rw [Ev.closeEntry_eq]
    exact congrArg (· ++ [l]) (((Ev.evalPermitOf_booksOnly _ l).undecided.trans (Ev.cancelWork_strokesOnly _ l).undecided).trans
      (Ev.closeBegun_recordsOnly e l reason hold cause).undecided)
  intro m
  by_cases hm : m = l
  · subst hm
    have hbooks := (Ev.closeBegun_recordsOnly e m reason hold cause).books
    have hphase : (e.closeBegun m reason hold cause).closePhase m = some .runDown := by
      rw [State.closePhase, if_pos (Ev.closeBegun_line e m reason hold cause).state, Ev.closeBegun_close]; rfl
    have hbegun : (e.closeBegun m reason hold cause).closeView m = { e.closeView m with phase := some .runDown } := by
      unfold Ev.closeView
      rw [hphase, hbooks.valve, Ev.about_congr hbooks.reports, hbooks.undecided]
    have hnone : (e.closeView m).asked = none :=
      (h m).quiet fun hp => by simp [Ev.closeView, CloseView.staged, State.closePhase_none hs] at hp
    have hzero : (e.closeView m).undecided = 0 := (h m).decided (by simp [Ev.closeView, State.closePhase_none hs])
    have hcancel : ((e.closeBegun m reason hold cause).cancelWork m).closeView m = { e.closeView m with phase := some .runDown } := by
      rw [← hbegun]
      exact (Ev.cancelWork_granted _ m m).eq (by rw [hbegun]; exact hnone)
    have hend : (e.closeEntry m reason hold cause).closeView m =
        { e.closeView m with phase := some .runDown, undecided := 1 } := by
      have hview := (Ev.evalPermitOf_closeView ((e.closeBegun m reason hold cause).cancelWork m) m m).trans hcancel
      have hone : (e.closeEntry m reason hold cause).undecided.count m = 1 := by
        rw [hund, List.count_append, show List.count m e.undecided = 0 from hzero, List.count_singleton_self]
      have hset : (e.closeEntry m reason hold cause).closeView m =
          { (((e.closeBegun m reason hold cause).cancelWork m).evalPermitOf m).closeView m with
            undecided := (e.closeEntry m reason hold cause).undecided.count m } := by
        rw [Ev.closeEntry_eq]; rfl
      rw [hset, hview, hone]
    rw [hend]
    exact ⟨fun ha => absurd ha (by simp [hnone]), (h m).order, fun _ => rfl, Nat.le_refl 1⟩
  · exact ((Ev.closeEntry_aside e reason hold cause hm).granted (by
      rw [hund, List.count_append, List.count_singleton, if_neg (by simpa using Ne.symm hm), Nat.add_zero])).sound (h m)

theorem Ev.retripClosing_closeView (e : Ev) (l m : LineId) (reason : CloseReason) (cause : TripCause) :
    (e.retripClosing l reason cause).closeView m = e.closeView m := by
  refine (Ev.retripClosing_recordsOnly e l reason cause).books.closeView ?_ ?_
  · by_cases hm : m = l
    · subst hm
      simp [Ev.retripClosing, Ev.writeTrip, State.line]
    · exact congrArg (fun q : Lane => q.1.state) (Ev.retripClosing_lane e l reason cause hm)
  · simp [Ev.retripClosing, Ev.writeTrip, State.close]

/-- A change of state that is no close, of a line that does not close. -/
theorem Ev.setState_closeView (hs : (e.line l).state ≠ .closing) {st : LineState} (hst : st ≠ .closing) (m : LineId) :
    (e.setState l st).closeView m = e.closeView m := by
  by_cases hm : m = l
  · subst hm
    exact (Ev.setState_booksOnly e m st).closeView_of_open hs (by rw [Ev.setState_line]; exact hst)
  · exact (Ev.setState_booksOnly e l st).closeView_of_lane (by simp [hm])

theorem Ev.modLine_closeView (e : Ev) (l m : LineId) (f : LineRec → LineRec) (hf : ∀ x, (f x).state = x.state) :
    (e.modLine l f).closeView m = e.closeView m := by
  refine Ev.closeView_congr ?_ rfl rfl rfl rfl
  by_cases hm : m = l
  · subst hm; simp [State.line, hf]
  · rw [State.line, State.line, Ev.modLine_lines, Quad.get_set_ne _ _ hm]

theorem Ev.writeTrip_closeView (e : Ev) (l m : LineId) (cause : TripCause) : (e.writeTrip l cause).closeView m = e.closeView m :=
  (Ev.mark_closeView _ _ m).trans (Ev.modLine_closeView e l m _ fun _ => rfl)

theorem State.not_closing_of_flowing (h : s.flowing l = true) : (s.line l).state ≠ .closing := fun hs => by
  rw [State.flowing, hs] at h; cases h

theorem Ev.trip_closesSound (l : LineId) (cause : TripCause) (h : e.closesSound) : (e.trip l cause).closesSound := by
  unfold Ev.trip
  split
  · next hf => exact Ev.closeEntry_closesSound (State.not_closing_of_flowing hf) _ _ _ h
  · split
    · exact h.congr fun m => Ev.retripClosing_closeView e l m _ _
    · next hs =>
      split
      · refine h.congr fun m => (Ev.setState_closeView ?_ (by decide) m).trans ((Ev.modLine_closeView _ l m _ (by intro; rfl)).trans
          (Ev.writeTrip_closeView e l m cause))
        simpa [State.line, Ev.writeTrip] using hs
      · exact h

theorem Ev.tripHolder_closesSound (k : TankId) (cause : TripCause) (h : e.closesSound) : (e.tripHolder k cause).closesSound := by
  unfold Ev.tripHolder
  split
  · exact Ev.trip_closesSound _ cause h
  · exact h

theorem Ev.esdToLine_closesSound (l : LineId) (h : e.closesSound) : (e.esdToLine l).closesSound := by
  unfold Ev.esdToLine
  split
  · next hf => exact Ev.closeEntry_closesSound (State.not_closing_of_flowing hf) _ _ _ h
  · split
    · exact h.congr fun m => Ev.retripClosing_closeView e l m _ _
    · exact h

theorem Ev.raiseCause_closesSound (w : EsdCause) (h : e.closesSound) : (e.raiseCause w).closesSound := by
  unfold Ev.raiseCause
  split
  · exact h
  · refine Ev.closesSound.congr ?_ fun m => Ev.mark_closeView _ _ m
    exact Ev.eachLine_closesSound _ (fun l _ hx => Ev.esdToLine_closesSound l hx) (Ev.cancelAllWork_closesSound
      (h.congr fun m => (Ev.evalPermit_closeView _ .p2 m).trans (Ev.evalPermit_closeView _ .p1 m)))

theorem Ev.raiseValve_closesSound (l : LineId) (h : e.closesSound) : (e.raiseValve l).closesSound := by
  unfold Ev.raiseValve
  refine Ev.raiseCause_closesSound _ ?_
  split
  · exact h
  · exact h.congr fun m => Ev.mark_closeView _ _ m

/-! ### Requests for strokes -/

/-- The view of a line whose CLOSE waits as request `r`. -/
def CloseView.asking (w : CloseView) (r : StrokeReq) : CloseView := { w with asked := some r }

theorem Ev.requestStroke_granted_ne (e : Ev) (cls : StrokeClass) (target : Nat) (retry : Bool) (hm : m ≠ l) :
    (e.closeView m).Granted ((e.requestStroke l cls target retry).closeView m) :=
  (Ev.requestStroke_aside e cls target retry hm).granted (by rw [(Ev.requestStroke_strokesOnly e l cls target retry).undecided])

theorem Ev.enqueue_granted {r : StrokeReq} (e : Ev) (l : LineId) :
    ({ e.closeView l with asked := if r.cls = .close then some r else none } : CloseView).Granted ((e.enqueue l r).closeView l) := by
  have hv : (e.modValve l (fun v => { v with pending := some r })).closeView l =
      { e.closeView l with asked := if r.cls = .close then some r else none } := by
    unfold Ev.closeView
    rw [Ev.modValve_valve]
    simp only [Valve.askedClose, Option.filter, decide_eq_true_eq]
    rfl
  rw [← hv]
  exact Ev.considerGrants_granted _ l

/-- A request of an OPEN or a THROTTLE leaves what waits for the CLOSE. -/
theorem Ev.requestStroke_other {cls : StrokeClass} (hcls : cls ≠ .close) (e : Ev) (l : LineId) (target : Nat) (retry : Bool) :
    (e.closeView l).Granted ((e.requestStroke l cls target retry).closeView l) := by
  have queued (ha : (e.closeView l).asked = none) (r : StrokeReq) (hr : r.cls = cls) :
      (e.closeView l).Granted ((e.enqueue l r).closeView l) := by
    have h := Ev.enqueue_granted (r := r) e l
    rw [hr, if_neg hcls, ← ha] at h
    exact h
  unfold Ev.requestStroke
  dsimp only
  split
  · split
    · exact .same
    · rw [Ev.modValve_closeView e l l _ rfl]; exact .same
  · next p _ hp =>
    split
    · exact .same
    · next h =>
      exact queued (Valve.askedClose_eq_none fun q hq => by rw [hp] at hq; cases hq; exact fun hc => h ⟨hc, hcls⟩) _ rfl
  · next hp => exact queued (Valve.askedClose_of_pending hp) _ rfl

theorem Ev.requestStroke_closesSound {cls : StrokeClass} (hcls : cls ≠ .close) (l : LineId) (target : Nat) (retry : Bool)
    (h : e.closesSound) : (e.requestStroke l cls target retry).closesSound := by
  intro m
  by_cases hm : m = l
  · subst hm; exact (Ev.requestStroke_other hcls e m target retry).sound (h m)
  · exact (Ev.requestStroke_granted_ne e cls target retry hm).sound (h m)

/-- A request of a CLOSE is refused, or waits and is then perhaps granted. -/
theorem Ev.requestStroke_asked (e : Ev) (l : LineId) (target : Nat) (retry : Bool) :
    (e.requestStroke l .close target retry).closeView l = e.closeView l ∨
      ∃ r, ((e.closeView l).asking r).Granted ((e.requestStroke l .close target retry).closeView l) := by
  have queued (x : Ev) (hx : x.closeView l = e.closeView l) (r : StrokeReq) (hr : r.cls = .close) :
      ∃ q, ((e.closeView l).asking q).Granted ((x.enqueue l r).closeView l) := by
    have h := Ev.enqueue_granted (r := r) x l
    rw [if_pos hr, hx] at h
    exact ⟨r, h⟩
  unfold Ev.requestStroke
  dsimp only
  split
  · split
    · exact .inl rfl
    · rw [if_pos rfl]
      exact .inr (queued (e.endStroke l .ended) (Ev.endStroke_closeView e l l .ended) _ rfl)
  · split
    · next h => exact absurd rfl h.2
    · exact .inr (queued e rfl _ rfl)
  · exact .inr (queued e rfl _ rfl)

/-- A CLOSE may be requested where a stroke of the close is in hand and no report of one is left. -/
theorem Ev.requestStroke_close_sound (target : Nat) (retry : Bool) (h : (e.closeView l).Sound) (hp : (e.closeView l).staged)
    (ht : (e.closeView l).told = []) : ((e.requestStroke l .close target retry).closeView l).Sound ∧
      ((e.requestStroke l .close target retry).closeView l).staged := by
  rcases Ev.requestStroke_asked e l target retry with heq | ⟨r, hg⟩
  · rw [heq]; exact ⟨h, hp⟩
  · refine ⟨hg.sound ⟨fun _ => ⟨hp, ht⟩, h.order, h.undecided, h.once⟩, ?_⟩
    rw [CloseView.staged, hg.phase]; exact hp

end Sys2Proof.Machine
end

section
/-! The Close Planner's own work and the end of an event: CLOSE strokes are asked for where they may wait. -/

namespace Sys2Proof.Machine
variable {e e' e'' x y z : Ev} {l m : LineId} {s u v : State} {c : Instr} {t : Time}

/-! ### The planner's work on one line -/

/-- Nothing of a line's CLOSE is left: none waits, none is reported, and no close is to be decided. -/
structure CloseView.Free (w : CloseView) : Prop where
  asked : w.asked = none
  told : w.told = []
  undecided : w.undecided = 0

theorem CloseView.Free.sound {w : CloseView} (h : w.Free) : w.Sound := .of_none h.asked (.of_nil h.told) h.undecided

/-- Work on the books changes no more of a view than its phase. -/
theorem Ev.BooksOnly.closeView_phase (h : e.BooksOnly e') (l : LineId) :
    e'.closeView l = { e.closeView l with phase := e'.closePhase l } := by
  unfold Ev.closeView
  rw [h.valve, Ev.about_congr h.reports, h.undecided]

theorem Ev.BooksOnly.free (h : e.BooksOnly e') (hf : (e.closeView l).Free) : (e'.closeView l).Free := by
  rw [h.closeView_phase l]
  exact ⟨hf.asked, hf.told, hf.undecided⟩

theorem Ev.BooksOnly.sound (h : e.BooksOnly e') (ha : (e.closeView l).asked = none) (ho : (e.closeView l).inOrder)
    (hu : (e.closeView l).undecided = 0) : (e'.closeView l).Sound := by
  rw [h.closeView_phase l]
  exact .of_none ha ho hu

theorem Ev.Asks.undecided (h : e.Asks l e') : e'.undecided = e.undecided := by
  cases h with
  | none h => exact h.undecided
  | stroke h cls target retry => exact (Ev.requestStroke_strokesOnly _ l cls target retry).undecided.trans h.undecided

/-- Work for one line grants the others what waits, and no more. -/
theorem Ev.Asks.granted (h : e.Asks l e') (hm : m ≠ l) (hl : e'.lane m = e.lane m) :
    (e.closeView m).Granted (e'.closeView m) :=
  (h.aside hm hl).granted (by rw [h.undecided])

theorem Ev.closesSound.of_line (h : e.closesSound) (hne : ∀ m, m ≠ l → (e.closeView m).Granted (e'.closeView m))
    (hl : (e'.closeView l).Sound) : e'.closesSound := by
  intro m
  by_cases hm : m = l
  · subst hm; exact hl
  · exact (hne m hm).sound (h m)

theorem Ev.modClose_phase (hs : (e.line l).state = .closing) (hc : (e.close l).isSome = true) {p : ClosePhase}
    (f : CloseRec → CloseRec) (hf : ∀ r, (f r).phase = p) : (e.modClose l f).closePhase l = some p := by
  obtain ⟨r, hr⟩ := Option.isSome_iff_exists.mp hc
  have hr' : e.closes.get l = some r := hr
  rw [State.closePhase, if_pos (show ((e.modClose l f).line l).state = .closing from hs)]
  simp [State.close, Ev.modClose, hr', hf]

/-- A CLOSE is requested for a line that is free of any other, its close in STAGE or SEATING. -/
theorem Ev.requestStroke_staged (target : Nat) (retry : Bool) (hf : (e.closeView l).Free) (hp : (e.closeView l).staged) :
    ((e.requestStroke l .close target retry).closeView l).Sound ∧ ((e.requestStroke l .close target retry).closeView l).staged :=
  Ev.requestStroke_close_sound target retry hf.sound hp hf.told

theorem Ev.requestStage_sound (hs : (e.line l).state = .closing) (hf : (e.closeView l).Free) (k : Nat) :
    ((e.requestStage l k).closeView l).Sound := by
  unfold Ev.requestStage
  split
  · exact hf.sound
  · next p hp =>
    have hc : (e.close l).isSome = true := by
      cases h : e.close l with
      | none => rw [State.planOf, h] at hp; cases hp
      | some r => rfl
    split
    · exact ((Ev.modClose_recordsOnly e l _).books.free hf).sound
    · exact (Ev.requestStroke_staged _ _ ((Ev.modClose_recordsOnly e l _).books.free hf)
        (.inl (Ev.modClose_phase hs hc _ fun _ => rfl))).1

theorem Ev.nextStage_sound (hs : (e.line l).state = .closing) (hf : (e.closeView l).Free) :
    ((e.nextStage l).closeView l).Sound := by
  unfold Ev.nextStage
  split
  · split
    · exact Ev.requestStage_sound hs hf _
    · exact hf.sound
  · exact hf.sound

theorem Ev.startPlan_sound (hs : (e.line l).state = .closing) (hc : (e.close l).isSome = true) (hf : (e.closeView l).Free) :
    ((e.startPlan l).closeView l).Sound := by
  have h1 := ((Ev.modClose_recordsOnly e l (fun r => { r with plan := some (e.makePlan l) })).trans
    (Ev.setSurge_recordsOnly _ l (e.closeFigures l).limited)).books
  have hs1 : (((e.modClose l (fun r => { r with plan := some (e.makePlan l) })).setSurge l (e.closeFigures l).limited).line
      l).state = .closing := by
    simpa [Ev.setSurge, State.line] using hs
  have hc1 : (((e.modClose l (fun r => { r with plan := some (e.makePlan l) })).setSurge l (e.closeFigures l).limited).close
      l).isSome = true := by
    simpa [Ev.setSurge, State.close, Ev.modClose] using hc
  unfold Ev.startPlan
  dsimp only
  split
  · exact ((h1.trans (Ev.closeEnd_booksOnly _ l)).free hf).sound
  · split
    · exact (Ev.requestStroke_staged _ _ ((h1.trans (Ev.modClose_recordsOnly _ l _).books).free hf)
        (.inr (Ev.modClose_phase hs1 hc1 _ fun _ => rfl))).1
    · exact Ev.requestStage_sound hs1 (h1.free hf) 1

theorem Ev.endRunDown_sound (hs : (e.line l).state = .closing) (hc : (e.close l).isSome = true) (hf : (e.closeView l).Free)
    (cause : RunDownEnd) : ((e.endRunDown l cause).closeView l).Sound :=
  Ev.startPlan_sound hs (by simpa [State.close, Ev.modClose] using hc) ((Ev.modClose_recordsOnly e l _).books.free hf)

theorem Ev.decideClose_sound (hf : (e.closeView l).Free) : ((e.decideClose l).closeView l).Sound := by
  have h1 := (Ev.modClose_recordsOnly e l (fun r => { r with runDownStart := some r.entry })).books
  unfold Ev.decideClose
  split
  · next h =>
    have hc : ((e.modClose l (fun r => { r with runDownStart := some r.entry })).close l).isSome = true := by
      simpa [State.close, Ev.modClose] using h.2
    have hs : ((e.modClose l (fun r => { r with runDownStart := some r.entry })).line l).state = .closing := h.1
    have hfree := h1.free hf
    dsimp only
    generalize e.modClose l (fun r => { r with runDownStart := some r.entry }) = y at hc hs hfree
    split
    · exact Ev.startPlan_sound h.1 h.2 hf
    · split
      · exact Ev.endRunDown_sound hs hc hfree _
      · split
        · exact Ev.endRunDown_sound hs hc hfree _
        · exact hfree.sound
  · exact hf.sound

theorem Ev.plannerEnded_sound (hf : (e.closeView l).Free) : ((e.plannerEnded l).closeView l).Sound := by
  unfold Ev.plannerEnded
  split
  · next hp =>
    have hs : (e.line l).state = .closing := State.closePhase_closing hp
    exact Ev.nextStage_sound (e := e.modClose l _) hs ((Ev.modClose_recordsOnly e l _).books.free hf)
  · exact hf.sound

/-- The retry of a stage, or of the seating stroke, leaves a stroke of the close in hand (R90). -/
theorem Ev.retryStage_sound {p : ClosePhase} (hp : e.closePhase l = some p) (hf : (e.closeView l).Free) :
    ((e.retryStage l).closeView l).Sound ∧ ((e.retryStage l).closeView l).staged := by
  have hs := State.closePhase_closing hp
  have hc : (e.close l).isSome = true := by
    rw [State.closePhase, if_pos hs] at hp
    cases h : e.close l with
    | none => rw [h] at hp; cases hp
    | some r => rfl
  have hfree (f : CloseRec → CloseRec) := (Ev.modClose_recordsOnly e l f).books.free hf
  unfold Ev.retryStage
  split
  · next h => rw [h] at hc; cases hc
  · split
    · exact Ev.requestStroke_staged _ _ (hfree _) (.inl (Ev.modClose_phase hs hc _ fun _ => rfl))
    · exact Ev.requestStroke_staged _ _ (hfree _) (.inr (Ev.modClose_phase hs hc _ fun _ => rfl))

theorem Ev.retryStage_asks (e : Ev) (l : LineId) : e.Asks l (e.retryStage l) := by
  unfold Ev.retryStage
  split
  · exact .none (.refl e)
  · split
    · exact .stroke (Ev.modClose_recordsOnly e l _).books _ _ _
    · exact .stroke (Ev.modClose_recordsOnly e l _).books _ _ _

theorem Ev.abandonClose_closesSound (h : e.closesSound) (hf : (e.closeView l).Free) : (e.abandonClose l).closesSound := by
  have hbooks := (((Ev.retripClosing_recordsOnly e l .trip .closeFailed).trans (Ev.dropClose_recordsOnly _ l)).books).trans
    (Ev.setState_booksOnly _ l .tripped)
  exact Ev.raiseValve_closesSound l (h.of_line (l := l) (fun m hm => by
    rw [hbooks.closeView_of_lane (l := m) (by simp [hm])]; exact .same) (hbooks.free hf).sound)

theorem Ev.plannerFailed_closesSound (h : e.closesSound) (ha : (e.closeView l).asked = none) (ht : (e.closeView l).told = []) :
    (e.plannerFailed l).closesSound := by
  unfold Ev.plannerFailed
  split
  · next hp =>
    have hrun : (e.closeView l).phase ≠ some .runDown := by
      rcases hp with hp | hp <;> simp [Ev.closeView, hp]
    have hf : (e.closeView l).Free := ⟨ha, ht, (h l).decided hrun⟩
    have hs : (e.line l).state = .closing := hp.elim State.closePhase_closing State.closePhase_closing
    have hc : (e.close l).isSome = true := by
      cases hcl : e.close l with
      | none => rw [State.closePhase, if_pos hs, hcl] at hp; simp at hp
      | some r => rfl
    split
    · exact Ev.abandonClose_closesSound h hf
    · have hfree := (Ev.modClose_recordsOnly e l (fun r => { r with retryUsed := true, phase := .retryWait })).books.free hf
      have hwait : (e.modClose l (fun r => { r with retryUsed := true, phase := .retryWait })).closesSound :=
        h.of_line (l := l) (fun m hm => by
          rw [(Ev.modClose_recordsOnly e l _).books.closeView_of_lane (l := m) (by simp [hm])]; exact .same) hfree.sound
      have hphase : (e.modClose l (fun r => { r with retryUsed := true, phase := .retryWait })).closePhase l = some .retryWait :=
        Ev.modClose_phase hs hc _ fun _ => rfl
      dsimp only
      generalize e.modClose l (fun r => { r with retryUsed := true, phase := .retryWait }) = y at hfree hwait hphase
      split
      · exact hwait
      · exact hwait.of_line (l := l) (fun m hm => (Ev.retryStage_asks y l).granted hm (by simp [hm]))
          (Ev.retryStage_sound hphase hfree).1
  · exact h

theorem Ev.plannerSeated_closesSound (h : e.closesSound) (l : LineId) : (e.plannerSeated l).closesSound := by
  unfold Ev.plannerSeated
  split
  · next hp =>
    have hquiet : ¬ (e.closeView l).staged := by
      rcases hp with hp | hp <;> simp [CloseView.staged, Ev.closeView, hp]
    have hrun : (e.closeView l).phase ≠ some .runDown := by
      rcases hp with hp | hp <;> simp [Ev.closeView, hp]
    exact h.of_line (l := l) (fun m hm => by
      rw [(Ev.closeEnd_booksOnly e l).closeView_of_lane (l := m) (by simp [hm])]; exact .same)
      ((Ev.closeEnd_booksOnly e l).sound ((h l).quiet hquiet) (h l).order ((h l).decided hrun))
  · exact h

theorem Ev.plannerArrived_closesSound (h : e.closesSound) (ha : (e.closeView l).asked = none) (target : Nat) :
    (e.plannerArrived l target).closesSound := by
  by_cases hp : e.closePhase l = some .stage ∨ e.closePhase l = some .seating
  · have hrun : (e.closeView l).phase ≠ some .runDown := by
      rcases hp with hp | hp <;> simp [Ev.closeView, hp]
    exact h.of_line (l := l) (fun m hm => by
      rw [(Ev.plannerArrived_booksOnly e l target).closeView_of_lane (l := m) (by simp [hm])]; exact .same)
      ((Ev.plannerArrived_booksOnly e l target).sound ha (h l).order ((h l).decided hrun))
  · rw [Ev.plannerArrived, if_neg hp]; exact h

end Sys2Proof.Machine
end

section
/-! The end of an event and a change of band keep a CLOSE waiting only where a stroke of its close is in hand (R83, R85, R90). -/

namespace Sys2Proof.Machine
variable {e e' e'' x y z : Ev} {l m : LineId} {s u v : State} {c : Instr} {t : Time} {r : Report} {rs : List Report}

/-! ### A report handed on -/

theorem Ev.closeView_handed (hr : e.reports = r :: rs) (m : LineId) : e.closeView m =
    { (Ev.closeView { e with reports := rs } m) with
      told := [r].filter (fun q => q.line = m && q.ofClose) ++ (Ev.closeView { e with reports := rs } m).told } := by
  have hq : (e.about m).filter Report.ofClose =
      [r].filter (fun q => q.line = m && q.ofClose) ++ (Ev.about { e with reports := rs } m).filter Report.ofClose := by
    simp only [Ev.about, hr, List.filter_filter, ← List.filter_append, Bool.and_comm, List.cons_append, List.nil_append]
  unfold Ev.closeView
  rw [hq]

theorem CloseView.Sound.tail {w w' : CloseView} {q : List Report} (h : w.Sound) (heq : w = { w' with told := q ++ w'.told })
    (hq : q.length ≤ 1) : w'.Sound := by
  subst heq
  refine ⟨fun ha => ⟨(h.asked ha).1, (List.append_eq_nil_iff.mp (h.asked ha).2).2⟩, ?_, h.undecided, h.once⟩
  match q, hq with
  | [], _ => exact h.order
  | [p], _ =>
    rcases h.order p w'.told rfl with ht | ⟨n, a, -, ht⟩
    · exact .of_nil ht
    · exact .of_single ht

theorem Ev.closesSound.handed (h : e.closesSound) (hr : e.reports = r :: rs) : Ev.closesSound { e with reports := rs } :=
  fun m => (h m).tail (Ev.closeView_handed hr m) (List.length_filter_le _ _)

/-- A report of a CLOSE stroke comes with no CLOSE waiting, and, an arrival at once apart, alone. -/
theorem Ev.closesSound.told (h : e.closesSound) (hr : e.reports = r :: rs) (hc : r.ofClose = true) :
    (Ev.closeView { e with reports := rs } r.line).asked = none ∧
      ((∀ n a, r ≠ .arrived n .close a) → (Ev.closeView { e with reports := rs } r.line).told = []) := by
  have heq : e.closeView r.line = { (Ev.closeView { e with reports := rs } r.line) with
      told := r :: (Ev.closeView { e with reports := rs } r.line).told } := by
    rw [Ev.closeView_handed hr r.line]; simp [hc]
  constructor
  · have := (h r.line).unasked (by rw [heq]; exact List.cons_ne_nil _ _)
    rwa [heq] at this
  · intro hne
    rcases (h r.line).order r _ (by rw [heq]) with ht | ⟨n, a, hn, -⟩
    · exact ht
    · exact absurd hn (hne n a)

theorem Ev.settleArrival_closeView (e : Ev) (l m : LineId) (target : Nat) : (e.settleArrival l target).closeView m = e.closeView m := by
  unfold Ev.settleArrival
  split <;> rfl

theorem Ev.enterProving_closeView (hs : (e.line l).state = .starting) (m : LineId) :
    (e.enterProving l).closeView m = e.closeView m := by
  by_cases hm : m = l
  · subst hm
    refine (Ev.enterProving_booksOnly e m).closeView_of_open (by rw [hs]; decide) ?_
    unfold Ev.enterProving
    rw [Ev.setState_line]; exact nofun
  · exact (Ev.enterProving_booksOnly e l).closeView_of_lane (by simp [hm])

theorem Ev.handleReport_closesSound (h : e.closesSound) (hr : e.reports = r :: rs) :
    (Ev.handleReport { e with reports := rs } r).closesSound := by
  have hx := h.handed hr
  have htold := h.told hr
  generalize ({ e with reports := rs } : Ev) = x at hx htold
  cases r with
  | arrived l cls target =>
    cases cls with
    | close => exact Ev.plannerArrived_closesSound hx (htold rfl).1 target
    | throttle => exact hx.congr fun m => Ev.settleArrival_closeView x l m target
    | opening =>
      simp only [Ev.handleReport]
      split
      · next hs => exact hx.congr fun m => Ev.enterProving_closeView hs m
      · exact hx.congr fun m => Ev.settleArrival_closeView x l m target
  | failed l cls o =>
    have trips : (if x.flowing l then x.trip l .strokeFailed else x).closesSound := by
      split
      · exact Ev.trip_closesSound l _ hx
      · exact hx
    cases cls with
    | close => exact Ev.plannerFailed_closesSound hx (htold rfl).1 ((htold rfl).2 nofun)
    | throttle => exact trips
    | opening => exact trips
  | ended l cls =>
    cases cls with
    | close =>
      simp only [Ev.handleReport]
      split
      · exact Ev.requestStroke_closesSound (by decide) l _ _ hx
      · by_cases hp : x.closePhase l = some .dwell
        · have hf : (x.closeView l).Free := ⟨(htold rfl).1, (htold rfl).2 nofun, (hx l).decided (by simp [Ev.closeView, hp])⟩
          exact hx.of_line (l := l) (fun m hm => (Ev.plannerEnded_asks x l).granted hm (by simp [hm])) (Ev.plannerEnded_sound hf)
        · rw [Ev.plannerEnded, if_neg hp]; exact hx
    | throttle => exact hx
    | opening => exact hx
  | seated l => exact Ev.plannerSeated_closesSound hx l

/-! ### A close decided, and the whole end of an event -/

theorem Ev.decideClose_closesSound {ls : List LineId} (h : e.closesSound) (hr : e.reports = []) (hu : e.undecided = l :: ls) :
    (Ev.decideClose { e with undecided := ls } l).closesSound := by
  have hcount (m : LineId) : (e.closeView m).undecided = ls.count m + if l = m then 1 else 0 := by
    show e.undecided.count m = _
    rw [hu, List.count_cons]; simp
  have hphase : (e.closeView l).phase = some .runDown := (h l).undecided (by rw [hcount, if_pos rfl]; omega)
  have hnone : (e.closeView l).asked = none := (h l).quiet (by simp [CloseView.staged, hphase])
  have hfree : (Ev.closeView { e with undecided := ls } l).Free := by
    refine ⟨hnone, ?_, ?_⟩
    · show ((e.about l).filter Report.ofClose) = []
      rw [Ev.about, hr]; rfl
    · have := (h l).once
      rw [hcount, if_pos rfl] at this
      show ls.count l = 0
      omega
  have hx : Ev.closesSound { e with undecided := ls } := by
    intro m
    by_cases hm : m = l
    · subst hm; exact hfree.sound
    · have heq : Ev.closeView { e with undecided := ls } m = e.closeView m := by
        have := hcount m
        rw [if_neg (Ne.symm hm)] at this
        show { e.closeView m with undecided := ls.count m } = e.closeView m
        rw [← Nat.add_zero (ls.count m), ← this]
      rw [heq]; exact h m
  exact hx.of_line (l := l) (fun m hm => (Ev.decideClose_asks _ l).granted hm (Ev.decideClose_lane _ l hm))
    (Ev.decideClose_sound hfree)

theorem Ev.drain_closesSound (h : e.closesSound) : e.drain.closesSound :=
  Ev.drain_induction (fun _ _ _ h hr => Ev.handleReport_closesSound h hr) (fun _ _ _ h hr hu => Ev.decideClose_closesSound h hr hu)
    e h

/-! ### A change of band -/

/-- Sound, and every report of a CLOSE stroke is of a stroke in hand. -/
def Ev.closesCurrent (e : Ev) : Prop := ∀ l, (e.closeView l).Sound ∧ (e.closeView l).current

theorem CloseView.Granted.both {w w' : CloseView} (hg : w.Granted w') (h : w.Sound ∧ w.current) : w'.Sound ∧ w'.current :=
  ⟨hg.sound h.1, hg.current h.1 h.2⟩

theorem Ev.retryWaiting_closesCurrent (l : LineId) (h : e.closesCurrent) : (e.retryWaiting l).closesCurrent := by
  by_cases hp : e.closePhase l = some .retryWait
  · have hquiet : ¬ (e.closeView l).staged := by simp [CloseView.staged, Ev.closeView, hp]
    have hf : (e.closeView l).Free := ⟨(h l).1.quiet hquiet, by_contra fun ht => hquiet ((h l).2 ht),
      (h l).1.decided (by simp [Ev.closeView, hp])⟩
    intro m
    by_cases hm : m = l
    · subst hm
      rw [Ev.retryWaiting, if_pos hp]
      have hret := Ev.retryStage_sound hp hf
      exact ⟨hret.1, fun _ => hret.2⟩
    · exact ((Ev.retryWaiting_asks e l).granted hm (by simp [hm])).both (h m)
  · rw [Ev.retryWaiting, if_neg hp]; exact h

theorem Ev.eachLine_closeView (f : LineId → Ev → Ev) (m : LineId) (hf : ∀ l x, (f l x).closeView m = x.closeView m) (e : Ev) :
    (e.eachLine f).closeView m = e.closeView m :=
  (((hf .d _).trans (hf .c _)).trans (hf .b _)).trans (hf .a e)

theorem Ev.pauseAll_closeView (e : Ev) (b : Bool) (m : LineId) : (e.pauseAll b).closeView m = e.closeView m :=
  Ev.eachLine_closeView _ m (fun l x => Ev.modValve_closeView x l m _ (by rfl)) e

theorem Ev.updatePump_closeView (e : Ev) (m : LineId) : e.updatePump.closeView m = e.closeView m := rfl

theorem Ev.modSupply_closeView (e : Ev) (f : Supply → Supply) (m : LineId) : (e.modSupply f).closeView m = e.closeView m := rfl

theorem Ev.setBand_closeView (e : Ev) (m : LineId) : e.setBand.closeView m = e.closeView m := by
  unfold Ev.setBand
  split
  · rfl
  · rw [Ev.updatePump_closeView, Ev.pauseAll_closeView, Ev.mark_closeView, Ev.modSupply_closeView]

theorem Ev.retries_closesCurrent (h : e.closesCurrent) : (e.eachLine (fun l x => x.retryWaiting l)).closesCurrent :=
  Ev.retryWaiting_closesCurrent .d (Ev.retryWaiting_closesCurrent .c (Ev.retryWaiting_closesCurrent .b
    (Ev.retryWaiting_closesCurrent .a h)))

theorem Ev.bandEvent_closesCurrent (h : e.closesCurrent) : e.bandEvent.closesCurrent := by
  have h1 : e.setBand.closesCurrent := fun m => by rw [Ev.setBand_closeView]; exact h m
  unfold Ev.bandEvent
  generalize e.setBand = y at h1
  dsimp only
  split
  · exact h1
  · split
    · exact fun m => (Ev.considerGrants_granted _ m).both (Ev.retries_closesCurrent h1 m)
    · exact fun m => (Ev.considerGrants_granted _ m).both (h1 m)

end Sys2Proof.Machine
end

section
/-! The work of the Line Sequencer and of a gate end keeps a CLOSE waiting only where a stroke of its close is in hand. -/

namespace Sys2Proof.Machine
variable {e e' e'' x y z : Ev} {l m : LineId} {s u v : State} {c : Instr} {t : Time}

/-! ### Updates that no view shows -/

@[simp] theorem Ev.modTank_closeView (e : Ev) (k : TankId) (f : Tank → Tank) (m : LineId) :
    (e.modTank k f).closeView m = e.closeView m := rfl
@[simp] theorem Ev.modFlow_closeView (e : Ev) (l : LineId) (f : Flow → Flow) (m : LineId) :
    (e.modFlow l f).closeView m = e.closeView m := rfl
@[simp] theorem Ev.modPred_closeView (e : Ev) (l : LineId) (f : Predictor → Predictor) (m : LineId) :
    (e.modPred l f).closeView m = e.closeView m := rfl
@[simp] theorem Ev.setList_closeView (e : Ev) (l : LineId) (ks : List TankId) (m : LineId) :
    (e.setList l ks).closeView m = e.closeView m := rfl
@[simp] theorem Ev.modLink_closeView (e : Ev) (f : Link → Link) (m : LineId) : (e.modLink f).closeView m = e.closeView m := rfl
@[simp] theorem Ev.modGrade_closeView (e : Ev) (g : GradeId) (f : Grade → Grade) (m : LineId) :
    (e.modGrade g f).closeView m = e.closeView m := rfl
@[simp] theorem Ev.modShut_closeView (e : Ev) (f : Shutdown → Shutdown) (m : LineId) :
    (e.modShut f).closeView m = e.closeView m := rfl
@[simp] theorem Ev.clearPred_closeView (e : Ev) (l m : LineId) : (e.clearPred l).closeView m = e.closeView m := rfl
@[simp] theorem Ev.credit_closeView (e : Ev) (k : TankId) (n : Nat) (m : LineId) : (e.credit k n).closeView m = e.closeView m := rfl
@[simp] theorem Ev.setUse_closeView (e : Ev) (k : TankId) (w : TankUse) (m : LineId) :
    (e.setUse k w).closeView m = e.closeView m := Ev.markIf_closeView _ _ _ m
@[simp] theorem Ev.setLate_closeView (e : Ev) (l : LineId) (b : Bool) (m : LineId) :
    (e.setLate l b).closeView m = e.closeView m :=
  (Ev.markIf_closeView _ _ _ m).trans (Ev.modLine_closeView e l m _ (by intro; rfl))
@[simp] theorem Ev.setSurge_closeView (e : Ev) (l : LineId) (b : Bool) (m : LineId) :
    (e.setSurge l b).closeView m = e.closeView m :=
  (Ev.markIf_closeView _ _ _ m).trans (Ev.modLine_closeView e l m _ (by intro; rfl))
@[simp] theorem Ev.setQuiet_closeView (e : Ev) (l : LineId) (b : Bool) (m : LineId) :
    (e.setQuiet l b).closeView m = e.closeView m :=
  (Ev.markIf_closeView _ _ _ m).trans (Ev.modLine_closeView e l m _ (by intro; rfl))

theorem Ev.modLine_closesSound (l : LineId) (f : LineRec → LineRec) (hf : ∀ r, (f r).state = r.state) (h : e.closesSound) :
    (e.modLine l f).closesSound := h.congr fun m => Ev.modLine_closeView e l m f hf

theorem Ev.setState_closesSound (hs : (e.line l).state ≠ .closing) {st : LineState} (hst : st ≠ .closing) (h : e.closesSound) :
    (e.setState l st).closesSound := h.congr fun m => Ev.setState_closeView hs hst m

theorem Ev.eachTank_closesSound (ks : List TankId) (f : TankId → Ev → Ev) (hf : ∀ k x, Ev.closesSound x → (f k x).closesSound)
    (h : e.closesSound) : (e.eachTank ks f).closesSound := by
  unfold Ev.eachTank
  induction ks generalizing e with
  | nil => exact h
  | cons k ks ih => exact ih (hf k _ h)

/-! ### STARTING to CHANGEOVER -/

theorem Ev.throttleTo_closesSound (l : LineId) (pos : Nat) (h : e.closesSound) : (e.throttleTo l pos).closesSound := by
  have h1 : ((e.modLine l (fun r => { r with throttle := pos })).modFlow l
      (fun r => { r with rateCount := 0, pressCount := 0 })).closesSound :=
    (Ev.modLine_closesSound l _ (by intro; rfl) h).congr fun m => Ev.modFlow_closeView _ l _ m
  unfold Ev.throttleTo
  dsimp only
  refine Ev.requestStroke_closesSound (by decide) l _ _ ?_
  split
  case h_1 | h_2 | h_3 => exact h1.congr fun m => Ev.modPred_closeView _ l _ m
  all_goals exact h1

theorem Ev.throttled_closesSound {p : Prop} [Decidable p] (l : LineId) (pos : Nat) (h : e.closesSound) :
    (if p then e.throttleTo l pos else e).closesSound := by
  split
  · exact Ev.throttleTo_closesSound l pos h
  · exact h

theorem Ev.enterStarting_closesSound (hs : (e.line l).state ≠ .closing) (h : e.closesSound) : (e.enterStarting l).closesSound := by
  unfold Ev.enterStarting
  refine Ev.requestStroke_closesSound (by decide) l _ _ (Ev.setState_closesSound ?_ (by decide) ?_)
  · split
    all_goals simpa [State.line, Ev.setLate, Ev.setSurge, Ev.setUse] using hs
  · refine Ev.modLine_closesSound l _ (by intro; rfl) (Ev.closesSound.congr ?_ fun m => Ev.modFlow_closeView _ l _ m)
    refine Ev.closesSound.congr ?_ fun m => (Ev.setLate_closeView _ l false m).trans (Ev.setSurge_closeView _ l false m)
    split
    · exact Ev.modLine_closesSound l _ (by intro; rfl) (h.congr fun m => Ev.setUse_closeView e _ _ m)
    · exact h

theorem Ev.closeStartTest_closesSound (hf : e.flowing l = true) (h : e.closesSound) : (e.closeStartTest l).closesSound := by
  unfold Ev.closeStartTest
  split
  · exact h
  · next d _ =>
    have h1 : (e.modPred l (fun r => { r with evaluation := some (e.evaluationNow l d.finalMm) })).closesSound :=
      h.congr fun m => Ev.modPred_closeView e l _ m
    have hs1 : ((e.modPred l (fun r => { r with evaluation := some (e.evaluationNow l d.finalMm) })).line l).state ≠ .closing :=
      State.not_closing_of_flowing hf
    dsimp only
    generalize e.modPred l (fun r => { r with evaluation := some (e.evaluationNow l d.finalMm) }) = y at h1 hs1
    have h2 : (if e.levelReaches l d.finalMm = true then y.setLate l true else y).closesSound := by
      split
      · exact h1.congr fun m => Ev.setLate_closeView y l true m
      · exact h1
    have hs2 : ((if e.levelReaches l d.finalMm = true then y.setLate l true else y).line l).state ≠ .closing := by
      split
      · simpa [State.line, Ev.setLate] using hs1
      · exact hs1
    generalize (if e.levelReaches l d.finalMm = true then y.setLate l true else y) = w at h2 hs2
    have h3 : (if (e.line l).tankEnd = some true then w.closeEntry l .tankEnd (some .tankEnd) none
        else w.closeEntry l .ending none none).closesSound := by
      split
      · exact Ev.closeEntry_closesSound hs2 _ _ _ h2
      · exact Ev.closeEntry_closesSound hs2 _ _ _ h2
    split
    · exact h3
    · exact h1

theorem Ev.throttleTo_flowing (e : Ev) (l : LineId) (pos : Nat) : (e.throttleTo l pos).flowing l = e.flowing l := by
  unfold Ev.throttleTo
  dsimp only
  rw [(Ev.requestStroke_strokesOnly _ l _ _ _).flowing]
  split <;> simp [State.flowing, State.line]

theorem Ev.enterTopping_closesSound (hf : e.flowing l = true) (h : e.closesSound) : (e.enterTopping l).closesSound := by
  have hs1 : ((e.modLine l (fun r => { r with tankEnd := some (decide (1 < (e.list l).length)) })).line l).state ≠ .closing := by
    simpa [State.line] using State.not_closing_of_flowing hf
  have h1 := Ev.setState_closesSound hs1 (st := .topping) (by decide) (Ev.modLine_closesSound l _ (by intro; rfl) h)
  have hf1 := Ev.setState_flowing (e.modLine l (fun r => { r with tankEnd := some (decide (1 < (e.list l).length)) })) l .topping
  unfold Ev.enterTopping
  dsimp only
  generalize (e.modLine l (fun r => { r with tankEnd := some (decide (1 < (e.list l).length)) })).setState l .topping = y at h1 hf1
  split
  · exact Ev.closeStartTest_closesSound ((Ev.throttleTo_flowing y l _).trans hf1) (Ev.throttleTo_closesSound l _ h1)
  · exact Ev.closeStartTest_closesSound hf1 h1

theorem Ev.enterChangeover_closesSound (hf : e.flowing l = true) (k : TankId) (h : e.closesSound) :
    (e.enterChangeover l k).closesSound := by
  have h2 : (((e.setUse k .incoming).modTank k (fun r =>
      { r with changeoverBase := (e.tank k).latest.map (fun h => h.level), highWater := (e.tank k).latest.map (fun h => h.level),
               pairPrev := none, pairLatest := none })).modLine l
      (fun r => { r with pendingVol := 0, changeoverStart := some e.now })).closesSound :=
    Ev.modLine_closesSound l _ (by intro; rfl) (h.congr fun m => (Ev.modTank_closeView _ k _ m).trans (Ev.setUse_closeView e k _ m))
  have hs2 : ((((e.setUse k .incoming).modTank k (fun r =>
      { r with changeoverBase := (e.tank k).latest.map (fun h => h.level), highWater := (e.tank k).latest.map (fun h => h.level),
               pairPrev := none, pairLatest := none })).modLine l
      (fun r => { r with pendingVol := 0, changeoverStart := some e.now })).line l).state ≠ .closing := by
    simpa [State.line, Ev.setUse] using State.not_closing_of_flowing hf
  unfold Ev.enterChangeover
  dsimp only
  generalize ((e.setUse k .incoming).modTank k (fun r =>
      { r with changeoverBase := (e.tank k).latest.map (fun h => h.level), highWater := (e.tank k).latest.map (fun h => h.level),
               pairPrev := none, pairLatest := none })).modLine l
      (fun r => { r with pendingVol := 0, changeoverStart := some e.now }) = y at h2 hs2
  refine Ev.throttled_closesSound l _ (Ev.setState_closesSound ?_ (by decide) (h2.congr fun m => Ev.modFlow_closeView y l _ m))
  exact hs2

theorem Ev.evaluateMarks_closesSound (hf : e.flowing l = true) (h : e.closesSound) : (e.evaluateMarks l).closesSound := by
  unfold Ev.evaluateMarks
  split
  · exact h
  · split
    · split
      · exact Ev.enterChangeover_closesSound hf _ h
      · exact h
    · split
      · exact Ev.enterTopping_closesSound hf h
      · exact h

theorem Ev.overrunTest_closesSound (l : LineId) (h : e.closesSound) : (e.overrunTest l).closesSound := by
  unfold Ev.overrunTest
  split
  · exact h
  · split
    · exact Ev.trip_closesSound l _ h
    · exact h

/-- A line that asks for the stroke to bulk_pos goes to BULK and has its marks evaluated. -/
theorem Ev.bulk_closesSound (hs : (e.line l).state ≠ .closing) (h : e.closesSound) : ((e.setState l .bulk).evaluateMarks l).closesSound :=
  Ev.evaluateMarks_closesSound (Ev.setState_flowing e l .bulk) (Ev.setState_closesSound hs (by decide) h)

theorem Ev.changeoverSuccess_closesSound (hf : e.flowing l = true) (old new : TankId) (h : e.closesSound) :
    (e.changeoverSuccess l old new).closesSound := by
  unfold Ev.changeoverSuccess
  refine Ev.bulk_closesSound ?_ (Ev.requestStroke_closesSound (by decide) l _ _ ?_)
  · rw [(Ev.requestStroke_strokesOnly _ l _ _ _).line]
    simpa [State.line, Ev.setUse, Ev.credit, Ev.clearPred] using State.not_closing_of_flowing hf
  · refine Ev.closesSound.congr ?_ fun m => (Ev.clearPred_closeView _ l m).trans (Ev.modFlow_closeView _ l _ m)
    exact Ev.modLine_closesSound l _ (by intro; rfl) (h.congr fun m => by simp)

theorem Ev.successTest_closesSound (hf : e.flowing l = true) (h : e.closesSound) : (e.successTest l).closesSound := by
  unfold Ev.successTest
  split
  · split
    · exact Ev.changeoverSuccess_closesSound hf _ _ h
    · exact h
  · exact h

theorem Ev.provingTest_closesSound (hf : e.flowing l = true) (k : TankId) (level : Nat) (h : e.closesSound) :
    (e.provingTest l k level).closesSound := by
  unfold Ev.provingTest
  split
  · exact h
  · split
    · exact Ev.modLine_closesSound l _ (by intro; rfl) h
    · dsimp only
      split
      · refine Ev.bulk_closesSound ?_ (Ev.modLine_closesSound l _ (by intro; rfl) (Ev.requestStroke_closesSound (by decide) l _ _ h))
        have := (Ev.requestStroke_strokesOnly e l .opening (e.profile l).bulkPos false).line l
        rw [State.line, Ev.modLine_lines, Quad.get_set_same]
        exact fun hc => State.not_closing_of_flowing hf ((congrArg (fun r : LineRec => r.state) this).symm.trans hc)
      · exact h

/-! ### The gate -/

theorem Ev.gateCredit_closeView (e : Ev) (l m : LineId) : (e.gateCredit l).closeView m = e.closeView m := by
  have opened (k : Nat) : (((e.modFlow l (fun r => { r with pulseTotal := (e.flow l).pulseTotal + (e.flow l).lastPulses })).modLine l
      (fun r => { r with delivered := ((e.flow l).pulseTotal + (e.flow l).lastPulses) * 100 / k })).closeView m) = e.closeView m :=
    (Ev.modLine_closeView _ l m _ (by intro; rfl)).trans (Ev.modFlow_closeView e l _ m)
  unfold Ev.gateCredit
  split
  · dsimp only
    split
    · exact (Ev.modLine_closeView _ l m _ (by intro; rfl)).trans (opened _)
    · split
      · exact (Ev.credit_closeView _ _ _ m).trans (opened _)
      · exact opened _
  · rfl

theorem Ev.gateQuiet_closeView (e : Ev) (l m : LineId) : (e.gateQuiet l).closeView m = e.closeView m := by
  unfold Ev.gateQuiet
  split
  · split
    · split
      · exact (Ev.setQuiet_closeView _ l false m).trans (Ev.modFlow_closeView e l _ m)
      · rfl
    · rfl
  · rfl

theorem Ev.gateBalance_closesSound (l : LineId) (h : e.closesSound) : (e.gateBalance l).closesSound := by
  unfold Ev.gateBalance
  split
  · next b _ _ =>
    have h1 : (e.modFlow l (fun f => { f with excess := some (e.balanceExcess l b.litres) })).closesSound :=
      h.congr fun m => Ev.modFlow_closeView e l _ m
    dsimp only
    split
    · exact Ev.trip_closesSound l _ h1
    · exact h1
  · exact h

theorem Ev.gateBlind_closesSound (l : LineId) (h : e.closesSound) : (e.gateBlind l).closesSound := by
  unfold Ev.gateBlind
  split
  · have h1 : (e.modFlow l (fun f => { f with blindWindow := some (e.blindWindowOf l) })).closesSound :=
      h.congr fun m => Ev.modFlow_closeView e l _ m
    dsimp only
    split
    · exact (Ev.trip_closesSound l _ h1).congr fun m => (Ev.setQuiet_closeView _ l true m).trans (Ev.modFlow_closeView _ l _ m)
    · exact h1
  · exact h

theorem Ev.gateCaps_closesSound (l : LineId) (avg : Option Nat) (h : e.closesSound) : (e.gateCaps l avg).closesSound := by
  unfold Ev.gateCaps
  split
  · have h1 (f : Flow → Flow) : (e.modFlow l f).closesSound := h.congr fun m => Ev.modFlow_closeView e l f m
    dsimp only
    split
    · unfold Ev.capAct
      split
      · exact Ev.trip_closesSound l _ (h1 _)
      · exact Ev.throttleTo_closesSound l _ (h1 _)
    · exact h1 _
  · exact h

theorem Ev.gateEnd_closesSound (h : e.closesSound) : e.gateEnd.closesSound :=
  Ev.eachLine_closesSound _ (fun l _ hx => Ev.gateCaps_closesSound l _ (Ev.gateBlind_closesSound l (Ev.gateBalance_closesSound l
    (hx.congr fun m => (Ev.gateQuiet_closeView _ l m).trans ((Ev.gateCredit_closeView _ l m).trans (Ev.modFlow_closeView _ l _ m)))))) h

theorem Ev.overWatch_closesSound (l : LineId) (kPa : Nat) (h : e.closesSound) : (e.overWatch l kPa).closesSound := by
  have h1 (f : Flow → Flow) : (e.modFlow l f).closesSound := h.congr fun m => Ev.modFlow_closeView e l f m
  unfold Ev.overWatch
  split
  · split
    · exact Ev.trip_closesSound l _ (h1 _)
    · exact h1 _
  · exact h1 _

end Sys2Proof.Machine
end

section
/-! The ship link's work keeps a CLOSE waiting only where a stroke of its close is in hand: it trips, holds and tests lines, and asks
for no CLOSE. -/

namespace Sys2Proof.Machine
variable {e e' e'' x y z : Ev} {l m : LineId} {s u v : State} {c : Instr} {t : Time}

/-! ### Grades, the link and the panel -/

@[simp] theorem Ev.takeWord_closeView (e : Ev) (g : GradeId) (w : ShipWord) (m : LineId) :
    (e.takeWord g w).closeView m = e.closeView m := Ev.markIf_closeView _ _ _ m

@[simp] theorem Ev.gradeWaiting_closeView (e : Ev) (g : GradeId) (m : LineId) : (e.gradeWaiting g).closeView m = e.closeView m := by
  unfold Ev.gradeWaiting
  split
  · rfl
  · exact Ev.markIf_closeView _ _ _ m

@[simp] theorem Ev.gradeOffering_closeView (e : Ev) (g : GradeId) (m : LineId) : (e.gradeOffering g).closeView m = e.closeView m := by
  unfold Ev.gradeOffering
  split
  · exact Ev.mark_closeView _ _ m
  · rfl

@[simp] theorem Ev.enterSilent_closeView (e : Ev) (m : LineId) : e.enterSilent.closeView m = e.closeView m := by
  unfold Ev.enterSilent
  simp [Ev.mark_closeView]

theorem Ev.silenceEnds_closeView (e : Ev) (m : LineId) : e.silenceEnds.closeView m = e.closeView m := by
  unfold Ev.silenceEnds
  simp [Ev.mark_closeView]

theorem Ev.foldl_closesSound {α : Type} (as : List α) (f : Ev → α → Ev) (hf : ∀ a x, Ev.closesSound x → (f x a).closesSound)
    (h : e.closesSound) : (as.foldl f e).closesSound := by
  induction as generalizing e with
  | nil => exact h
  | cons a as ih => exact ih (hf a e h)

theorem Ev.lineLinkLost_closesSound (l : LineId) (h : e.closesSound) : (e.lineLinkLost l).closesSound := by
  unfold Ev.lineLinkLost
  split
  · exact Ev.trip_closesSound l _ h
  · exact h

theorem Ev.linkDown_closesSound (h : e.closesSound) : e.linkDown.closesSound := by
  unfold Ev.linkDown
  exact (Ev.eachLine_closesSound (e := (e.modLink (fun r =>
      { r with state := .down, silenceStart := none, missCount := 0, panel := none })).modShut (fun r => { r with shipRun := 0 })) _
    (fun l _ hx => Ev.lineLinkLost_closesSound l hx) (h.congr fun _ => rfl)).congr fun m => by simp [Ev.mark_closeView]

theorem Ev.panelMiss_closesSound (h : e.closesSound) : e.panelMiss.closesSound := by
  unfold Ev.panelMiss
  split
  · exact h
  · split
    · exact h.congr fun _ => rfl
    · exact Ev.linkDown_closesSound h

theorem Ev.holdLine_closesSound (l : LineId) (why : HoldReason) (h : e.closesSound) : (e.holdLine l why).closesSound := by
  unfold Ev.holdLine
  split
  · next hf => exact Ev.closeEntry_closesSound (State.not_closing_of_flowing hf) _ _ _ h
  · exact h

theorem Ev.holdGrade_closesSound (g : GradeId) (h : e.closesSound) : (e.holdGrade g).closesSound := by
  refine Ev.eachLine_closesSound _ (fun l x hx => ?_) h
  split
  · exact Ev.holdLine_closesSound l _ hx
  · exact hx

theorem Ev.panelAct_closesSound (gs : List GradeId) (a : PanelAct) (h : e.closesSound) : (e.panelAct gs a).closesSound := by
  cases a with
  | esd => exact Ev.raiseCause_closesSound _ h
  | stop => exact Ev.eachLine_closesSound _ (fun l _ hx => Ev.holdLine_closesSound l _ hx) h
  | terms => exact Ev.foldl_closesSound gs _ (fun g _ hx => Ev.holdGrade_closesSound g hx) h

theorem Ev.panelActsDo_closesSound (acts : List PanelAct) (gs : List GradeId) (h : e.closesSound) :
    (e.panelActsDo acts gs).closesSound := by
  unfold Ev.panelActsDo
  split
  · exact Ev.foldl_closesSound _ _ (fun a _ hx => Ev.panelAct_closesSound gs a hx) h
  · exact Ev.foldl_closesSound _ _ (fun a _ hx => Ev.panelAct_closesSound gs a hx) (h.congr fun _ => rfl)

theorem Ev.panelReply_closesSound (p : PanelReply) (h : e.closesSound) : (e.panelReply p).closesSound := by
  unfold Ev.panelReply
  refine Ev.panelActsDo_closesSound _ _ (Ev.closesSound.congr ?_ fun m => (Ev.takeWord_closeView _ .g2 _ m).trans
    ((Ev.takeWord_closeView _ .g1 _ m).trans ((Ev.modShut_closeView _ _ m).trans ((Ev.markIf_closeView _ _ _ m).trans
      (Ev.modLink_closeView _ _ m)))))
  split
  · exact h.congr fun m => Ev.enterSilent_closeView e m
  · exact h

/-! ### Tanks and polls -/

@[simp] theorem Ev.setHealth_closeView (e : Ev) (k : TankId) (w : Health) (r : Option RefusalReason) (m : LineId) :
    (e.setHealth k w r).closeView m = e.closeView m := Ev.markIf_closeView _ _ _ m

theorem Ev.setHealth_closesSound (k : TankId) (w : Health) (r : Option RefusalReason) (h : e.closesSound) :
    (e.setHealth k w r).closesSound := h.congr fun m => Ev.setHealth_closeView e k w r m

theorem Ev.loseTank_closesSound (k : TankId) (h : e.closesSound) : (e.loseTank k).closesSound := by
  unfold Ev.loseTank
  dsimp only
  split
  · exact Ev.tripHolder_closesSound k _ (Ev.setHealth_closesSound k _ _ h)
  · exact Ev.setHealth_closesSound k _ _ h

theorem Ev.tankMiss_closesSound (k : TankId) (h : e.closesSound) : (e.tankMiss k).closesSound := by
  have h1 (f : Tank → Tank) : (e.modTank k f).closesSound := h.congr fun _ => rfl
  unfold Ev.tankMiss
  dsimp only
  split
  · exact Ev.setHealth_closesSound k _ _ (h1 _)
  · split
    · exact Ev.loseTank_closesSound k (h1 _)
    · exact h1 _

theorem Ev.thresholds_closesSound (k : TankId) (h : e.closesSound) : (e.thresholds k).closesSound := by
  unfold Ev.thresholds
  split
  · dsimp only
    split
    · exact Ev.loseTank_closesSound k h
    · split
      · exact Ev.setHealth_closesSound k _ _ h
      · exact h
  · exact h

theorem Ev.closePoll_closesSound (p : Poll) (o : SlotOutcome) (h : e.closesSound) : (e.closePoll p o).closesSound :=
  h.congr fun _ => rfl

theorem Ev.missPoll_closesSound (p : Poll) (o : SlotOutcome) (h : e.closesSound) : (e.missPoll p o).closesSound := by
  have h1 := Ev.closePoll_closesSound p o h
  unfold Ev.missPoll
  dsimp only
  split
  · exact Ev.panelMiss_closesSound h1
  · exact Ev.tankMiss_closesSound _ h1
  · exact h1

theorem Ev.badFrame_closesSound (o : SlotOutcome) (h : e.closesSound) : (e.badFrame o).closesSound := by
  unfold Ev.badFrame
  split
  · exact Ev.missPoll_closesSound _ o h
  · exact h

theorem Ev.replyTimeout_closesSound (panel : Bool) (h : e.closesSound) : (e.replyTimeout panel).closesSound := by
  unfold Ev.replyTimeout
  split
  · split
    · exact Ev.missPoll_closesSound _ _ h
    · exact h
  · exact h

theorem Ev.tankFrame_closesSound (k : TankId) (onRead onDeclare : Poll → Ev → Ev) (hread : ∀ p, (onRead p e).closesSound)
    (hdeclare : ∀ p, (onDeclare p e).closesSound) (h : e.closesSound) : (e.tankFrame k onRead onDeclare).closesSound := by
  unfold Ev.tankFrame
  split
  · exact h
  · split
    · exact Ev.missPoll_closesSound _ _ h
    · split
      · exact hread _
      · exact Ev.missPoll_closesSound _ _ h
    · split
      · exact hdeclare _
      · exact Ev.missPoll_closesSound _ _ h

theorem Ev.panelFrame_closesSound (p : PanelReply) (h : e.closesSound) : (e.panelFrame p).closesSound := by
  unfold Ev.panelFrame
  split
  · exact h
  · split
    · exact Ev.panelReply_closesSound p (Ev.closePoll_closesSound _ _ h)
    · exact Ev.missPoll_closesSound _ _ h

theorem Ev.storeDeclaration_closesSound (k : TankId) (d : Option Declaration) (h : e.closesSound) :
    (e.storeDeclaration k d).closesSound := by
  unfold Ev.storeDeclaration
  split
  · next n =>
    have h1 := Ev.setHealth_closesSound (e := e.modTank k (fun r => { (r.initReadings e.now) with decl := some n })) k .live none
      (h.congr fun _ => rfl)
    dsimp only
    split
    · split
      · exact h1.congr fun m => Ev.modPred_closeView _ _ _ m
      · exact h1
    · exact h1
  · exact Ev.setHealth_closesSound k _ _ (h.congr fun _ => rfl)

theorem Ev.declared_closesSound (k : TankId) (d : WireDeclaration) (h : e.closesSound) : (e.declared k d).closesSound := by
  unfold Ev.declared
  dsimp only
  split
  · exact Ev.tripHolder_closesSound k _ (Ev.storeDeclaration_closesSound k _ h)
  · exact Ev.storeDeclaration_closesSound k _ h

theorem Ev.redeclared_closesSound (k : TankId) (d : WireDeclaration) (h : e.closesSound) : (e.redeclared k d).closesSound := by
  unfold Ev.redeclared
  dsimp only
  split
  · exact h.congr fun _ => rfl
  · split
    · exact Ev.tripHolder_closesSound k _ (Ev.storeDeclaration_closesSound k _ h)
    · exact Ev.storeDeclaration_closesSound k _ h

theorem Ev.declarationFrame_closesSound (k : TankId) (d : WireDeclaration) (h : e.closesSound) :
    (e.declarationFrame k d).closesSound :=
  Ev.tankFrame_closesSound k _ _ (fun p => Ev.redeclared_closesSound k d (Ev.closePoll_closesSound p _ h))
    (fun p => Ev.declared_closesSound k d (Ev.closePoll_closesSound p _ h)) h

theorem Ev.refused_closesSound (k : TankId) (h : e.closesSound) : (e.refused k).closesSound := by
  unfold Ev.refused
  dsimp only
  split
  · exact Ev.tripHolder_closesSound k _ (Ev.setHealth_closesSound k _ _ h)
  · exact Ev.setHealth_closesSound k _ _ h

/-! ### Readings and the marker -/

theorem Ev.changeoverTests_closesSound (l : LineId) (h : e.closesSound) : (e.changeoverTests l).closesSound := by
  have h1 := Ev.overrunTest_closesSound l h
  unfold Ev.changeoverTests
  dsimp only
  split
  · next hs => exact Ev.successTest_closesSound (by rw [State.flowing, hs]; rfl) h1
  · exact h1

theorem Ev.handOn_closesSound (k : TankId) (l : LineId) (level : Nat) (advance : Bool) (h : e.closesSound) :
    (e.handOn k l level advance).closesSound := by
  have flows {st : LineState} (hs : (e.line l).state = st) (hf : st.flowing = true) : e.flowing l = true := by
    rw [State.flowing, hs, hf]
  unfold Ev.handOn
  split
  case h_1 =>
    dsimp only
    have watched (f : Flow → Flow) (g : Predictor → Predictor) :
        (if advance then (e.modFlow l f).modPred l g else e.modFlow l f).closesSound ∧
          State.flowing (if advance then (e.modFlow l f).modPred l g else e.modFlow l f).toState l = e.flowing l := by
      split
      · exact ⟨h.congr fun _ => rfl, rfl⟩
      · exact ⟨h.congr fun _ => rfl, rfl⟩
    have hw := watched (fun r => { r with watchActive := r.watchActive.map (fun w =>
      if (e.line l).state = .proving then w.take level e.now else w.raise level e.now) }) (fun r => r.advanced (e.tank k).pair)
    generalize (if advance = true then (e.modFlow l (fun r => { r with watchActive := r.watchActive.map (fun w =>
      if (e.line l).state = .proving then w.take level e.now else w.raise level e.now) })).modPred l
        (fun r => r.advanced (e.tank k).pair) else e.modFlow l (fun r => { r with watchActive := r.watchActive.map (fun w =>
      if (e.line l).state = .proving then w.take level e.now else w.raise level e.now) })) = y at hw
    obtain ⟨h2, hf⟩ := hw
    split
    · next hs => exact Ev.provingTest_closesSound (hf.trans (flows hs rfl)) k level h2
    · next hs => exact Ev.evaluateMarks_closesSound (hf.trans (flows hs rfl)) h2
    · exact Ev.changeoverTests_closesSound l h2
    · next hs => exact Ev.closeStartTest_closesSound (hf.trans (flows hs rfl)) h2
    all_goals exact h2
  case h_2 =>
    dsimp only
    split
    · exact Ev.changeoverTests_closesSound l (h.congr fun _ => rfl)
    · exact h.congr fun _ => rfl
  all_goals exact h

theorem Ev.highAlarmActs_closesSound (k : TankId) (was : Bool) (h : e.closesSound) : (e.highAlarmActs k was).closesSound := by
  unfold Ev.highAlarmActs
  split
  · split
    · split
      · exact Ev.trip_closesSound _ _ h
      · exact h
    · exact h
  · exact h

theorem Ev.takeReading_closesSound (p : Poll) (k : TankId) (toggle high overfull fault : Bool) (level : Nat) (h : e.closesSound) :
    (e.takeReading p k toggle high overfull fault level).closesSound := by
  have overfilled {x : Ev} (hx : x.closesSound) : (if overfull then x.raiseCause .overfill else x).closesSound := by
    split
    · exact Ev.raiseCause_closesSound _ hx
    · exact hx
  have alarmed {x : Ev} (hx : x.closesSound) : (if high then x.highAlarmActs k (e.tank k).highAlarm else x).closesSound := by
    split
    · exact Ev.highAlarmActs_closesSound k _ hx
    · exact hx
  have taken {x : Ev} {new b : Bool} {f : Tank → Tank} (hx : x.closesSound) :
      (if new then (x.modTank k f).markIf b (.tank k) else x).closesSound := by
    split
    · exact hx.congr fun m => Ev.markIf_closeView _ _ _ m
    · exact hx
  have hand {x : Ev} {new : Bool} {o : Option LineId} {advance : Bool} (hx : x.closesSound) : Ev.closesSound (match new, o with
      | true, some l => x.handOn k l level advance
      | _, _ => x) := by
    split
    · exact Ev.handOn_closesSound k _ level _ hx
    · exact hx
  unfold Ev.takeReading
  dsimp only
  split
  · exact overfilled (Ev.tankMiss_closesSound k (Ev.closePoll_closesSound p _ h))
  · exact hand (overfilled (alarmed (taken (h.congr fun _ => rfl))))

theorem Ev.readingFrame_closesSound (k : TankId) (toggle : Nat) (flags : Byte) (level : Nat) (h : e.closesSound) :
    (e.readingFrame k toggle flags level).closesSound := by
  unfold Ev.readingFrame
  refine Ev.tankFrame_closesSound k _ _ (fun p => ?_) (fun p => ?_) h
  · split
    · exact Ev.takeReading_closesSound p k _ _ _ _ level h
    · exact Ev.missPoll_closesSound p _ h
  · split
    · split
      · exact Ev.raiseCause_closesSound _ (Ev.closePoll_closesSound p _ h)
      · exact Ev.closePoll_closesSound p _ h
    · exact Ev.missPoll_closesSound p _ h

theorem Ev.sendTankPoll_closeView (e : Ev) (slot : Nat) (m : LineId) : (e.sendTankPoll slot).closeView m = e.closeView m := by
  unfold Ev.sendTankPoll
  split
  · rfl
  · split
    · rfl
    · split
      · rfl
      · split <;> rfl

theorem Ev.markerLine_closesSound (l : LineId) (h : e.closesSound) : (e.markerLine l).closesSound := by
  unfold Ev.markerLine
  split
  case h_1 hs => exact Ev.evaluateMarks_closesSound (by rw [State.flowing, hs]; rfl) h
  case h_2 => exact Ev.overrunTest_closesSound l h
  case h_3 hs => exact Ev.closeStartTest_closesSound (by rw [State.flowing, hs]; rfl) h
  all_goals exact h

theorem Ev.marker_closesSound (h : e.closesSound) : e.marker.closesSound := by
  unfold Ev.marker Ev.makeSchedule
  refine Ev.eachLine_closesSound _ (fun l _ hx => Ev.markerLine_closesSound l hx) (Ev.closesSound.congr ?_ fun m =>
    Ev.modLink_closeView _ _ m)
  exact Ev.eachTank_closesSound _ _ (fun k _ hx => Ev.thresholds_closesSound k hx) (h.congr fun m => Ev.modLink_closeView _ _ m)

end Sys2Proof.Machine
end

section
/-! The console's requests, the frames and the effect of RESTART keep a CLOSE waiting only where a stroke of its close is in hand. -/

namespace Sys2Proof.Machine
variable {e e' e'' x y z : Ev} {l m : LineId} {s u v : State} {c : Instr} {t : Time}

/-! ### The beginning of an event -/

/-- Sound, with nothing to hand on of any line's CLOSE and no close to decide. -/
def Ev.closesFresh (e : Ev) : Prop := ∀ l, (e.closeView l).Sound ∧ (e.closeView l).told = [] ∧ (e.closeView l).undecided = 0

theorem Ev.closesFresh.congr (h : e.closesFresh) (hv : ∀ l, e'.closeView l = e.closeView l) : e'.closesFresh :=
  fun l => by rw [hv]; exact h l

theorem Ev.closesFresh.sound (h : e.closesFresh) : e.closesSound := fun l => (h l).1

theorem Ev.closesFresh.current (h : e.closesFresh) : e.closesCurrent := fun l => ⟨(h l).1, fun ht => absurd (h l).2.1 ht⟩

/-- A line with no stroke of a close in hand is free. -/
theorem Ev.closesFresh.free (h : e.closesFresh) (hq : ¬ (e.closeView l).staged) : (e.closeView l).Free :=
  ⟨(h l).1.quiet hq, (h l).2.1, (h l).2.2⟩

theorem begin_closesFresh (t : Time) (h : s.pendingClosesSound) : (begin t s).closesFresh := by
  intro l
  refine ⟨⟨fun ha => ⟨?_, rfl⟩, .of_nil rfl, fun hu => absurd hu (Nat.lt_irrefl 0), Nat.zero_le 1⟩, rfl, rfl⟩
  have ha : ((s.valve l).pending.filter (fun r => r.cls = .close)).isSome = true := ha
  obtain ⟨r, hr⟩ := Option.isSome_iff_exists.mp ha
  obtain ⟨hp, hcls⟩ := Option.filter_eq_some_iff.mp hr
  exact h l r hp (by simpa using hcls)

/-- A CLOSE waits at the end of an event where the model's statement says. -/
theorem Ev.closesSound.pendingClosesSound (h : e.closesSound) : e.toState.pendingClosesSound := fun l r hp hcls =>
  ((h l).asked (by simp [Ev.closeView, Valve.askedClose, hp, hcls])).1

/-! ### The requests of lines -/

theorem Ev.zeroAccount_closeView (e : Ev) (l m : LineId) : (e.zeroAccount l).closeView m = e.closeView m := by
  obtain ⟨tk, d, h, -⟩ := Ev.zeroAccount_writes e l
  rw [h]
  exact (Ev.modLine_closeView e l m (fun r => { r with delivered := 0, pendingVol := 0, fedSet := [] }) (by intro; rfl) :)

theorem Ev.zeroAccount_state (e : Ev) (l : LineId) : ((e.zeroAccount l).line l).state = (e.line l).state := by
  obtain ⟨tk, d, h, -⟩ := Ev.zeroAccount_writes e l
  rw [h]
  simp [State.line]

theorem Ev.closesSound.zeroed (h : e.closesSound) (l : LineId) : (e.zeroAccount l).closesSound :=
  h.congr fun m => Ev.zeroAccount_closeView e l m

theorem Ev.settleComplete_closesSound (l : LineId) (h : e.closesSound) : (e.settleComplete l).closesSound :=
  (Ev.eachTank_closesSound _ _ (fun k _ hx => hx.congr fun m => Ev.setUse_closeView _ k _ m) h).congr fun _ => rfl

theorem Ev.settleCleared_closesSound (l : LineId) (h : e.closesSound) : (e.settleCleared l).closesSound :=
  (Ev.eachTank_closesSound _ _ (fun k _ hx => hx.congr fun m => Ev.setUse_closeView _ k _ m) h).congr fun _ => rfl

theorem Ev.acceptProfile_closesSound (hs : (e.line l).state ≠ .closing) (p : LineProfile) (h : e.closesSound) :
    (e.acceptProfile l p).closesSound := by
  have h1 : ((e.modValve l (fun v => v.profiled (e.line l).profile p)).modLine l (fun r => { r with profile := some p })).closesSound :=
    Ev.modLine_closesSound l _ (by intro; rfl) (h.congr fun m => Ev.modValve_closeView e l m _ (Valve.askedClose_congr
      (Valve.profiled_spec (e.valve l) (e.line l).profile p).2.1))
  have hs1 : (((e.modValve l (fun v => v.profiled (e.line l).profile p)).modLine l
      (fun r => { r with profile := some p })).line l).state ≠ .closing := by
    simpa [State.line] using hs
  unfold Ev.acceptProfile
  dsimp only
  generalize (e.modValve l (fun v => v.profiled (e.line l).profile p)).modLine l (fun r => { r with profile := some p }) = y at h1 hs1
  have h2 : (if (e.line l).state = .complete then y.zeroAccount l else y).closesSound := by
    split
    · exact h1.zeroed l
    · exact h1
  have hs2 : ((if (e.line l).state = .complete then y.zeroAccount l else y).line l).state ≠ .closing := by
    split
    · rw [Ev.zeroAccount_state]; exact hs1
    · exact hs1
  generalize (if (e.line l).state = .complete then y.zeroAccount l else y) = z at h2 hs2
  split
  · split
    · exact Ev.setState_closesSound hs2 (by decide) h2
    · exact h2
  · exact Ev.closeEntry_closesSound hs2 _ _ _ h2

theorem Ev.lineProfileOf_closesSound (l : LineId) (p : LineProfile) (h : e.closesSound) : (e.lineProfileOf l p).ev.closesSound := by
  unfold Ev.lineProfileOf
  dsimp only
  split
  · exact h
  · next hst =>
    split
    · exact h
    · split
      · split
        · exact h
        · split
          · exact h
          · exact Ev.acceptProfile_closesSound (fun hs => hst (by rw [hs]; decide)) _ h
      · exact h

theorem Ev.startLine_closesSound (l : LineId) (h : e.closesSound) : (e.startLine l).ev.closesSound := by
  unfold Ev.startLine
  split
  · exact h
  · next hs =>
    split
    · exact h
    · split
      · exact h
      · refine Ev.enterStarting_closesSound ?_ (h.zeroed l)
        rw [Ev.zeroAccount_state, not_not.mp hs]; decide

theorem Ev.resumeLine_closesSound (l : LineId) (h : e.closesSound) : (e.resumeLine l).ev.closesSound := by
  have h1 : (e.dropDoneFront l).closesSound := by
    unfold Ev.dropDoneFront
    split
    · split
      · exact h.congr fun _ => rfl
      · exact h
    · exact h
  have hs1 : ((e.dropDoneFront l).line l).state = (e.line l).state := by
    unfold Ev.dropDoneFront
    split
    · split <;> rfl
    · rfl
  unfold Ev.resumeLine
  split
  · exact h
  · next hs =>
    dsimp only
    split
    · exact h1
    · split
      · exact h1
      · refine Ev.enterStarting_closesSound ?_ h1
        rw [hs1, not_not.mp hs]; decide

theorem Ev.holdRequest_closesSound (l : LineId) (h : e.closesSound) : (e.holdRequest l).ev.closesSound := by
  unfold Ev.holdRequest
  split
  · next hf =>
    rw [Ev.answer_ev]
    exact Ev.closeEntry_closesSound (State.not_closing_of_flowing hf) _ _ _ h
  · exact h

theorem Ev.stopRequest_closesSound (l : LineId) (h : e.closesSound) : (e.stopRequest l).ev.closesSound := by
  unfold Ev.stopRequest
  split
  · next hf =>
    rw [Ev.answer_ev]
    exact Ev.closeEntry_closesSound (State.not_closing_of_flowing hf) _ _ _ h
  · split
    · next hs =>
      refine Ev.setState_closesSound ?_ (by decide) (Ev.modLine_closesSound l _ (by intro; rfl) (Ev.settleComplete_closesSound l h))
      obtain ⟨tk, d, hw, -⟩ := Ev.settleComplete_writes e l
      rw [hw, State.line, Ev.modLine_lines, Quad.get_set_same]
      exact fun hc => by
        have hc : (e.line l).state = .closing := hc
        rw [hs] at hc; cases hc
    · exact h

theorem Ev.eachTank_lines (ks : List TankId) (f : TankId → Ev → Ev) (hf : ∀ k x, (f k x).lines = x.lines) (e : Ev) :
    (e.eachTank ks f).lines = e.lines := by
  unfold Ev.eachTank
  induction ks generalizing e with
  | nil => rfl
  | cons k ks ih => exact (ih (f k e)).trans (hf k e)

theorem Ev.clearTripRequest_closesSound (l : LineId) (h : e.closesSound) : (e.clearTripRequest l).ev.closesSound := by
  unfold Ev.clearTripRequest
  split
  · exact h
  · next hs =>
    split
    · exact h
    · split
      · exact h
      · refine Ev.setState_closesSound ?_ (by decide) ((Ev.settleCleared_closesSound l h).zeroed l)
        have hlines : (e.settleCleared l).lines = e.lines := Ev.eachTank_lines _ _ (fun k x => Ev.setUse_lines x k _) e
        rw [Ev.zeroAccount_state, State.line, hlines, ← State.line, not_not.mp hs]; decide

theorem Ev.fillOrderOf_closesSound (l : LineId) (o : OrderOperands) (h : e.closesSound) : (e.fillOrderOf l o).ev.closesSound := by
  unfold Ev.fillOrderOf
  dsimp only
  split
  · exact h
  · next hst =>
    have hs : (e.line l).state ≠ .closing := fun hs => hst (by rw [hs]; decide)
    split
    · exact h
    · split
      · exact h
      · split
        · exact h
        · next hno =>
          obtain ⟨tk, d, sh, fl, hw, -⟩ := Ev.acceptOrder_writes e l (State.apart_of_orderRefusal hno).1
          refine h.congr fun m => ?_
          rw [Ev.answer_ev, hw]
          have hbooks : e.BooksOnly { e with
              tanks := tk, dirty := d, shut := sh, flows := fl, lists := e.lists.set l ((orderNumbers o).filterMap tankOf),
              lines := e.lines.set l { e.line l with
                delivered := 0, pendingVol := 0, fedSet := [],
                state := if (e.line l).state = .complete then .idle else (e.line l).state } } := ⟨rfl, rfl, rfl, rfl, rfl, rfl, rfl⟩
          by_cases hm : m = l
          · subst hm
            refine hbooks.closeView_of_open hs ?_
            rw [State.line, Quad.get_set_same]
            dsimp only
            split
            · decide
            · exact hs
          · refine hbooks.closeView ?_ rfl
            rw [State.line, Quad.get_set_ne _ _ hm]; rfl

theorem Ev.onLine_closesSound (n : Nat) (f : LineId → Taken) (hf : ∀ l, (f l).ev.closesSound) (h : e.closesSound) :
    (e.onLine n f).ev.closesSound := by
  unfold Ev.onLine
  split
  · exact hf _
  · exact h

end Sys2Proof.Machine
end

section
/-! The requests that concern the whole part, the console's frames, and the strokes' own events keep a CLOSE waiting only where a
stroke of its close is in hand. -/

namespace Sys2Proof.Machine
variable {e e' e'' x y z : Ev} {l m : LineId} {s u v : State} {c : Instr} {t : Time}

/-! ### The other requests -/

theorem Ev.gradeRequest_closesSound (n : Nat) (o : GradeOperands) (h : e.closesSound) : (e.gradeRequest n o).ev.closesSound := by
  unfold Ev.gradeRequest
  split
  · exact h
  · split
    · exact h
    · split
      · exact h
      · exact h.congr fun m => (Ev.mark_closeView _ _ m).trans (Ev.modGrade_closeView _ _ _ m)

theorem Ev.acceptManual_closeView (e : Ev) (g : GradeId) (r : ManualOperands) (m : LineId) :
    (e.acceptManual g r).closeView m = e.closeView m := (Ev.mark_closeView _ _ m).trans (Ev.modGrade_closeView _ _ _ m)

theorem Ev.manualRequest_closesSound (n : Nat) (r : ManualOperands) (h : e.closesSound) : (e.manualRequest n r).ev.closesSound := by
  unfold Ev.manualRequest
  split
  · exact h
  · next g _ =>
    have accepted : (if (match e.link.panel with
          | some p => p.termsCapable
          | none => true) then e.answer (.refused .panelCapable)
        else if e.gradeActive g then e.answer (.refused .linesActive) else (e.acceptManual g r).answer .ok).ev.closesSound := by
      generalize (match e.link.panel with
          | some p => p.termsCapable
          | none => true) = capable
      split
      · exact h
      · split
        · exact h
        · exact h.congr fun m => Ev.acceptManual_closeView e g r m
    split
    · exact h
    · split
      · exact h
      · split
        · exact h
        · exact accepted

theorem Ev.hpuRequest_closesSound (p : HpuProfile) (h : e.closesFresh) : (e.hpuRequest p).ev.closesSound := by
  unfold Ev.hpuRequest
  split
  · exact h.sound
  · split
    · exact h.sound
    · exact fun l => (Ev.bandEvent_closesCurrent (e := e.modSupply (fun r => { r with profile := p }))
        (Ev.closesFresh.congr h fun _ => rfl).current l).1

theorem Ev.esdResetRequest_closesSound (h : e.closesSound) : e.esdResetRequest.ev.closesSound := by
  unfold Ev.esdResetRequest
  split
  · exact h
  · split
    · exact h
    · split
      · exact h.congr fun m => (Ev.mark_closeView _ _ m).trans ((Ev.evalPermit_closeView _ .p2 m).trans
          ((Ev.evalPermit_closeView _ .p1 m).trans (Ev.modShut_closeView _ _ m)))
      · exact h

theorem Ev.renegotiateRequest_closesSound (h : e.closesSound) : e.renegotiateRequest.ev.closesSound := by
  unfold Ev.renegotiateRequest
  split
  · exact h
  · split
    · exact h
    · exact h.congr fun m => Ev.enterSilent_closeView e m

theorem Ev.restartRequest_closesSound (h : e.closesSound) : e.restartRequest.ev.closesSound := by
  unfold Ev.restartRequest
  split
  · exact h
  · exact h.congr fun _ => rfl

/-! ### The effect of RESTART -/

/-- A line with its waiting request and its close taken away holds no CLOSE. -/
theorem Ev.emptied_closesFresh (l : LineId) (h : e.closesFresh) :
    ((e.setClose l none).modValve l (fun v => { v with pending := none, followOn := none })).closesFresh := by
  intro m
  by_cases hm : m = l
  · subst hm
    have hphase : ((e.setClose m none).modValve m (fun v => { v with pending := none, followOn := none })).closePhase m = none := by
      unfold State.closePhase
      split
      · simp [State.close]
      · rfl
    have hview : ((e.setClose m none).modValve m (fun v => { v with pending := none, followOn := none })).closeView m =
        { e.closeView m with phase := none, asked := none } := by
      unfold Ev.closeView
      rw [hphase, Ev.modValve_valve]; rfl
    rw [hview]
    exact ⟨.of_none rfl (.of_nil (h m).2.1) (h m).2.2, (h m).2.1, (h m).2.2⟩
  · have hview : ((e.setClose l none).modValve l (fun v => { v with pending := none, followOn := none })).closeView m =
        e.closeView m := by
      refine Ev.closeView_congr rfl ?_ ?_ rfl rfl
      · rw [State.close, State.close, Ev.modValve_closes, Ev.setClose_closes, Quad.get_set_ne _ _ hm]
      · rw [Ev.modValve_valve_ne _ _ hm]; rfl
    rw [hview]
    exact h m

theorem Ev.wipeLine_closesFresh (l : LineId) (h : e.closesFresh) : (e.wipeLine l).closesFresh := by
  unfold Ev.wipeLine
  refine Ev.emptied_closesFresh l (h.congr fun m => ?_)
  rw [Ev.clearPred_closeView, Ev.modFlow_closeView, Ev.modLine_closeView _ l m _ (by intro; rfl), Ev.setLate_closeView,
    Ev.setSurge_closeView, Ev.setList_closeView, Ev.zeroAccount_closeView]

theorem Ev.restartLine_closesFresh (l : LineId) (h : e.closesFresh) : (e.restartLine l).closesFresh := by
  rw [Ev.restartLine_eq]
  split
  · next hst =>
    refine (Ev.wipeLine_closesFresh l h).congr fun m => Ev.setState_closeView ?_ (by decide) m
    rw [State.line, (Ev.wipeLine_restarts e l).lines, Quad.get_set_same]
    exact fun hc => by
      have hc : (e.line l).state = .closing := hc
      rw [hc] at hst; simp at hst
  · exact Ev.wipeLine_closesFresh l h

theorem Ev.restartEffect_closesSound (h : e.closesFresh) : e.restartEffect.closesSound := by
  have hlines : (e.restartConsole.eachLine (fun l x => x.restartLine l)).closesFresh :=
    Ev.restartLine_closesFresh .d (Ev.restartLine_closesFresh .c (Ev.restartLine_closesFresh .b (Ev.restartLine_closesFresh .a
      (h.congr fun _ => rfl))))
  have htanks := Ev.eachTank_closesSound allTanks (fun k x => x.restartTank k) (fun k x hx => hx.congr fun m =>
    (Ev.markIf_closeView _ _ _ m).trans (Ev.modTank_closeView x k _ m)) hlines.sound
  refine htanks.congr fun m => ?_
  unfold Ev.restartEffect Ev.restartGrade Ev.restartLink
  rw [Ev.markIf_closeView, Ev.modGrade_closeView, Ev.modGrade_closeView, Ev.modLink_closeView, Ev.enterSilent_closeView]

/-! ### The Console Port -/

theorem Ev.setBuf_closeView (e : Ev) (b : BufId) (w : Buffer) (m : LineId) : (e.setBuf b w).closeView m = e.closeView m := by
  cases b <;> rfl

theorem Ev.receive_closeView (e : Ev) (tag : Byte) (f : Received) (m : LineId) : (e.receive tag f).closeView m = e.closeView m := by
  unfold Ev.receive
  split
  · exact Ev.setBuf_closeView e _ _ m
  · rfl

theorem Ev.answerUnread_closeView (n : Nat) (e : Ev) (m : LineId) : (Ev.answerUnread n e).closeView m = e.closeView m := by
  obtain ⟨x1, x2, w, ro, h, -⟩ := Ev.answerUnread_spec n e
  rw [h]; rfl

theorem Ev.take_closesSound (b : BufId) (tag : Byte) (act : Ev → Taken) (hact : ∀ x, Ev.closesFresh x → (act x).ev.closesSound)
    (h : e.closesFresh) : (e.take b tag act).closesSound :=
  (hact { e with waitOrder := e.waitOrder.erase b } (h.congr fun _ => rfl)).congr fun m => Ev.setBuf_closeView _ b _ m

/-- A request's row: what its action keeps, the row keeps. -/
theorem Ev.serve_closesSound (tag : Byte) (r : Request) (act : Ev → Taken) (hact : ∀ x, Ev.closesFresh x → (act x).ev.closesSound)
    (h : e.closesFresh) : (e.serve tag r act).closesSound := by
  have taken {x : Ev} (b : BufId) (hx : x.closesFresh) : ((x.take b tag act).answerUnread 2).closesSound :=
    (Ev.take_closesSound b tag act hact hx).congr fun m => Ev.answerUnread_closeView 2 _ m
  have received : (e.receive tag (.request r)).closesFresh := h.congr fun m => Ev.receive_closeView e tag _ m
  unfold Ev.serve
  split
  · exact taken _ h
  · dsimp only
    split
    · exact taken _ received
    · exact received.sound

theorem Ev.consoleFrame_closesSound (kind tag : Byte) (payload : List Byte) (h : e.closesSound) :
    (e.consoleFrame kind tag payload).closesSound :=
  h.congr fun m => (Ev.answerUnread_closeView 2 _ m).trans (Ev.receive_closeView _ tag _ m)

theorem Ev.endFrame_closesSound (h : e.closesSound) : e.endFrame.closesSound := by
  refine h.congr fun m => ?_
  unfold Ev.endFrame
  split
  · rfl
  · rfl
  · next src r _ =>
    cases src with
    | buffer b => exact Ev.setBuf_closeView e b .empty m
    | overrun => rfl

end Sys2Proof.Machine
end

section
/-! The events of the strokes, of the line timers and of the samples keep a CLOSE waiting only where a stroke of its close is in
hand. -/

namespace Sys2Proof.Machine
variable {e e' e'' x y z : Ev} {l m : LineId} {s u v : State} {c : Instr} {t : Time}

/-! ### Reports of strokes in progress -/

/-- No CLOSE waits on a line's valve, and none is reported. -/
def CloseView.unspoken (w : CloseView) : Prop := w.asked = none ∧ w.told = []

theorem Ev.report_closesSound {r : Report} (h : e.closesSound) (hr : r.ofClose = true → (e.closeView r.line).unspoken) :
    (e.report r).closesSound := by
  intro m
  by_cases hm : r.ofClose = true ∧ r.line = m
  · obtain ⟨hc, rfl⟩ := hm
    have hq : ((e.report r).about r.line).filter Report.ofClose = (e.about r.line).filter Report.ofClose ++ [r] := by
      simp [Ev.about, Ev.report, List.filter_append, hc]
    have hview : (e.report r).closeView r.line = { e.closeView r.line with told := [r] } := by
      have ht : (e.about r.line).filter Report.ofClose = [] := (hr hc).2
      unfold Ev.closeView
      rw [hq, ht]; rfl
    rw [hview]
    exact ⟨fun ha => absurd ha (by simp [(hr hc).1]), .of_single rfl, (h r.line).undecided, (h r.line).once⟩
  · rw [Ev.report_closeView_of_other e (m := m) (by
      by_cases hc : r.ofClose = true
      · exact .inr fun hl => hm ⟨hc, hl⟩
      · exact .inl (by simpa using hc))]
    exact h m

theorem Ev.arrive_closesSound (k : Stroke) (target : Nat) (h : e.closesSound)
    (hk : k.req.cls = .close → (e.closeView l).unspoken) : (e.arrive l k target).closesSound := by
  have hv := fun m => Ev.modValve_closeView e l m (fun v =>
    { v with stroke := some { k with phase := .hold, since := e.now, used := k.usedAt e.now,
                                     pauseUsed := k.pauseAt e.now, mark := e.now, paused := false },
             lastOutcome := some (.arrived, e.now) }) rfl
  unfold Ev.arrive
  refine Ev.report_closesSound (h.congr hv) fun hc => ?_
  show (Ev.closeView _ l).unspoken
  rw [hv l]
  refine hk ?_
  cases hcls : k.req.cls with
  | close => rfl
  | throttle => rw [hcls] at hc; cases hc
  | opening => rw [hcls] at hc; cases hc

theorem Ev.failStroke_closesSound (o : StrokeOutcome) (h : e.closesSound)
    (hk : ∀ k, (e.valve l).stroke = some k → k.req.cls = .close → (e.closeView l).unspoken) : (e.failStroke l o).closesSound := by
  unfold Ev.failStroke
  split
  · next k hs =>
    refine Ev.considerGrants_closesSound (Ev.report_closesSound (h.congr fun m => Ev.endStroke_closeView e l m o) fun hc => ?_)
    show (Ev.closeView _ l).unspoken
    rw [Ev.endStroke_closeView]
    refine hk k hs ?_
    cases hcls : k.req.cls with
    | close => rfl
    | throttle => rw [hcls] at hc; cases hc
    | opening => rw [hcls] at hc; cases hc
  · exact h

/-! ### Limit switches and samples -/

theorem Ev.modValve_stroke_closeView {pos : Nat} {src : PositionSource} (e : Ev) (l m : LineId) :
    (e.modValve l (fun v => { v with position := pos, source := src })).closeView m = e.closeView m :=
  Ev.modValve_closeView e l m _ rfl

theorem Ev.closedActive_closesSound (h : e.closesSound) (hk : (e.valve l).stroke.isSome = true → (e.closeView l).unspoken) :
    (e.closedActive l).closesSound := by
  have hv := fun m => Ev.modValve_stroke_closeView (pos := 0) (src := .arrival) e l m
  have h1 := h.congr hv
  have hs1 : ((e.modValve l (fun v => { v with position := 0, source := .arrival })).valve l).stroke = (e.valve l).stroke := by
    rw [Ev.modValve_valve]
  rw [← hs1, ← hv l] at hk
  unfold Ev.closedActive
  dsimp only
  generalize e.modValve l (fun v => { v with position := 0, source := .arrival }) = y at h1 hs1 hk
  refine Ev.report_closesSound ?_ (fun hc => by cases hc)
  split
  · exact h1
  · next k hin =>
    have hsome : (y.valve l).stroke.isSome = true := by rw [hs1, (State.strokeIn_some hin).1]; rfl
    split
    · exact Ev.arrive_closesSound k 0 h1 fun _ => hk hsome
    · split
      · exact Ev.arrive_closesSound k 0 h1 fun _ => hk hsome
      · exact Ev.failStroke_closesSound _ h1 fun _ _ _ => hk hsome
      · exact h1

/-- The open limit switch ends OPEN strokes alone. -/
theorem Ev.openActive_closesSound (l : LineId) (h : e.closesSound) : (e.openActive l).closesSound := by
  have h1 := h.congr fun m => Ev.modValve_stroke_closeView (pos := 1000) (src := .arrival) e l m
  have hs1 : ((e.modValve l (fun v => { v with position := 1000, source := .arrival })).valve l).stroke = (e.valve l).stroke := by
    rw [Ev.modValve_valve]
  unfold Ev.openActive
  dsimp only
  generalize e.modValve l (fun v => { v with position := 1000, source := .arrival }) = y at h1 hs1
  split
  · exact h1
  · next k hin =>
    have hst := (State.strokeIn_some hin).1
    split
    · next hcls =>
      split
      · exact Ev.arrive_closesSound k 1000 h1 fun hc => by rw [hcls] at hc; cases hc
      · refine Ev.failStroke_closesSound _ h1 fun j hj hc => ?_
        rw [hs1, hst] at hj; cases hj
        rw [hcls] at hc; cases hc
    · exact h1
    · exact h1

theorem Ev.takeSample_closesSound (pos : Nat) (h : e.closesSound)
    (hk : (e.valve l).stroke.isSome = true → (e.closeView l).unspoken) : (e.takeSample l pos).closesSound := by
  have hv := fun m => Ev.modValve_stroke_closeView (pos := pos) (src := .transmitter) e l m
  have h1 := h.congr hv
  rw [← hv l] at hk
  unfold Ev.takeSample
  dsimp only
  generalize e.modValve l (fun v => { v with position := pos, source := .transmitter }) = y at h1 hk
  split
  · exact h1
  · next k hin =>
    split
    · have hlearn := fun m => Ev.modValve_closeView y l m
        (fun v => { v with learnedRate := some (capturedRate (dist pos k.startPos) (k.usedAt e.now)) }) rfl
      refine Ev.arrive_closesSound k _ (h1.congr hlearn) fun _ => ?_
      rw [hlearn l]
      exact hk (by rw [(State.strokeIn_some hin).1]; rfl)
    · exact h1

/-- A stroke in progress at the beginning of an event: no CLOSE waits on its valve, and none is reported. -/
theorem begin_unspoken (t : Time) (hone : s.oneStroke) (hs : (s.valve l).stroke.isSome = true) :
    ((begin t s).closeView l).unspoken :=
  ⟨Valve.askedClose_of_pending (hone l hs), rfl⟩

theorem Ev.beginTravel_closeView (e : Ev) (l m : LineId) (k : Stroke) : (e.beginTravel l k).closeView m = e.closeView m := by
  refine Ev.closeView_congr rfl rfl ?_ rfl rfl
  by_cases hm : m = l
  · subst hm; simp [Ev.beginTravel, State.valve]
  · simp [Ev.beginTravel, State.valve, Quad.get_set, hm]

theorem Ev.turnaroundEnd_closeView (e : Ev) (l m : LineId) : (e.turnaroundEnd l).closeView m = e.closeView m := by
  unfold Ev.turnaroundEnd
  split
  · rfl
  · split
    · exact Ev.modValve_closeView e l m _ rfl
    · rfl

theorem withdrawn_not_close {k : Stroke} (h : s.withdrawn k = true) : k.req.cls ≠ .close := by
  intro hc
  unfold State.withdrawn at h
  rw [hc] at h
  cases hb : s.supply.band <;> simp [admitted, hb] at h

/-- What goes back to the queue is no CLOSE (R115, R120). -/
theorem Ev.withdraw_closesSound {k : Stroke} (h : e.closesSound) (hcls : k.req.cls ≠ .close) (ha : (e.closeView l).asked = none)
    (hfollow : ∀ r, (e.valve l).followOn = some r → r.cls ≠ .close) : (e.withdraw l k).closesSound := by
  have hback : (((e.valve l).followOn).getD k.req).cls ≠ .close := by
    cases hf : (e.valve l).followOn with
    | none => exact hcls
    | some r => exact hfollow r hf
  unfold Ev.withdraw
  refine Ev.considerGrants_closesSound (h.congr fun m => ?_)
  refine (Ev.modValve_closeView _ l m _ ?_).trans ((Ev.freeChannel_closeView _ l m).trans (Ev.modValve_closeView e l m _ rfl))
  refine (Valve.askedClose_eq_none fun r hr => ?_).trans ?_
  · cases hr; exact hback
  · rw [Ev.freeChannel_valve, Ev.modValve_valve]; exact ha.symm

theorem Ev.enqueue_closesSound {r : StrokeReq} (h : e.closesSound) (hr : r.cls ≠ .close) (ha : (e.closeView l).asked = none) :
    (e.enqueue l r).closesSound := by
  intro m
  by_cases hm : m = l
  · subst hm
    have hg := Ev.enqueue_granted (r := r) e m
    rw [if_neg hr, ← ha] at hg
    exact hg.sound (h m)
  · exact ((Ev.enqueue_aside e r hm).granted (by rw [(Ev.enqueue_strokesOnly e l r).undecided])).sound (h m)

theorem Ev.setupEnd_closesSound (l : LineId) (h : (begin t s).closesSound) (hone : s.oneStroke) (hfol : s.followOnsSound) :
    ((begin t s).setupEnd l).closesSound := by
  unfold Ev.setupEnd
  split
  · exact h
  · next k hin =>
    have hsome : (s.valve l).stroke.isSome = true := by
      rw [show (s.valve l).stroke = some k from (State.strokeIn_some hin).1]; rfl
    split
    · split
      · next hw =>
        exact Ev.withdraw_closesSound h (withdrawn_not_close hw) (begin_unspoken t hone hsome).1 fun r hr => (hfol l r hr).1
      · exact h.congr fun m => Ev.beginTravel_closeView _ l m k
    · exact h

theorem Ev.blankingEnd_closesSound (l : LineId) (h : (begin t s).closesSound) (hone : s.oneStroke) :
    ((begin t s).blankingEnd l).closesSound := by
  unfold Ev.blankingEnd
  split
  · exact h
  · next k hk =>
    have hquiet := begin_unspoken t hone (l := l) (by rw [show (s.valve l).stroke = some k from hk]; rfl)
    have hv := fun m => Ev.modValve_closeView (begin t s) l m (fun v => { v with stroke := some { k with blanking := false } }) rfl
    have h1 := h.congr hv
    rw [← hv l] at hquiet
    dsimp only
    split
    · generalize (begin t s).modValve l (fun v => { v with stroke := some { k with blanking := false } }) = y at h1 hquiet
      have h2 : (if ((begin t s).valve l).closedSwitch = true then y.closedActive l else y).closesSound := by
        split
        · exact Ev.closedActive_closesSound h1 fun _ => hquiet
        · exact h1
      split
      · exact Ev.openActive_closesSound l h2
      · exact h2
    · exact h

theorem Ev.simulatedArrival_closesSound (l : LineId) (h : (begin t s).closesSound) (hone : s.oneStroke) :
    ((begin t s).simulatedArrival l).closesSound := by
  unfold Ev.simulatedArrival
  split
  · exact h
  · next k hin =>
    have hquiet := begin_unspoken t hone (l := l)
      (by rw [show (s.valve l).stroke = some k from (State.strokeIn_some hin).1]; rfl)
    split
    · have hv := fun m => Ev.modValve_stroke_closeView (pos := k.req.target) (src := .simulated) (begin t s) l m
      exact Ev.arrive_closesSound k _ (h.congr hv) fun _ => by rw [hv l]; exact hquiet
    · exact h

theorem Ev.failAtBegin_closesSound (o : StrokeOutcome) (h : (begin t s).closesSound) (hone : s.oneStroke) :
    ((begin t s).failStroke l o).closesSound :=
  Ev.failStroke_closesSound o h fun k hk _ => begin_unspoken t hone (by rw [show (s.valve l).stroke = some k from hk]; rfl)

theorem Ev.travelTimeout_closesSound (l : LineId) (h : (begin t s).closesSound) (hone : s.oneStroke) :
    ((begin t s).travelTimeout l).closesSound := by
  unfold Ev.travelTimeout
  split
  · exact h
  · split
    · exact Ev.failAtBegin_closesSound _ h hone
    · exact h

theorem Ev.extensionExhausted_closesSound (l : LineId) (h : (begin t s).closesSound) (hone : s.oneStroke) :
    ((begin t s).extensionExhausted l).closesSound := by
  unfold Ev.extensionExhausted
  split
  · exact h
  · split
    · exact Ev.failAtBegin_closesSound _ h hone
    · exact h

/-- The end of a hold is reported with no CLOSE waiting on the valve, and what follows is no CLOSE (R115, R125). -/
theorem Ev.holdEnd_closesSound (l : LineId) (h : (begin t s).closesSound) (hone : s.oneStroke) (hfol : s.followOnsSound) :
    ((begin t s).holdEnd l).closesSound := by
  unfold Ev.holdEnd
  split
  · exact h
  · next k hin =>
    have hquiet := begin_unspoken t hone (l := l)
      (by rw [show (s.valve l).stroke = some k from (State.strokeIn_some hin).1]; rfl)
    dsimp only
    split
    · have hfreed := fun m => (Ev.freeChannel_closeView ((begin t s).modValve l
        (fun v => { v with stroke := none, followOn := none })) l m).trans (Ev.modValve_closeView (begin t s) l m _ rfl)
      have h1 := Ev.considerGrants_closesSound (h.congr hfreed)
      have hview := (Ev.considerGrants_granted (((begin t s).modValve l
        (fun v => { v with stroke := none, followOn := none })).freeChannel l) l).eq (by rw [hfreed]; exact hquiet.1)
      rw [hfreed l] at hview
      generalize ((((begin t s).modValve l (fun v => { v with stroke := none, followOn := none })).freeChannel l).considerGrants) = y
        at h1 hview
      have h2 := Ev.report_closesSound (r := .ended l k.req.cls) h1 fun _ => by
        show (y.closeView l).unspoken
        rw [hview]; exact hquiet
      split
      · next r hr =>
        refine Ev.enqueue_closesSound h2 (hfol l r hr).1 ?_
        show (y.closeView l).asked = none
        rw [hview]; exact hquiet.1
      · exact h2
    · exact h

theorem Ev.closedSwitch_closesSound (l : LineId) (a : Bool) (h : (begin t s).closesSound) (hone : s.oneStroke) :
    ((begin t s).closedSwitch l a).closesSound := by
  have hv := fun m => Ev.modValve_closeView (begin t s) l m (fun v => { v with closedSwitch := a }) rfl
  unfold Ev.closedSwitch
  split
  · exact h
  · dsimp only
    split
    · refine Ev.closedActive_closesSound (h.congr hv) fun hs => ?_
      rw [hv l]
      rw [Ev.modValve_valve] at hs
      exact begin_unspoken t hone hs
    · exact h.congr hv

theorem Ev.openSwitch_closesSound (l : LineId) (a : Bool) (h : e.closesSound) : (e.openSwitch l a).closesSound := by
  have h1 := h.congr fun m => Ev.modValve_closeView e l m (fun v => { v with openSwitch := a }) rfl
  unfold Ev.openSwitch
  split
  · exact h
  · dsimp only
    split
    · exact Ev.openActive_closesSound l h1
    · exact h1

/-! ### Samples and timers -/

theorem Ev.positionSample_closesSound (l : LineId) (microamps : Nat) (h : (begin t s).closesSound) (hone : s.oneStroke) :
    ((begin t s).positionSample l microamps).closesSound := by
  have flagged (y : Ev) (b : Bool) (m : LineId) : (y.setFeedbackFault l b).closeView m = y.closeView m :=
    (Ev.markIf_closeView _ _ _ m).trans (Ev.modValve_closeView y l m _ rfl)
  unfold Ev.positionSample
  split
  · have hv := fun m => (flagged ((begin t s).modValve l (fun r => { r with sample := some (scaled 1000 microamps) })) false m).trans
      (Ev.modValve_closeView (begin t s) l m _ rfl)
    have hs : ((((begin t s).modValve l (fun r => { r with sample := some (scaled 1000 microamps) })).setFeedbackFault l
        false).valve l).stroke = (s.valve l).stroke := by
      simp [Ev.setFeedbackFault, State.valve]; rfl
    dsimp only
    split
    · refine Ev.takeSample_closesSound _ (h.congr hv) fun hk => ?_
      rw [hv l]
      rw [hs] at hk
      exact begin_unspoken t hone hk
    · exact h.congr hv
  · exact h.congr fun m => flagged (begin t s) true m

theorem Ev.accumulatorSample_closesSound (microamps : Nat) (h : e.closesFresh) : (e.accumulatorSample microamps).closesSound := by
  have band (f : Supply → Supply) : (e.modSupply f).bandEvent.closesSound := fun l =>
    (Ev.bandEvent_closesCurrent (e := e.modSupply f) (Ev.closesFresh.congr h fun _ => rfl).current l).1
  unfold Ev.accumulatorSample
  split
  · exact band _
  · exact band _

/-- The end of a run-down plans the close of a line that holds no CLOSE. -/
theorem Ev.endRunDown_closesSound (cause : RunDownEnd) (h : e.closesFresh) (hp : e.closePhase l = some .runDown) :
    (e.endRunDown l cause).closesSound := by
  have hs := State.closePhase_closing hp
  have hc : (e.close l).isSome = true := by
    rw [State.closePhase, if_pos hs] at hp
    cases hcl : e.close l with
    | none => rw [hcl] at hp; cases hp
    | some r => rfl
  exact h.sound.of_line (l := l) (fun m hm => (Ev.endRunDown_asks e l cause).granted hm (by simp [hm]))
    (Ev.endRunDown_sound hs hc (h.free (by simp [CloseView.staged, Ev.closeView, hp])) cause)

theorem Ev.runDownExpiry_closesSound (l : LineId) (h : e.closesFresh) : (e.runDownExpiry l).closesSound := by
  unfold Ev.runDownExpiry
  split
  · next hp => exact Ev.endRunDown_closesSound _ h hp.1
  · exact h.sound

theorem Ev.pressureSample_closesSound (l : LineId) (microamps : Nat) (h : e.closesFresh) :
    (e.pressureSample l microamps).closesSound := by
  have flagged (y : Ev) (b : Bool) (m : LineId) : (y.setPressureFault l b).closeView m = y.closeView m :=
    (Ev.markIf_closeView _ _ _ m).trans (Ev.modFlow_closeView y l _ m)
  unfold Ev.pressureSample
  split
  · refine Ev.overWatch_closesSound l _ ?_
    have h1 : (((e.modFlow l (fun f => { f with
        pressure := scaled 4000 microamps, sampleSum := f.sampleSum + scaled 4000 microamps,
        sampleCount := f.sampleCount + 1 })).setPressureFault l false)).closesFresh := h.congr fun m => flagged _ false m
    unfold Ev.runDownSample
    split
    · next hp => exact Ev.endRunDown_closesSound _ h1 hp.1
    · exact h1.sound
  · exact h.sound.congr fun m => (Ev.modFlow_closeView _ l _ m).trans (flagged e true m)

theorem Ev.dwellOver_closesSound (l : LineId) (h : e.closesFresh) : (e.dwellOver l).closesSound := by
  unfold Ev.dwellOver
  split
  · next hp =>
    have hf : (e.closeView l).Free := h.free (by simp [CloseView.staged, Ev.closeView, hp.1])
    have hs : (e.line l).state = .closing := State.closePhase_closing hp.1
    have hbooks := (Ev.modClose_recordsOnly e l (fun r => { r with dwellOver := true })).books
    exact h.sound.of_line (l := l) (fun m hm => (hbooks.asks (Ev.nextStage_asks _ l)).granted hm (by simp [hm]))
      (Ev.nextStage_sound (e := e.modClose l _) hs (hbooks.free hf))
  · exact h.sound

theorem Ev.debounceExpires_closesSound (h : e.closesSound) : e.debounceExpires.closesSound := by
  unfold Ev.debounceExpires
  split
  · exact h
  · split
    · exact Ev.raiseCause_closesSound _ (h.congr fun _ => rfl)
    · exact h
  · exact h

theorem Ev.loopOpens_closeView (e : Ev) (m : LineId) : e.loopOpens.closeView m = e.closeView m := by
  unfold Ev.loopOpens
  split <;> rfl

end Sys2Proof.Machine
end

section
/-! Every command keeps a CLOSE waiting only where a stroke of its close is in hand, and with it every step keeps the valves and
channels sound. -/

namespace Sys2Proof.Machine
variable {c : Instr} {s u v : State} {t : Time}

theorem frameEvent_closesSound {op : Ev → Ev} (hop : ∀ x, Ev.closesSound x → (op x).closesSound) (h : (begin t s).closesSound) :
    (op (begin t s).shipHunt).closesSound := hop _ (h.congr fun _ => rfl)

theorem Ev.waitFrame_closesSound {e : Ev} (k : TankId) (h : e.closesSound) :
    (e.tankFrame k (fun p x => x.closePoll p (.reply .wait)) (fun p x => x.closePoll p (.reply .wait))).closesSound :=
  Ev.tankFrame_closesSound k _ _ (fun p => Ev.closePoll_closesSound p _ h) (fun p => Ev.closePoll_closesSound p _ h) h

theorem Ev.refuseFrame_closesSound {e : Ev} (k : TankId) (h : e.closesSound) :
    (e.tankFrame k (fun p x => (x.closePoll p (.reply .refuse)).refused k)
      (fun p x => (x.closePoll p (.reply .refuse)).refused k)).closesSound :=
  Ev.tankFrame_closesSound k _ _ (fun p => Ev.refused_closesSound k (Ev.closePoll_closesSound p _ h))
    (fun p => Ev.refused_closesSound k (Ev.closePoll_closesSound p _ h)) h

/-- Every command but POWER_ON is one event whose work leaves every CLOSE sound. -/
theorem exec_event_closesSound (c : Instr) (hp : ∀ i, c ≠ .powerOn i) (hone : s.oneStroke) (hfol : s.followOnsSound)
    (hs : s.pendingClosesSound) : ∃ t op, exec c s = event t s op ∧ (op (begin t s)).closesSound := by
  have hf (t : Time) : (begin t s).closesFresh := begin_closesFresh t hs
  have h0 (t : Time) : (begin t s).closesSound := (hf t).sound
  cases c with
  | powerOn i => exact absurd rfl (hp i)
  | consoleFrameReceived t kind tag payload =>
    unfold exec execConsoleFrameReceived
    exact ⟨t, _, rfl, Ev.consoleFrame_closesSound kind tag payload (h0 t)⟩
  | consoleGapTimeout t =>
    unfold exec execConsoleGapTimeout
    exact ⟨t, _, rfl, (h0 t).congr fun _ => rfl⟩
  | consoleFramingError t =>
    unfold exec execConsoleFramingError
    exact ⟨t, _, rfl, (h0 t).congr fun _ => rfl⟩
  | consoleLengthMismatch t =>
    unfold exec execConsoleLengthMismatch
    exact ⟨t, _, rfl, (h0 t).congr fun _ => rfl⟩
  | consoleBadCheck t =>
    unfold exec execConsoleBadCheck
    exact ⟨t, _, rfl, (h0 t).congr fun _ => rfl⟩
  | transmitFrameEnd t =>
    unfold exec execTransmitFrameEnd
    exact ⟨t, _, rfl, Ev.endFrame_closesSound (h0 t)⟩
  | lineProfile t tag line p =>
    unfold exec execLineProfile
    exact ⟨t, _, rfl, Ev.serve_closesSound _ _ _ (fun x hx => Ev.onLine_closesSound line _ (fun l => Ev.lineProfileOf_closesSound l p hx.sound) hx.sound) (hf t)⟩
  | fillOrder t tag line o =>
    unfold exec execFillOrder
    exact ⟨t, _, rfl, Ev.serve_closesSound _ _ _ (fun x hx => Ev.onLine_closesSound line _ (fun l => Ev.fillOrderOf_closesSound l o hx.sound) hx.sound) (hf t)⟩
  | start t tag line =>
    unfold exec execStart
    exact ⟨t, _, rfl, Ev.serve_closesSound _ _ _ (fun x hx => Ev.onLine_closesSound line _ (fun l => Ev.startLine_closesSound l hx.sound) hx.sound) (hf t)⟩
  | hold t tag line =>
    unfold exec execHold
    exact ⟨t, _, rfl, Ev.serve_closesSound _ _ _ (fun x hx => Ev.onLine_closesSound line _ (fun l => Ev.holdRequest_closesSound l hx.sound) hx.sound) (hf t)⟩
  | resume t tag line =>
    unfold exec execResume
    exact ⟨t, _, rfl, Ev.serve_closesSound _ _ _ (fun x hx => Ev.onLine_closesSound line _ (fun l => Ev.resumeLine_closesSound l hx.sound) hx.sound) (hf t)⟩
  | stop t tag line =>
    unfold exec execStop
    exact ⟨t, _, rfl, Ev.serve_closesSound _ _ _ (fun x hx => Ev.onLine_closesSound line _ (fun l => Ev.stopRequest_closesSound l hx.sound) hx.sound) (hf t)⟩
  | clearTrip t tag line =>
    unfold exec execClearTrip
    exact ⟨t, _, rfl, Ev.serve_closesSound _ _ _ (fun x hx => Ev.onLine_closesSound line _ (fun l => Ev.clearTripRequest_closesSound l hx.sound) hx.sound) (hf t)⟩
  | readLine t tag line =>
    unfold exec execReadLine
    exact ⟨t, _, rfl, Ev.serve_closesSound _ _ _ (fun x hx => Ev.onLine_closesSound line _ (fun l => hx.sound) hx.sound) (hf t)⟩
  | readTrip t tag line =>
    unfold exec execReadTrip
    exact ⟨t, _, rfl, Ev.serve_closesSound _ _ _ (fun x hx => Ev.onLine_closesSound line _ (fun l => hx.sound) hx.sound) (hf t)⟩
  | gradeProfile t tag n o =>
    unfold exec execGradeProfile
    exact ⟨t, _, rfl, Ev.serve_closesSound _ _ _ (fun x hx => Ev.gradeRequest_closesSound n o hx.sound) (hf t)⟩
  | hpuProfile t tag p =>
    unfold exec execHpuProfile
    exact ⟨t, _, rfl, Ev.serve_closesSound _ _ _ (fun x hx => Ev.hpuRequest_closesSound p hx) (hf t)⟩
  | esdStop t tag =>
    unfold exec execEsdStop
    exact ⟨t, _, rfl, Ev.serve_closesSound _ _ _ (fun x hx => Ev.raiseCause_closesSound .console hx.sound) (hf t)⟩
  | esdReset t tag =>
    unfold exec execEsdReset
    exact ⟨t, _, rfl, Ev.serve_closesSound _ _ _ (fun x hx => Ev.esdResetRequest_closesSound hx.sound) (hf t)⟩
  | renegotiate t tag =>
    unfold exec execRenegotiate
    exact ⟨t, _, rfl, Ev.serve_closesSound _ _ _ (fun x hx => Ev.renegotiateRequest_closesSound hx.sound) (hf t)⟩
  | manualTerms t tag n r =>
    unfold exec execManualTerms
    exact ⟨t, _, rfl, Ev.serve_closesSound _ _ _ (fun x hx => Ev.manualRequest_closesSound n r hx.sound) (hf t)⟩
  | restart t tag =>
    unfold exec execRestart
    exact ⟨t, _, rfl, Ev.serve_closesSound _ _ _ (fun x hx => Ev.restartRequest_closesSound hx.sound) (hf t)⟩
  | readLink t tag =>
    unfold exec execReadLink
    exact ⟨t, _, rfl, Ev.serve_closesSound _ _ _ (fun x hx => hx.sound) (hf t)⟩
  | readHpu t tag =>
    unfold exec execReadHpu
    exact ⟨t, _, rfl, Ev.serve_closesSound _ _ _ (fun x hx => hx.sound) (hf t)⟩
  | readEsd t tag =>
    unfold exec execReadEsd
    exact ⟨t, _, rfl, Ev.serve_closesSound _ _ _ (fun x hx => hx.sound) (hf t)⟩
  | readTank t tag tank =>
    unfold exec execReadTank
    refine ⟨t, _, rfl, Ev.serve_closesSound _ _ _ (fun x hx => ?_) (hf t)⟩
    split
    · exact hx.sound
    · exact hx.sound
  | restartEffect t =>
    unfold exec execRestartEffect
    refine ⟨t, _, rfl, ?_⟩
    split
    · exact Ev.restartEffect_closesSound (hf t)
    · exact h0 t
  | silenceExpiry t =>
    unfold exec execSilenceExpiry
    refine ⟨t, _, rfl, ?_⟩
    split
    · exact (h0 t).congr fun m => Ev.silenceEnds_closeView _ m
    · exact h0 t
  | marker t =>
    unfold exec execMarker
    exact ⟨t, _, rfl, Ev.marker_closesSound (h0 t)⟩
  | panelSlotStart t =>
    unfold exec execPanelSlotStart
    exact ⟨t, _, rfl, (h0 t).congr fun _ => rfl⟩
  | tankSlotStart t slot =>
    unfold exec execTankSlotStart
    exact ⟨t, _, rfl, (h0 t).congr fun m => Ev.sendTankPoll_closeView _ slot m⟩
  | panelReply t flags w1 w2 =>
    unfold exec execPanelReply frameEvent
    exact ⟨t, _, rfl, frameEvent_closesSound (fun x hx => Ev.panelFrame_closesSound _ hx) (h0 t)⟩
  | panelReplyTimeout t =>
    unfold exec execPanelReplyTimeout
    exact ⟨t, _, rfl, Ev.replyTimeout_closesSound true (h0 t)⟩
  | reading t tank toggle flags level =>
    unfold exec execReading frameEvent
    exact ⟨t, _, rfl, frameEvent_closesSound (fun x hx => Ev.readingFrame_closesSound tank toggle flags level hx) (h0 t)⟩
  | declaration t tank dec =>
    unfold exec execDeclaration frameEvent
    exact ⟨t, _, rfl, frameEvent_closesSound (fun x hx => Ev.declarationFrame_closesSound tank dec hx) (h0 t)⟩
  | declarationOnRead t tank dec =>
    unfold exec execDeclarationOnRead frameEvent
    exact ⟨t, _, rfl, frameEvent_closesSound (fun x hx => Ev.declarationFrame_closesSound tank dec hx) (h0 t)⟩
  | wait t tank =>
    unfold exec execWait frameEvent
    exact ⟨t, _, rfl, frameEvent_closesSound (fun x hx => Ev.waitFrame_closesSound tank hx) (h0 t)⟩
  | refuse t tank =>
    unfold exec execRefuse frameEvent
    exact ⟨t, _, rfl, frameEvent_closesSound (fun x hx => Ev.refuseFrame_closesSound tank hx) (h0 t)⟩
  | shipBadCheck t =>
    unfold exec execShipBadCheck frameEvent
    exact ⟨t, _, rfl, frameEvent_closesSound (fun x hx => Ev.badFrame_closesSound _ hx) (h0 t)⟩
  | shipReplyUnlisted t =>
    unfold exec execShipReplyUnlisted frameEvent
    exact ⟨t, _, rfl, frameEvent_closesSound (fun x hx => Ev.badFrame_closesSound _ hx) (h0 t)⟩
  | shipFrameOtherAddress t =>
    unfold exec execShipFrameOtherAddress frameEvent
    exact ⟨t, _, rfl, frameEvent_closesSound (fun x hx => Ev.badFrame_closesSound _ hx) (h0 t)⟩
  | shipFrameError t =>
    unfold exec execShipFrameError
    exact ⟨t, _, rfl, (h0 t).congr fun _ => rfl⟩
  | tankReplyTimeout t =>
    unfold exec execTankReplyTimeout
    exact ⟨t, _, rfl, Ev.replyTimeout_closesSound false (h0 t)⟩
  | provingTimeout t l =>
    unfold exec execProvingTimeout
    refine ⟨t, _, rfl, ?_⟩
    unfold Ev.provingTimeout
    split
    · exact Ev.trip_closesSound l _ (h0 t)
    · exact h0 t
  | changeoverTimeout t l =>
    unfold exec execChangeoverTimeout
    refine ⟨t, _, rfl, ?_⟩
    unfold Ev.changeoverTimeout
    split
    · exact Ev.trip_closesSound l _ (h0 t)
    · exact h0 t
  | settleDeadline t l =>
    unfold exec execSettleDeadline
    refine ⟨t, _, rfl, ?_⟩
    unfold Ev.settleDeadline
    split
    · exact (h0 t).congr fun m => Ev.modPred_closeView _ l _ m
    · exact h0 t
  | runDownExpiry t l =>
    unfold exec execRunDownExpiry
    exact ⟨t, _, rfl, Ev.runDownExpiry_closesSound l (hf t)⟩
  | dwellEnd t l =>
    unfold exec execDwellEnd
    exact ⟨t, _, rfl, Ev.dwellOver_closesSound l (hf t)⟩
  | gateEnd t =>
    unfold exec execGateEnd
    exact ⟨t, _, rfl, Ev.gateEnd_closesSound (h0 t)⟩
  | meterPulse t l =>
    unfold exec execMeterPulse
    exact ⟨t, _, rfl, (h0 t).congr fun _ => rfl⟩
  | pressureSample t l x =>
    unfold exec execPressureSample
    exact ⟨t, _, rfl, Ev.pressureSample_closesSound l x (hf t)⟩
  | positionSample t l x =>
    unfold exec execPositionSample
    exact ⟨t, _, rfl, Ev.positionSample_closesSound l x (h0 t) hone⟩
  | accumulatorSample t x =>
    unfold exec execAccumulatorSample
    exact ⟨t, _, rfl, Ev.accumulatorSample_closesSound x (hf t)⟩
  | turnaroundEnd t l =>
    unfold exec execTurnaroundEnd
    exact ⟨t, _, rfl, (h0 t).congr fun m => Ev.turnaroundEnd_closeView _ l m⟩
  | setupEnd t l =>
    unfold exec execSetupEnd
    exact ⟨t, _, rfl, Ev.setupEnd_closesSound l (h0 t) hone hfol⟩
  | blankingEnd t l =>
    unfold exec execBlankingEnd
    exact ⟨t, _, rfl, Ev.blankingEnd_closesSound l (h0 t) hone⟩
  | simulatedArrival t l =>
    unfold exec execSimulatedArrival
    exact ⟨t, _, rfl, Ev.simulatedArrival_closesSound l (h0 t) hone⟩
  | travelTimeout t l =>
    unfold exec execTravelTimeout
    exact ⟨t, _, rfl, Ev.travelTimeout_closesSound l (h0 t) hone⟩
  | extensionExhausted t l =>
    unfold exec execExtensionExhausted
    exact ⟨t, _, rfl, Ev.extensionExhausted_closesSound l (h0 t) hone⟩
  | holdEnd t l =>
    unfold exec execHoldEnd
    exact ⟨t, _, rfl, Ev.holdEnd_closesSound l (h0 t) hone hfol⟩
  | closedLimitSwitch t l a =>
    unfold exec execClosedLimitSwitch
    exact ⟨t, _, rfl, Ev.closedSwitch_closesSound l a (h0 t) hone⟩
  | openLimitSwitch t l a =>
    unfold exec execOpenLimitSwitch
    exact ⟨t, _, rfl, Ev.openSwitch_closesSound l a (h0 t)⟩
  | esdLoopOpen t =>
    unfold exec execEsdLoopOpen
    exact ⟨t, _, rfl, (h0 t).congr fun m => Ev.loopOpens_closeView _ m⟩
  | esdLoopClosed t =>
    unfold exec execEsdLoopClosed
    exact ⟨t, _, rfl, (h0 t).congr fun _ => rfl⟩
  | loopDebounceExpiry t =>
    unfold exec execLoopDebounceExpiry
    exact ⟨t, _, rfl, Ev.debounceExpires_closesSound (h0 t)⟩

theorem exec_pendingClosesSound (h : exec c s = .next u) (hone : s.oneStroke) (hfol : s.followOnsSound)
    (hs : s.pendingClosesSound) : u.pendingClosesSound := by
  by_cases hp : ∃ i, c = .powerOn i
  · obtain ⟨i, rfl⟩ := hp
    intro l r hr
    rw [(powerOn_valve h l).1] at hr; cases hr
  · obtain ⟨t, op, hc, hw⟩ := exec_event_closesSound c (fun i hi => hp ⟨i, hi⟩) hone hfol hs
    rw [hc] at h
    cases h
    have hend := (Ev.drain_closesSound hw).pendingClosesSound
    intro l r hr hcls
    have hr' : ((op (begin t s)).drain.valve l).pending = some r := by
      simpa [finish, State.valve] using hr
    have hphase : (finish (op (begin t s))).closePhase l = (op (begin t s)).drain.closePhase l :=
      State.closePhase_congr (by simp [finish, State.line]) (by simp [finish, State.close])
    rw [hphase]
    exact hend l r hr' hcls

/-- Settles O15: learned rates, strokes, follow-ons, channels and targets piece by piece of each command's work, and the CLOSE that
waits by the views of the closes within an event. -/
theorem valvesStaySound : Obligations.ValvesStaySound := by
  refine ⟨fun _ _ hs h => step_keeps (P := State.ratesBounded) (fun _ _ h => h) (fun _ _ _ h hv => exec_ratesBounded h hv) h hs,
    fun _ _ hs h => step_keeps (P := State.oneStroke) (fun _ _ h => h) (fun _ _ _ h hv => exec_oneStroke h hv) h hs,
    fun _ _ h1 hs h => (step_keeps (P := fun x => x.oneStroke ∧ x.followOnsSound) (fun _ _ h => h)
      (fun _ _ _ h hv => ⟨exec_oneStroke h hv.1, exec_followOnsSound h hv.1 hv.2⟩) h ⟨h1, hs⟩).2,
    fun _ _ h1 hs h => (step_keeps (P := fun x => x.oneStroke ∧ x.channelsSound) (fun _ _ h => h)
      (fun _ _ _ h hv => ⟨exec_oneStroke h hv.1, exec_channelsSound h hv.1 hv.2⟩) h ⟨h1, hs⟩).2,
    fun _ _ h1 hf hs h => (step_keeps (P := fun x => x.oneStroke ∧ x.followOnsSound ∧ x.pendingClosesSound) (fun _ _ h => h)
      (fun _ _ _ h hv => ⟨exec_oneStroke h hv.1, exec_followOnsSound h hv.1 hv.2.1, exec_pendingClosesSound h hv.1 hv.2.1 hv.2.2⟩)
      h ⟨h1, hf, hs⟩).2.2,
    fun s u hs hhead h => ?_⟩
  rcases step_cases h with rfl | ⟨c, cs, hp, hc⟩
  · exact hs
  · exact exec_targetsBounded hc (fun t tag n p hcmd => hhead t tag n p (by rw [hp, hcmd]; rfl)) hs

end Sys2Proof.Machine
end

section
/-! What a line's account and its watches have written by the end of a gate, and what the rest of the event leaves alone of it: the
reports handed on and the closes decided change no litres, no totals and no quiet timer (R94, R104, R105). -/

namespace Sys2Proof.Machine
variable {e e' x y z : Ev} {l m : LineId} {g : Ground} {s u v : State} {k n : TankId}

/-- What a line's record holds of its account, with QUIET_PENDING. -/
abbrev LineRec.ledger (x : LineRec) : Nat × List TankId × Bool × Nat := (x.delivered, x.fedSet, x.quietPending, x.pendingVol)

/-- What the Flow Monitor holds for the account, the quiet timer and the tests of a gate end. -/
abbrev Flow.ledger (x : Flow) : Nat × Nat × Option Int × Option Nat := (x.pulseTotal, x.quiet, x.excess, x.blindWindow)

/-- The accounts of the lines and the litres attributed to the tanks. -/
structure Ledger where
  lines : LineId → Nat × List TankId × Bool × Nat
  flows : LineId → Nat × Nat × Option Int × Option Nat
  litres : TankId → Nat

def State.ledger (s : State) : Ledger :=
  { lines := fun m => (s.line m).ledger, flows := fun m => (s.flow m).ledger, litres := fun n => (s.tank n).attributed }

/-! ### The updates -/

theorem Ev.modLine_ledger (e : Ev) (l : LineId) {f : LineRec → LineRec} (hf : ∀ x, (f x).ledger = x.ledger) :
    (e.modLine l f).ledger = e.ledger := by
  have hlines : (fun m => ((e.modLine l f).line m).ledger) = fun m => (e.line m).ledger := by
    funext m
    by_cases hm : m = l
    · subst hm; simpa [State.line, Ev.modLine] using hf (e.lines.get m)
    · simp [State.line, Ev.modLine, Quad.get_set_ne _ _ hm]
  exact congrArg (fun p => { e.ledger with lines := p }) hlines

theorem Ev.modFlow_ledger (e : Ev) (l : LineId) {f : Flow → Flow} (hf : ∀ x, (f x).ledger = x.ledger) :
    (e.modFlow l f).ledger = e.ledger := by
  have hflows : (fun m => ((e.modFlow l f).flow m).ledger) = fun m => (e.flow m).ledger := by
    funext m
    by_cases hm : m = l
    · subst hm; simpa [State.flow, Ev.modFlow] using hf (e.flows.get m)
    · simp [State.flow, Ev.modFlow, Quad.get_set_ne _ _ hm]
  exact congrArg (fun p => { e.ledger with flows := p }) hflows

theorem Ev.modTank_ledger (e : Ev) (k : TankId) {f : Tank → Tank} (hf : ∀ x, (f x).attributed = x.attributed) :
    (e.modTank k f).ledger = e.ledger := by
  have htanks : (fun n => ((e.modTank k f).tank n).attributed) = fun n => (e.tank n).attributed := by
    funext n
    simp only [State.tank, Ev.modTank_tanks, Tanks.get_set]
    split
    · next h => rw [hf, h]
    · rfl
  exact congrArg (fun p => { e.ledger with litres := p }) htanks

@[simp] theorem Ev.mark_ledger (e : Ev) (key : NoticeKey) : (e.mark key).ledger = e.ledger := by
  unfold Ev.mark
  split <;> rfl

@[simp] theorem Ev.markIf_ledger (e : Ev) (b : Bool) (key : NoticeKey) : (e.markIf b key).ledger = e.ledger := by
  cases b
  · rfl
  · exact Ev.mark_ledger e key

theorem Ev.setUse_ledger (e : Ev) (k : TankId) (u : TankUse) : (e.setUse k u).ledger = e.ledger := by
  rw [Ev.setUse, Ev.markIf_ledger]
  exact Ev.modTank_ledger e k (by intro; rfl)

theorem Ev.StrokesOnly.ledger (h : e.StrokesOnly e') : e'.ledger = e.ledger := by
  unfold State.ledger
  simp only [State.line, State.flow, State.tank, h.lines, h.flows, h.tanks]

theorem Ev.evalPermitOf_ledger (e : Ev) (l : LineId) : (e.evalPermitOf l).ledger = e.ledger := by
  obtain ⟨sh, ds, h, -⟩ := Ev.evalPermitOf_writes e l
  rw [h]
  rfl

theorem Ev.setState_ledger (e : Ev) (l : LineId) (st : LineState) : (e.setState l st).ledger = e.ledger := by
  rw [Ev.setState, Ev.evalPermitOf_ledger, Ev.mark_ledger]
  exact Ev.modLine_ledger e l (by intro; rfl)

theorem Ev.setSurge_ledger (e : Ev) (l : LineId) (b : Bool) : (e.setSurge l b).ledger = e.ledger := by
  rw [Ev.setSurge, Ev.markIf_ledger]
  exact Ev.modLine_ledger e l (by intro; rfl)

/-! ### Closes and reports -/

theorem Ev.dropClose_ledger (e : Ev) (l : LineId) : (e.dropClose l).ledger = e.ledger :=
  (Ev.modFlow_ledger _ l (by intro; rfl)).trans (Ev.modLine_ledger (e.setClose l none) l (by intro; rfl))

theorem Ev.settleComplete_ledger (e : Ev) (l : LineId) : (e.settleComplete l).ledger = e.ledger := by
  obtain ⟨tk, d, h, htk⟩ := Ev.settleComplete_writes e l
  have hlitres : (fun n => (tk.get n).attributed) = fun n => (e.tank n).attributed := by
    funext n
    rw [htk]
    split <;> rfl
  rw [h]
  exact congrArg (fun p => { e.ledger with litres := p }) hlitres

theorem Ev.useActive_ledger (e y : Ev) (l : LineId) (u : TankUse) : (e.useActive y l u).ledger = y.ledger := by
  unfold Ev.useActive
  split
  · exact Ev.setUse_ledger y _ u
  · rfl

theorem Ev.closeEnd_ledger (e : Ev) (l : LineId) : (e.closeEnd l).ledger = e.ledger := by
  have dropped := Ev.dropClose_ledger e l
  rw [Ev.closeEnd_eq]
  split
  · exact ((Ev.setState_ledger _ l _).trans (Ev.modLine_ledger _ l (by intro; rfl))).trans
      ((Ev.settleComplete_ledger _ l).trans dropped)
  · exact (Ev.setState_ledger _ l _).trans ((Ev.useActive_ledger e _ l _).trans dropped)
  · exact (Ev.setState_ledger _ l _).trans ((Ev.useActive_ledger e _ l _).trans dropped)
  · exact ((Ev.setState_ledger _ l _).trans (Ev.modLine_ledger _ l (by intro; rfl))).trans dropped
  · exact ((Ev.setState_ledger _ l _).trans (Ev.modLine_ledger _ l (by intro; rfl))).trans dropped
  · exact dropped

theorem Ev.requestStroke_ledger (e : Ev) (l : LineId) (cls : StrokeClass) (target : Nat) (retry : Bool) :
    (e.requestStroke l cls target retry).ledger = e.ledger := (Ev.requestStroke_strokesOnly e l cls target retry).ledger

theorem Ev.requestStage_ledger (e : Ev) (l : LineId) (n : Nat) : (e.requestStage l n).ledger = e.ledger := by
  unfold Ev.requestStage
  split
  · rfl
  · split
    · rfl
    · exact Ev.requestStroke_ledger _ l _ _ _

theorem Ev.startPlan_ledger (e : Ev) (l : LineId) : (e.startPlan l).ledger = e.ledger := by
  have planned : ((e.modClose l (fun c => { c with plan := some (e.makePlan l) })).setSurge l (e.closeFigures l).limited).ledger =
      e.ledger := Ev.setSurge_ledger _ l _
  unfold Ev.startPlan
  dsimp only
  split
  · exact (Ev.closeEnd_ledger _ l).trans planned
  · split
    · exact (Ev.requestStroke_ledger _ l _ _ _).trans planned
    · exact (Ev.requestStage_ledger _ l 1).trans planned

theorem Ev.decideClose_ledger (e : Ev) (l : LineId) : (e.decideClose l).ledger = e.ledger := by
  unfold Ev.decideClose
  split
  · dsimp only
    split
    · exact Ev.startPlan_ledger e l
    · split
      · exact Ev.startPlan_ledger _ l
      · split
        · exact Ev.startPlan_ledger _ l
        · rfl
  · rfl

theorem Ev.plannerArrived_ledger (e : Ev) (l : LineId) (target : Nat) : (e.plannerArrived l target).ledger = e.ledger := by
  unfold Ev.plannerArrived
  split
  · split
    · exact Ev.closeEnd_ledger e l
    · rfl
  · rfl

theorem Ev.plannerEnded_ledger (e : Ev) (l : LineId) : (e.plannerEnded l).ledger = e.ledger := by
  unfold Ev.plannerEnded
  split
  · unfold Ev.nextStage
    split
    · split
      · exact Ev.requestStage_ledger _ l _
      · rfl
    · rfl
  · rfl

theorem Ev.settleArrival_ledger (e : Ev) (l : LineId) (target : Nat) : (e.settleArrival l target).ledger = e.ledger := by
  unfold Ev.settleArrival
  split <;> rfl

theorem Ev.enterProving_ledger (e : Ev) (l : LineId) : (e.enterProving l).ledger = e.ledger :=
  (Ev.setState_ledger _ l _).trans ((Ev.modFlow_ledger _ l (by intro; rfl)).trans (Ev.modLine_ledger e l (by intro; rfl)))

/-- A calm report handed on changes no account. -/
theorem Ev.handleReport_ledger (r : Report) (hr : r.calm g) : (e.handleReport r).ledger = e.ledger := by
  cases r with
  | arrived l cls target =>
    cases cls with
    | close => exact Ev.plannerArrived_ledger e l target
    | throttle => exact Ev.settleArrival_ledger e l target
    | opening =>
      simp only [Ev.handleReport]
      split
      · exact Ev.enterProving_ledger e l
      · exact Ev.settleArrival_ledger e l target
  | ended l cls =>
    cases cls with
    | close =>
      simp only [Ev.handleReport]
      split
      · exact Ev.requestStroke_ledger e l _ _ _
      · exact Ev.plannerEnded_ledger e l
    | throttle => rfl
    | opening => rfl
  | failed l cls o => exact absurd hr id
  | seated l => exact absurd hr id

/-- The end of an event changes no account. -/
theorem Ev.drain_ledger (hc : e.calm g) : e.drain.ledger = e.ledger :=
  Ev.drain_calm_induction (P := fun y => y.ledger = e.ledger) (fun _ r _ hr h => (Ev.handleReport_ledger r hr).trans h)
    (fun y l _ h => (Ev.decideClose_ledger y l).trans h) (fun _ _ h => h) (fun _ _ h => h) e hc rfl

/-- A line is in CHANGEOVER at the end of an event when it was before its reports and closes. -/
theorem Ev.drain_changeover (hc : e.calm g) (l : LineId) :
    (e.drain.line l).state = .changeover ↔ (e.line l).state = .changeover := by
  refine ⟨fun h => ?_, fun h => ?_⟩
  · by_contra hne
    refine Ev.drain_keeps_lane (P := fun b => b.1.state ≠ .changeover) hc l ?_ hne h
    rintro a b ha hstep
    cases hstep with
    | settling y hy ht => exact ha
    | proving b w hst => nofun
    | closing y c hst => exact ha
    | ended _ hst hsw' hf => exact fun hb => by rw [hb] at hf; cases hf
  · rw [(Ev.drain_still hc (by rw [h]; nofun) (by rw [h]; nofun)).1, h]

/-! ### Trips -/

theorem Ev.writeTrip_ledger (e : Ev) (l : LineId) (c : TripCause) : (e.writeTrip l c).ledger = e.ledger := by
  rw [Ev.writeTrip, Ev.mark_ledger]
  exact Ev.modLine_ledger e l (by intro; rfl)

theorem Ev.retripClosing_ledger (e : Ev) (l : LineId) (reason : CloseReason) (c : TripCause) :
    (e.retripClosing l reason c).ledger = e.ledger := by
  rw [Ev.retripClosing, Ev.markIf_ledger, Ev.modFlow_ledger _ _ (by intro; rfl), Ev.modLine_ledger _ _ (by intro; rfl)]
  exact Ev.writeTrip_ledger e l c

theorem Ev.throttleTo_ledger (e : Ev) (l : LineId) (pos : Nat) : (e.throttleTo l pos).ledger = e.ledger := by
  rw [Ev.throttleTo, Ev.requestStroke_ledger]
  have moved : ((e.modLine l (fun x => { x with throttle := pos })).modFlow l
      (fun x => { x with rateCount := 0, pressCount := 0 })).ledger = e.ledger :=
    (Ev.modFlow_ledger _ l (by intro; rfl)).trans (Ev.modLine_ledger e l (by intro; rfl))
  split <;> exact moved

end Sys2Proof.Machine
end

section
/-! The tests of a gate end: what they leave alone, whatever they decide. A trip out of CHANGEOVER gives the pending volume to the
ACTIVE tank (R51); nothing else that the tests do touches an account. -/

namespace Sys2Proof.Machine
variable {e e' e'' x y z : Ev} {l m : LineId} {g : Ground} {s u v : State} {k n : TankId}

/-! ### The end of a changeover (R51) -/

/-- The litres attributed to the tanks once the pending volume of line `l` has gone to its ACTIVE tank. -/
def State.exited (s : State) (l : LineId) : TankId → Nat :=
  fun n => (s.tank n).attributed + if s.activeTank l = some n then (s.line l).pendingVol else 0

theorem State.activeTank_congr (hl : v.lists = u.lists) (hu : ∀ n, (v.tank n).use = (u.tank n).use) (l : LineId) :
    v.activeTank l = u.activeTank l := by
  simp only [State.activeTank, State.list, hl, hu]

theorem State.incomingTank_congr (hl : v.lists = u.lists) (hu : ∀ n, (v.tank n).use = (u.tank n).use) (l : LineId) :
    v.incomingTank l = u.incomingTank l := by
  simp only [State.incomingTank, State.list, hl, hu]

/-- Credit litres to the ACTIVE tank of a line, if there is one. -/
def Ev.creditActive (e : Ev) (l : LineId) (litres : Nat) : Ev :=
  match e.activeTank l with
  | some k => e.credit k litres
  | none => e

theorem Ev.creditActive_attributed (e : Ev) (l : LineId) (litres : Nat) (n : TankId) :
    ((e.creditActive l litres).tank n).attributed =
      (e.tank n).attributed + if e.activeTank l = some n then litres else 0 := by
  unfold Ev.creditActive
  cases hk : e.activeTank l with
  | none => simp
  | some k =>
    simp only [State.tank, Ev.credit, Ev.modTank_tanks, Tanks.get_set, Option.some.injEq]
    by_cases hn : n = k
    · subst hn; simp
    · simp [hn, Ne.symm hn]

theorem Ev.creditActive_flows (e : Ev) (l : LineId) (litres : Nat) : (e.creditActive l litres).flows = e.flows := by
  unfold Ev.creditActive
  split <;> rfl

theorem Ev.changeoverExit_ledger (e : Ev) (l : LineId) (reason : CloseReason) :
    (e.changeoverExit l reason).ledger.litres = e.exited l ∧ (e.changeoverExit l reason).ledger.flows = e.ledger.flows := by
  have freed (y : Ev) : State.ledger (match e.incomingTank l with
      | some k =>
        let z := y.modTank k (fun x => { x with changeoverBase := none })
        if reason = CloseReason.hold then z.setUse k .queued else z
      | none => y).toState = y.ledger := by
    split
    · dsimp only
      split
      · exact (Ev.setUse_ledger _ _ _).trans (Ev.modTank_ledger y _ (by intro; rfl))
      · exact Ev.modTank_ledger y _ (by intro; rfl)
    · rfl
  have emptied (y : Ev) : ((y.modLine l (fun x => { x with pendingVol := 0, changeoverStart := none })).modFlow l
      (fun x => { x with watchIncoming := none })).ledger =
      (y.modLine l (fun x => { x with pendingVol := 0, changeoverStart := none })).ledger := Ev.modFlow_ledger _ l (by intro; rfl)
  have left : (e.changeoverExit l reason).ledger = ((e.creditActive l (e.line l).pendingVol).modLine l
      (fun x => { x with pendingVol := 0, changeoverStart := none })).ledger := (freed _).trans (emptied _)
  rw [left]
  refine ⟨funext fun n => Ev.creditActive_attributed e l _ n, funext fun m => ?_⟩
  exact congrArg (fun q : Quad Flow => (q.get m).ledger) (Ev.creditActive_flows e l _)

theorem Ev.writeTrip_tanks (e : Ev) (l : LineId) (c : TripCause) : (e.writeTrip l c).tanks = e.tanks := by
  simp [Ev.writeTrip]

theorem Ev.writeTrip_lists (e : Ev) (l : LineId) (c : TripCause) : (e.writeTrip l c).lists = e.lists := by
  simp [Ev.writeTrip]

theorem Ev.writeTrip_exited (e : Ev) (l : LineId) (c : TripCause) : (e.writeTrip l c).exited l = e.exited l := by
  have hactive : (e.writeTrip l c).activeTank l = e.activeTank l := State.activeTank_congr (Ev.writeTrip_lists e l c)
    (fun n => by rw [State.tank, Ev.writeTrip_tanks]; rfl) l
  obtain ⟨r, -, hlines⟩ := Ev.writeTrip_lines e l c
  have hvol : ((e.writeTrip l c).line l).pendingVol = (e.line l).pendingVol := by
    rw [State.line, hlines, Quad.get_set_same]
  funext n
  rw [State.exited, State.exited, hactive, hvol, State.tank, Ev.writeTrip_tanks]
  rfl

/-- The entry of a line into its close for a trip: out of CHANGEOVER the pending volume goes to the ACTIVE tank, and the totals and
the quiet timer stay (R51). -/
theorem Ev.closeEntry_ledger (e : Ev) (l : LineId) (reason : CloseReason) (hold : Option HoldReason) (c : TripCause) :
    (e.closeEntry l reason hold (some c)).ledger.flows = e.ledger.flows ∧
    (e.closeEntry l reason hold (some c)).ledger.litres =
      if (e.line l).state = .changeover then e.exited l else e.ledger.litres := by
  have written := Ev.writeTrip_ledger e l c
  have exited : Ledger.flows (State.ledger (if (e.line l).state = .changeover then (e.writeTrip l c).changeoverExit l reason
      else e.writeTrip l c).toState) = e.ledger.flows ∧
      Ledger.litres (State.ledger (if (e.line l).state = .changeover then (e.writeTrip l c).changeoverExit l reason
      else e.writeTrip l c).toState) = if (e.line l).state = .changeover then e.exited l else e.ledger.litres := by
    split
    · obtain ⟨hlitres, hflows⟩ := Ev.changeoverExit_ledger (e.writeTrip l c) l reason
      exact ⟨hflows.trans (congrArg Ledger.flows written), hlitres.trans (Ev.writeTrip_exited e l c)⟩
    · rw [written]; exact ⟨rfl, rfl⟩
  have begun : (e.closeEntry l reason hold (some c)).ledger = (e.closeBegun l reason hold (some c)).ledger :=
    (Ev.evalPermitOf_ledger _ l).trans (Ev.cancelWork_strokesOnly _ l).ledger
  rw [begun]
  unfold Ev.closeBegun
  dsimp only
  generalize (if (e.line l).state = .changeover then (e.writeTrip l c).changeoverExit l reason else e.writeTrip l c) = y
    at exited
  have closed : State.ledger ((((y.modLine l (fun x => { x with
      state := .closing, closeReason := some reason, holdReason := hold, tankEnd := none, throttle := 0,
      provingStart := none, changeoverStart := none })).mark (.line l)).clearPred l).modFlow l (fun x => { x with
      rateCount := 0, pressCount := 0,
      overCount := if reason = .trip ∨ reason = .esd then 0 else x.overCount }) |>.setClose l
        (some (CloseRec.fresh e.now))).toState = y.ledger := by
    have reclosed (z : Ev) (c : Option CloseRec) : (z.setClose l c).ledger = z.ledger := rfl
    have cleared (z : Ev) : (z.clearPred l).ledger = z.ledger := rfl
    rw [reclosed, Ev.modFlow_ledger _ _ (by intro; rfl), cleared, Ev.mark_ledger]
    exact Ev.modLine_ledger y l (by intro; rfl)
  rw [closed]
  exact exited

/-! ### What the tests of a line leave alone -/

/-- The delivered litres, the fed set and the pulse total of a line. -/
def State.account (s : State) (l : LineId) : Nat × List TankId × Nat :=
  ((s.line l).delivered, (s.line l).fedSet, (s.flow l).pulseTotal)

/-- The litres after some tests of line `l`: as they were, in the same or no changeover, or the changeover has ended and its pending
volume has gone to the ACTIVE tank (R51). -/
inductive Ev.Paid (e e' : Ev) (l : LineId) : Prop
  | kept (hs : (e'.line l).state = .changeover ↔ (e.line l).state = .changeover)
      (hv : (e'.line l).pendingVol = (e.line l).pendingVol) (ht : ∀ n, (e'.tank n).attributed = (e.tank n).attributed)
  | given (hs : (e.line l).state = .changeover) (hs' : (e'.line l).state ≠ .changeover) (hv : (e'.line l).pendingVol = 0)
      (ht : ∀ n, (e'.tank n).attributed = e.exited l n)

/-- What the tests of line `l` leave alone. -/
structure Ev.Tested (e e' : Ev) (l : LineId) : Prop where
  lane : ∀ m, m ≠ l → e'.lane m = e.lane m
  lists : e'.lists = e.lists
  use : ∀ n, (e'.tank n).use = (e.tank n).use
  ground : e'.ground = e.ground
  calm : ∀ g, e.calm g → e'.calm g
  account : e'.account l = e.account l
  paid : e.Paid e' l

theorem Ev.Tested.refl (e : Ev) (l : LineId) : e.Tested e l :=
  ⟨fun _ _ => rfl, rfl, fun _ => rfl, rfl, fun _ h => h, rfl, .kept Iff.rfl rfl fun _ => rfl⟩

theorem Ev.Tested.activeTank (h : e.Tested e' l) (m : LineId) : e'.activeTank m = e.activeTank m :=
  State.activeTank_congr h.lists h.use m

theorem Ev.Tested.trans (h : e.Tested e' l) (h' : e'.Tested e'' l) : e.Tested e'' l where
  lane m hm := (h'.lane m hm).trans (h.lane m hm)
  lists := h'.lists.trans h.lists
  use n := (h'.use n).trans (h.use n)
  ground := h'.ground.trans h.ground
  calm g hg := h'.calm g (h.calm g hg)
  account := h'.account.trans h.account
  paid := by
    rcases h.paid with ⟨hs, hv, ht⟩ | ⟨hs, hs', hv, ht⟩ <;> rcases h'.paid with ⟨ks, kv, kt⟩ | ⟨ks, ks', kv, kt⟩
    · exact .kept (ks.trans hs) (kv.trans hv) fun n => (kt n).trans (ht n)
    · refine .given (hs.mp ks) ks' kv fun n => (kt n).trans ?_
      rw [State.exited, State.exited, ht, hv, h.activeTank]
    · exact .given hs (fun hc => hs' (ks.mp hc)) (kv.trans hv) fun n => (kt n).trans (ht n)
    · exact absurd ks hs'

/-- Work of a line's tests that changes no tank, no list and no account. -/
theorem Ev.Tested.of_lane (hm : ∀ m, m ≠ l → e'.lane m = e.lane m) (hlists : e'.lists = e.lists) (ht : e'.tanks = e.tanks)
    (hg : e'.ground = e.ground) (hc : ∀ g, e.calm g → e'.calm g) (ha : e'.account l = e.account l)
    (hv : (e'.line l).pendingVol = (e.line l).pendingVol)
    (hs : (e'.line l).state = .changeover ↔ (e.line l).state = .changeover) : e.Tested e' l :=
  ⟨hm, hlists, fun _ => by rw [State.tank, ht]; rfl, hg, hc, ha, .kept hs hv fun _ => by rw [State.tank, ht]; rfl⟩

theorem Ev.modFlow_tested (e : Ev) (l : LineId) {f : Flow → Flow} (hm : ∀ x, (f x).meter = x.meter)
    (hp : ∀ x, (f x).pulseTotal = x.pulseTotal) : e.Tested (e.modFlow l f) l :=
  .of_lane (fun _ h => Ev.modFlow_lane e l f h) rfl rfl (Ev.modFlow_ground e l f hm) (fun _ hc => Ev.modFlow_calm l f hm hc)
    (by simp [State.account, State.line, State.flow, hp]) rfl Iff.rfl

theorem Ev.setQuiet_tested (e : Ev) (l : LineId) (b : Bool) : e.Tested (e.setQuiet l b) l :=
  .of_lane (fun _ h => Ev.setQuiet_lane e l b h) (by simp [Ev.setQuiet]) (by simp [Ev.setQuiet]) (Ev.setQuiet_ground e l b)
    (fun _ hc => Ev.setQuiet_calm l b hc) (by simp [State.account, Ev.setQuiet, State.line, State.flow])
    (by simp [Ev.setQuiet, State.line]) (by simp [Ev.setQuiet, State.line])

theorem Ev.account_of_ledger (hl : (e'.line l).ledger = (e.line l).ledger) (hf : e'.ledger.flows = e.ledger.flows) :
    e'.account l = e.account l :=
  Prod.ext (congrArg Prod.fst hl :) (Prod.ext (congrArg (fun p => p.2.1) hl :) (congrArg (fun p => (p l).1) hf :))

/-- A trip of the line. -/
theorem Ev.trip_tested (e : Ev) (l : LineId) (c : TripCause) : e.Tested (e.trip l c) l := by
  have rest (ha : (e.trip l c).account l = e.account l) (hp : e.Paid (e.trip l c) l) : e.Tested (e.trip l c) l :=
    ⟨fun m hm => Ev.trip_lane e l c hm, (Ev.trip_onList e l c).lists, Ev.trip_use e l c, Ev.trip_ground e l c,
      fun g hg => Ev.trip_calm l c hg, ha, hp⟩
  have kept (h : (e.trip l c).ledger = e.ledger) (hs : ((e.trip l c).line l).state = .changeover ↔ (e.line l).state = .changeover) :
      e.Tested (e.trip l c) l := by
    have hline : ((e.trip l c).line l).ledger = (e.line l).ledger := congrArg (fun b : Ledger => b.lines l) h
    refine rest (Ev.account_of_ledger hline (congrArg Ledger.flows h)) (.kept hs (congrArg (fun p => p.2.2.2) hline)
      fun n => congrArg (fun b : Ledger => b.litres n) h)
  by_cases hf : e.flowing l = true
  · obtain ⟨hflows, hlitres⟩ := Ev.closeEntry_ledger e l .trip none c
    have hclosed := Ev.closeEntry_line e l .trip none (some c)
    rw [← Ev.trip_of_flowing hf] at hflows hlitres hclosed
    have haccount : (e.trip l c).account l = e.account l :=
      Prod.ext hclosed.kept.2.2.1 (Prod.ext hclosed.kept.2.1 (congrArg (fun p => (p l).1) hflows))
    by_cases hs : (e.line l).state = .changeover
    · rw [if_pos hs] at hlitres
      exact rest haccount (.given hs (by rw [hclosed.state]; nofun) (hclosed.pendingVol.trans (if_pos hs)) (congrFun hlitres))
    · rw [if_neg hs] at hlitres
      exact rest haccount (.kept (by rw [hclosed.state]; exact ⟨nofun, fun h => absurd h hs⟩)
        (hclosed.pendingVol.trans (if_neg hs)) (congrFun hlitres))
  · by_cases hs : (e.line l).state = .closing
    · rw [Ev.trip_of_closing hs] at kept
      obtain ⟨r, -, hlines⟩ := Ev.retripClosing_lines e l .trip c
      rw [Ev.trip_of_closing hs]
      refine kept (Ev.retripClosing_ledger e l _ c) ?_
      rw [State.line, hlines, Quad.get_set_same]
    · by_cases hi : (e.line l).state = .idle ∨ (e.line l).state = .held
      · have htrip : e.trip l c = ((e.writeTrip l c).modLine l (fun x => { x with holdReason := none })).setState l .tripped := by
          rw [Ev.trip, if_neg hf, if_neg hs, if_pos hi]
        rw [htrip] at kept ⊢
        refine kept ?_ ?_
        · exact (Ev.setState_ledger _ l _).trans ((Ev.modLine_ledger _ l (by intro; rfl)).trans (Ev.writeTrip_ledger e l c))
        · rw [Ev.setState_line]
          exact ⟨nofun, fun h => by rcases hi with hi | hi <;> rw [hi] at h <;> cases h⟩
      · have htrip : e.trip l c = e := by rw [Ev.trip, if_neg hf, if_neg hs, if_neg hi]
        rw [htrip]
        exact .refl e l

end Sys2Proof.Machine
end

section
/-! The balance test, the blind test and the caps of a gate end, each a case of the tests that leave the account alone (R98 to R106). -/

namespace Sys2Proof.Machine
variable {e e' e'' x y z : Ev} {l m : LineId} {g : Ground} {s u v : State} {k n : TankId} {avg : Option Nat}

/-! ### A throttle -/

theorem Ev.throttleTo_own (e : Ev) (l : LineId) (pos : Nat) :
    (e.throttleTo l pos).line l = { e.line l with throttle := pos } ∧
    (e.throttleTo l pos).flow l = { e.flow l with rateCount := 0, pressCount := 0 } := by
  obtain ⟨y, hy, hline, hflow⟩ : ∃ y : Ev, e.throttleTo l pos = y.requestStroke l .throttle pos false ∧
      y.line l = { e.line l with throttle := pos } ∧ y.flow l = { e.flow l with rateCount := 0, pressCount := 0 } := by
    refine ⟨_, rfl, ?_, ?_⟩
    · split <;> exact Quad.get_set_same _ _ _
    · split <;> exact Quad.get_set_same _ _ _
  have hs := Ev.requestStroke_strokesOnly y l .throttle pos false
  rw [hy]
  exact ⟨(congrArg (fun q : Quad LineRec => q.get l) hs.lines).trans hline,
    (congrArg (fun q : Quad Flow => q.get l) hs.flows).trans hflow⟩

theorem Ev.throttleTo_tested (e : Ev) (l : LineId) (pos : Nat) : e.Tested (e.throttleTo l pos) l := by
  obtain ⟨hline, hflow⟩ := Ev.throttleTo_own e l pos
  refine .of_lane (fun m hm => Ev.throttleTo_lane e l pos hm) (Ev.throttleTo_onList e l pos l).lists (Ev.throttleTo_tanks e l pos)
    (Ev.throttleTo_ground e l pos) (fun g hg => Ev.throttleTo_calm l pos hg) ?_ ?_ ?_
  · rw [State.account, hline, hflow]; rfl
  · rw [hline]
  · rw [hline]

/-! ### The balance test (R105) -/

/-- The balance test's figure noted (R105). -/
def Ev.excessNoted (e : Ev) (l : LineId) : Ev :=
  match e.balanceApplies l, (e.line l).baseline with
  | true, some b => e.modFlow l (fun f => { f with excess := some (e.balanceExcess l b.litres) })
  | _, _ => e

theorem Ev.excessNoted_tested (e : Ev) (l : LineId) : e.Tested (e.excessNoted l) l := by
  unfold Ev.excessNoted
  split
  · exact Ev.modFlow_tested e l (by intro; rfl) (by intro; rfl)
  · exact .refl e l

theorem Ev.gateBalance_eq (e : Ev) (l : LineId) : e.gateBalance l =
    if e.balanceTrips l = true then (e.excessNoted l).trip l .balance else e.excessNoted l := by
  unfold Ev.gateBalance Ev.excessNoted State.balanceTrips
  cases ha : e.balanceApplies l with
  | false => rfl
  | true =>
    cases hb : (e.line l).baseline with
    | none => rfl
    | some b => simp

theorem Ev.gateBalance_tested (e : Ev) (l : LineId) : e.Tested (e.gateBalance l) l := by
  rw [Ev.gateBalance_eq]
  split
  · exact (Ev.excessNoted_tested e l).trans (Ev.trip_tested _ l _)
  · exact Ev.excessNoted_tested e l

/-! ### The blind test (R103) -/

theorem Ev.gateBlind_off (h : e.blindApplies l = false) : e.gateBlind l = e := if_neg (ne_true_of_eq_false h)

theorem Ev.gateBlind_on (h : e.blindApplies l = true) : e.gateBlind l =
    if e.blindTrips l = true then
      (((e.modFlow l (fun f => { f with blindWindow := some (e.blindWindowOf l) })).trip l .blindFlow).modFlow l
        (fun f => { f with quiet := 0 })).setQuiet l true
    else e.modFlow l (fun f => { f with blindWindow := some (e.blindWindowOf l) }) := by
  rw [Ev.gateBlind, if_pos h, State.blindTrips, h, Bool.true_and]

theorem Ev.gateBlind_tested (e : Ev) (l : LineId) : e.Tested (e.gateBlind l) l := by
  have noted : e.Tested (e.modFlow l (fun f => { f with blindWindow := some (e.blindWindowOf l) })) l :=
    Ev.modFlow_tested e l (by intro; rfl) (by intro; rfl)
  cases h : e.blindApplies l with
  | false => rw [Ev.gateBlind_off h]; exact .refl e l
  | true =>
    rw [Ev.gateBlind_on h]
    split
    · exact ((noted.trans (Ev.trip_tested _ l _)).trans (Ev.modFlow_tested _ l (by intro; rfl) (by intro; rfl))).trans
        (Ev.setQuiet_tested _ l true)
    · exact noted

/-! ### The caps (R98 to R100) -/

theorem Ev.gateCaps_off (h : (e.line l).state.delivering = false ∨ (e.pred l).settling = true) (avg : Option Nat) :
    e.gateCaps l avg = e := by
  refine if_neg fun hc => ?_
  rw [Bool.and_eq_true, Bool.not_eq_true'] at hc
  rcases h with h | h
  · rw [hc.1] at h; cases h
  · rw [hc.2] at h; cases h

theorem Ev.gateCaps_on (hd : (e.line l).state.delivering = true) (hp : (e.pred l).settling = false) (avg : Option Nat) :
    let r := capCount (e.flow l).rateCount (some (e.flow l).rate) (e.rateLimit l)
    let p := capCount (e.flow l).pressCount avg (e.pressureLimit l)
    let e1 := e.modFlow l (fun f => { f with rateCount := r, pressCount := p })
    e.gateCaps l avg = if 3 ≤ r ∨ 3 ≤ p then e1.capAct l else e1 :=
  if_pos (by rw [hd, hp]; rfl)

theorem Ev.gateCaps_tested (e : Ev) (l : LineId) (avg : Option Nat) : e.Tested (e.gateCaps l avg) l := by
  unfold Ev.gateCaps
  split
  · dsimp only
    have counted : e.Tested (e.modFlow l (fun f => { f with
        rateCount := capCount (e.flow l).rateCount (some (e.flow l).rate) (e.rateLimit l),
        pressCount := capCount (e.flow l).pressCount avg (e.pressureLimit l) })) l :=
      Ev.modFlow_tested e l (by intro; rfl) (by intro; rfl)
    split
    · refine counted.trans ?_
      unfold Ev.capAct
      split
      · exact Ev.trip_tested _ l _
      · exact Ev.throttleTo_tested _ l _
    · exact counted
  · exact .refl e l

/-! ### The opening of a gate end, and the tests after it -/

/-- Steps 1 to 3 of a gate end for a line: the count, the credit, the quiet timer (R106). -/
def Ev.gateOpening (e : Ev) (l : LineId) : Ev := ((e.gateCount l).gateCredit l).gateQuiet l

theorem Ev.gateLine_eq (e : Ev) (l : LineId) : e.gateLine l =
    (((e.gateOpening l).gateBalance l).gateBlind l).gateCaps l (e.flow l).gateAverage := rfl

theorem Ev.gateLine_tested (e : Ev) (l : LineId) : (e.gateOpening l).Tested (e.gateLine l) l :=
  ((Ev.gateBalance_tested _ l).trans (Ev.gateBlind_tested _ l)).trans (Ev.gateCaps_tested _ l _)

end Sys2Proof.Machine
end

section
/-! The opening of a gate end for a line: the gate's count and rate, the credit of the litres, the quiet timer (R93 to R95, R104). -/

namespace Sys2Proof.Machine
variable {e e' e'' x y z : Ev} {l m : LineId} {g : Ground} {s u v : State} {k n : TankId} {c : Nat}

/-! ### What the opening leaves alone -/

/-- What the opening of a gate end leaves alone, but for the record, the figures and the ACTIVE tank of line `l`. -/
structure Ev.Opens (e e' : Ev) (l : LineId) : Prop where
  records : e.RecordsOnly e'
  lane : ∀ m, m ≠ l → e'.lane m = e.lane m
  preds : e'.preds = e.preds
  use : ∀ n, (e'.tank n).use = (e.tank n).use
  settled : e'.settled = e.settled

theorem Ev.Opens.refl (e : Ev) (l : LineId) : e.Opens e l := ⟨.refl e, fun _ _ => rfl, rfl, fun _ => rfl, rfl⟩

theorem Ev.Opens.trans (h : e.Opens e' l) (h' : e'.Opens e'' l) : e.Opens e'' l :=
  ⟨h.records.trans h'.records, fun m hm => (h'.lane m hm).trans (h.lane m hm), h'.preds.trans h.preds,
    fun n => (h'.use n).trans (h.use n), h'.settled.trans h.settled⟩

theorem Ev.modFlow_opens (e : Ev) (l : LineId) (f : Flow → Flow) : e.Opens (e.modFlow l f) l :=
  ⟨Ev.modFlow_recordsOnly e l f, fun _ hm => Ev.modFlow_lane e l f hm, rfl, fun _ => rfl, Ev.modFlow_settled l f rfl⟩

theorem Ev.modLine_opens (e : Ev) (l : LineId) {f : LineRec → LineRec} (hf : ∀ x, (f x).profile = x.profile) :
    e.Opens (e.modLine l f) l :=
  ⟨Ev.modLine_recordsOnly e l f, fun _ hm => Ev.modLine_lane e l f hm, rfl, fun _ => rfl, Ev.modLine_settled l f hf rfl⟩

theorem Ev.setQuiet_opens (e : Ev) (l : LineId) (b : Bool) : e.Opens (e.setQuiet l b) l where
  records := (Ev.modLine_recordsOnly e l _).trans (Ev.markIf_recordsOnly _ _ _)
  lane _ hm := Ev.setQuiet_lane e l b hm
  preds := by simp [Ev.setQuiet]
  use n := by simp [Ev.setQuiet, State.tank]
  settled := Ev.setQuiet_settled l b rfl

theorem Ev.credit_opens (e : Ev) (k : TankId) (litres : Nat) (l : LineId) : e.Opens (e.credit k litres) l where
  records := Ev.modTank_recordsOnly e k _
  lane m _ := Ev.credit_lane e k litres m
  preds := rfl
  use n := by
    simp only [State.tank, Ev.credit, Ev.modTank_tanks, Tanks.get_set]
    split
    · next h => rw [h]
    · rfl
  settled := Ev.credit_settled k litres rfl

theorem Ev.Opens.activeTank (h : e.Opens e' l) (m : LineId) : e'.activeTank m = e.activeTank m :=
  State.activeTank_congr h.records.lists h.use m

/-! ### The count (R93) -/

/-- The Flow Monitor's figures of a line once its gate has been counted. -/
def State.counted (s : State) (l : LineId) : Flow :=
  { s.flow l with
    lastPulses := (s.flow l).gatePulses, prevRate := (s.flow l).rate, rate := s.gateRateOf l, gatePulses := 0, sampleSum := 0,
    sampleCount := 0, blindWindow := none, excess := none }

theorem Ev.gateCount_flow (e : Ev) (l : LineId) : (e.gateCount l).flow l = e.counted l := Quad.get_set_same _ _ _

/-! ### The credit (R94, R95) -/

/-- The pulse total and the delivered litres of a line after a gate of `c` pulses. -/
def State.totals (s : State) (l : LineId) (c : Nat) : Nat × Nat :=
  match s.accountOpen l, (s.flow l).meterFactor with
  | true, some k => ((s.flow l).pulseTotal + c, ((s.flow l).pulseTotal + c) * 100 / k)
  | _, _ => ((s.flow l).pulseTotal, (s.line l).delivered)

/-- The new litres of a line after a gate of `c` pulses. -/
def State.litres (s : State) (l : LineId) (c : Nat) : Nat := (s.totals l c).2 - (s.line l).delivered

/-- The litres of a gate are pending, in CHANGEOVER (R43). -/
def State.pends (s : State) (l : LineId) (litres : Nat) : Nat :=
  if (s.line l).state = .changeover then (s.line l).pendingVol + litres else (s.line l).pendingVol

/-- The litres attributed to a tank once the new litres of line `l` have gone to its ACTIVE tank, outside CHANGEOVER (R95). -/
def State.attributes (s : State) (l : LineId) (litres : Nat) (n : TankId) : Nat :=
  (s.tank n).attributed + if (s.line l).state ≠ .changeover ∧ s.activeTank l = some n then litres else 0

theorem Ev.gateCredit_opens (e : Ev) (l : LineId) : e.Opens (e.gateCredit l) l := by
  unfold Ev.gateCredit
  split
  · dsimp only
    have delivered (total litres : Nat) : e.Opens ((e.modFlow l (fun x => { x with pulseTotal := total })).modLine l (fun x =>
        { x with delivered := litres })) l := (Ev.modFlow_opens e l _).trans (Ev.modLine_opens _ l (by intro; rfl))
    split
    · exact (delivered _ _).trans (Ev.modLine_opens _ l (by intro; rfl))
    · split
      · exact (delivered _ _).trans (Ev.credit_opens _ _ _ l)
      · exact delivered _ _
  · exact .refl e l

/-- The credit written: the account of the line and the litres of its ACTIVE tank. -/
theorem Ev.gateCredit_writes (e : Ev) (l : LineId) :
    (e.gateCredit l).line l = { e.line l with
      delivered := (e.totals l (e.flow l).lastPulses).2, pendingVol := e.pends l (e.litres l (e.flow l).lastPulses) } ∧
    (e.gateCredit l).flow l = { e.flow l with pulseTotal := (e.totals l (e.flow l).lastPulses).1 } ∧
    ∀ n, ((e.gateCredit l).tank n).attributed = e.attributes l (e.litres l (e.flow l).lastPulses) n := by
  have unchanged (h : e.totals l (e.flow l).lastPulses = ((e.flow l).pulseTotal, (e.line l).delivered)) :
      e.line l = { e.line l with
        delivered := (e.totals l (e.flow l).lastPulses).2, pendingVol := e.pends l (e.litres l (e.flow l).lastPulses) } ∧
      e.flow l = { e.flow l with pulseTotal := (e.totals l (e.flow l).lastPulses).1 } ∧
      ∀ n, (e.tank n).attributed = e.attributes l (e.litres l (e.flow l).lastPulses) n := by
    have hlitres : e.litres l (e.flow l).lastPulses = 0 := by rw [State.litres, h]; exact Nat.sub_self _
    rw [hlitres, h]
    refine ⟨?_, rfl, fun n => ?_⟩
    · simp [State.pends]
    · simp [State.attributes]
  cases ho : e.accountOpen l with
  | false =>
    have hid : e.gateCredit l = e := by unfold Ev.gateCredit; rw [ho]
    rw [hid]
    exact unchanged (by unfold State.totals; rw [ho])
  | true =>
    cases hk : (e.flow l).meterFactor with
    | none =>
      have hid : e.gateCredit l = e := by unfold Ev.gateCredit; rw [ho, hk]
      rw [hid]
      exact unchanged (by unfold State.totals; rw [ho, hk])
    | some k =>
      have ht : e.totals l (e.flow l).lastPulses = ((e.flow l).pulseTotal + (e.flow l).lastPulses,
          ((e.flow l).pulseTotal + (e.flow l).lastPulses) * 100 / k) := by unfold State.totals; rw [ho, hk]
      have hl : e.litres l (e.flow l).lastPulses = ((e.flow l).pulseTotal + (e.flow l).lastPulses) * 100 / k -
          (e.line l).delivered := by rw [State.litres, ht]
      rw [hl, ht]
      unfold Ev.gateCredit
      rw [ho, hk]
      dsimp only
      by_cases hs : (e.line l).state = .changeover
      · rw [if_pos hs, State.pends, if_pos hs]
        refine ⟨?_, ?_, fun n => ?_⟩
        · simp [State.line]
        · simp [State.flow]
        · simp [State.attributes, hs, State.tank]
      · rw [if_neg hs, State.pends, if_neg hs]
        cases ha : e.activeTank l with
        | none =>
          refine ⟨?_, ?_, fun n => ?_⟩
          · simp [State.line]
          · simp [State.flow]
          · simp [State.attributes, ha, State.tank]
        | some k =>
          refine ⟨?_, ?_, fun n => ?_⟩
          · simp [State.line, Ev.credit]
          · simp [State.flow, Ev.credit]
          · simp only [State.attributes, ha, State.tank, Ev.credit, Ev.modTank_tanks, Tanks.get_set, Option.some.injEq,
              ne_eq, hs, not_false_iff, true_and]
            by_cases hn : n = k
            · subst hn; simp
            · simp [hn, Ne.symm hn]

/-! ### The quiet timer (R104) -/

/-- QUIET_PENDING and the quiet timer of a line after a gate of `c` pulses. -/
def State.quietAfter (s : State) (l : LineId) (c : Nat) : Bool × Nat :=
  if (s.line l).quietPending = true then
    if c = 0 then
      if 30000 ≤ (s.flow l).quiet + 2000 then (false, 0) else (true, (s.flow l).quiet + 2000)
    else (true, 0)
  else (false, (s.flow l).quiet)

theorem Ev.gateQuiet_opens (e : Ev) (l : LineId) : e.Opens (e.gateQuiet l) l := by
  unfold Ev.gateQuiet
  split
  · split
    · split
      · exact (Ev.modFlow_opens e l _).trans (Ev.setQuiet_opens _ l false)
      · exact Ev.modFlow_opens e l _
    · exact Ev.modFlow_opens e l _
  · exact .refl e l

theorem Ev.gateQuiet_writes (e : Ev) (l : LineId) :
    (e.gateQuiet l).line l = { e.line l with quietPending := (e.quietAfter l (e.flow l).lastPulses).1 } ∧
    (e.gateQuiet l).flow l = { e.flow l with quiet := (e.quietAfter l (e.flow l).lastPulses).2 } ∧
    (e.gateQuiet l).tanks = e.tanks := by
  unfold Ev.gateQuiet State.quietAfter
  have hms : Config.quietMs = 30000 ∧ Config.gateMs = 2000 := ⟨rfl, rfl⟩
  rw [hms.1, hms.2]
  cases hq : (e.line l).quietPending with
  | false =>
    simp only [Bool.false_eq_true, if_false]
    refine ⟨?_, trivial, trivial⟩
    rw [← hq]
  | true =>
    simp only [if_true]
    have pending : e.line l = { e.line l with quietPending := true } := by rw [← hq]
    split
    · split
      · simp [Ev.setQuiet, State.line, State.flow]
      · exact ⟨pending, Quad.get_set_same _ _ _, rfl⟩
    · exact ⟨pending, Quad.get_set_same _ _ _, rfl⟩

/-! ### The opening -/

theorem Ev.gateOpening_opens (e : Ev) (l : LineId) : e.Opens (e.gateOpening l) l :=
  ((Ev.modFlow_opens e l _).trans (Ev.gateCredit_opens _ l)).trans (Ev.gateQuiet_opens _ l)

/-- What the opening of a gate end writes: the record and the figures of the line, and the litres of the tanks (R93 to R95, R104). -/
theorem Ev.gateOpening_writes (e : Ev) (l : LineId) :
    (e.gateOpening l).line l = { e.line l with
      delivered := (e.totals l (e.flow l).gatePulses).2, pendingVol := e.pends l (e.litres l (e.flow l).gatePulses),
      quietPending := (e.quietAfter l (e.flow l).gatePulses).1 } ∧
    (e.gateOpening l).flow l = { e.counted l with
      pulseTotal := (e.totals l (e.flow l).gatePulses).1, quiet := (e.quietAfter l (e.flow l).gatePulses).2 } ∧
    ∀ n, ((e.gateOpening l).tank n).attributed = e.attributes l (e.litres l (e.flow l).gatePulses) n := by
  have hflow := Ev.gateCount_flow e l
  have hcount : (e.gateCount l).line l = e.line l ∧ (e.gateCount l).accountOpen l = e.accountOpen l ∧
      (∀ c, (e.gateCount l).pends l c = e.pends l c) ∧ (∀ c n, (e.gateCount l).attributes l c n = e.attributes l c n) :=
    ⟨rfl, rfl, fun _ => rfl, fun _ _ => rfl⟩
  obtain ⟨hline, hopen, hpends, hattr⟩ := hcount
  have htotals (c : Nat) : (e.gateCount l).totals l c = e.totals l c := by
    unfold State.totals
    rw [hopen, hflow, hline]
    rfl
  have hlitres (c : Nat) : (e.gateCount l).litres l c = e.litres l c := by
    rw [State.litres, State.litres, htotals, hline]
  obtain ⟨h1, h2, h3⟩ := Ev.gateCredit_writes (e.gateCount l) l
  obtain ⟨q1, q2, q3⟩ := Ev.gateQuiet_writes ((e.gateCount l).gateCredit l) l
  have hlast : ((e.gateCount l).flow l).lastPulses = (e.flow l).gatePulses := by rw [hflow]; rfl
  rw [hlast, hline, htotals, hlitres, hpends] at h1
  rw [hlast, hflow, htotals] at h2
  rw [hlast, hlitres] at h3
  have hquiet : ((e.gateCount l).gateCredit l).quietAfter l (((e.gateCount l).gateCredit l).flow l).lastPulses =
      e.quietAfter l (e.flow l).gatePulses := by
    unfold State.quietAfter
    rw [h1, h2]
    rfl
  rw [hquiet, h1] at q1
  rw [hquiet, h2] at q2
  refine ⟨q1, q2, fun n => ?_⟩
  exact (congrArg (fun tk : Tanks => (tk.get n).attributed) q3).trans ((h3 n).trans (hattr _ n))

end Sys2Proof.Machine
end

section
/-! What the tests of a gate end look at: a line's record, its rates and watch records, its list and the tanks' uses and readings. Two
states alike in these decide the tests alike (R98, R102, R103, R105). -/

namespace Sys2Proof.Machine
variable {e e' e'' : Ev} {l m : LineId} {s u v x y z : State} {k n : TankId}

/-! ### Lists, uses and readings -/

/-- The states `x` and `y` are alike in the tanks that line `l` feeds and in its profile. -/
structure State.FedAlike (x y : State) (l : LineId) : Prop where
  profile : (y.line l).profile = (x.line l).profile
  lists : y.lists = x.lists
  grades : y.grades = x.grades
  use : ∀ n, (y.tank n).use = (x.tank n).use
  reading : ∀ n, (y.tank n).reading = (x.tank n).reading

namespace State.FedAlike
variable (h : x.FedAlike y l)
include h

theorem profileOf : y.profile l = x.profile l := by rw [State.profile, State.profile, h.profile]
theorem activeTank : y.activeTank l = x.activeTank l := State.activeTank_congr h.lists h.use l
theorem incomingTank : y.incomingTank l = x.incomingTank l := State.incomingTank_congr h.lists h.use l
theorem decl (n : TankId) : (y.tank n).decl = (x.tank n).decl := congrArg TankReading.decl (h.reading n)
theorem health (n : TankId) : (y.tank n).health = (x.tank n).health := congrArg TankReading.health (h.reading n)
theorem litresPerMm (n : TankId) : y.litresPerMm n = x.litresPerMm n := by rw [State.litresPerMm, State.litresPerMm, h.decl]
theorem gradeOfLine : y.gradeOfLine l = x.gradeOfLine l := by rw [State.gradeOfLine, State.gradeOfLine, h.profile]

theorem rateLimit : y.rateLimit l = x.rateLimit l := by
  simp only [State.rateLimit, h.gradeOfLine, h.activeTank, h.decl, State.grade, h.grades]

theorem pressureLimit : y.pressureLimit l = x.pressureLimit l := by
  simp only [State.pressureLimit, h.gradeOfLine, State.grade, h.grades]

end State.FedAlike

/-! ### Records, rates and watch records -/

/-- The states `x` and `y` are alike in all that the balance test and the blind test of line `l` look at. -/
structure State.TestedAlike (x y : State) (l : LineId) : Prop extends x.FedAlike y l where
  line : y.line l = x.line l
  rate : (y.flow l).rate = (x.flow l).rate
  prevRate : (y.flow l).prevRate = (x.flow l).prevRate
  watchActive : (y.flow l).watchActive = (x.flow l).watchActive
  watchIncoming : (y.flow l).watchIncoming = (x.flow l).watchIncoming
  now : y.now = x.now

namespace State.TestedAlike
variable (h : x.TestedAlike y l)
include h

theorem fedTanks : y.fedTanks l = x.fedTanks l := by
  rw [State.fedTanks, State.fedTanks, h.activeTank, h.incomingTank, h.watchActive, h.watchIncoming]

theorem balanceExcess (litres : Nat) : y.balanceExcess l litres = x.balanceExcess l litres := by
  simp only [State.balanceExcess, h.line, h.fedTanks, h.litresPerMm]

theorem balanceApplies : y.balanceApplies l = x.balanceApplies l := by
  simp only [State.balanceApplies, h.line, h.watchActive, h.fedTanks, h.health]

theorem balanceTrips : y.balanceTrips l = x.balanceTrips l := by
  simp only [State.balanceTrips, h.balanceApplies, h.line, h.profileOf, h.balanceExcess]

theorem blindWindowOf : y.blindWindowOf l = x.blindWindowOf l := by
  simp only [State.blindWindowOf, h.fedTanks, h.litresPerMm, h.rate, h.profileOf]

theorem blindApplies : y.blindApplies l = x.blindApplies l := by
  simp only [State.blindApplies, State.closing, h.line, h.activeTank, h.rate, h.prevRate, h.fedTanks, h.health]

theorem blindTrips : y.blindTrips l = x.blindTrips l := by
  simp only [State.blindTrips, h.blindApplies, h.fedTanks, h.blindWindowOf, h.now]

theorem trans (h' : y.TestedAlike z l) : x.TestedAlike z l where
  profile := h'.profile.trans h.profile
  lists := h'.lists.trans h.lists
  grades := h'.grades.trans h.grades
  use n := (h'.use n).trans (h.use n)
  reading n := (h'.reading n).trans (h.reading n)
  line := h'.line.trans h.line
  rate := h'.rate.trans h.rate
  prevRate := h'.prevRate.trans h.prevRate
  watchActive := h'.watchActive.trans h.watchActive
  watchIncoming := h'.watchIncoming.trans h.watchIncoming
  now := h'.now.trans h.now

end State.TestedAlike

theorem State.TestedAlike.refl (x : State) (l : LineId) : x.TestedAlike x l :=
  ⟨⟨rfl, rfl, rfl, fun _ => rfl, fun _ => rfl⟩, rfl, rfl, rfl, rfl, rfl, rfl⟩

/-- The settled part of a state and its fixed uses show what a line feeds. -/
theorem State.fedAlike_of (hs : y.settled = x.settled) (hl : y.lists = x.lists) (hu : ∀ n, (y.tank n).use = (x.tank n).use) :
    x.FedAlike y l where
  profile := congrFun (congrArg (fun p => p.2.2.2.1) hs) l
  lists := hl
  grades := congrArg (fun p => p.2.2.1) hs
  use := hu
  reading := congrFun (congrArg (fun p => p.2.2.2.2.1) hs)

theorem State.now_of_settled (h : y.settled = x.settled) : y.now = x.now := congrArg (fun p => p.1.now) h

/-- A line that stands as it stood, among tanks that stand so too, is tested alike. -/
theorem State.testedAlike_of (hs : y.settled = x.settled) (hl : y.lists = x.lists) (hu : ∀ n, (y.tank n).use = (x.tank n).use)
    (hline : y.line l = x.line l) (hflow : y.flow l = x.flow l) : x.TestedAlike y l :=
  { State.fedAlike_of hs hl hu with
    line := hline, rate := by rw [hflow], prevRate := by rw [hflow], watchActive := by rw [hflow],
    watchIncoming := by rw [hflow], now := State.now_of_settled hs }

theorem Ev.modFlow_testedAlike (e : Ev) (l : LineId) {f : Flow → Flow} (hr : ∀ a, (f a).rate = a.rate)
    (hp : ∀ a, (f a).prevRate = a.prevRate) (ha : ∀ a, (f a).watchActive = a.watchActive)
    (hi : ∀ a, (f a).watchIncoming = a.watchIncoming) : e.toState.TestedAlike (e.modFlow l f).toState l where
  profile := rfl
  lists := rfl
  grades := rfl
  use _ := rfl
  reading _ := rfl
  line := rfl
  rate := by simp [State.flow, hr]
  prevRate := by simp [State.flow, hp]
  watchActive := by simp [State.flow, ha]
  watchIncoming := by simp [State.flow, hi]
  now := rfl

theorem Ev.excessNoted_testedAlike (e : Ev) (l : LineId) : e.toState.TestedAlike (e.excessNoted l).toState l := by
  unfold Ev.excessNoted
  split
  · exact Ev.modFlow_testedAlike e l (by intro; rfl) (by intro; rfl) (by intro; rfl) (by intro; rfl)
  · exact State.testedAlike_of rfl rfl (fun _ => rfl) rfl rfl

end Sys2Proof.Machine
end

section
/-! What the tests of a gate end decide for their line (R98 to R100, R102, R103, R105), in the order of R106. -/

namespace Sys2Proof.Machine
variable {e e' e'' x y z : Ev} {l m : LineId} {s u v : State} {k n : TankId} {avg : Option Nat} {b : Baseline}

/-! ### Trips -/

/-- A trip keeps the totals, the quiet timer and the figures of the tests. -/
theorem Ev.trip_flows (e : Ev) (l : LineId) (c : TripCause) : (e.trip l c).ledger.flows = e.ledger.flows := by
  unfold Ev.trip
  split
  · exact (Ev.closeEntry_ledger e l .trip none c).1
  · split
    · exact congrArg Ledger.flows (Ev.retripClosing_ledger e l _ c)
    · split
      · exact congrArg Ledger.flows ((Ev.setState_ledger _ l _).trans ((Ev.modLine_ledger _ l (by intro; rfl)).trans
          (Ev.writeTrip_ledger e l c)))
      · rfl

/-- The record of a flowing or closing line that trips (R17, R89). -/
theorem Ev.trip_own (h : e.flowing l = true ∨ (e.line l).state = .closing) (c : TripCause) :
    ((e.trip l c).line l).state = .closing ∧ ((e.trip l c).line l).closeReason = some .trip ∧
    ((e.trip l c).line l).holdReason = none ∧ ((e.trip l c).line l).trip.map (fun r => r.cause) = some c ∧
    ((e.trip l c).line l).quietPending = (e.line l).quietPending := by
  by_cases hf : e.flowing l = true
  · have hc := Ev.closeEntry_line e l .trip none (some c)
    rw [← Ev.trip_of_flowing hf] at hc
    exact ⟨hc.state, hc.closeReason, hc.holdReason, hc.trip, hc.kept.2.2.2.2.2.2⟩
  · have hs := h.resolve_left hf
    obtain ⟨r, hr, hlines⟩ := Ev.retripClosing_lines e l .trip c
    have hline : (e.trip l c).line l = { e.line l with trip := some r, closeReason := some .trip, holdReason := none } := by
      rw [Ev.trip_of_closing hs, State.line, hlines, Quad.get_set_same]
    rw [hline]
    exact ⟨hs, rfl, rfl, congrArg some hr, rfl⟩

/-- A line that closes by a trip is not tested again at this gate end. -/
theorem Ev.tests_off (hs : (e.line l).state = .closing) (hr : (e.line l).closeReason = some .trip) (avg : Option Nat) :
    (e.gateBlind l).gateCaps l avg = e := by
  have hblind : e.blindApplies l = false := by
    simp [State.blindApplies, State.closing, hs, hr, LineState.delivering]
  rw [Ev.gateBlind_off hblind, Ev.gateCaps_off (.inl (by rw [hs]; rfl))]

/-! ### The balance test -/

theorem State.balanceTrips_delivering (h : s.balanceTrips l = true) : (s.line l).state.delivering = true := by
  have happlies := (Bool.and_eq_true _ _ ▸ h : _ ∧ _).1
  simp only [State.balanceApplies, Bool.and_eq_true] at happlies
  exact happlies.1.1

theorem Ev.excessNoted_line (e : Ev) (l : LineId) : (e.excessNoted l).line l = e.line l := by
  unfold Ev.excessNoted
  split <;> rfl

theorem Ev.excessNoted_pred (e : Ev) (l : LineId) : (e.excessNoted l).pred l = e.pred l := by
  unfold Ev.excessNoted
  split <;> rfl

/-- Noting the figure of the balance test writes nothing else of the Flow Monitor. -/
theorem Ev.excessNoted_flow (e : Ev) (l : LineId) : ∃ w, (e.excessNoted l).flow l = { e.flow l with excess := w } ∧
    ∀ b, e.balanceApplies l = true → (e.line l).baseline = some b → w = some (e.balanceExcess l b.litres) := by
  unfold Ev.excessNoted
  cases ha : e.balanceApplies l with
  | false => exact ⟨(e.flow l).excess, rfl, nofun⟩
  | true =>
    cases hb : (e.line l).baseline with
    | none => exact ⟨(e.flow l).excess, rfl, nofun⟩
    | some b => exact ⟨some (e.balanceExcess l b.litres), Quad.get_set_same _ _ _, fun _ _ hc => by cases hc; rfl⟩

/-- A line whose balance fails closes for it, and no later test applies (R105, R106). -/
theorem Ev.tests_balance (h : e.balanceTrips l = true) (avg : Option Nat) :
    ((e.gateBalance l).gateBlind l).gateCaps l avg = (e.excessNoted l).trip l .balance ∧
    ((e.excessNoted l).trip l .balance).toState.closesWith l .trip none (some .balance) := by
  have hflow : (e.excessNoted l).flowing l = true := by
    rw [State.flowing, Ev.excessNoted_line]
    exact State.flowing_of_delivering (State.balanceTrips_delivering h)
  obtain ⟨hs, hr, -⟩ := Ev.trip_own (c := .balance) (.inl hflow)
  rw [Ev.gateBalance_eq, if_pos h]
  exact ⟨Ev.tests_off hs hr avg, Ev.trip_closesWith (.inl hflow)⟩

theorem Ev.gateBalance_within (h : e.balanceTrips l = false) : e.gateBalance l = e.excessNoted l := by
  rw [Ev.gateBalance_eq, if_neg (ne_true_of_eq_false h)]

/-! ### The blind test -/

/-- The blind window noted (R102). -/
def Ev.windowNoted (e : Ev) (l : LineId) : Ev := e.modFlow l (fun f => { f with blindWindow := some (e.blindWindowOf l) })

theorem Ev.windowNoted_flow (e : Ev) (l : LineId) :
    (e.windowNoted l).flow l = { e.flow l with blindWindow := some (e.blindWindowOf l) } := Quad.get_set_same _ _ _

theorem State.blindApplies_open (h : s.blindApplies l = true) : s.flowing l = true ∨ (s.line l).state = .closing := by
  simp only [State.blindApplies, State.closing, Bool.and_eq_true, Bool.or_eq_true, beq_iff_eq] at h
  rcases h.1.1.1.1 with h | h
  · exact .inl (State.flowing_of_delivering h)
  · exact .inr h.1.1

theorem State.blindTrips_applies (h : s.blindTrips l = true) : s.blindApplies l = true := by
  rw [State.blindTrips, Bool.and_eq_true] at h
  exact h.1

theorem State.blindApplies_rate (h : s.blindApplies l = true) : 0 < (s.flow l).rate := by
  simp only [State.blindApplies, Bool.and_eq_true, decide_eq_true_eq] at h
  exact h.1.1.1.2

/-- A line tripped by the blind test, with its quiet timer begun (R103, R104). -/
def Ev.blindTripped (e : Ev) (l : LineId) : Ev :=
  (((e.windowNoted l).trip l .blindFlow).modFlow l (fun f => { f with quiet := 0 })).setQuiet l true

theorem Ev.gateBlind_trips (h : e.blindTrips l = true) : e.gateBlind l = e.blindTripped l := by
  rw [Ev.gateBlind_on (State.blindTrips_applies h), if_pos h]
  rfl

theorem Ev.gateBlind_within (h : e.blindTrips l = false) (ha : e.blindApplies l = true) : e.gateBlind l = e.windowNoted l := by
  rw [Ev.gateBlind_on ha, if_neg (ne_true_of_eq_false h)]
  rfl

/-- What the blind trip writes of its line. -/
theorem Ev.blindTripped_own (h : e.blindTrips l = true) :
    let z := e.blindTripped l
    (z.line l).state = .closing ∧ (z.line l).closeReason = some .trip ∧ (z.line l).holdReason = none ∧
    (z.line l).trip.map (fun r => r.cause) = some .blindFlow ∧ (z.line l).quietPending = true ∧
    (z.flow l).ledger = ((e.flow l).pulseTotal, 0, (e.flow l).excess, some (e.blindWindowOf l)) := by
  have hopen : (e.windowNoted l).flowing l = true ∨ ((e.windowNoted l).line l).state = .closing :=
    State.blindApplies_open (s := e.toState) (State.blindTrips_applies h)
  obtain ⟨hs, hr, hh, ht, -⟩ := Ev.trip_own (c := .blindFlow) hopen
  have hflows : (((e.windowNoted l).trip l .blindFlow).flow l).ledger = ((e.windowNoted l).flow l).ledger :=
    congrFun (Ev.trip_flows (e.windowNoted l) l .blindFlow) l
  rw [Ev.windowNoted_flow] at hflows
  unfold Ev.blindTripped
  dsimp only
  generalize (e.windowNoted l).trip l .blindFlow = y at hs hr hh ht hflows
  have hline : ((y.modFlow l (fun f => { f with quiet := 0 })).setQuiet l true).line l =
      { y.line l with quietPending := true } := by simp [Ev.setQuiet, State.line]
  have hflow : ((y.modFlow l (fun f => { f with quiet := 0 })).setQuiet l true).flow l = { y.flow l with quiet := 0 } := by
    simp [Ev.setQuiet, State.flow]
  rw [hline, hflow]
  refine ⟨hs, hr, hh, ht, rfl, ?_⟩
  exact congrArg (fun p : Nat × Nat × Option Int × Option Nat => (p.1, 0, p.2.2.1, p.2.2.2)) hflows

/-- A line that the blind test does not trip keeps its record; of the Flow Monitor's figures the window alone is noted. -/
theorem Ev.gateBlind_goes_on (h : e.blindTrips l = false) : (e.gateBlind l).line l = e.line l ∧
    (e.gateBlind l).pred l = e.pred l ∧ e.toState.TestedAlike (e.gateBlind l).toState l ∧
    ∃ w, (e.gateBlind l).flow l = { e.flow l with blindWindow := w } ∧
      (e.blindApplies l = true → w = some (e.blindWindowOf l)) := by
  cases ha : e.blindApplies l with
  | false =>
    rw [Ev.gateBlind_off ha]
    exact ⟨rfl, rfl, .refl _ l, (e.flow l).blindWindow, rfl, nofun⟩
  | true =>
    rw [Ev.gateBlind_within h ha]
    exact ⟨rfl, rfl, Ev.modFlow_testedAlike e l (by intro; rfl) (by intro; rfl) (by intro; rfl) (by intro; rfl), _,
      Ev.windowNoted_flow e l, fun _ => rfl⟩

/-! ### The caps -/

/-- The counts of the caps written (R99). -/
def Ev.capsCounted (e : Ev) (l : LineId) (avg : Option Nat) : Ev :=
  e.modFlow l (fun f => { f with
    rateCount := capCount (e.flow l).rateCount (some (e.flow l).rate) (e.rateLimit l),
    pressCount := capCount (e.flow l).pressCount avg (e.pressureLimit l) })

/-- The throttle position one step below that of a line, start_pos at the lowest (R99). -/
def State.steppedDown (s : State) (l : LineId) : Nat :=
  max (s.profile l).startPos ((s.line l).throttle - (s.profile l).throttleStep)

theorem Ev.capsCounted_act (e : Ev) (l : LineId) (avg : Option Nat) : (e.capsCounted l avg).capAct l =
    if (e.line l).throttle ≤ (e.profile l).startPos then (e.capsCounted l avg).trip l .rateUncontrolled
    else (e.capsCounted l avg).throttleTo l (e.steppedDown l) := rfl

theorem Ev.gateCaps_counts (hd : (e.line l).state.delivering = true) (hp : (e.pred l).settling = false) (avg : Option Nat) :
    e.gateCaps l avg = if 3 ≤ capCount (e.flow l).rateCount (some (e.flow l).rate) (e.rateLimit l) ∨
        3 ≤ capCount (e.flow l).pressCount avg (e.pressureLimit l) then
      if (e.line l).throttle ≤ (e.profile l).startPos then (e.capsCounted l avg).trip l .rateUncontrolled
      else (e.capsCounted l avg).throttleTo l (e.steppedDown l)
    else e.capsCounted l avg := Ev.gateCaps_on hd hp avg

theorem Ev.capsCounted_ledger (e : Ev) (l : LineId) (avg : Option Nat) : (e.capsCounted l avg).ledger = e.ledger :=
  Ev.modFlow_ledger e l (by intro; rfl)

theorem Ev.capsCounted_flowing (hd : (e.line l).state.delivering = true) (avg : Option Nat) :
    (e.capsCounted l avg).flowing l = true := State.flowing_of_delivering (x := e.toState) hd

/-- The caps keep the totals, the quiet timer and the figures of the other tests. -/
theorem Ev.gateCaps_ledger (e : Ev) (l : LineId) (avg : Option Nat) : (e.gateCaps l avg).ledger.flows = e.ledger.flows ∧
    ((e.gateCaps l avg).line l).quietPending = (e.line l).quietPending := by
  have counted := Ev.capsCounted_ledger e l avg
  cases hd : (e.line l).state.delivering with
  | false => rw [Ev.gateCaps_off (.inl hd)]; exact ⟨rfl, rfl⟩
  | true =>
    cases hp : (e.pred l).settling with
    | true => rw [Ev.gateCaps_off (.inr hp)]; exact ⟨rfl, rfl⟩
    | false =>
      rw [Ev.gateCaps_counts hd hp]
      split
      · split
        · obtain ⟨-, -, -, -, hq⟩ := Ev.trip_own (c := .rateUncontrolled) (.inl (Ev.capsCounted_flowing hd avg))
          exact ⟨(Ev.trip_flows _ l _).trans (congrArg Ledger.flows counted), hq⟩
        · exact ⟨congrArg Ledger.flows ((Ev.throttleTo_ledger _ l _).trans counted), by rw [(Ev.throttleTo_own _ l _).1]; rfl⟩
      · exact ⟨congrArg Ledger.flows counted, rfl⟩

/-- What the caps do to a delivering line that is not settling: its counts, one step of throttle, or RATE_UNCONTROLLED (R99, R100). -/
theorem Ev.gateCaps_decides (hd : (e.line l).state.delivering = true) (hp : (e.pred l).settling = false) (avg : Option Nat) :
    let r := capCount (e.flow l).rateCount (some (e.flow l).rate) (e.rateLimit l)
    let p := capCount (e.flow l).pressCount avg (e.pressureLimit l)
    let z := e.gateCaps l avg
    (r < 3 → p < 3 → z.line l = e.line l ∧ (z.flow l).rateCount = r ∧ (z.flow l).pressCount = p) ∧
    (3 ≤ r ∨ 3 ≤ p →
      if (e.line l).throttle ≤ (e.profile l).startPos then z.toState.closesWith l .trip none (some .rateUncontrolled)
      else z.line l = { e.line l with throttle := e.steppedDown l } ∧ (z.flow l).rateCount = 0 ∧ (z.flow l).pressCount = 0) := by
  have h := Ev.gateCaps_counts hd hp avg
  dsimp only
  rw [h]
  refine ⟨fun hr hp => ?_, fun hc => ?_⟩
  · rw [if_neg (by omega)]
    exact ⟨rfl, congrArg Flow.rateCount (Quad.get_set_same _ _ _), congrArg Flow.pressCount (Quad.get_set_same _ _ _)⟩
  · rw [if_pos hc]
    by_cases ht : (e.line l).throttle ≤ (e.profile l).startPos
    · rw [if_pos ht, if_pos ht]
      exact Ev.trip_closesWith (.inl (Ev.capsCounted_flowing hd avg))
    · obtain ⟨hline, hflow⟩ := Ev.throttleTo_own (e.capsCounted l avg) l (e.steppedDown l)
      rw [if_neg ht, if_neg ht]
      exact ⟨hline, congrArg Flow.rateCount hflow, congrArg Flow.pressCount hflow⟩

end Sys2Proof.Machine
end

section
/-! What a gate end's tests promise of their line, from the state after its opening to the state the event leaves. -/

namespace Sys2Proof.Machine
variable {e e' e'' x y z : Ev} {l m : LineId} {g : Ground} {s u v w : State} {k n : TankId} {avg : Option Nat} {b : Baseline}

/-- The cap counts of a delivering line that no test has tripped, with what they set off (R98 to R100). -/
def State.capped (x v : State) (l : LineId) (avg : Option Nat) : Prop :=
  let r := capCount (x.flow l).rateCount (some (x.flow l).rate) (x.rateLimit l)
  let p := capCount (x.flow l).pressCount avg (x.pressureLimit l)
  ((x.pred l).settling = true → v.line l = x.line l ∧ (v.flow l).rateCount = (x.flow l).rateCount ∧
    (v.flow l).pressCount = (x.flow l).pressCount) ∧
  ((x.pred l).settling = false → r < 3 → p < 3 →
    v.line l = x.line l ∧ (v.flow l).rateCount = r ∧ (v.flow l).pressCount = p) ∧
  ((x.pred l).settling = false → (3 ≤ r ∨ 3 ≤ p) →
    if (x.line l).throttle ≤ (x.profile l).startPos then v.closesWith l .trip none (some .rateUncontrolled)
    else v.line l = { x.line l with throttle := x.steppedDown l } ∧ (v.flow l).rateCount = 0 ∧ (v.flow l).pressCount = 0)

/-- What the tests of line `l` leave in `v`, from its state `x` after the opening of the gate end (R102, R103, R105, R106). -/
structure State.GateTests (x v : State) (l : LineId) (avg : Option Nat) : Prop where
  excess : x.balanceApplies l = true → ∀ b, (x.line l).baseline = some b →
    (v.flow l).excess = some (x.balanceExcess l b.litres)
  balance : x.balanceTrips l = true → v.closesWith l .trip none (some .balance)
  window : x.balanceTrips l = false → x.blindApplies l = true → (v.flow l).blindWindow = some (x.blindWindowOf l)
  blind : x.balanceTrips l = false → x.blindTrips l = true →
    (v.line l).state = .closing ∧ (v.line l).closeReason = some .trip ∧ (v.line l).holdReason = none ∧
    (v.line l).trip.map (fun z => z.cause) = some .blindFlow ∧ (v.line l).quietPending = true ∧ (v.flow l).quiet = 0
  caps : x.balanceTrips l = false → x.blindTrips l = false → (x.line l).state.delivering = true → x.capped v l avg

/-! ### The tests meet it -/

theorem State.capped_congr (hline : w.line l = v.line l) (hflow : w.flow l = v.flow l) (h : s.capped v l avg) :
    s.capped w l avg := by
  unfold State.capped State.closesWith at h ⊢
  rw [hline, hflow]
  exact h

/-- Two states alike in what the caps look at. -/
theorem State.TestedAlike.capped (h : s.TestedAlike u l) (hp : u.pred l = s.pred l)
    (hr : (u.flow l).rateCount = (s.flow l).rateCount) (hq : (u.flow l).pressCount = (s.flow l).pressCount)
    (hc : u.capped v l avg) : s.capped v l avg := by
  unfold State.capped State.steppedDown at hc ⊢
  rw [hp, hr, hq, h.rate, h.rateLimit, h.pressureLimit, h.line, h.profileOf] at hc
  exact hc

theorem Ev.gateCaps_capped (hd : (e.line l).state.delivering = true) : e.toState.capped (e.gateCaps l avg).toState l avg := by
  refine ⟨fun hp => ?_, fun hp => (Ev.gateCaps_decides hd hp avg).1, fun hp => (Ev.gateCaps_decides hd hp avg).2⟩
  rw [Ev.gateCaps_off (.inr hp)]
  exact ⟨rfl, rfl, rfl⟩

/-- The tests of a line after the opening of its gate end. -/
theorem Ev.tests_gateTests (e : Ev) (l : LineId) (avg : Option Nat) :
    e.toState.GateTests (((e.gateBalance l).gateBlind l).gateCaps l avg).toState l avg := by
  obtain ⟨q, hq, hexcess⟩ := Ev.excessNoted_flow e l
  cases htrip : e.balanceTrips l with
  | true =>
    obtain ⟨heq, hclose⟩ := Ev.tests_balance htrip avg
    rw [heq]
    refine ⟨fun ha b hb => ?_, fun _ => hclose, fun hc => (nomatch hc.symm.trans htrip), fun hc => (nomatch hc.symm.trans htrip),
      fun hc => (nomatch hc.symm.trans htrip)⟩
    have hflows := congrFun (Ev.trip_flows (e.excessNoted l) l .balance) l
    exact (congrArg (fun p : Nat × Nat × Option Int × Option Nat => p.2.2.1) hflows).trans
      ((congrArg Flow.excess hq).trans (hexcess b ha hb))
  | false =>
    rw [Ev.gateBalance_within htrip]
    have halike := Ev.excessNoted_testedAlike e l
    have hline := Ev.excessNoted_line e l
    have hpred := Ev.excessNoted_pred e l
    generalize e.excessNoted l = y at hq halike hline hpred
    have hledger (z : Ev) := Ev.gateCaps_ledger z l avg
    cases hblind : e.blindTrips l with
    | true =>
      have hy : y.blindTrips l = true := halike.blindTrips.trans hblind
      obtain ⟨hs, hr, hh, ht, hp, hfig⟩ := Ev.blindTripped_own hy
      rw [Ev.gateBlind_trips hy, Ev.gateCaps_off (.inl (by rw [hs]; rfl))]
      refine ⟨fun ha b hb => ?_, fun hc => (nomatch hc.symm.trans htrip), fun _ _ => ?_, fun _ _ => ⟨hs, hr, hh, ht, hp, ?_⟩,
        fun _ hc => (nomatch hc.symm.trans hblind)⟩
      · exact (congrArg (fun p => p.2.2.1) hfig).trans ((congrArg Flow.excess hq).trans (hexcess b ha hb))
      · exact (congrArg (fun p => p.2.2.2) hfig).trans (congrArg some halike.blindWindowOf)
      · exact congrArg (fun p => p.2.1) hfig
    | false =>
      have hy : y.blindTrips l = false := halike.blindTrips.trans hblind
      obtain ⟨kline, kpred, kfed, r, kr, kwindow⟩ := Ev.gateBlind_goes_on hy
      generalize y.gateBlind l = z at kline kpred kfed kr
      have hz : e.toState.TestedAlike z.toState l := halike.trans kfed
      have hflows := congrFun (hledger z).1 l
      refine ⟨fun ha b hb => ?_, fun hc => (nomatch hc.symm.trans htrip), fun _ ha => ?_, fun _ hc => (nomatch hc.symm.trans hblind),
        fun _ _ hd => ?_⟩
      · refine (congrArg (fun p : Nat × Nat × Option Int × Option Nat => p.2.2.1) hflows).trans ?_
        exact (congrArg Flow.excess (kr.trans (by rw [hq]))).trans (hexcess b ha hb)
      · refine (congrArg (fun p : Nat × Nat × Option Int × Option Nat => p.2.2.2) hflows).trans ?_
        rw [← halike.blindWindowOf]
        exact (congrArg Flow.blindWindow kr).trans (kwindow (halike.blindApplies.trans ha))
      · exact hz.capped (kpred.trans hpred) (by rw [kr, hq]) (by rw [kr, hq])
          (Ev.gateCaps_capped (e := z) (by rw [kline, hline]; exact hd))

/-- What the tests promise of a state they promise of one alike. -/
theorem State.TestedAlike.gateTests (h : s.TestedAlike u l) (hp : u.pred l = s.pred l)
    (hr : (u.flow l).rateCount = (s.flow l).rateCount) (hq : (u.flow l).pressCount = (s.flow l).pressCount)
    (ht : u.GateTests v l avg) : s.GateTests v l avg := by
  obtain ⟨hexcess, hbalance, hwindow, hblind, hcaps⟩ := ht
  rw [h.line, h.balanceApplies] at hexcess
  simp only [h.balanceExcess] at hexcess
  rw [h.balanceTrips] at hbalance hwindow hblind hcaps
  rw [h.blindApplies, h.blindWindowOf] at hwindow
  rw [h.blindTrips] at hblind hcaps
  rw [h.line] at hcaps
  exact ⟨hexcess, hbalance, hwindow, hblind, fun h1 h2 h3 => h.capped hp hr hq (hcaps h1 h2 h3)⟩

/-! ### It lasts to the end of the event -/

theorem State.GateTests.congr (h : s.GateTests v l avg) (hline : w.line l = v.line l) (hflow : w.flow l = v.flow l) :
    s.GateTests w l avg where
  excess := by rw [hflow]; exact h.excess
  balance := by rw [State.closesWith, hline]; exact h.balance
  window := by rw [hflow]; exact h.window
  blind := by rw [hline, hflow]; exact h.blind
  caps h1 h2 h3 := State.capped_congr hline hflow (h.caps h1 h2 h3)

theorem LineState.delivering_open {st : LineState} (h : st.delivering = true) : st ≠ .closing ∧ st ≠ .starting := by
  constructor
  · rintro rfl; cases h
  · rintro rfl; cases h

theorem Ev.drain_capped (hc : e.calm g) (hsw : (e.valve l).closedSwitch = false) (hd : (s.line l).state.delivering = true)
    (h : s.capped e.toState l avg) : s.capped e.drain.toState l avg := by
  have still (hst : (e.line l).state = (s.line l).state) : e.drain.line l = e.line l ∧ e.drain.flow l = e.flow l := by
    obtain ⟨h1, h2⟩ := LineState.delivering_open hd
    obtain ⟨hline, -, -, -, hflow⟩ := Ev.drain_still hc (hst ▸ h1) (hst ▸ h2)
    exact ⟨hline, hflow⟩
  obtain ⟨hsettling, hwithin, hover⟩ := h
  refine ⟨fun hp => ?_, fun hp hr hq => ?_, fun hp hr => ?_⟩
  · obtain ⟨h1, h2⟩ := hsettling hp
    obtain ⟨hline, hflow⟩ := still (by rw [h1])
    rw [hline, hflow]
    exact ⟨h1, h2⟩
  · obtain ⟨h1, h2⟩ := hwithin hp hr hq
    obtain ⟨hline, hflow⟩ := still (by rw [h1])
    rw [hline, hflow]
    exact ⟨h1, h2⟩
  · have h := hover hp hr
    split at h
    · next ht =>
      rw [if_pos ht]
      exact Ev.drain_closesWith hc hsw h
    · next ht =>
      rw [if_neg ht]
      obtain ⟨h1, h2⟩ := h
      obtain ⟨hline, hflow⟩ := still (by rw [h1])
      rw [hline, hflow]
      exact ⟨h1, h2⟩

/-- With the valve off its closed limit switch the end of the event keeps what the tests of its line have left. -/
theorem Ev.drain_gateTests (hc : e.calm g) (hsw : (e.valve l).closedSwitch = false) (h : s.GateTests e.toState l avg) :
    s.GateTests e.drain.toState l avg where
  excess ha b hb := by
    have hledger := congrArg (fun p : Ledger => (p.flows l).2.2.1) (Ev.drain_ledger hc)
    exact hledger.trans (h.excess ha b hb)
  balance ht := Ev.drain_closesWith hc hsw (h.balance ht)
  window h1 h2 := by
    have hledger := congrArg (fun p : Ledger => (p.flows l).2.2.2) (Ev.drain_ledger hc)
    exact hledger.trans (h.window h1 h2)
  blind h1 h2 := by
    obtain ⟨hs, hrest⟩ := h.blind h1 h2
    obtain ⟨⟨b, hline⟩, -, -, hflow⟩ := Ev.drain_closing hc hs hsw
    rw [hline, hflow]
    exact ⟨hs, hrest⟩
  caps h1 h2 h3 := Ev.drain_capped hc hsw h3 (h.caps h1 h2 h3)

end Sys2Proof.Machine
end

section
/-! The turns of a gate end: the turn of a line sees what the event found of it, and the turns of the other lines leave alone what it
has left (R106). -/

namespace Sys2Proof.Machine
variable {e e' e'' x y z : Ev} {l m : LineId} {g : Ground} {s u v w : State} {k n : TankId} {avg : Option Nat} {c : Nat}

/-! ### The quiet timer after the tests -/

/-- QUIET_PENDING and the quiet timer of a line. -/
def State.quietFigures (s : State) (l : LineId) : Bool × Nat := ((s.line l).quietPending, (s.flow l).quiet)

/-- The quiet timer of line `l` is as it was after the opening, or a blind trip, which no gate without pulses makes, has begun it anew
(R103, R104). -/
def State.QuietLeft (x v : State) (l : LineId) : Prop :=
  v.quietFigures l = x.quietFigures l ∨ 0 < (x.flow l).rate ∧ v.quietFigures l = (true, 0)

theorem Ev.tests_quiet (e : Ev) (l : LineId) (avg : Option Nat) :
    e.toState.QuietLeft (((e.gateBalance l).gateBlind l).gateCaps l avg).toState l := by
  have capsKeep (y : Ev) : (y.gateCaps l avg).quietFigures l = y.quietFigures l := by
    obtain ⟨hflows, hline⟩ := Ev.gateCaps_ledger y l avg
    exact Prod.ext hline (congrArg (fun p => (p l).2.1) hflows :)
  have hquiet : ((e.excessNoted l).flow l).quiet = (e.flow l).quiet := by
    obtain ⟨q, hq, -⟩ := Ev.excessNoted_flow e l
    rw [hq]
  have hline := Ev.excessNoted_line e l
  cases htrip : e.balanceTrips l with
  | true =>
    have hopen : (e.excessNoted l).flowing l = true := by
      rw [State.flowing, hline]
      exact State.flowing_of_delivering (State.balanceTrips_delivering htrip)
    obtain ⟨-, -, -, -, hpending⟩ := Ev.trip_own (c := .balance) (.inl hopen)
    have hflows := congrFun (Ev.trip_flows (e.excessNoted l) l .balance) l
    rw [(Ev.tests_balance htrip avg).1]
    refine .inl (Prod.ext (hpending.trans (by rw [hline]; rfl)) ?_)
    exact (congrArg (fun p : Nat × Nat × Option Int × Option Nat => p.2.1) hflows).trans hquiet
  | false =>
    have halike := Ev.excessNoted_testedAlike e l
    rw [Ev.gateBalance_within htrip]
    unfold State.QuietLeft
    rw [capsKeep]
    generalize e.excessNoted l = y at hquiet hline halike
    cases hblind : y.blindTrips l with
    | true =>
      obtain ⟨-, -, -, -, hp, hfig⟩ := Ev.blindTripped_own hblind
      rw [Ev.gateBlind_trips hblind]
      refine .inr ⟨?_, Prod.ext hp (congrArg (fun p => p.2.1) hfig :)⟩
      rw [← halike.rate]
      exact State.blindApplies_rate (State.blindTrips_applies hblind)
    | false =>
      obtain ⟨kline, -, -, r, kr, -⟩ := Ev.gateBlind_goes_on hblind
      refine .inl (Prod.ext (congrArg LineRec.quietPending (kline.trans hline)) ?_)
      rw [State.quietFigures, kr]
      exact hquiet

/-! ### One line's turn -/

/-- What the turn of line `m` at a gate end leaves alone. -/
structure Ev.TurnOf (e e' : Ev) (m : LineId) : Prop where
  lane : ∀ l, l ≠ m → e'.lane l = e.lane l
  lists : e'.lists = e.lists
  use : ∀ n, (e'.tank n).use = (e.tank n).use
  settled : e'.settled = e.settled
  inputs : ∀ l, (e'.valve l).inputs = (e.valve l).inputs
  calm : e.calm e.ground → e'.calm e'.ground
  attributed : ∀ n, e.activeTank m ≠ some n → (e'.tank n).attributed = (e.tank n).attributed

/-- Reports stay calm while the inputs stay. -/
theorem Ev.calm_of_inputs (h : e.calm e.ground) (hr : e'.reports = e.reports) (hv : e'.valves = e.valves) :
    e'.calm e'.ground := by
  refine ⟨rfl, fun r hmem => ?_⟩
  have hcalm := h.2 r (hr ▸ hmem)
  have hinputs : e'.ground.inputs = e.ground.inputs := by
    change (fun l => (e'.valves.get l).inputs) = fun l => (e.valves.get l).inputs
    rw [hv]
  cases r with
  | arrived l cls target =>
    change target = 0 → (e'.ground.inputs l).closedSwitch = true
    rw [hinputs]
    exact hcalm
  | ended l cls => exact hcalm
  | failed l cls o => exact hcalm
  | seated l => exact hcalm

theorem Ev.gateLine_turn (e : Ev) (m : LineId) : e.TurnOf (e.gateLine m) m := by
  have ho := Ev.gateOpening_opens e m
  have ht := Ev.gateLine_tested e m
  obtain ⟨-, -, hattr⟩ := Ev.gateOpening_writes e m
  refine ⟨fun l hl => (ht.lane l hl).trans (ho.lane l hl), ht.lists.trans ho.records.lists,
    fun n => (ht.use n).trans (ho.use n), (settled_of_ground ht.ground).trans ho.settled, fun l => ?_, fun hc => ?_, fun n hn => ?_⟩
  · exact (inputs_of_ground ht.ground l).trans (congrArg Valve.inputs (ho.records.valve l))
  · rw [ht.ground]
    exact ht.calm _ (Ev.calm_of_inputs hc ho.records.reports ho.records.valves)
  · have hopen : ((e.gateOpening m).tank n).attributed = (e.tank n).attributed := by
      rw [hattr, State.attributes, if_neg (fun h => hn h.2)]
      rfl
    rcases ht.paid with ⟨-, -, hkept⟩ | ⟨-, -, -, hgiven⟩
    · exact (hkept n).trans hopen
    · rw [hgiven, State.exited, ho.activeTank, if_neg hn]
      exact hopen

/-! ### The turns of the other lines -/

/-- What the turns of lines other than `l` leave alone. -/
structure Ev.OtherTurns (e e' : Ev) (l : LineId) : Prop where
  lane : e'.lane l = e.lane l
  lists : e'.lists = e.lists
  use : ∀ n, (e'.tank n).use = (e.tank n).use
  settled : e'.settled = e.settled
  inputs : ∀ m, (e'.valve m).inputs = (e.valve m).inputs
  calm : e.calm e.ground → e'.calm e'.ground
  attributed : ∀ n, (∀ m, m ≠ l → e.activeTank m ≠ some n) → (e'.tank n).attributed = (e.tank n).attributed

theorem Ev.OtherTurns.refl (e : Ev) (l : LineId) : e.OtherTurns e l :=
  ⟨rfl, rfl, fun _ => rfl, rfl, fun _ => rfl, id, fun _ _ => rfl⟩

theorem Ev.OtherTurns.activeTank (h : e.OtherTurns e' l) (m : LineId) : e'.activeTank m = e.activeTank m :=
  State.activeTank_congr h.lists h.use m

theorem Ev.OtherTurns.turn (h : e.OtherTurns e' l) (hm : m ≠ l) (h' : e'.TurnOf e'' m) : e.OtherTurns e'' l :=
  ⟨(h'.lane l hm.symm).trans h.lane, h'.lists.trans h.lists, fun n => (h'.use n).trans (h.use n), h'.settled.trans h.settled,
    fun k => (h'.inputs k).trans (h.inputs k), fun hc => h'.calm (h.calm hc), fun n hn =>
    (h'.attributed n (by rw [h.activeTank]; exact hn m hm)).trans (h.attributed n hn)⟩

/-- A gate end seen from line `l`: the turns of other lines, its own, the turns of other lines. -/
theorem Ev.gateEnd_turns (e : Ev) (l : LineId) :
    ∃ y : Ev, e.OtherTurns y l ∧ (y.gateLine l).OtherTurns e.gateEnd l :=
  Ev.eachLine_at (P := fun y => e.OtherTurns y l)
    (Q := fun z => ∃ y : Ev, e.OtherTurns y l ∧ (y.gateLine l).OtherTurns z l) (fun l x => x.gateLine l) l (.refl e l)
    (fun m y hm hy => hy.turn hm (Ev.gateLine_turn y m)) (fun y hy => ⟨y, hy, .refl _ l⟩)
    fun m z hm ⟨y, hy, hz⟩ => ⟨y, hy, hz.turn hm (Ev.gateLine_turn z m)⟩

/-! ### The opening at the line's turn -/

namespace Ev.OtherTurns
variable (h : e.OtherTurns y l)
include h

theorem line : y.line l = e.line l := congrArg Prod.fst h.lane
theorem flow : y.flow l = e.flow l := congrArg (fun p => p.2.2.2.2) h.lane
theorem pred : y.pred l = e.pred l := congrArg (fun p => p.2.2.1) h.lane

theorem totals : y.totals l c = e.totals l c := by
  have hopen : y.accountOpen l = e.accountOpen l := by
    simp only [State.accountOpen, State.flowing, State.closing, h.line, h.activeTank]
  unfold State.totals
  rw [hopen, h.flow, h.line]

theorem litres : y.litres l c = e.litres l c := by rw [State.litres, State.litres, h.totals, h.line]

/-- At its turn the opening of line `l` writes what it would have written at the beginning of the event. -/
theorem opening : (y.gateOpening l).line l = (e.gateOpening l).line l ∧ (y.gateOpening l).flow l = (e.gateOpening l).flow l ∧
    (y.gateOpening l).pred l = (e.gateOpening l).pred l := by
  obtain ⟨hline, hflow, -⟩ := Ev.gateOpening_writes y l
  obtain ⟨kline, kflow, -⟩ := Ev.gateOpening_writes e l
  have hpends (c : Nat) : y.pends l c = e.pends l c := by rw [State.pends, State.pends, h.line]
  have hquiet (c : Nat) : y.quietAfter l c = e.quietAfter l c := by rw [State.quietAfter, State.quietAfter, h.line, h.flow]
  have hcounted : y.counted l = e.counted l := by
    have hrate : y.gateRateOf l = e.gateRateOf l := by
      unfold State.gateRateOf
      rw [h.line, h.flow]
    rw [State.counted, State.counted, h.flow, hrate]
  rw [h.line, h.flow, h.totals, h.litres, hpends, hquiet] at hline
  rw [h.flow, h.totals, hquiet, hcounted] at hflow
  refine ⟨hline.trans kline.symm, hflow.trans kflow.symm, ?_⟩
  rw [State.pred, State.pred, (Ev.gateOpening_opens y l).preds, (Ev.gateOpening_opens e l).preds]
  exact h.pred

theorem opening_testedAlike : (e.gateOpening l).toState.TestedAlike (y.gateOpening l).toState l := by
  obtain ⟨hline, hflow, -⟩ := h.opening
  have hy := Ev.gateOpening_opens y l
  have he := Ev.gateOpening_opens e l
  exact State.testedAlike_of ((hy.settled.trans h.settled).trans he.settled.symm)
    ((hy.records.lists.trans h.lists).trans he.records.lists.symm)
    (fun n => ((hy.use n).trans (h.use n)).trans (he.use n).symm) hline hflow

theorem opening_attributed (hn : ∀ m, m ≠ l → e.activeTank m ≠ some n) :
    ((y.gateOpening l).tank n).attributed = ((e.gateOpening l).tank n).attributed := by
  obtain ⟨-, -, hy⟩ := Ev.gateOpening_writes y l
  obtain ⟨-, -, he⟩ := Ev.gateOpening_writes e l
  rw [hy, he, State.attributes, State.attributes, h.line, h.flow, h.litres, h.activeTank, h.attributed n hn]

end Ev.OtherTurns

end Sys2Proof.Machine
end

section
/-! O48: a gate end works the rates and the litres of every line and makes its tests. -/

namespace Sys2Proof.Machine
variable {e e' e'' x y z : Ev} {l m : LineId} {g : Ground} {s u v w : State} {k n : TankId} {avg : Option Nat} {c : Nat} {t : Time}

/-! ### What a gate end leaves of a line -/

/-- The litres of line `l` in `v`, read on the tanks that no other line fills: as the opening of the gate end left them in `x`, or with
the pending volume of a changeover that has ended given to the ACTIVE tank (R51). -/
inductive State.PaidOn (x v : State) (l : LineId) (p : TankId → Prop) : Prop
  | kept (hs : (v.line l).state = .changeover ↔ (x.line l).state = .changeover)
      (hv : (v.line l).pendingVol = (x.line l).pendingVol) (ht : ∀ n, p n → (v.tank n).attributed = (x.tank n).attributed)
  | given (hs : (x.line l).state = .changeover) (hs' : (v.line l).state ≠ .changeover) (hv : (v.line l).pendingVol = 0)
      (ht : ∀ n, p n → (v.tank n).attributed = x.exited l n)

/-- No line but `l` has the tank ACTIVE. -/
def State.unshared (s : State) (l : LineId) (n : TankId) : Prop := ∀ m, m ≠ l → s.activeTank m ≠ some n

/-- What a gate end that finds the state `s` leaves of line `l` in `v`; `x` is the state after the line's opening. -/
structure State.GateLeaves (s x v : State) (l : LineId) : Prop where
  meter : (v.flow l).meter = (x.flow l).meter
  account : v.account l = x.account l
  quiet : x.QuietLeft v l
  paid : x.PaidOn v l (s.unshared l)
  tests : (s.valve l).closedSwitch = false → x.GateTests v l (s.flow l).gateAverage

/-- The end of the event leaves of the accounts what the last turn left. -/
theorem Ev.GateLeaves.drained (hc : e.calm e.ground) (hv : e.drain.toState.sameBlocks v)
    (hsw : (e.valve l).closedSwitch = (s.valve l).closedSwitch) (h : s.GateLeaves w e.toState l) : s.GateLeaves w v l := by
  have hledger := Ev.drain_ledger hc
  have hline := congrArg (fun b : Ledger => b.lines l) hledger
  have hflow := congrArg (fun b : Ledger => b.flows l) hledger
  have htank (n : TankId) : (e.drain.tank n).attributed = (e.tank n).attributed := congrArg (fun b : Ledger => b.litres n) hledger
  have hquiet : v.quietFigures l = e.quietFigures l := by
    rw [State.quietFigures, hv.line, hv.flow]
    exact Prod.ext (congrArg (fun p => p.2.2.1) hline :) (congrArg (fun p => p.2.1) hflow :)
  refine ⟨?_, ?_, ?_, ?_, fun ho => ?_⟩
  · rw [hv.flow]
    exact (meter_of_ground (Ev.drain_ground e) l).trans h.meter
  · refine Eq.trans ?_ h.account
    rw [State.account, hv.line, hv.flow]
    exact Ev.account_of_ledger hline (congrArg Ledger.flows hledger)
  · rw [State.QuietLeft, hquiet]
    exact h.quiet
  · have hchange := Ev.drain_changeover hc l
    have hvol : (v.line l).pendingVol = (e.line l).pendingVol := by
      rw [hv.line]
      exact congrArg (fun p => p.2.2.2) hline
    rw [← hv.line] at hchange
    cases h.paid with
    | kept hs hp ht => exact .kept (hchange.trans hs) (hvol.trans hp) fun n hn => by rw [hv.tank, htank, ht n hn]
    | given hs hs' hp ht =>
      exact .given hs (fun hx => hs' (hchange.mp hx)) (hvol.trans hp) fun n hn => by rw [hv.tank, htank, ht n hn]
  · exact (Ev.drain_gateTests hc (hsw.trans ho) (h.tests ho)).congr (hv.line l) (hv.flow l)

/-- After the turns of a gate end, before its reports and closes. -/
theorem Ev.gateEnd_leaves (e : Ev) (l : LineId) : e.toState.GateLeaves (e.gateOpening l).toState e.gateEnd.toState l := by
  obtain ⟨y, hy, hz⟩ := Ev.gateEnd_turns e l
  have htested := Ev.gateLine_tested y l
  have hopens := Ev.gateOpening_opens y l
  have halike := hy.opening_testedAlike
  obtain ⟨hline, hflow, hpred⟩ := hy.opening
  have hturn := Ev.gateLine_turn y l
  have hactive (m : LineId) : (y.gateLine l).activeTank m = e.activeTank m :=
    (State.activeTank_congr hturn.lists hturn.use m).trans (hy.activeTank m)
  have hquiet : (e.gateOpening l).toState.quietFigures l = (y.gateOpening l).toState.quietFigures l := by
    rw [State.quietFigures, State.quietFigures, hline, hflow]
  have hend : e.gateEnd.quietFigures l = (y.gateLine l).quietFigures l := by
    rw [State.quietFigures, State.quietFigures, hz.line, hz.flow]
  refine ⟨?_, ?_, ?_, ?_, fun _ => ?_⟩
  · rw [hz.flow]
    exact (meter_of_ground htested.ground l).trans (by rw [hflow])
  · refine Eq.trans ?_ (htested.account.trans ?_)
    · rw [State.account, State.account, hz.line, hz.flow]
    · rw [State.account, State.account, hline, hflow]
  · have h := Ev.tests_quiet (y.gateOpening l) l (y.flow l).gateAverage
    rw [← Ev.gateLine_eq] at h
    rw [State.QuietLeft, hend, hquiet, ← hflow]
    exact h
  · have htank (n : TankId) (hn : e.toState.unshared l n) :
        (e.gateEnd.tank n).attributed = ((y.gateLine l).tank n).attributed :=
      hz.attributed n fun m hm => by rw [hactive]; exact hn m hm
    have hopened (n : TankId) (hn : e.toState.unshared l n) : ((y.gateOpening l).tank n).attributed =
        ((e.gateOpening l).tank n).attributed := hy.opening_attributed hn
    have hpaid := htested.paid
    rcases hpaid with ⟨hs, hv, ht⟩ | ⟨hs, hs', hv, ht⟩
    · rw [hline, ← hz.line] at hs hv
      exact .kept hs hv fun n hn => (htank n hn).trans ((ht n).trans (hopened n hn))
    · rw [← hz.line] at hs' hv
      refine .given (hline ▸ hs) hs' hv fun n hn => (htank n hn).trans ((ht n).trans ?_)
      rw [State.exited, State.exited, hopened n hn, halike.activeTank, hline]
  · have h := Ev.tests_gateTests (y.gateOpening l) l (y.flow l).gateAverage
    rw [← Ev.gateLine_eq, hy.flow] at h
    exact (halike.gateTests hpred (by rw [hflow]) (by rw [hflow]) h).congr hz.line hz.flow

end Sys2Proof.Machine
end

section
/-! O48: the account law through a gate end (R26), and the settling theorem. -/

namespace Sys2Proof.Machine
variable {e x y z : Ev} {l m : LineId} {s u v w : State} {k n : TankId} {avg : Option Nat} {c : Nat} {t : Time}

/-! ### The litres of a gate -/

theorem State.totals_open {f : Nat} (ho : s.accountOpen l = true) (hk : (s.flow l).meterFactor = some f) (c : Nat) :
    s.totals l c = ((s.flow l).pulseTotal + c, ((s.flow l).pulseTotal + c) * 100 / f) := by
  unfold State.totals
  rw [ho, hk]

theorem State.totals_closed (ho : s.accountOpen l = false) (c : Nat) :
    s.totals l c = ((s.flow l).pulseTotal, (s.line l).delivered) := by
  unfold State.totals
  rw [ho]

theorem State.accountOpen_of_flowing (h : s.flowing l = true) : s.accountOpen l = true := by
  rw [State.accountOpen, h]
  rfl

/-- No litres are new on a line that neither flows nor has an ACTIVE tank. -/
theorem State.litres_of_inactive (hf : s.flowing l = false) (ha : s.activeTank l = none) (c : Nat) : s.litres l c = 0 := by
  have ho : s.accountOpen l = false := by rw [State.accountOpen, hf, ha, Option.isSome_none, Bool.and_false]; rfl
  rw [State.litres, State.totals_closed ho, Nat.sub_self]

/-- Where the `c` pulses of a gate have gone on line `l`: into its account, and as litres to its ACTIVE tank or, in CHANGEOVER, to the
pending volume, which the end of the changeover gives to the ACTIVE tank (R43, R51, R95). -/
structure State.Credited (s v : State) (l : LineId) (c : Nat) : Prop where
  account : v.account l = ((s.totals l c).2, (s.line l).fedSet, (s.totals l c).1)
  outside : (s.line l).state ≠ .changeover → (v.line l).pendingVol = (s.line l).pendingVol ∧
    ∀ n, s.unshared l n → (v.tank n).attributed =
      (s.tank n).attributed + if s.activeTank l = some n then s.litres l c else 0
  inside : (s.line l).state = .changeover →
    ((v.line l).state = .changeover ∧ (v.line l).pendingVol = (s.line l).pendingVol + s.litres l c ∧
      ∀ n, s.unshared l n → (v.tank n).attributed = (s.tank n).attributed) ∨
    ((v.line l).state ≠ .changeover ∧ (v.line l).pendingVol = 0 ∧ ∀ n, s.unshared l n → (v.tank n).attributed =
      (s.tank n).attributed + if s.activeTank l = some n then (s.line l).pendingVol + s.litres l c else 0)

/-- The state after the opening of the gate end, read from the state before it. -/
theorem State.gateOpened_writes (s : State) (l : LineId) (t : Time) :
    (s.gateOpened l t).line l = { s.line l with
      delivered := (s.totals l (s.flow l).gatePulses).2, pendingVol := s.pends l (s.litres l (s.flow l).gatePulses),
      quietPending := (s.quietAfter l (s.flow l).gatePulses).1 } ∧
    (s.gateOpened l t).flow l = { s.counted l with
      pulseTotal := (s.totals l (s.flow l).gatePulses).1, quiet := (s.quietAfter l (s.flow l).gatePulses).2 } ∧
    ∀ n, ((s.gateOpened l t).tank n).attributed = s.attributes l (s.litres l (s.flow l).gatePulses) n :=
  Ev.gateOpening_writes (begin t s) l

theorem State.gateOpened_activeTank (s : State) (l : LineId) (t : Time) (m : LineId) :
    (s.gateOpened l t).activeTank m = s.activeTank m := (Ev.gateOpening_opens (begin t s) l).activeTank m

theorem State.GateLeaves.credited (h : s.GateLeaves (s.gateOpened l t) v l) : s.Credited v l (s.flow l).gatePulses := by
  obtain ⟨hline, hflow, hattr⟩ := State.gateOpened_writes s l t
  have hactive := State.gateOpened_activeTank s l t l
  have haccount := h.account
  have hpaid := h.paid
  rw [State.account, State.account, hline, hflow] at haccount
  generalize s.gateOpened l t = x at hline hattr hactive hpaid
  have hstate : (x.line l).state = (s.line l).state := by rw [hline]
  have hvol : (x.line l).pendingVol = s.pends l (s.litres l (s.flow l).gatePulses) := by rw [hline]
  refine ⟨haccount, fun hs => ?_, fun hs => ?_⟩
  · rcases hpaid with ⟨-, hv, ht⟩ | ⟨hx, -, -, -⟩
    · rw [hvol, State.pends, if_neg hs] at hv
      refine ⟨hv, fun n hn => ?_⟩
      rw [ht n hn, hattr, State.attributes]
      simp only [ne_eq, hs, not_false_iff, true_and]
    · exact absurd (hstate.symm.trans hx) hs
  · have hkept (n : TankId) : (x.tank n).attributed = (s.tank n).attributed := by
      rw [hattr, State.attributes, if_neg fun h => h.1 hs]
      rfl
    rw [State.pends, if_pos hs] at hvol
    rcases hpaid with ⟨hx, hv, ht⟩ | ⟨-, hx, hv, ht⟩
    · exact .inl ⟨hx.mpr (hstate.trans hs), hv.trans hvol, fun n hn => (ht n hn).trans (hkept n)⟩
    · refine .inr ⟨hx, hv, fun n hn => ?_⟩
      rw [ht n hn, State.exited, hkept, hactive, hvol]

/-! ### The account law (R26) -/

/-- Litres given to one tank of a list without repeats are given once. -/
theorem sum_given_once {ks : List TankId} (hnd : ks.Nodup) {a : TankId} (ha : a ∈ ks) (f : TankId → Nat) (litres : Nat) :
    (ks.map (fun n => f n + if some a = some n then litres else 0)).sum = (ks.map f).sum + litres := by
  induction ks with
  | nil => cases ha
  | cons b ks ih =>
    obtain ⟨hb, hnd⟩ := List.nodup_cons.mp hnd
    rw [List.map_cons, List.map_cons, List.sum_cons, List.sum_cons]
    by_cases hab : a = b
    · subst hab
      have hrest : (ks.map (fun n => f n + if some a = some n then litres else 0)) = ks.map f :=
        List.map_congr_left fun n hn => by simp [(ne_of_mem_of_not_mem hn hb).symm]
      rw [hrest, if_pos rfl]
      omega
    · rw [ih hnd ((List.mem_cons.mp ha).resolve_left hab), if_neg (by simpa using hab)]
      omega

/-- With its new litres or its pending volume given to its ACTIVE tank, the litres of a line's fed set grow by that much. -/
theorem State.fedSound.sum_given (hf : s.fedSound) (ha : s.activeTank l = some k) (litres : Nat)
    (hv : ∀ n, s.unshared l n → (v.tank n).attributed =
      (s.tank n).attributed + if s.activeTank l = some n then litres else 0) :
    ((s.line l).fedSet.map (fun n => (v.tank n).attributed)).sum =
      ((s.line l).fedSet.map (fun n => (s.tank n).attributed)).sum + litres := by
  obtain ⟨hnd, hapart, hactive, -⟩ := hf l
  have hgiven : (s.line l).fedSet.map (fun n => (v.tank n).attributed) =
      (s.line l).fedSet.map (fun n => (s.tank n).attributed + if some k = some n then litres else 0) := by
    refine List.map_congr_left fun n hn => ?_
    rw [hv n fun m hm hmn => hapart m hm n hn ((hf m).2.2.1 n hmn), ha]
  rw [hgiven, sum_given_once hnd (hactive k ha)]

theorem State.fedSound.sum_kept (hf : s.fedSound) (hv : ∀ n, s.unshared l n → (v.tank n).attributed = (s.tank n).attributed) :
    ((s.line l).fedSet.map (fun n => (v.tank n).attributed)).sum =
      ((s.line l).fedSet.map (fun n => (s.tank n).attributed)).sum := by
  obtain ⟨-, hapart, -, -⟩ := hf l
  rw [List.map_congr_left fun n hn => hv n fun m hm hmn => hapart m hm n hn ((hf m).2.2.1 n hmn)]

/-- A gate end keeps the account law of a line whose delivered litres do not fall (R26). -/
theorem State.Credited.balances (h : s.Credited v l c) (hf : s.fedSound) (hb : s.accountBalances l)
    (hle : (s.line l).delivered ≤ (v.line l).delivered) : v.accountBalances l := by
  have hdelivered : (v.line l).delivered = (s.totals l c).2 := congrArg Prod.fst h.account
  have hfed : (v.line l).fedSet = (s.line l).fedSet := congrArg (fun p => p.2.1) h.account
  have hgrown : (v.line l).delivered = (s.line l).delivered + s.litres l c := by
    rw [State.litres, ← hdelivered]
    omega
  unfold State.accountBalances at hb ⊢
  rw [hgrown, hfed, hb]
  by_cases hs : (s.line l).state = .changeover
  · have hflow : s.flowing l = true := by rw [State.flowing, hs]; rfl
    obtain ⟨k, hk⟩ := Option.isSome_iff_exists.mp ((hf l).2.2.2 hflow)
    rcases h.inside hs with ⟨-, hvol, ht⟩ | ⟨-, hvol, ht⟩
    · rw [hvol, hf.sum_kept ht]
      omega
    · rw [hvol, hf.sum_given hk _ ht]
      omega
  · obtain ⟨hvol, ht⟩ := h.outside hs
    rw [hvol]
    cases hk : s.activeTank l with
    | some k =>
      rw [hf.sum_given hk _ ht]
      omega
    | none =>
      have hflow : s.flowing l = false := by
        by_contra hne
        have := (hf l).2.2.2 (by simpa using hne)
        rw [hk] at this
        cases this
      have hnone := State.litres_of_inactive hflow hk c
      rw [hf.sum_kept (v := v) fun n hn => by rw [ht n hn, hnone]; simp, hnone]
      omega

theorem State.listsApart.unshared (h : s.listsApart) (ha : s.activeTank l = some n) : s.unshared l n := fun m hm hmn =>
  (h l).2 m hm n (State.activeTank_mem ha) (State.activeTank_mem hmn)

end Sys2Proof.Machine
end

section
/-! O48: what a gate end leaves of each line, read clause by clause. -/

namespace Sys2Proof.Machine
variable {e x y z : Ev} {l m : LineId} {s u v w : State} {k n : TankId} {avg : Option Nat} {c : Nat} {t : Time}

/-! ### The clauses of one line -/

/-- The gate rate of a line without pulses is 0 (R93). -/
theorem State.gateRateOf_still (h : (s.flow l).gatePulses = 0) : s.gateRateOf l = 0 := by
  unfold State.gateRateOf
  split
  · rw [gateRate, h, Nat.zero_mul, Nat.zero_div, Nat.min_zero]
  · rfl

/-- The figures of the count (R93). -/
theorem State.GateLeaves.counted (h : s.GateLeaves (s.gateOpened l t) v l) :
    (v.flow l).lastPulses = (s.flow l).gatePulses ∧ (v.flow l).prevRate = (s.flow l).rate ∧ (v.flow l).gatePulses = 0 ∧
    (v.flow l).sampleCount = 0 ∧ (v.flow l).rate = s.gateRateOf l ∧ (v.flow l).pressure = (s.flow l).pressure := by
  obtain ⟨-, hflow, -⟩ := State.gateOpened_writes s l t
  have hmeter := h.meter
  rw [hflow] at hmeter
  exact ⟨congrArg MeterFigures.lastPulses hmeter, congrArg MeterFigures.prevRate hmeter, congrArg MeterFigures.gatePulses hmeter,
    congrArg MeterFigures.sampleCount hmeter, congrArg MeterFigures.rate hmeter, congrArg MeterFigures.pressure hmeter⟩

/-- The quiet timer (R104): a blind trip begins it anew only after a gate with pulses, which has done so already. -/
theorem State.GateLeaves.quieted (h : s.GateLeaves (s.gateOpened l t) v l) (hq : (s.line l).quietPending = true) :
    v.quietFigures l = s.quietAfter l (s.flow l).gatePulses := by
  obtain ⟨hline, hflow, -⟩ := State.gateOpened_writes s l t
  have hx : (s.gateOpened l t).quietFigures l = s.quietAfter l (s.flow l).gatePulses := by
    rw [State.quietFigures, hline, hflow]
  rcases h.quiet with hsame | ⟨hrate, hbegun⟩
  · exact hsame.trans hx
  · have hrate' : 0 < s.gateRateOf l := by rwa [hflow] at hrate
    have hpulses : (s.flow l).gatePulses ≠ 0 := fun h0 => absurd (State.gateRateOf_still h0) (by omega)
    rw [hbegun, State.quietAfter, if_pos hq, if_neg hpulses]

theorem State.quietAfter_eq {b : Bool} {q : Nat} (hq : (s.line l).quietPending = true) (h : (b, q) = s.quietAfter l c) :
    if c = 0 then
      if 30000 ≤ (s.flow l).quiet + 2000 then b = false ∧ q = 0 else b = true ∧ q = (s.flow l).quiet + 2000
    else b = true ∧ q = 0 := by
  rw [State.quietAfter, if_pos hq] at h
  generalize (s.flow l).quiet + 2000 = r at h ⊢
  generalize 30000 = limit at h ⊢
  by_cases hc : c = 0
  · by_cases hr : limit ≤ r
    · simpa [hc, hr] using h
    · simpa [hc, hr] using h
  · simpa [hc] using h

/-- After the opening of its gate end a line feeds the tanks it fed. -/
theorem State.gateOpened_fedAlike (s : State) (l : LineId) (t : Time) : s.FedAlike (s.gateOpened l t) l := by
  have h := Ev.gateOpening_opens (begin t s) l
  have halike := State.fedAlike_of (x := (begin t s).toState) (l := l) h.settled h.records.lists h.use
  exact ⟨halike.profile, halike.lists, halike.grades, halike.use, halike.reading⟩

theorem State.gateOpened_pred (s : State) (l : LineId) (t : Time) : (s.gateOpened l t).pred l = s.pred l :=
  congrArg (fun q : Quad Predictor => q.get l) (Ev.gateOpening_opens (begin t s) l).preds

/-- The caps, read on the state before the gate end. -/
theorem State.capped_of_opened (h : (s.gateOpened l t).capped v l avg) :
    let x := s.gateOpened l t
    let r := capCount (s.flow l).rateCount (some (x.flow l).rate) (s.rateLimit l)
    let p := capCount (s.flow l).pressCount avg (s.pressureLimit l)
    ((s.pred l).settling = true → v.line l = x.line l ∧ (v.flow l).rateCount = (s.flow l).rateCount ∧
      (v.flow l).pressCount = (s.flow l).pressCount) ∧
    ((s.pred l).settling = false → r < 3 → p < 3 →
      v.line l = x.line l ∧ (v.flow l).rateCount = r ∧ (v.flow l).pressCount = p) ∧
    ((s.pred l).settling = false → (3 ≤ r ∨ 3 ≤ p) →
      if (s.line l).throttle ≤ (s.profile l).startPos then v.closesWith l .trip none (some .rateUncontrolled)
      else
        v.line l = { x.line l with
          throttle := max (s.profile l).startPos ((s.line l).throttle - (s.profile l).throttleStep) } ∧
        (v.flow l).rateCount = 0 ∧ (v.flow l).pressCount = 0) := by
  obtain ⟨hline, hflow, -⟩ := State.gateOpened_writes s l t
  have halike := State.gateOpened_fedAlike s l t
  have hpred := State.gateOpened_pred s l t
  have hcounts : ((s.gateOpened l t).flow l).rateCount = (s.flow l).rateCount ∧
      ((s.gateOpened l t).flow l).pressCount = (s.flow l).pressCount := by rw [hflow]; exact ⟨rfl, rfl⟩
  have hthrottle : ((s.gateOpened l t).line l).throttle = (s.line l).throttle := by rw [hline]
  unfold State.capped State.steppedDown at h
  rw [hpred, hcounts.1, hcounts.2, halike.rateLimit, halike.pressureLimit, hthrottle, halike.profileOf] at h
  exact h

/-! ### The event -/

/-- What a gate end leaves of every line, with the link and the grades. -/
theorem gateEnd_completes (s : State) (t : Time) : Completes s (.gateEnd t) t (fun v =>
    (∀ l, s.GateLeaves (s.gateOpened l t) v l) ∧ (∀ l, (v.line l).profile = (s.line l).profile) ∧ v.link = s.link ∧
    v.grades = s.grades) := by
  have hop : exec (.gateEnd t) s = event t s Ev.gateEnd := rfl
  have hsettled : (begin t s).gateEnd.settled = (begin t s).settled := Ev.gateEnd_settled rfl
  have hcalm : (begin t s).gateEnd.calm (begin t s).gateEnd.ground := by
    obtain ⟨y, hy, hz⟩ := Ev.gateEnd_turns (begin t s) .a
    exact hz.calm ((Ev.gateLine_turn y .a).calm (hy.calm (begin_calm t s)))
  have hsw (l : LineId) : ((begin t s).gateEnd.valve l).closedSwitch = (s.valve l).closedSwitch := by
    obtain ⟨y, hy, hz⟩ := Ev.gateEnd_turns (begin t s) l
    exact congrArg ValveInputs.closedSwitch ((hz.inputs l).trans (((Ev.gateLine_turn y l).inputs l).trans (hy.inputs l)))
  have hleaves (l : LineId) : s.GateLeaves (s.gateOpened l t) (begin t s).gateEnd.toState l := by
    obtain ⟨h1, h2, h3, h4, h5⟩ := Ev.gateEnd_leaves (begin t s) l
    exact ⟨h1, h2, h3, h4, h5⟩
  generalize hy : (begin t s).gateEnd = y at *
  have hend : y.drain.settled = (begin t s).settled := (settled_of_ground (Ev.drain_ground y)).trans hsettled
  refine completes_of_drain y hop hy (congrArg (fun p : SettledView => p.1.pending) hsettled) (State.now_of_settled hsettled)
    fun v hv _ => ⟨fun l => Ev.GateLeaves.drained hcalm hv (hsw l) (hleaves l), fun l => ?_, ?_, ?_⟩
  · rw [hv.line]
    exact congrFun (congrArg (fun p : SettledView => p.2.2.2.1) hend) l
  · rw [hv.linkGrades.1]
    exact congrArg (fun p : SettledView => p.2.1) hend
  · rw [hv.linkGrades.2]
    exact congrArg (fun p : SettledView => p.2.2.1) hend

/-- Settles O48: the turn of a line is its opening and its tests, which the turns of the other lines and the end of the event leave. -/
theorem gateEndWorksRatesAndLitres : Obligations.GateEndWorksRatesAndLitres := by
  intro s t
  obtain ⟨v, hexec, hnow, hpending, hall, hprofile, hlink, hgrades⟩ := gateEnd_completes s t
  refine ⟨v, hexec, hnow, hpending, fun l => ?_⟩
  have h := hall l
  obtain ⟨hlast, hprev, hpulses, hsamples, hrate, hpressure⟩ := h.counted
  have hcredit := h.credited
  have hdelivered : (v.line l).delivered = (s.totals l (s.flow l).gatePulses).2 := congrArg Prod.fst hcredit.account
  have htotal : (v.flow l).pulseTotal = (s.totals l (s.flow l).gatePulses).1 := congrArg (fun p => p.2.2) hcredit.account
  have hlitres : s.litres l (s.flow l).gatePulses = (v.line l).delivered - (s.line l).delivered := by
    rw [State.litres, hdelivered]
  have opened (ho : s.accountOpen l = true) (k : Nat) (hk : (s.flow l).meterFactor = some k) :
      (v.flow l).pulseTotal = (s.flow l).pulseTotal + (s.flow l).gatePulses ∧
      (v.line l).delivered = ((s.flow l).pulseTotal + (s.flow l).gatePulses) * 100 / k := by
    rw [htotal, hdelivered, State.totals_open ho hk]
    exact ⟨rfl, rfl⟩
  have closed (ho : s.accountOpen l = false) : (v.line l).delivered = (s.line l).delivered := by
    rw [hdelivered, State.totals_closed ho]
  refine ⟨hlast, hprev, hpulses, hsamples, fun hp => ?_, fun p hp => ?_, fun hf k hk => ?_, fun hf hc => ?_, fun hc ha => ?_,
    fun hc n k ha hk => ?_, fun hapart hs n ha => ?_, fun hapart hs n ha => ?_, fun _ hfed hb hle => ?_, fun hq => ?_,
    fun _ hsw => ?_, hpressure, hprofile l, hlink, hgrades⟩
  · rw [hrate]; unfold State.gateRateOf; rw [hp]
  · rw [hrate]; unfold State.gateRateOf; rw [hp]; rfl
  · exact opened (State.accountOpen_of_flowing hf) k hk
  · exact closed (by rw [State.accountOpen, hf, hc]; rfl)
  · refine closed ?_
    have hf : s.flowing l = false := by
      rw [State.closing, beq_iff_eq] at hc
      rw [State.flowing, hc]; rfl
    rw [State.accountOpen, hf, ha, Option.isSome_none, Bool.and_false]; rfl
  · exact opened (by rw [State.accountOpen, hc, ha]; simp) k hk
  · rw [(hcredit.outside hs).2 n (hapart.unshared ha), if_pos ha, hlitres]
  · rcases hcredit.inside hs with ⟨hv, hvol, ht⟩ | ⟨hv, hvol, ht⟩
    · rw [ht n (hapart.unshared ha), hvol, hlitres]
      exact ⟨by omega, fun _ => rfl, fun hne => absurd hv hne⟩
    · rw [ht n (hapart.unshared ha), if_pos ha, hvol, hlitres]
      exact ⟨by omega, fun hx => absurd hx hv, fun _ => rfl⟩
  · exact ⟨hcredit.balances hfed hb hle, congrArg (fun p => p.2.1) hcredit.account⟩
  · have hquiet : ((v.line l).quietPending, (v.flow l).quiet) = s.quietAfter l (s.flow l).gatePulses := h.quieted hq
    exact State.quietAfter_eq hq hquiet
  · obtain ⟨hexcess, hbalance, hwindow, hblind, hcaps⟩ := h.tests hsw
    have hstate : ((s.gateOpened l t).line l).state = (s.line l).state := by rw [(State.gateOpened_writes s l t).1]
    have hxrate : ((s.gateOpened l t).flow l).rate = (v.flow l).rate := by
      rw [hrate, (State.gateOpened_writes s l t).2.1]
      rfl
    refine ⟨hexcess, hbalance, hwindow, hblind, fun h1 h2 hd => ?_⟩
    have hcapped := State.capped_of_opened (hcaps h1 h2 (hstate ▸ hd))
    dsimp only at hcapped
    rw [hxrate] at hcapped
    exact hcapped

end Sys2Proof.Machine
end
